-- ==== Sys2Proof/Word.lean ====
section
/-! DEFINITION. The word types of the module and the sparse table type its state is made of. -/

namespace Sys2Proof

/-- A 64-bit slot or register word (spec 00 R16, 15 R496). -/
abbrev Word := BitVec 64
/-- An FP32 bit pattern or a 32-bit flag word (06 R196, 11 R370). -/
abbrev W32 := BitVec 32
/-- A byte; a byte string is a list of them, lowest address first (00 R17). -/
abbrev Byte := BitVec 8
abbrev Bytes := List Byte
/-- The 512 data bits of one 64-byte line or column (02 R42). -/
abbrev Line := BitVec 512

/-- A sparse table: keys strictly rising; a key that is not listed reads as the table's default. -/
abbrev Tab (α : Type) := List (Nat × α)

/-- Bits `[hi:lo]` of a word as a number (00 R16: both ends are included). -/
def Word.bits {n : Nat} (w : BitVec n) (hi lo : Nat) : Nat := (w.toNat >>> lo) % 2 ^ (hi + 1 - lo)

/-- Bit `i` of a word. -/
def Word.bit {n : Nat} (w : BitVec n) (i : Nat) : Bool := w.getLsbD i

end Sys2Proof
end

