-- ==== Sys2Proof/Syntax.lean ====
section
/-! DEFINITION. The commands of the module: one constructor of `Instr` for each row of
spec/opcode_table.json, with the operands the model gives it (log entry 10: the table gives none). -/

namespace Sys2Proof

/-- One 64-byte DRAM column: 512 data bits and the 32-bit check field stored beside them (02 R42, R50).
A burst of the stack interface has the same shape (02 R45). -/
structure Column where
  data  : Line
  check : W32
  deriving DecidableEq, Repr

/-- What a stack-controller request asks for (03 R79, R80; 02 R56, R57): one column read, or a write of
the bytes whose mask bit is 1, possibly marked as carrying poisoned data. -/
inductive ReqKind where
  | read
  | write (data : Line) (mask : BitVec 64) (poison : Bool)
  deriving DecidableEq, Repr

/-- How a dictionary access arrives: the path number of 15 R514, and for BAR2 the size of the access in
bytes and its byte offset inside the slot (15 R516). Other paths use a whole slot: size 8, offset 0.
`same`: the path presents the access in the crust cycle of the access before it (15 R500; log entry 147). -/
structure Acc where
  path : Nat
  size : Nat := 8
  off  : Nat := 0
  same : Bool := false
  deriving DecidableEq, Repr

/-- The engine port at which a line returns (07 R235, R236; 09 R306). -/
inductive EnginePort where
  | tileA (tile : Nat)
  | tileB (tile : Nat)
  | tileC (tile : Nat)
  | layout
  deriving DecidableEq, Repr

/-- The three engines of a tile (07 R228). -/
inductive TileEngine where
  | panelLoader
  | array
  | cEngine
  deriving DecidableEq, Repr

/-- A frame as it is received or sent (12 R401, R404): the MAC addresses, the 802.1Q tag when there is one, the EtherType,
the seven header words, the payload lines, the MCRC, and whether the FCS, whose polynomial is Ethernet's, is correct. -/
structure Frame where
  dstMac : BitVec 48
  srcMac : BitVec 48
  tagged : Bool
  vid    : Nat
  pcp    : Nat
  dei    : Bool
  etype  : BitVec 16
  h0 : Word
  h1 : Word
  h2 : Word
  h3 : Word
  h4 : Word
  h5 : Word
  h6 : Word
  lines  : List Line
  mcrc   : BitVec 32
  fcsOk  : Bool
  deriving DecidableEq, Repr

/-- An IPv6 address and a UDP port. -/
structure UdpEnd where
  addr : BitVec 128
  port : BitVec 16
  deriving DecidableEq, Repr

/-- What carries a message of a session: a UDP datagram on the field network, or an MCTP message to or from an endpoint, with
its type and its PCI vendor ID (15 R519, R524). -/
inductive Carrier where
  | udp (src dst : UdpEnd)
  | mctp (endpoint : BitVec 8) (ty : BitVec 8) (vendor : BitVec 16)
  deriving DecidableEq, Repr

/-- The carrier of an answer: to the sender's address and port. -/
def Carrier.back : Carrier → Carrier
  | .udp src dst => .udp dst src
  | .mctp e t v => .mctp e t v

/-- A crumb message: header words, item words and the 32-byte tag (15 R520, R521), and what carries it. -/
structure CrumbMsg where
  via   : Carrier
  h0    : Word
  h1    : Word
  items : List Word
  tag   : Bytes
  deriving DecidableEq, Repr

/-- A session message: header words, the 64-byte body and the tag (17 R591), and what carries it. -/
structure SessMsg where
  via  : Carrier
  h0   : Word
  h1   : Word
  body : Bytes
  tag  : Bytes
  deriving DecidableEq, Repr

/-- What the governor measures and what its model says at one tick (16 R542, R544 to R546): the 1 ms and
10 ms averages of input power in W, the rail powers, the saving in W that the model credits to a clock
step and to a grant step, and whether the slew governor's model admits an increase. The spec gives the
model's verdicts and not the model, so they are inputs (log entry 20). -/
structure GovMeas where
  avg1ms     : Nat
  avg10ms    : Nat
  diePower   : List Nat
  stackPower : List Nat
  clockSave  : Nat
  grantSave  : Nat
  dutySave   : Nat
  admits     : Bool
  deriving DecidableEq, Repr

/-- One conversion of a temperature sensor: the value in m°C, the raw code, and the conversion-error
mark (16 R551, R553). -/
structure SensorRaw where
  mC   : Int
  code : Nat
  err  : Bool
  deriving DecidableEq, Repr

/-- The cacheable state that a host read asks for (14 R486). -/
inductive HostWant where
  | uncached
  | shared
  | exclusive
  deriving DecidableEq, Repr

/-- The commands. Each docstring gives the row's governing rule and the table's summary. -/
inductive Instr where
  /-- UCIE_LINK_DOWN (R24). A UCIe link that has failed to retrain within 1 ms is marked down; its in-flight requests complete with an error and traffic is rerouted. -/
  | ucieLinkDown (link : Nat)
  /-- ROUTE_SWITCH (R25). After a link loss, a sender starts issuing on its new route once every request it had in flight on the lost link has completed. -/
  | routeSwitch (link : Nat)
  /-- PORT_REQUEST (R88). A request arrives on a stack-controller port and is queued with its service class, age and urgency. -/
  | portRequest (stk port : Nat) (cls : Option Nat) (lin : Nat) (kind : ReqKind) (part requester t : Nat)
  /-- URGENCY_STEP (R91). A queued request's elapsed time crosses a fraction of LAT_TARGET and its urgency step rises. -/
  | urgencyStep (id elapsedNs : Nat)
  /-- REQUEST_AGED (R92). A queued request has waited AGE_LIMIT and becomes aged for ranking. -/
  | requestAged (id waitedNs : Nat)
  /-- ACT (R79). Opens a row in the latch of its half, takes an activation token and draws the neighbour-refresh decisions. -/
  | act (stk ch bank row t : Nat)
  /-- PRE (R79). Closes one latch of a bank. -/
  | pre (stk ch bank latch t : Nat)
  /-- PREB (R79). Closes both latches of a bank, ending a job's hold on it. -/
  | preb (stk ch bank t : Nat)
  /-- RD (R79). Moves one column to the controller and classifies it under the check code. -/
  | rd (stk ch : Nat) (word : BitVec 48) (id t : Nat)
  /-- WR (R79). Stores a whole column with fresh check bits, or as poisoned. -/
  | wr (stk ch : Nat) (word : BitVec 48) (id t : Nat)
  /-- REFPB (R79). Closes any open latch of a bank, refreshes the next four rows, lowers the debt and pauses any running recipe. -/
  | refpb (stk ch bank t : Nat)
  /-- NRR (R102). Refreshes one queued neighbour row through its latch, then closes that latch. -/
  | nrr (stk ch bank half t : Nat)
  /-- SRE (R79). The channel enters self-refresh. -/
  | sre (stk ch t : Nat)
  /-- SRX (R103). The channel leaves self-refresh and each bank restarts its debt and refresh interval. -/
  | srx (stk ch t : Nat)
  /-- MRW (R79). Writes a DRAM mode register. -/
  | mrw (stk ch reg : Nat) (value : BitVec 32) (t : Nat)
  /-- MRR (R79). Reads a DRAM mode register. -/
  | mrr (stk ch reg t : Nat)
  /-- TOKEN_RETURN (R84). TOKEN_HOLD after an ACT, REFPB or NRR, its activation token returns to the pool. -/
  | tokenReturn (stk t : Nat)
  /-- REFRESH_INTERVAL (R97). A bank's refresh interval elapses and its refresh debt rises by 1. -/
  | refreshInterval (stk ch bank t : Nat)
  /-- REFRESH_WINDOW (R629). A stack's refresh-window timer expires and pending REF-class writes take effect in that stack. -/
  | refreshWindow (stk : Nat)
  /-- SR_IDLE_EXPIRY (R103). A channel has been idle for SR_IDLE; the controller pays refresh debt and issues SRE. -/
  | srIdleExpiry (stk ch t : Nat)
  /-- NAP_ENTRY (R105). Every fitted channel has been in self-refresh for more than 1 ms and the stack controller stops its clocks. -/
  | napEntry (stk : Nat)
  /-- SCRUB_DUE (R109). Patrol scrub reads a column on P7 and writes it back clean or poisoned as its class requires. -/
  | scrubDue (stk ch t : Nat)
  /-- SCRUB_CATCH_UP (R110). A channel's scrub falls 1 h behind schedule and the controller wakes it from self-refresh to scrub. -/
  | scrubCatchUp (stk ch t : Nat)
  /-- SOFT_SPARE (R60). Once no Sprig job holds the row, the controller holds its requests, copies the row to a spare and switches the remap. -/
  | softSpare (mbn row t : Nat)
  /-- SPRIG_MODE_ENTER (R117). A bank enters recipe mode and its unit state is initialised. -/
  | sprigModeEnter (stk ch : Nat) (w : BitVec 48) (t : Nat)
  /-- SPRIG_MODE_LEAVE (R117). A bank leaves recipe mode, discarding registers and stopping any run. -/
  | sprigModeLeave (stk ch : Nat) (w : BitVec 48) (t : Nat)
  /-- RECIPE_WRITE (R172). Writes recipe steps into the addressed banks' recipe memory. -/
  | recipeWrite (stk ch : Nat) (w : BitVec 48) (burst : Column) (t : Nat)
  /-- OPERAND_BCAST (R174). Loads an operand register of the addressed banks, clean or poisoned. -/
  | operandBcast (stk ch : Nat) (w : BitVec 48) (burst : Column) (t : Nat)
  /-- SPRIG_RUN (R125). Validates steps FIRST to LAST, loads cursors from the payload and starts a run of ITER iterations. -/
  | sprigRun (stk ch : Nat) (w : BitVec 48) (burst : Column) (t : Nat)
  /-- SPRIG_DRAIN (R151). Reads one drain slot of one bank over the channel data pins. -/
  | sprigDrain (stk ch : Nat) (w : BitVec 48) (t : Nat)
  /-- SPRIG_STATUS (R159). Returns the unit's status word, optionally clearing its sticky bits. -/
  | sprigStatus (stk ch : Nat) (w : BitVec 48) (t : Nat)
  /-- STEP_NOP (R132). A recipe step that does nothing. -/
  | stepNop (mbn t : Nat)
  /-- STEP_UNPACK (R146). A recipe step that unpacks a source into an accumulator. -/
  | stepUnpack (mbn t : Nat)
  /-- STEP_FMA (R146). A recipe step that computes a fused multiply-add per lane. -/
  | stepFma (mbn t : Nat)
  /-- STEP_ADD (R146). A recipe step that adds two sources per lane. -/
  | stepAdd (mbn t : Nat)
  /-- STEP_MUL (R146). A recipe step that multiplies, or forms a reciprocal or reciprocal-square-root estimate, per lane. -/
  | stepMul (mbn t : Nat)
  /-- STEP_MAX (R146). A recipe step that takes the larger of two sources per lane. -/
  | stepMax (mbn t : Nat)
  /-- STEP_CSEL (R146). A recipe step that selects per lane under a compare. -/
  | stepCsel (mbn t : Nat)
  /-- STEP_DOT (R143). A recipe step that forms dot products of weight elements and operand elements into accumulator lanes. -/
  | stepDot (mbn t : Nat)
  /-- STEP_FOLD (R149). A recipe step that combines accumulator lanes in a pairwise tree. -/
  | stepFold (mbn t : Nat)
  /-- STEP_LOAD (R151). A recipe step that copies a latch column into a scratch register. -/
  | stepLoad (mbn t : Nat)
  /-- STEP_STORE (R151). A recipe step that copies a scratch register into a latch column. -/
  | stepStore (mbn t : Nat)
  /-- STEP_WB (R150). A recipe step that converts an accumulator and writes it to a scratch register or latch column. -/
  | stepWb (mbn t : Nat)
  /-- STEP_DRAIN (R151). A recipe step that copies an accumulator into drain slots. -/
  | stepDrain (mbn t : Nat)
  /-- STEP_SETS (R142). A recipe step that sets a scalar register. -/
  | stepSets (mbn t : Nat)
  /-- STEP_SETP (R142). A recipe step that sets a cursor or pointer. -/
  | stepSetp (mbn t : Nat)
  /-- STEP_RETIRE (R153). An issued recipe step reaches its retire time and its result becomes final. -/
  | stepRetire (mbn k t : Nat)
  /-- RUN_DONE_REPORT (R176). A bank's done report reaches the controller, which issues the job's next run, drain or mode exit. -/
  | runDoneReport (mbn t : Nat)
  /-- RUN_RESUME (R187). After a refresh pause the latch is reopened and the paused run resumes issuing. -/
  | runResume (mbn t : Nat)
  /-- SPRIG_JOB (R163). A Sprig job descriptor reaches its stack controller on P5 and is checked, refused or queued. -/
  | sprigJob (c ticket t : Nat)
  /-- JOB_BANK_BEGIN (R179). A job bank becomes free of earlier requests and jobs, and the job begins on it. -/
  | jobBankBegin (job mbn t : Nat)
  /-- JOB_COMPLETE (R183). Every job bank has left recipe mode and drains are written; the result record and KQ completion follow. -/
  | jobComplete (job : Nat)
  /-- SR_SEED_MODE (R216). A write of the seed mode reseeds the rounding sources of its group. -/
  | srSeedMode (a : Acc) (engines : Bool) (v : BitVec 64)
  /-- SR_SEED (R216). A write of the fixed seed reseeds the rounding sources of its group. -/
  | srSeed (a : Acc) (engines : Bool) (v : BitVec 64)
  /-- PANEL (R228). Starts loading a B panel into a panel buffer from the B stream. -/
  | panel (c tile : Nat)
  /-- MMA (R241). Starts multiplying A lines by a panel and accumulating into an accumulator buffer. -/
  | mma (c tile : Nat)
  /-- CLOAD (R246). Starts loading accumulator rows from FP32 or BF16 lines. -/
  | cload (c tile : Nat)
  /-- STORE (R247). Starts converting, permuting and writing out an accumulator buffer. -/
  | store (c tile : Nat)
  /-- LINE_RESPONSE (R236). A requested operand or data line returns to an engine port and is reordered into stream order. -/
  | lineResponse (c : Nat) (port : EnginePort) (k : Nat)
  /-- TILE_CMD_COMPLETE (R231). A tile command reaches its completion point and reports to its queue. -/
  | tileCmdComplete (c tile : Nat) (eng : TileEngine)
  /-- CHAIN_INSTRUCTION (R265). The vector engine starts a chain instruction and runs its sweeps. -/
  | chainInstruction (c : Nat)
  /-- CHAIN_COMPLETE (R281). Every output line and stats record of a chain instruction has taken effect. -/
  | chainComplete (c : Nat)
  /-- LAYOUT_COPY (R290). The layout engine starts a COPY transfer over its box. -/
  | layoutCopy (c : Nat)
  /-- LAYOUT_GATHER (R309). The layout engine starts a GATHER of listed blocks. -/
  | layoutGather (c : Nat)
  /-- LAYOUT_SCATTER (R310). The layout engine starts a SCATTER of blocks to listed coordinates. -/
  | layoutScatter (c : Nat)
  /-- TRANSFER_COMPLETE (R322). Every write of a layout transfer has taken effect. -/
  | transferComplete (c : Nat)
  /-- HALT (R332). The core becomes HALTED. -/
  | halt (c : Nat)
  /-- ALU (R333). Performs the register-register operation that FN selects. -/
  | alu (c : Nat)
  /-- ADDI (R332). Adds a sign-extended immediate. -/
  | addi (c : Nat)
  /-- ANDI (R332). ANDs a zero-extended immediate. -/
  | andi (c : Nat)
  /-- ORI (R332). ORs a zero-extended immediate. -/
  | ori (c : Nat)
  /-- XORI (R332). XORs a zero-extended immediate. -/
  | xori (c : Nat)
  /-- SHLI (R332). Shifts left by an immediate. -/
  | shli (c : Nat)
  /-- SHRI (R332). Shifts right logically by an immediate. -/
  | shri (c : Nat)
  /-- SARI (R332). Shifts right arithmetically by an immediate. -/
  | sari (c : Nat)
  /-- SLTI (R332). Sets a register on a signed compare with an immediate. -/
  | slti (c : Nat)
  /-- LUI (R332). Loads an upper immediate. -/
  | lui (c : Nat)
  /-- LBU (R332). Loads one byte, zero-extended. -/
  | lbu (c : Nat)
  /-- LHU (R332). Loads two bytes, zero-extended. -/
  | lhu (c : Nat)
  /-- LWU (R332). Loads four bytes, zero-extended. -/
  | lwu (c : Nat)
  /-- LD (R332). Loads eight bytes. -/
  | ld (c : Nat)
  /-- SB (R332). Stores one byte. -/
  | sb (c : Nat)
  /-- SH (R332). Stores two bytes. -/
  | sh (c : Nat)
  /-- SW (R332). Stores four bytes. -/
  | sw (c : Nat)
  /-- SD (R332). Stores eight bytes. -/
  | sd (c : Nat)
  /-- BEQ (R332). Branches when equal. -/
  | beq (c : Nat)
  /-- BNE (R332). Branches when not equal. -/
  | bne (c : Nat)
  /-- BLT (R332). Branches when less, signed. -/
  | blt (c : Nat)
  /-- BGE (R332). Branches when greater or equal, signed. -/
  | bge (c : Nat)
  /-- BLTU (R332). Branches when less, unsigned. -/
  | bltu (c : Nat)
  /-- BGEU (R332). Branches when greater or equal, unsigned. -/
  | bgeu (c : Nat)
  /-- JMP (R332). Jumps by a relative offset. -/
  | jmp (c : Nat)
  /-- CALL (R332). Jumps by a relative offset and saves the return address in x31. -/
  | call (c : Nat)
  /-- JR (R332). Jumps to a register target and saves the return address. -/
  | jr (c : Nat)
  /-- QPUSH (R337). Pushes a descriptor with its wait and signal words into a queue and returns its ticket. -/
  | qpush (c : Nat)
  /-- QABORT (R357). Aborts one entry or every undelivered entry of a queue and returns the outcome. -/
  | qabort (c : Nat)
  /-- QINFO (R332). Returns a queue's next ticket and free entries. -/
  | qinfo (c : Nat)
  /-- SPUSH (R355). Appends an entry to a tile's address stream. -/
  | spush (c : Nat)
  /-- SFLUSH (R355). Empties a tile's address stream. -/
  | sflush (c : Nat)
  /-- SINFO (R332). Returns a stream's free entries. -/
  | sinfo (c : Nat)
  /-- FRD (R376). Reads a flag word. -/
  | frd (c : Nat)
  /-- FWR (R371). Sets a flag word and re-evaluates its waits. -/
  | fwr (c : Nat) (more : Bool)
  /-- FADD (R371). Adds to a flag word and returns the old value. -/
  | fadd (c : Nat) (more : Bool)
  /-- FWAIT (R373). The core waits until a wait form holds for a flag word. -/
  | fwait (c : Nat)
  /-- CYC (R334). Returns the sequencer clock count since assignment. -/
  | cyc (c : Nat)
  /-- ODRD (R334). Reads an identity or feature dictionary entry. -/
  | odrd (c : Nat)
  /-- WFE (R334). Returns and clears pending masked events, or waits until one is pending. -/
  | wfe (c : Nat)
  /-- IFENCE (R334). Makes earlier stores to instruction SRAM visible to fetch. -/
  | ifence (c : Nat)
  /-- WHOAMI (R334). Returns the cluster number and partition. -/
  | whoami (c : Nat)
  /-- QUEUE_DISPATCH (R340). A queue head whose wait holds and whose engine allows it is dispatched, applying any DEC. -/
  | queueDispatch (c q : Nat)
  /-- ENTRY_DELIVERY (R342). A completed entry whose predecessors are delivered writes its record, applies its signal, sets its event and frees its slot. -/
  | entryDelivery (c q : Nat) (more : Bool)
  /-- DOORBELL_WRITE (R365). A producer count written to a ring doorbell is accepted as the new tail or ignored and logged. -/
  | doorbellWrite (port offset size : Nat) (v : BitVec 64)
  /-- RING_PUSH (R362). A PUSH ring entry is placed into its queue, waiting while the queue is full. -/
  | ringPush (p r : Nat) (same : Bool)
  /-- RING_START (R362). A START ring entry sets PC and x1 and runs a halted or faulted core. -/
  | ringStart (p r : Nat)
  /-- RING_LOAD (R362). A LOAD ring entry copies lines into the core's instruction or data SRAM. -/
  | ringLoad (p r : Nat)
  /-- RING_ABORT (R362). An ABORT ring entry aborts the named PUSH entry of the ring. -/
  | ringAbort (p r : Nat)
  /-- RING_NOP (R362). A NOP ring entry is taken at once. -/
  | ringNop (p r : Nat)
  /-- RING_RESTART (R360). Returns a STOPPED ring to IDLE with its tail set to RING_HEAD. -/
  | ringRestart (a : Acc) (p r : Nat) (v : BitVec 64)
  /-- FLAG_N (R398). A management write sets a flag word and releases its waiters. -/
  | flagN (a : Acc) (c n : Nat) (v : BitVec 64) (more : Bool)
  /-- FLAG_ADD (R398). A management write adds to a flag word and releases its waiters. -/
  | flagAdd (a : Acc) (c : Nat) (v : BitVec 64) (more : Bool)
  /-- WATCHDOG_TEST (R391). Once per crust millisecond each blocked wait is tested against WATCHDOG_MS. -/
  | watchdogTest (c : Nat)
  /-- DUMP_NOW (R398). Takes a dump of the partition with reason 2. -/
  | dumpNow (a : Acc) (p : Nat) (v : BitVec 64)
  /-- COUNT_TIMEOUT (R386). A counted signal held for the level's request timeout is refused and its arrival counter set to 0. -/
  | countTimeout (pos cl : Nat)
  /-- ARRIVAL_COUNTER_FREE (R384). An arrival counter idle for 40 ms with no held signal is freed. -/
  | arrivalCounterFree (pos cl : Nat)
  /-- FQ_READ (R354). An FQ READ operation issues its fabric or local read requests. -/
  | fqRead (c ticket : Nat)
  /-- FQ_WRITE (R354). An FQ WRITE operation issues its write requests. -/
  | fqWrite (c ticket : Nat)
  /-- FQ_REDUCE (R354). An FQ REDUCE operation issues its reduce-write requests. -/
  | fqReduce (c ticket : Nat)
  /-- FQ_ATOMIC (R354). An FQ ATOMIC operation issues its atomic request. -/
  | fqAtomic (c ticket : Nat)
  /-- FQ_SIGNAL (R381). An FQ SIGNAL is sent to its target flag word. -/
  | fqSignal (c ticket : Nat) (more : Bool)
  /-- FQ_COUNTED_SIGNAL (R387). An FQ COUNTED_SIGNAL is sent to its target, blocking further writes to that module until acknowledged. -/
  | fqCountedSignal (c ticket : Nat) (more : Bool)
  /-- FQ_OP_COMPLETE (R354). An FQ operation reaches its completion point. -/
  | fqOpComplete (c ticket : Nat)
  /-- PORT_UP (R400). An Ethernet port reports link on all 8 lanes. -/
  | portUp (n : Nat)
  /-- PORT_DOWN (R400). A lane fault takes an Ethernet port down; streams choose new paths and resend. -/
  | portDown (n : Nat)
  /-- READ (R449). A READ request frame arrives at the home and is served, held, forwarded or refused by its home record. -/
  | read (n : Nat) (f : Frame)
  /-- WRITE (R449). A WRITE request frame arrives at the home and is handled by its home record. -/
  | write (n : Nat) (f : Frame)
  /-- REDUCE (R458). A REDUCE request frame arrives and runs as a reduce-write job at the home. -/
  | reduce (n : Nat) (f : Frame)
  /-- ATOMIC (R460). An ATOMIC request frame is carried out as an indivisible read and write of its column. -/
  | atomic (n : Nat) (f : Frame)
  /-- SIGNAL (R379). A SIGNAL arrives at its target, is accepted or refused, and writes the flag word. -/
  | signal (n : Nat) (f : Frame) (more : Bool)
  /-- COUNTED_SIGNAL (R385). A counted signal arrives; it is applied if the arrival counter covers it, or held in the hold slot. -/
  | countedSignal (n : Nat) (f : Frame) (more : Bool)
  /-- REPLICA_INV (R463). A replica invalidation makes the member's entry act as DIRECT and is answered. -/
  | replicaInv (n : Nat) (f : Frame)
  /-- PLACEMENT_CLAIM (R467). A CLAIM makes a VACANT target record INCOMING, or is refused. -/
  | placementClaim (n : Nat) (f : Frame)
  /-- PLACEMENT_PUBLISH (R467). A PUBLISH changes the receiver's placement entry, caches and home record to the new home. -/
  | placementPublish (n : Nat) (f : Frame)
  /-- COMPLETION (R427). A response matching an outstanding request completes it and returns its credit; others are dropped. -/
  | completion (n : Nat) (f : Frame)
  /-- NACK (R450). A NACK response completes or, for STALE, re-reads the placement entry and possibly resends. -/
  | nack (n : Nat) (f : Frame)
  /-- REDIRECT (R450). A REDIRECT makes the requester re-read its placement entry and resend or complete STALE. -/
  | redirect (n : Nat) (f : Frame)
  /-- SEQ_NACK (R422). A SEQ_NACK makes the sender resend the unanswered frames of the stream from the expected SEQ. -/
  | seqNack (n : Nat) (f : Frame)
  /-- KEEPALIVE (R430). A KEEPALIVE updates the peer's up ports and reveals lost stream tails as gaps. -/
  | keepalive (n : Nat) (f : Frame)
  /-- PFC_FRAME (R415). A received PFC frame pauses or resumes transmission of its priorities. -/
  | pfcFrame (n : Nat) (enable : BitVec 8) (quanta : List (BitVec 16))
  /-- PAUSE_FRAME (R399). A received 802.3x PAUSE frame is ignored and counted. -/
  | pauseFrame (n : Nat)
  /-- XOFF_REPEAT (R414). Every 10 us while a buffer condition lasts, the port repeats XOFF. -/
  | xoffRepeat (n sgrp : Nat)
  /-- LLDP_TIMER (R399). Every 30 s a port transmits an LLDPDU. -/
  | lldpTimer (n : Nat)
  /-- RETRANSMIT_TIMER (R421). A request unanswered at a retransmission interval is sent again with RETX. -/
  | retransmitTimer (id : Nat)
  /-- REQUEST_TIMEOUT (R421). A request reaching its level's timeout completes TIMEOUT and returns its credit. -/
  | requestTimeout (id : Nat)
  /-- GAP_WAIT_EXPIRY (R422). A SEQ gap that lasts a gap wait makes the receiver send SEQ_NACK. -/
  | gapWaitExpiry (pos die sgrp : Nat)
  /-- KEEPALIVE_TIMER (R430). At the keepalive interval an I/O die sends KEEPALIVE to an active peer. -/
  | keepaliveTimer (die pos : Nat)
  /-- TAG_QUARANTINE_EXPIRY (R426). A released tag leaves quarantine and a waiting allocation may proceed. -/
  | tagQuarantineExpiry (die pos tag : Nat)
  /-- TAG_SPACE_FREE (R426). A tag space idle for T plus quarantine is freed. -/
  | tagSpaceFree (die pos : Nat)
  /-- REPLAY_WINDOW_FREE (R429). A replay window idle for T plus quarantine is freed. -/
  | replayWindowFree (pos die : Nat)
  /-- JOIN_START (R433). Once POSITION, AUTH_MAC and AUTH_KEY are set and a port is up, the module announces and becomes ANNOUNCING. -/
  | joinStart
  /-- JOIN_ANNOUNCE_TIMER (R433). 100 ms without a challenge, the module sends JOIN_ANNOUNCE again. -/
  | joinAnnounceTimer
  /-- JOIN_CHALLENGE (R433). A challenge from the authority starts signing a join report. -/
  | joinChallenge (n : Nat) (f : Frame)
  /-- JOIN_RESULT (R433). An advisory join result; a refusal makes JOIN_STATE REFUSED. -/
  | joinResult (n : Nat) (f : Frame)
  /-- MEMBER_UPDATE (R435). A signed member update is verified and applied, which may make the module JOINED. -/
  | memberUpdate (n : Nat) (f : Frame)
  /-- JOIN_FRAGMENT_TIMEOUT (R434). A message whose fragments are not all received within 1 s is discarded. -/
  | joinFragmentTimeout (msgId : Nat)
  /-- LEAVE (R437). The module stops accepting new requests from its own origins and begins leaving. -/
  | leave (a : Acc) (v : BitVec 64)
  /-- LEAVE_SEND (R437). Once every outstanding request has completed, LEAVE is sent and JOIN_STATE becomes LEFT. -/
  | leaveSend
  /-- PLACE_COMMIT (R446). Validates the staged placement records and applies them all at one instant, or none. -/
  | placeCommit (a : Acc) (p : Nat) (v : BitVec 64)
  /-- PCACHE_MISS_FILL (R447). A placement cache miss is filled from the leaf and the request's translation completes. -/
  | pcacheMissFill (die p loaf : Nat)
  /-- REPLICA_FILL_COMPLETE (R461). Every line of a replica fill has arrived without invalidation and the replica becomes usable. -/
  | replicaFillComplete (p loaf : Nat)
  /-- MIG_START (R465). Freezes the loaf to start a migration, or is refused. -/
  | migStart (a : Acc) (p : Nat) (v : BitVec 64)
  /-- MIG_CLAIM (R466). After the freeze drains, the old home sends CLAIM and then copies the loaf. -/
  | migClaim (p : Nat)
  /-- MIG_FREEZE_TIMEOUT (R470). A migration not handed over within 50 us of its freeze is abandoned. -/
  | migFreezeTimeout (p : Nat)
  /-- MIG_VACATE (R466). The forward time ends and the old record becomes VACANT. -/
  | migVacate (p : Nat)
  /-- INCOMING_TIMEOUT (R470). An INCOMING record without PUBLISH within the forward time returns to VACANT. -/
  | incomingTimeout (loff : Nat)
  /-- HOST_MEM_READ (R482). A host CXL.mem read is translated and served at its home. -/
  | hostMemRead (n dpa : Nat) (want : HostWant)
  /-- HOST_MEM_WRITE (R482). A host CXL.mem write or write-back is translated and takes effect at its home. -/
  | hostMemWrite (n dpa : Nat) (data : BitVec 512) (mask : BitVec 64) (poison : Bool)
  /-- BIRSP (R487). A host back-invalidation response releases the request held on the tracked line. -/
  | birsp (n lin : Nat)
  /-- BI_TIMEOUT (R488). No BIRsp within BI_TIMEOUT sets BI_FAILED and drops all tracking. -/
  | biTimeout (n lin : Nat)
  /-- HDM_DECODER_COMMIT (R481). A host commits an HDM decoder, or receives Error Not Committed. -/
  | hdmDecoderCommit (n k size ways : Nat)
  /-- CXL_LINK_DOWN (R488). A CXL link goes down, or a conventional reset or FLR occurs, and the port drops its tracking. -/
  | cxlLinkDown (n : Nat) (conventionalReset : Bool)
  /-- PERST_N_ASSERT (R613). PERST_N of a port is asserted; its transmitters turn off and its link goes down. -/
  | perstNAssert (n : Nat)
  /-- PERST_N_RELEASE (R613). PERST_N of a port is released and the port may train. -/
  | perstNRelease (n : Nat)
  /-- GET_EVENT_RECORDS (R491). Mailbox command returning event records. -/
  | getEventRecords (n log : Nat)
  /-- CLEAR_EVENT_RECORDS (R491). Mailbox command clearing event records. -/
  | clearEventRecords (n log : Nat)
  /-- GET_FW_INFO (R491). Mailbox command reporting the crust slots. -/
  | getFwInfo (n : Nat)
  /-- GET_TIMESTAMP (R491). Mailbox command returning the port timestamp. -/
  | getTimestamp (n : Nat)
  /-- SET_TIMESTAMP (R491). Mailbox command setting the port timestamp. -/
  | setTimestamp (n : Nat) (v : BitVec 64)
  /-- GET_SUPPORTED_LOGS (R491). Mailbox command listing supported logs. -/
  | getSupportedLogs (n : Nat)
  /-- GET_LOG (R491). Mailbox command returning the Command Effects Log. -/
  | getLog (n log : Nat)
  /-- IDENTIFY_MEMORY_DEVICE (R491). Mailbox command reporting the device's capacities. -/
  | identifyMemoryDevice (n : Nat)
  /-- GET_PARTITION_INFO (R491). Mailbox command reporting active volatile capacity. -/
  | getPartitionInfo (n : Nat)
  /-- GET_HEALTH_INFO (R491). Mailbox command reporting temperature and life used. -/
  | getHealthInfo (n : Nat)
  /-- GET_POISON_LIST (R491). Mailbox command returning addresses of lines that returned poison. -/
  | getPoisonList (n : Nat)
  /-- OD_WRITE (R500). A write to a dictionary entry that has no row of its own is checked and applied or buffered. -/
  | odWrite (a : Acc) (index sub : Nat) (v : BitVec 64)
  /-- CRUMB_READ (R522). A crumb READ message reads its items and returns a result. -/
  | crumbRead (path : Nat) (m : CrumbMsg)
  /-- CRUMB_WRITE (R522). A crumb WRITE message writes its items in order and returns a result. -/
  | crumbWrite (path : Nat) (m : CrumbMsg)
  /-- HELLO (R591). A client HELLO is answered with CHALLENGE or REFUSE. -/
  | hello (mctp : Bool) (m : SessMsg)
  /-- CONFIRM (R591). A valid CONFIRM opens a session and is answered with ACCEPT. -/
  | confirm (mctp : Bool) (m : SessMsg)
  /-- CLOSE (R591). A CLOSE message ends a session. -/
  | close (path : Nat) (m : SessMsg)
  /-- CHALLENGE_TIMEOUT (R592). A CHALLENGE without valid CONFIRM within 1 s is discarded. -/
  | challengeTimeout (sid : Nat)
  /-- SESSION_IDLE_TIMEOUT (R592). A session without a valid message for SESSION_IDLE closes. -/
  | sessionIdleTimeout (path : Nat)
  /-- AUTH_RATE_LIMIT_END (R592). A path's 1 s of refusing HELLO after repeated failures ends. -/
  | authRateLimitEnd (mctp : Bool)
  /-- QUIESCE (R511). Starts a partition quiesce: the partition closes and its dispatched work drains. -/
  | quiesce (a : Acc) (p : Nat) (v : BitVec 64)
  /-- QUIESCE_DRAIN_LIMIT (R511). Work still running DRAIN_LIMIT after the close is stopped and completes DISCARDED. -/
  | quiesceDrainLimit (p : Nat)
  /-- QUIESCE_APPLY (R511). When the drain ends the set is validated and its QSC writes apply, or it fails. -/
  | quiesceApply (p : Nat)
  /-- POISON_FILL_COMPLETE (R108). The poison fill of lost segments completes and the partition reopens. -/
  | poisonFillComplete (p : Nat)
  /-- CFG_DISCARD (R504). Drops a partition set's pending writes. -/
  | cfgDiscard (a : Acc) (p : Nat) (v : BitVec 64)
  /-- CFG_ROLLBACK (R505). Replaces a partition set's pending writes with the previous version's values. -/
  | cfgRollback (a : Acc) (p : Nat) (v : BitVec 64)
  /-- MCFG_DISCARD (R504). Drops the module set's pending writes. -/
  | mcfgDiscard (a : Acc) (v : BitVec 64)
  /-- MCFG_ROLLBACK (R505). Replaces the module set's pending writes with the previous version's values. -/
  | mcfgRollback (a : Acc) (v : BitVec 64)
  /-- WIN_ADDR (R527). Sets an indirect window's target, opening or abandoning a blob write. -/
  | winAddr (a : Acc) (k : Nat) (v : BitVec 64)
  /-- WIN_DATA_READ (R526). Reads window data and advances the offset or slot. -/
  | winDataRead (a : Acc) (k : Nat)
  /-- WIN_DATA_WRITE (R527). Writes 8 bytes into an open blob, or a slot in mode 1. -/
  | winDataWrite (a : Acc) (k : Nat) (v : BitVec 64)
  /-- WIN_CLOSE (R527). Ends a blob write, which counts as one write of the entry. -/
  | winClose (a : Acc) (k : Nat) (v : BitVec 64)
  /-- LOCKS (R529). Sets lock groups. -/
  | locks (a : Acc) (v : BitVec 64)
  /-- HOTSWAP_CONDUCT (R536). The main input at or above 40 V for 10 ms makes the hot-swap switch conduct. -/
  | hotswapConduct
  /-- POWER_GOOD (R537). Bulk capacitance is charged and POWER_GOOD is reported, possibly starting a start. -/
  | powerGood
  /-- INPUT_LOSS (R538). The main input is lost; the main rails switch off and the stack contents are lost. -/
  | inputLoss
  /-- INPUT_OV (R536). The main input above 62 V for 50 us opens the switch as an input loss. -/
  | inputOv
  /-- SLEW_INTERVAL (R540). Each 10 us the slew governor measures current and sets the duty. -/
  | slewInterval (mA mV fit ballastMj : Nat)
  /-- GOVERNOR_TICK (R542). Each 1 ms the power governor updates PLIM_EFF and applies or undoes reductions. -/
  | governorTick (m : GovMeas)
  /-- JM_GRACE_EXPIRY (R550). JM_GRACE elapses and the request becomes ENFORCING. -/
  | jmGraceExpiry
  /-- CLOCK_STEP_EFFECT (R547). A decided clock step takes effect and the die runs at the new frequency. -/
  | clockStepEffect (die : Nat)
  /-- SENSOR_READ (R552). A sensor group is read at its cadence and thresholds, bands and faults are judged. -/
  | sensorRead (grp : Nat) (readings : List SensorRaw) (tPredUs : Option Nat)
  /-- DRAIN_WINDOW_EXPIRY (R563). An orderly stop's drain window ends and outstanding work is abandoned. -/
  | drainWindowExpiry
  /-- STACK_CRITICAL_HOLD_EXPIRY (R563). 1 s after an orderly stop, a stack still at its critical threshold is unpowered. -/
  | stackCriticalHoldExpiry (stk : Nat)
  /-- OSC_TRIM (R561). Every 100 ms the crust trims each I/O die's reference oscillator. -/
  | oscTrim
  /-- COLD_START (R574). Auxiliary power applied starts the crust from the starter and reads the straps. `healthy`: the
  entropy source passes its health test (R570). -/
  | coldStart (straps : BitVec 24) (healthy : Bool)
  /-- LOCKSTEP_MISMATCH (R569). The crust cores' outputs differ, causing a fault reset. -/
  | lockstepMismatch
  /-- CRUST_WATCHDOG_EXPIRY (R569). The crust hardware watchdog is not serviced within 1 s, causing a fault reset. -/
  | crustWatchdogExpiry
  /-- MODULE_RESET (R574). All main domains are reset and restarted; stack contents are lost. -/
  | moduleReset (a : Acc)
  /-- PRESERVING_RESET (R575). Main domains reset while powered stacks stay in self-refresh, or the request is refused. -/
  | preservingReset (a : Acc)
  /-- CRUST_RESET (R574). The crust restarts from the starter, keeping the volatile log. -/
  | crustReset (a : Acc)
  /-- MOD_RESET_N_ASSERT (R610). Ten low samples of MOD_RESET_N start a module reset or abandon a start. -/
  | modResetNAssert
  /-- MOD_RESET_N_RELEASE (R610). Ten high samples of MOD_RESET_N release the reset and may begin a start. -/
  | modResetNRelease
  /-- START (R578). Begins a start: rails, PLLs, links, spare fusing and memory training. -/
  | start (a : Acc) (v : BitVec 64)
  /-- TRAINING_COMPLETE (R578). Memory training completes, reserved areas are initialised and the module enters SERVICE. -/
  | trainingComplete (failed : BitVec 16)
  /-- FW_COMMIT (R583). Starts verifying the staged image. -/
  | fwCommit (a : Acc) (v : BitVec 64)
  /-- FW_VERIFY_COMPLETE (R583). Verification ends; the slot becomes TRIAL or INVALID. -/
  | fwVerifyComplete
  /-- FW_CONFIRM (R584). Makes the running TRIAL slot ACTIVE and advances the anti-rollback fuses. -/
  | fwConfirm (a : Acc) (v : BitVec 64)
  /-- ATTEST_NONCE (R589). Starts signing an attestation report for the nonce. -/
  | attestNonce (a : Acc) (nonce : Bytes)
  /-- ATTEST_REPORT_READY (R589). A report finishes signing; it becomes readable or is sent as a join report. -/
  | attestReportReady
  /-- TEST_UNLOCK (R593). A valid test signature in STANDBY enters TEST and clears lock 15. -/
  | testUnlock (a : Acc) (sig : Bytes)
  /-- TEST_POWER (R595). Powers the main domains to the requested test level. -/
  | testPower (a : Acc) (v : BitVec 64)
  /-- MTEST_CTRL (R595). Starts a pattern test of a stack. -/
  | mtestCtrl (a : Acc) (stk : Nat) (v : BitVec 64)
  /-- MTEST_COMPLETE (R595). A stack pattern test ends as passed or failed. -/
  | mtestComplete (stk : Nat)
  /-- TILE_BIST (R595). Starts the array self-test of a tile. -/
  | tileBist (a : Acc) (v : BitVec 64)
  /-- TILE_BIST_COMPLETE (R595). A tile self-test ends as passed, failed or absent. -/
  | tileBistComplete (passed : Bool)
  /-- PORT_PRBS (R595). Starts or stops PRBS31Q send and check on a port, restarting its error count. -/
  | portPrbs (a : Acc) (n : Nat) (v : BitVec 64)
  /-- AUXILIARY_POWER_LOSS (R583). The auxiliary 3.3 V input is lost, the crust stops, a staged or verifying firmware slot is left INVALID and only the persistent store survives. -/
  | auxiliaryPowerLoss
  /-- CXL_LINK_UP (R514). A CXL port's link finishes training and comes up, making its BAR2 path present and CXL_LINK report up. -/
  | cxlLinkUp (n : Nat) (full : Bool)
  /-- REFCLK_CHANGE (R619). A CXL port's 100 MHz reference clock appears or disappears, changing REFCLK_OK and whether the port can train. -/
  | refclkChange (n : Nat) (present : Bool)
  /-- TP_ELAPSED (R563). During an orderly stop the predicted time to the shutdown limit elapses and the stop becomes a thermal cut with reason 3. -/
  | tpElapsed
  /-- START_FAIL (R579). A rail fails to regulate or a PLL fails to lock, ending the start with main rails off, STANDBY and a START_FAIL log entry. -/
  | startFail (step which : Nat)
  /-- TEST_POWER_LEVEL_REACHED (R595). The main domains reach the level that TEST_POWER requested, or fail, and TEST_STEP is updated. -/
  | testPowerLevelReached (level : Nat)
  /-- BAD_FRAME (R407). A received frame that fails acceptance, or a request frame with a reserved code or bad LEVEL or LINES, is dropped or answered with NACK BAD_FRAME and counted. -/
  | badFrame (n : Nat) (f : Frame)
  /-- ILLEGAL_INSTRUCTION (R335). The core fetches a word with a reserved OP, FN or FORM or a non-zero unused field and faults with code ILLEGAL. -/
  | illegalInstruction (c : Nat)
  /-- UNSUPPORTED_MAILBOX_COMMAND (R491). A mailbox command with an opcode outside the table returns Unsupported. -/
  | unsupportedMailboxCommand (n opcode : Nat)
  deriving DecidableEq, Repr

end Sys2Proof
end

