-- ==== Sys2Proof/Config.lean ====
section
/-! DEFINITION. What the spec leaves open or takes from another standard, as constants without a body:
every claim holds whatever they are. `n` is a free value's number, which a step reads and advances. -/

namespace Sys2Proof

/-- A 64-bit value that the spec leaves open. -/
opaque Config.freeWord : Nat → Word
/-- A 32-bit value that the spec leaves open. -/
opaque Config.freeW32 : Nat → W32
/-- A number that the spec leaves open (a time, a count of cycles). -/
opaque Config.freeNat : Nat → Nat
/-- Whether a fetch before the IFENCE sees an earlier store to instruction SRAM (10 R328, R334): by free value's number,
clock count of the core and byte address. -/
opaque Config.fetchSees : Nat → Nat → Nat → Bool
/-- 64 bits of the crust's random bit generator (06 R216, 12 R431, 17 R591). -/
opaque Config.random : Nat → Word
/-- 32 random bytes for a session's nonce (17 R591). -/
opaque Config.randomBytes : Nat → Bytes
/-- KMAC256 of NIST SP 800-185: key, data, customisation string, output bytes (17 R590). -/
opaque Config.kmac256 : Bytes → Bytes → Bytes → Nat → Bytes
/-- SHAKE256 of FIPS 202: data, output bytes (17 R584). -/
opaque Config.shake256 : Bytes → Nat → Bytes
/-- SLH-DSA verification of FIPS 205: public key, message, signature (17 R580, R593; 12 R433). -/
opaque Config.slhVerify : Bytes → Bytes → Bytes → Bool
/-- The module's signature under its device key (17 R587). -/
opaque Config.slhSign : Bytes → Bytes
/-- Keys fixed at manufacture (17 R580, R585, R593): firmware keys by number, test key, device key. -/
opaque Config.firmwareKey : Nat → Bytes
opaque Config.testKey : Bytes
opaque Config.deviceKey : Bytes
/-- What the device certificate holds beside the module's own identity (17 R586): the manufacture date in seconds since 1970,
the issuing key identifier, and Sigeica's signature over a body. -/
opaque Config.certDate : Nat
opaque Config.certKey : Nat
opaque Config.certSign : Bytes → Bytes
/-- The position and the port that frames to the join authority name, which has no position (12 R404, R434). -/
opaque Config.authorityPos : Nat
opaque Config.authorityPort : Nat
/-- What a unit of FABRIC_WEIGHT's quantum is beyond the longest frame, in bytes (15 R510; log entry 121). -/
opaque Config.drrUnit : Nat
/-- The set of a line, by home linear offset, among the 524,288 / 16 sets of the tracker of a CXL port (14 R486). -/
opaque Config.trackSet : Nat → Fin 32768
/-- A finite FP32 result of the vector function with this code where 08 R269 states a bound and no exact
value. -/
opaque Config.vecMath : Nat → W32 → W32

/-- The firmware of the I/O dies and PHYs, the starter's ROM, and the bytes of an event that a measurement
register is extended with, by register, from its values (17 R587): the spec names them and gives no layout. -/
opaque Config.ioFirmware : Bytes
opaque Config.starterRom : Bytes
opaque Config.measBytes : Nat → List Word → Bytes
/-- Header and body of the image that slot A holds from the start (log entry 9). -/
opaque Config.factoryImage : Bytes

end Sys2Proof
end

