-- ==== Sys2Proof/Machine/State.lean ====
section
/-! DEFINITION. The state of the module as plain data, chapter by chapter, and the state after reset.
Instances that the spec numbers (banks, channels, clusters, ports …) stand in sparse tables; an unlisted
key reads as the instance's reset value. -/

namespace Sys2Proof.Machine

/-- Why a command stops the model: no command does, and there is no reason to name. -/
inductive Fault where
  deriving DecidableEq, Repr

/-- Why the model gives a command no meaning. -/
inductive Refusal where
  /-- Raised by an arm of `exec` whose meaning is not written yet. SAFE: nothing is claimed of it. -/
  | notModelled (mnemonic : String)
  deriving DecidableEq, Repr

/-! ### The build (00 R2 to R11; 07 R222; 15 R533) -/

/-- What is fixed at manufacture. -/
structure Build where
  fitted   : BitVec 16   -- fitted stack positions (R5)
  ioDies   : Nat         -- I/O dies 0 .. ioDies-1 (R6)
  gradeB   : Bool
  tiles    : BitVec 192  -- tile presence (R223)
  serial   : Bytes
  hwRev    : Nat
  fieldMac : BitVec 48
  deriving DecidableEq, Repr

/-! ### Memory stacks (02) and stack controllers (03) -/

/-- A row latch of one subarray half (02 R46): the open physical row, the logical row it stands for, and
the Sprig cycles of the commands from which 03 R82 counts. -/
structure Latch where
  row    : Option Nat := none
  logRow : Nat := 0
  actAt  : Option Nat := none
  preAt  : Option Nat := none
  rdAt   : Option Nat := none
  wrAt   : Option Nat := none
  nrrAt  : Option Nat := none
  deriving DecidableEq, Repr

/-- A 512-bit register with its poison bit (04 R116). -/
structure PReg where
  data   : Line := 0
  poison : Bool := false
  deriving DecidableEq, Repr

/-- An accumulator: 32 FP32 lanes and 32 lane poison bits (04 R116). -/
structure AccReg where
  lanes  : List W32 := List.replicate 32 0
  poison : W32 := 0
  deriving DecidableEq, Repr

/-- A cursor: 6 bits and the past-end flag (04 R116, R128). -/
structure Cursor where
  pos  : Nat := 0
  past : Bool := false
  deriving DecidableEq, Repr

/-- STATE of the status word (04 R159). -/
inductive UnitState where
  | off | idle | running | paused | stopped
  deriving DecidableEq, Repr

/-- What an issued step writes when it retires (04 R127, R153). `bad`: it delivers poison into the register (04 R159). -/
inductive StepEffect where
  | acc (n : Nat) (v : AccReg) (bad : Bool)
  | sc (n : Nat) (v : PReg) (bad : Bool)
  | latch (l row col : Nat) (v : Column)
  | slot (n : Nat) (v : PReg)
  deriving DecidableEq, Repr

/-- An issued step that has not retired: its effects, the destinations that later steps may depend on,
and the cycles of 04 R153. `dotAcc` is the accumulator of a DOT, ready one cycle later for another DOT. -/
structure InFlight where
  effs     : List StepEffect
  accs     : List Nat
  scs      : List Nat
  slots    : List Nat
  dotAcc   : Option Nat
  issueAt  : Nat
  readyAt  : Nat
  retireAt : Nat
  pathAt   : Option Nat      -- column-path write
  pathCol  : Option (Nat × Nat)  -- latch and column written
  deriving DecidableEq, Repr

/-- The status fields of 04 R159 that are not recomputed from registers. -/
structure UnitStatus where
  st        : UnitState := .off
  endc      : Nat := 0
  poison    : Bool := false
  ue        : Bool := false
  ueLatch   : Nat := 0
  ueCol     : Nat := 0
  ueRow     : Nat := 0
  ce0       : Nat := 0
  ce1       : Nat := 0
  outPoison : Bool := false
  step      : Nat := 0
  iterDone  : Nat := 0
  ues       : List (Nat × Nat × Nat) := []  -- uncorrectable columns read since UE was last clear: latch, column, row (05 R193)
  deriving DecidableEq, Repr

/-- Cursors and pointers (04 R116). -/
structure UnitPtrs where
  rcur0 : Cursor := {}
  rcur1 : Cursor := {}
  wcur0 : Cursor := {}
  wcur1 : Cursor := {}
  sptr0 : Nat := 0
  sptr1 : Nat := 0
  opptr : Nat := 0
  eptr  : Nat := 0
  accoff : Nat := 0
  deriving DecidableEq, Repr

/-- The run in progress and the cycles from which 04 R152 and 05 R178 count. -/
structure UnitRun where
  first    : Nat := 0
  last     : Nat := 0
  iter     : Nat := 1
  done     : Bool := false        -- the last step has issued, or the run has stopped
  wroteLatch : Bool := false
  reopen   : List (Nat × Nat) := []  -- latch and row to reopen after a pause (03 R99)
  issueAt  : Option Nat := none
  pathAt   : Option Nat := none   -- last write on the column path
  modeAt   : Option Nat := none
  recipeAt : Tab Nat := []        -- per step, cycle of the RECIPE_WRITE that wrote it
  bcast0   : Option Nat := none
  bcast1   : Option Nat := none
  runAt    : Option Nat := none
  retireAt : Nat := 0             -- latest retirement of the run
  stopAt   : Nat := 0
  beatAt   : Option Nat := none   -- first data beat of the last SPRIG_DRAIN or SPRIG_STATUS
  pauses   : Nat := 0
  reportAt : Option Nat := none   -- done report at the controller (05 R178)
  pauseAt  : Option Nat := none   -- REFPB that paused the run (04 R130)
  resumeAt : Option Nat := none
  ghosts   : List InFlight := []  -- steps in flight at the last pause, at their times shifted by it (04 R130)
  deriving DecidableEq, Repr

/-- A Sprig unit (04 R116). -/
structure SprigUnit where
  status : UnitStatus := {}
  ptrs   : UnitPtrs := {}
  run    : UnitRun := {}
  ops    : List PReg := List.replicate 2 {}
  sc     : List PReg := List.replicate 4 {}
  acc    : List AccReg := List.replicate 8 {}
  sreg   : List W32 := List.replicate 8 0
  drain  : List PReg := List.replicate 16 {}
  recipe : Tab Word := []         -- steps 0..31, unlisted steps are zero (NOP)
  fly    : List InFlight := []
  deriving DecidableEq, Repr

/-- The recipe tag that the controller keeps for a bank (05 R171). -/
structure RecipeTag where
  part  : Nat
  id    : Nat
  at_   : Nat
  count : Nat
  deriving DecidableEq, Repr

/-- A bank: latches, refresh, neighbour refresh queues, Sprig unit, holder (02 R46, 03 R81, R97, R102,
05 R171, R184) and its rounding source (06 R215). -/
structure Bank where
  l0      : Latch := {}
  l1      : Latch := {}
  debt    : Int := 0
  band    : Nat := 0              -- an older, higher band that the bank still uses (03 R96)
  refStep : Nat := 0              -- refresh counter step, 0..8195 (03 R81)
  refAt   : Option Nat := none
  intAt   : Nat := 0              -- start of the current refresh interval, in eighths of a Sprig cycle (03 R95, R96)
  colAt   : Option Nat := none    -- last RD or WR, for tCCD_L
  nrr0    : List Nat := []
  nrr1    : List Nat := []
  unit    : SprigUnit := {}
  tag     : Option RecipeTag := none
  hold    : Option Nat := none    -- job that holds the bank
  leaveAt : Option Nat := none    -- SPRIG_MODE leave
  rnd     : Option Word := none   -- none: hardware-mode seed not drawn on yet (06 R216)
  draws   : Nat := 0
  deriving DecidableEq, Repr

/-- A stack channel (03 R77, R83, R101, R103, R109). -/
structure Chan where
  sr      : Bool := false
  srAt    : Option Nat := none
  srxAt   : Option Nat := none
  srUs    : Nat := 0
  srPend  : Bool := false         -- idle for SR_IDLE, entry to self-refresh under way
  wake    : Bool := false         -- in self-refresh, a request or a job waits for the channel (03 R104)
  lfsr    : W32 := 1
  modes   : Tab W32 := []
  rowAt   : Option (Nat × Nat × Nat) := none   -- last ACT or NRR: bank, latch, cycle
  rdAt    : Option Nat := none
  wrAt    : Option Nat := none
  bursts  : List Nat := []        -- cycles of recent column bursts (03 R83)
  rowSlot : Option Nat := none    -- cycle of the last command in the row slot (03 R78)
  colSlot : Option Nat := none
  scrubPos : Nat := 0
  scrubPass : Nat := 0            -- scrub passes completed since the stacks started (03 R109)
  scrubWake : Bool := false
  lost     : BitVec 8 := 0        -- segments lost in this channel's self-refresh (03 R107)
  deriving DecidableEq, Repr

/-- A stack controller (03 R84, R85, R95, R105, R107, R629). -/
structure StackC where
  band     : Nat := 0
  toks     : List Nat := []       -- cycles at which the tokens out return
  waitAt   : Nat := 0             -- cycle up to which TOKEN_WAIT has been counted (03 R115)
  now      : Nat := 0             -- latest Sprig cycle that a command of the stack has named (03 R96)
  k        : Nat := 10            -- REF-class values in force in this stack
  tokens   : Nat := 256
  reserve  : Nat := 16
  postpone : Nat := 8
  grant    : Nat := 256           -- governor grant before the duty
  nap      : Bool := false
  lost     : BitVec 8 := 0xFF     -- segments that count as lost (03 R107, 17 R574)
  filling  : Bool := false
  unpowered : Bool := false
  deriving DecidableEq, Repr

/-- A queued request of a stack controller (03 R88, R91, R92): `cyc` is the Sprig cycle of its arrival, `route` the
UCIe links it came over (01 R24), `scrub` marks patrol scrub's own request (03 R109). -/
structure PortReq where
  id    : Nat
  cyc   : Nat := 0
  stk   : Nat
  port  : Nat
  cls   : Nat
  step  : Nat          -- urgency step
  aged  : Bool
  lin   : Nat
  mbn   : Nat
  row   : Nat
  col   : Nat
  kind  : ReqKind
  part  : Nat          -- owner of the region, 31 for none
  requester : Nat
  merge : Option Column  -- column read for a partial write (02 R56), or to be written back by scrub
  mergeBad : Bool
  scrub : Bool := false
  route : List Nat := []
  lost  : Bool := false  -- a link of its route went down: it is carried out, and nobody hears of it (01 R24; 13 R457)
  deriving DecidableEq, Repr

/-- A completed stack-controller request: memory status (13 R471), data and poison mark. -/
structure Resp where
  id     : Nat
  status : Nat
  data   : Line
  poison : Bool
  deriving DecidableEq, Repr

/-- A row remap (02 R58, R59, R63). -/
structure Spare where
  mbn   : Nat
  row   : Nat
  idx   : Nat
  fused : Bool
  deriving DecidableEq, Repr

/-! ### Sprig jobs (05) -/

/-- How far a job has come on one bank (05 R180). -/
inductive JPhase where
  | waiting | loading | running | draining | leaving | left
  deriving DecidableEq, Repr

/-- One job bank: index, walk step, segment, phase. -/
structure JBank where
  mbn     : Nat
  k       : Nat := 0
  seg     : Nat := 0
  phase   : JPhase := .waiting
  loaded  : Nat := 0           -- RECIPE_WRITE and OPERAND_BCAST commands issued of those that load the bank
  stopped : Bool := false
  ran     : Bool := false      -- a run has started and its done report has not come (05 R176)
  stat    : Bool := false      -- a report showed a reason to read SPRIG_STATUS (05 R176)
  outPoison : Bool := false
  ue      : Bool := false
  deriving DecidableEq, Repr

/-- A recipe image (05 R168, R169). -/
structure Image where
  id     : Nat := 0
  loadAt : Nat := 0
  steps  : List Word := []
  segs   : List (Word × Word) := []
  altOff : Nat := 0
  deriving DecidableEq, Repr

/-- The result fields of 05 R192 that a job gathers. -/
structure JobRes where
  code     : Nat := 0
  endc     : Nat := 0
  step     : Nat := 0
  stopBank : Nat := 0
  stopped  : Bool := false
  ceTotal  : Nat := 0
  tokenWait : Nat := 0
  pauses   : Nat := 0
  interleaved : Nat := 0
  ueSeen   : Bool := false
  ueBank   : Nat := 0
  ueLatch  : Nat := 0
  ueCol    : Nat := 0
  ueRow    : Nat := 0
  deriving DecidableEq, Repr

/-- A Sprig job accepted by a stack controller (05 R160 to R194): `arrived` counts with the requests, `cyc` is the Sprig
cycle of its arrival, `step` and `aged` are those of its rank (R179), `span` holds by channel the cycles of its first and
last command (R192), `stage` tells how far its completion has come (R183). A refused job has its code and no banks. -/
structure Job where
  c      : Nat
  ticket : Nat
  part   : Nat
  cls    : Nat
  desc   : List Word
  first  : Nat          -- module bank number of the first job bank
  row0   : Nat
  img    : Image
  oper   : Tab PReg     -- operand data read: key 2*channel + register (05 R164)
  banks  : List JBank
  drains : Tab PReg     -- drained slots: key 16*i + slot
  res    : JobRes
  arrived : Nat
  cyc    : Nat := 0
  step   : Nat := 0
  aged   : Bool := false
  span   : Tab (Nat × Nat) := []
  stage  : Nat := 0
  stop   : Option Nat := none  -- 8 aborted, 9 discarded (queue status codes)
  deriving DecidableEq, Repr

/-! ### Matrix tiles (07) -/

/-- A line with its poison mark and the scale bytes that came with it (07 R237, R240). -/
structure TLine where
  data   : Line
  scale  : List Nat := []
  poison : Bool := false
  deriving DecidableEq, Repr

/-- A panel buffer (07 R228, R245). `n = 0`: no panel loaded since reset (R230). -/
structure PanelBuf where
  k      : Nat := 0
  n      : Nat := 0
  fmt    : Nat := 0
  scaled : Bool := false
  lines  : List TLine := []
  colPoison : BitVec 128 := 0
  usable : Bool := true
  deriving DecidableEq, Repr

/-- An accumulator buffer: FP32 elements keyed 128*m + n, row and column poison bits (07 R244). -/
structure CBuf where
  el   : Tab W32 := []
  rowP : BitVec 128 := 0
  colP : BitVec 128 := 0
  deriving DecidableEq, Repr

/-- A line that an engine has requested: its place in the command's line order, space, address, whether its stream entry
is invalid, its page scale address, and the place of the entry's first line and the number of the entry's lines (07 R234,
R236, R240). -/
structure LineReq where
  ord   : Nat
  space : Nat
  addr  : Nat
  bad   : Bool
  scale : Option (Nat × Nat)    -- address and count of its scale bytes
  close : Bool := false
  first : Nat := 0
  count : Nat := 1
  deriving DecidableEq, Repr

/-- A line that STORE has converted: its bytes and their mask, the scale bytes of its blocks, and which of its elements
are poisoned (07 R247 to R251). -/
structure OutLine where
  data   : Line
  mask   : BitVec 64
  scales : List Nat
  pois   : List Bool
  deriving DecidableEq, Repr

/-- A tile command that has started on its engine: queue ticket, lines needed, lines taken from the stream,
lines requested and not returned, lines returned, the scale lines read for each stream entry by its first line's place
(status and data), the scale bytes of the stream entry that a STORE is writing, flags. -/
structure TileCmd where
  ticket : Nat
  desc   : List Word
  need   : Nat
  asked  : Nat := 0
  out    : List LineReq := []
  got    : Tab TLine := []
  scl    : Tab (List (Nat × Line)) := []
  sbuf   : List Nat := []
  poison : Bool := false
  wfail  : Bool := false
  done   : Bool := false        -- the work is done; a STORE's writes may still be on their way
  deriving DecidableEq, Repr

/-- An address stream FIFO (07 R233, R234; 10 R355). -/
structure StreamF where
  ents : List Word := []
  used : Nat := 0       -- lines consumed of the head entry
  drops : List Nat := []  -- lines still to discard, for each aborted or discarded command (10 R351, R356)
  deriving DecidableEq, Repr

/-- One matrix tile. -/
structure Tile where
  pbuf : Tab PanelBuf := []   -- panel buffers 0 to 2
  cbuf : Tab CBuf := []       -- accumulator buffers 0 and 1
  engB : Option TileCmd := none
  engA : Option TileCmd := none
  engC : Option TileCmd := none
  strA : StreamF := {}
  strB : StreamF := {}
  strC : StreamF := {}
  rnd  : Option Word := none
  draws : Nat := 0
  deriving DecidableEq, Repr

/-! ### Vector and layout engines (08, 09) -/

/-- A running chain instruction: ticket and the status it will complete with (08 R281). -/
structure VecRun where
  ticket : Nat
  status : Nat
  deriving DecidableEq, Repr

/-- The header of an owner table that a view walks (09 R313). -/
structure OwnTab where
  head : Nat            -- address of the header
  no   : Nat            -- table number
  blk  : List Nat
  grid : List Nat
  bstride : List Int
  deriving DecidableEq, Repr

/-- A view, read when its transfer starts (09 R287). -/
structure LView where
  space  : Nat
  scaled : Bool
  fmt    : Nat
  base   : Nat
  ext    : List Nat
  org    : List Int
  stride : List Int
  own    : Option OwnTab := none
  deriving DecidableEq, Repr

/-- An owner entry as a transfer has read it: address of the block, none when it is absent, and OWNER; `moved` when the
block has counted in OWNER_MOVED, `bad` when its read failed (09 R314, R317, R318). -/
structure BlkEnt where
  addr : Option Nat
  owner : Nat := 0
  moved : Bool := false
  bad  : Bool := false
  deriving DecidableEq, Repr

/-- Lines that an engine has read and keeps: space and address, status, data. -/
abbrev Held := List ((Nat × Nat) × Nat × Line)

/-- A transfer that has started and waits for owner tables or its list: ticket, the bytes of its views, the lines it has
read, each of them once (09 R287, R318). -/
structure LayStart where
  ticket : Nat
  src    : Bytes
  dst    : Bytes
  got    : Held := []
  deriving DecidableEq, Repr

/-- A running layout transfer: its views, the coordinates of its list entries (none: skipped), how many
granules have been issued, those outstanding, the owner entries read (key: 65536·table + block), the source lines it keeps,
and the fill granules that class T has counted, by list entry and coordinate. -/
structure LayRun where
  ticket : Nat
  desc   : List Word
  src    : LView
  dst    : LView
  list   : List (Option (List Int))
  next   : Nat := 0
  out    : List Nat := []
  blocks : Tab BlkEnt := []
  got    : Held := []
  fills  : List (Nat × List Int) := []
  poison : Bool := false
  wfail  : Bool := false
  deriving DecidableEq, Repr

/-! ### Sequencer cores, queues and rings (10) -/

/-- The core states of 10 R329. -/
inductive CoreState where
  | unassigned | halted | running | waiting | faulted
  deriving DecidableEq, Repr

/-- Why a core waits (10 R329, 11 R396 WAIT_KIND). -/
inductive CoreWait where
  | flag (form flg : Nat) (v : W32)
  | wfe (rd mask : Nat)
  | fullQueue (q : Nat)
  | fullStream (tile str : Nat)
  deriving DecidableEq, Repr

/-- The sequencer core (10 R327). -/
structure Core where
  st     : CoreState := .unassigned
  pc     : Nat := 0
  regs   : Tab Word := []           -- x1..x31; unlisted registers are zero
  wait   : Option CoreWait := none
  events : BitVec 9 := 0
  cyc    : Nat := 0                 -- sequencer clock edges since assignment (10 R334)
  waitSince : Nat := 0              -- crust time at which the wait began
  stalled : Bool := false           -- a stall event has been raised for this wait (11 R391)
  unfenced : List (Nat × Byte) := []  -- old bytes of instruction SRAM stores before IFENCE
  pushed : Option (Nat × Nat × Word) := none -- the last instruction was a QPUSH: queue, RD, RD's value before (10 R348)
  deriving DecidableEq, Repr

/-- Where a ring entry came from (10 R362, R363). -/
structure RingSrc where
  p   : Nat
  r   : Nat
  seq : Nat
  cpl : Nat
  deriving DecidableEq, Repr

/-- A queue entry (10 R337 to R343). -/
structure QEntry where
  ticket : Nat
  desc   : List Word
  e0     : Word
  e1     : Word
  ring   : Option RingSrc := none
  disp   : Bool := false
  started : Bool := false               -- its engine has taken it (07 R230)
  dropped : Bool := false               -- the lines it must discard are taken off its stream (10 R351)
  lines  : Option Nat := none           -- its stream lines, fixed before a later PANEL replaces its panel (10 R351)
  compl  : Option (Nat × Nat) := none   -- status and detail
  abortReq : Bool := false
  aborting : Option Nat := none         -- status with which a stopped entry will complete
  blockedSince : Option Nat := none
  stalled : Bool := false
  deriving DecidableEq, Repr

/-- A queue: next ticket and the undelivered entries, oldest first. -/
structure Queue where
  next    : Nat := 0
  entries : List QEntry := []
  deriving DecidableEq, Repr

/-- An FQ operation in flight (10 R354). Its parts are named by their first line: those not yet issued, those
not yet answered; then the lines read, the first error response, whether a line it moved carries poison,
whether a write failed, and whether its results have been written. -/
structure FqOp where
  ticket  : Nat
  desc    : List Word
  todo    : List Nat := []
  out     : List Nat := []
  got     : List (Nat × Line × Bool) := []  -- lines read: place in the operation, data, poison
  err     : Option Nat := none
  poison  : Bool := false
  wfail   : Bool := false
  wrote   : Bool := false
  deriving DecidableEq, Repr

/-- A flag-word write of a hearth cycle: its place in the order of 11 R374 (0 core, 1 + q delivery on queue q, 9 signal,
10 management), flag word, SET or ADD, value. -/
structure FlagW where
  rank : Nat
  flg  : Nat
  set_ : Bool
  v    : W32
  deriving DecidableEq, Repr

/-- A hearth cycle of a cluster that still takes flag-word writes: the flag words at its start and its writes in order
(11 R374, R375). -/
structure FlagCycle where
  start  : Tab W32
  writes : List FlagW := []
  deriving DecidableEq, Repr

/-- A cluster: its owner, core, queues, engines, SRAMs and flag words. -/
structure Cluster where
  part   : Option Nat := none
  core   : Core := {}
  queues : Tab Queue := []           -- queues 0 to 7
  tiles  : Tab Tile := []            -- tiles 0 to 3
  flags  : Tab W32 := []
  cycle  : Option FlagCycle := none   -- the hearth cycle whose writes the waits have not yet been evaluated against
  isram  : Tab Byte := []
  dsram  : Tab Byte := []
  csram  : Tab Byte := []
  vec    : Option VecRun := none
  layStart : Option LayStart := none
  vecBlk : Option (Nat × Bytes) := none   -- ticket of the instruction that has started and waits, and its chain block
  vecRnd : Option Word := none
  vecDraws : Nat := 0
  lay    : Option LayRun := none
  fq     : List FqOp := []
  closed : Bool := false             -- queues closed (10 R346)
  deriving DecidableEq, Repr

/-- A submission ring (10 R360 to R366). -/
structure Ring where
  head  : Nat := 0
  tail  : Nat := 0
  stopped : Bool := false
  recs  : List (Nat × Word) := []     -- records to write: partition virtual address and word (10 R363)
  wrote : Bool := false               -- the first of them is on its way
  deriving DecidableEq, Repr

/-! ### Counted signals and dumps (11) -/

/-- A counted signal in its hold slot (11 R385, R397). -/
structure HeldSig where
  tcluster : Nat
  tflag    : Nat
  set_     : Bool
  value    : W32
  count    : Nat
  since    : Nat
  reply    : Option (Nat × Frame)     -- port and request frame to answer; none: a local FQ
  localFq  : Option (Nat × Nat)       -- cluster and ticket of a local sender
  deriving DecidableEq, Repr

/-- An arrival counter (11 R384). -/
structure ArrCtr where
  a    : Nat := 0
  held : Option HeldSig := none
  deriving DecidableEq, Repr

/-! ### Mizor fabric (12) -/

/-- An Ethernet port (12 R399, R400, R414, R415). -/
structure EthPort where
  up     : Bool := false
  paused : BitVec 8 := 0
  pauseEnd : List Nat := []  -- crust time at which each priority's pause ends (12 R415)
  xoff0  : Bool := false
  xoff1  : Bool := false
  deriving DecidableEq, Repr

/-- Whose lines an engine's request moves: a tile port (0 A, 1 B, 2 C), a vector or layout engine, a ring's
fetcher at its cluster, a Sprig job, an FQ operation, a host that writes a part of a line. -/
inductive Agent where
  | tile (c t port : Nat)
  | vec (c : Nat)
  | lay (c : Nat)
  | ring (c p r : Nat)
  | job (n : Nat)
  | fq (c ticket : Nat)
  | host (n : Nat)
  deriving DecidableEq, Repr

/-- What an outstanding request of this module was issued for: an FQ operation's part (first line and
count), a host access, a line read or write of an engine, a replica fill, the steps of a migration (13 R466),
an invalidation (13 R462), a forwarded request (13 R468). -/
inductive ReqSrc where
  | fq (c ticket first n : Nat)
  | host (n dpa : Nat) (read : Bool) (want : HostWant)
  | line (a : Agent) (pva : Nat)
  | wline (a : Agent) (pva bytes : Nat)
  | fill (p loaf off : Nat)
  | claim (p : Nat)
  | copy (p : Nat)
  | handover (p : Nat)
  | publish (p : Nat)
  | inval (round : Nat)
  | forward (n : Nat) (orig : Frame)
  deriving DecidableEq, Repr

/-- A line of an engine that is under way: a remote line that it has asked for, or a request that waits at a stack of this
module over UCIe links (`way`), to write when `wr`. It has an answer when `status` is set (13 R471; 01 R24). -/
structure PoolLine where
  agent  : Agent
  pva    : Nat
  wr     : Bool := false
  way    : List Nat := []
  status : Option Nat := none
  data   : Line := 0
  deriving DecidableEq, Repr

/-- An outstanding fabric request (12 R417, R421, R427). `pva` names the loaf it was translated from. -/
structure Outst where
  id    : Nat
  die   : Nat
  pos   : Nat
  ctr   : Nat           -- 20-bit allocation counter value: GEN and TAG
  sgrp  : Nat
  seq   : Nat
  port  : Nat
  retx  : Nat
  frame : Frame
  src   : ReqSrc
  part  : Nat
  pva   : Nat
  hearth : Option Nat
  way   : List Nat := []   -- UCIe links it crossed to its I/O die (01 R24, R30)
  deriving DecidableEq, Repr

/-- A tag space (12 R409, R410, R426). -/
structure TagSpace where
  ctr   : Nat := 0
  seq0  : Nat := 0
  seq1  : Nat := 0
  path0 : Option (Nat × Nat) := none    -- egress port and DST_PORT
  path1 : Option (Nat × Nat) := none
  via0  : Option (Option Nat) := none   -- the stream has carried a frame: the hearth die that restricts D (12 R410, R411)
  via1  : Option (Option Nat) := none
  quar  : List Nat := []                -- tags in quarantine
  deriving DecidableEq, Repr

/-- A request that waits in its I/O die for a credit, a tag or a tag space (12 R417, R426). -/
structure Waiting where
  id    : Nat
  hearth : Option Nat    -- hearth die of the origin; none: an I/O die's own request
  die   : Nat            -- the I/O die of a request that has no hearth die
  pos   : Nat
  sgrp  : Nat
  frame : Frame
  src   : ReqSrc
  part  : Nat
  pva   : Nat
  deriving DecidableEq, Repr

/-- A receive stream (12 R419, R422): expected SEQ, frames held, and the SEQ that follows the last frame known to have been
sent: a gap is open while the expected SEQ lies behind it. -/
structure RxStream where
  expect : Nat := 0
  held   : List (Nat × Frame) := []     -- arrivals beyond the expected SEQ with their port
  tail   : Nat := 0
  deriving DecidableEq, Repr

/-- One value of a replay window (12 R428). -/
structure Seen where
  ctr   : Nat
  done  : Option (Nat × Word)           -- status sent (0 for COMPLETION) and ATOMIC's old value
  redirect : Option Word := none        -- ARG0 when the response was a REDIRECT
  dups  : List (Nat × Frame) := []
  deriving DecidableEq, Repr

/-- A replay window (12 R428). -/
structure Replay where
  die  : Nat            -- the I/O die that holds it
  high : Nat
  seen : List Seen
  deriving DecidableEq, Repr

/-- A join message being gathered (12 R434). -/
structure Frag where
  msgId : Nat
  op    : Nat
  total : Nat
  parts : Tab Bytes
  since : Nat
  deriving DecidableEq, Repr

/-- A PFC frame sent: port, priority, pause time in quanta (12 R414). -/
structure PfcOut where
  port   : Nat
  prio   : Nat
  quanta : Nat
  deriving DecidableEq, Repr

/-- Deficit round robin of an I/O die within a service class: the partition whose turn it is, and what each may still send,
in bytes (15 R510). -/
structure Drr where
  turn    : Nat := 0
  deficit : Tab Nat := []
  deriving DecidableEq, Repr

/-- The fabric side of the module. -/
structure Fabric where
  ports   : Tab EthPort := []
  peers   : Tab (BitVec 24) := []       -- last PORTS_UP of each peer position (12 R410, R430)
  active  : Tab Nat := []               -- last exchange with a peer, key as spaces (12 R430)
  spaces  : Tab TagSpace := []          -- key: die * 2^20 + position
  outst   : List Outst := []
  waiting : List Waiting := []
  routes  : Tab Nat := []               -- I/O die by hearth die (4: none), position and SGRP (12 R410)
  dead    : List (ReqSrc × Nat) := []   -- requests that completed at once, with their status (12 R436)
  txq     : List (Nat × Frame) := []    -- frames of paused priorities, oldest first (12 R415)
  pool    : List PoolLine := []
  fails   : List (Agent × Nat) := []    -- engines of which a remote write met an error response, with its status
  rx      : Tab RxStream := []          -- key: (position * 8 + die) * 2 + sgrp
  replay  : Tab Replay := []            -- key: position * 8 + die
  sent    : List (Nat × Frame) := []    -- frames transmitted, newest first
  lldp    : List (Nat × BitVec 48) := []  -- LLDPDUs transmitted, newest first: port, MAC address as port ID
  pfcSent : List PfcOut := []           -- newest first
  drr     : Tab Drr := []               -- key: die * 4 + class
  members : Tab Word := []              -- member records by position (12 R432)
  frags   : List Frag := []
  incarnation : W32 := 1
  leaving : Bool := false
  left    : Bool := false
  nextReq : Nat := 0
  deriving DecidableEq, Repr

/-! ### Placement (13) -/

/-- A replica entry of a partition (13 R461): lines that have arrived, and whether it may be used. -/
structure Replica where
  slot    : Nat
  arrived : List Nat := []
  usable  : Bool := false
  broken  : Bool := false
  deriving DecidableEq, Repr

/-- A request held by a home record, a Sprig job, a quiesce, or a back-invalidation (13 R449, 05 R185,
15 R511, 14 R487): a frame with the port it came on, a host access, or a
request of this module to a home here. -/
inductive HeldReq where
  | frame (port : Nat) (f : Frame)
  | hostRead (n dpa : Nat) (want : HostWant)
  | hostWrite (n dpa : Nat) (data : Line) (mask : BitVec 64) (poison : Bool)
  | own (src : ReqSrc) (part pva : Nat) (f : Frame)
  deriving DecidableEq, Repr

/-- A migration of a partition (13 R465, R466). -/
structure Mig where
  loaf   : Nat
  loff   : Nat
  tpos   : Nat
  tloff  : Nat
  epoch  : Nat
  step   : Nat := 1        -- steps of R466
  early  : List HeldReq := []  -- writes to the loaf that were held when it froze (13 R466)
  since  : Nat := 0
  deriving DecidableEq, Repr

/-- An invalidation round (13 R462). -/
structure InvRound where
  id     : Nat
  loff   : Nat
  writes : List (Nat × Frame × Nat × Word)  -- requests to answer: port, frame, status, old value
  agents : List Agent                  -- engines of this module that wait
  hosts  : List (Nat × Nat × Nat)      -- host writes that wait: port, device address, status
  owns   : List (ReqSrc × Frame × Nat × Word) := []  -- own requests that wait: frame, status, old value
  deriving DecidableEq, Repr

/-- Placement state. -/
structure Place where
  leaves : Tab Word := []              -- key: partition * 2^35 + loaf number
  dirs   : Tab Nat := []               -- key: partition * 2^17 + bits [55:39]: leaf frame
  home   : Tab Word := []              -- home records by linear bits [40:21]
  owned  : Tab Nat := []               -- crust time at which the loaf became OWNED here
  retired : List Nat := []             -- retired loafs, non-volatile (13 R473)
  stage  : Tab (List (Word × Word)) := []
  pcache : Tab (List Nat) := []        -- key: die * 2048 + set; tags, most recent first
  replicas : Tab Replica := []         -- key as leaves
  migs   : Tab Mig := []               -- by partition
  incoming : Tab Nat := []             -- INCOMING records: position of the old home
  held   : List HeldReq := []
  rounds : List InvRound := []
  nextRound : Nat := 0
  deriving DecidableEq, Repr

/-! ### CXL host ports (14) -/

/-- An event record of a CXL port (14 R484, R550): status or kind, device address, window, timestamp. -/
structure EvRec where
  status : Nat
  dpa    : Nat
  window : Nat
  stamp  : Word
  deriving DecidableEq, Repr

/-- A line tracked for the host (14 R486): home linear offset, state E, partition. -/
structure Tracked where
  lin  : Nat
  excl : Bool
  part : Nat
  pend : Option Bool := none     -- back-invalidation sent: true BISnpInv, false BISnpData
  deriving DecidableEq, Repr

/-- A completion sent to the host: device address, data, poison, granted metastate (14 R482, R486). -/
structure HostResp where
  dpa    : Nat
  read   : Bool
  data   : Line
  poison : Bool
  grant  : HostWant
  deriving DecidableEq, Repr

/-- A mailbox response: return code (0 success, 1 unsupported, 2 invalid input) and payload words. -/
structure MbResp where
  code : Nat
  data : List Nat
  deriving DecidableEq, Repr

/-- The DVSECs of a port with their values (14 R490). -/
inductive Dvsec where
  | cxlDevice (cacheCapable ioCapable memCapable memHwInitMode : Bool) (hdmCount : Nat) (viralCapable : Bool)
  | gpfDevice (phase2Duration phase2PowerMw : Nat)
  | flexBusPort (io mem cache flit68 : Bool)
  | registerLocator (componentBar componentOffset deviceBar deviceOffset : Nat)
  deriving DecidableEq, Repr

/-- DVSEC ID (14 R490). -/
def Dvsec.id : Dvsec → Nat
  | .cxlDevice .. => 0
  | .gpfDevice .. => 5
  | .flexBusPort .. => 7
  | .registerLocator .. => 8

/-- DVSEC vendor ID, of every one of them. -/
def dvsecVendor : Nat := 0x1E98

/-- The PCIe function that a port presents: vendor and device ID, BARs by number and size in bytes, DVSECs (14 R489,
R490). No command writes it. -/
structure PcieFn where
  vendor : Nat := 0x1F3D
  device : Nat := 0x5516
  bars   : List (Nat × Nat) := [(0, 128 * 2 ^ 10), (2, 128 * 2 ^ 20), (4, 64 * 2 ^ 10)]
  dvsecs : List Dvsec := [
    .cxlDevice false true true false 0 false,
    .gpfDevice 0 0,
    .flexBusPort true true false false,
    .registerLocator 0 0 0 0x10000]
  deriving DecidableEq, Repr

/-- A CXL host port. -/
structure CxlPort where
  fn       : PcieFn := {}
  link     : Nat := 0
  perst    : Bool := false
  refclk   : Bool := false
  noTrack  : Bool := false         -- BI_FAILED in force until conventional reset (14 R488)
  tracked  : List Tracked := []    -- oldest grant first
  decoders : BitVec 16 := 0
  decErr   : BitVec 16 := 0
  info     : List EvRec := []
  failure  : List EvRec := []
  vendor   : List EvRec := []
  stamp    : Word := 0
  poisonList : List Nat := []
  msix     : List Nat := []        -- MSI-X vectors signalled, newest first
  resps    : List HostResp := []   -- newest first
  mbox     : List MbResp := []     -- newest first
  snoops   : List (Nat × Bool) := []  -- BISnp sent: linear offset, Inv
  ur       : Nat := 0              -- Unsupported Request completions and errors (15 R518)
  deriving DecidableEq, Repr

/-! ### Dictionary, partitions, sessions (15, 17) -/

/-- The states of a configuration set (15 R504). -/
inductive CfgSt where
  | idle | pending | applying | failed
  deriving DecidableEq, Repr

/-- A configuration set (15 R503 to R506). -/
structure CfgSet where
  st      : CfgSt := .idle
  version : Nat := 0
  prevVer : Option Nat := none
  prev    : Tab Word := []
  prevBlob : Tab Bytes := []
  fail    : Nat := 0
  deriving DecidableEq, Repr

/-- A write that waits for its boundary (15 R501). -/
structure Pend where
  set_ : Nat             -- partition 0..15, 16 for the module set
  cls  : Nat             -- apply class: 1 REF, 2 QSC, 3 EPO, 4 RST
  key  : Nat
  val  : Word
  blob : Option Bytes
  todo : BitVec 16       -- stacks that have still to take a REF value (15 R501, 03 R629)
  deriving DecidableEq, Repr

/-- An indirect window (15 R525 to R527). -/
structure Win where
  addr   : Word := 0
  off    : Nat := 0
  blob   : Option Bytes := none
  status : Nat := 0
  lastErr : Word := 0
  deriving DecidableEq, Repr

/-- A partition at run time (15 R507, R511). -/
structure Part where
  st      : Nat := 0         -- 0 UNUSED, 1 QUIESCING, 2 ACTIVE
  fromUnused : Bool := false
  filling : Bool := false
  limited : Bool := false    -- the drain limit has passed
  discards : Nat := 0        -- entries completed DISCARDED by the running quiesce
  changed : Bool := false    -- the running apply has put pending writes into force
  dumpAt  : Option Nat := none
  deriving DecidableEq, Repr

/-- A management session (17 R590 to R592; 15 R522). -/
structure Session where
  path  : Nat
  role  : Nat
  sid   : Nat
  key   : Bytes
  seq   : Nat
  last  : Nat                -- crust time of the last valid message
  stored : Option CrumbMsg
  deriving DecidableEq, Repr

/-- A CHALLENGE that waits for its CONFIRM (17 R591, R592). -/
structure Chal where
  sid  : Nat
  mctp : Bool
  role : Nat
  nc   : Bytes
  nm   : Bytes
  since : Nat
  deriving DecidableEq, Repr

/-- Authentication state of one path family (17 R592). -/
structure AuthLim where
  fails   : List Nat := []
  limited : Option Nat := none
  deriving DecidableEq, Repr

/-- What the module has sent on a management path. -/
inductive MgmtOut where
  | crumb (path : Nat) (m : CrumbMsg)
  | sess (mctp : Bool) (m : SessMsg)
  | status (path : Nat) (key status : Nat)
  | data (path : Nat) (v : Word)
  deriving DecidableEq, Repr

/-- Management state. -/
structure Mgmt where
  od     : Tab Word := []
  blobs  : Tab Bytes := []
  pend   : List Pend := []
  nv     : Tab Word := []          -- RST entries in the persistent store (15 R502)
  nvBlob : Tab Bytes := []
  sets   : Tab CfgSet := []
  wins   : Tab Win := []
  latch4 : Tab (Nat × W32) := []   -- BAR2 latch: key and low half (15 R517)
  w1done : List Nat := []
  parts  : Tab Part := []
  sessions : List Session := []
  chals  : List Chal := []
  authC  : AuthLim := {}
  authM  : AuthLim := {}
  secrets : Tab Bytes := []
  outs   : List MgmtOut := []      -- newest first
  deriving DecidableEq, Repr

/-! ### Power and temperature (16) -/

/-- A reduction that the governor has applied (16 R544). -/
inductive Red where
  | clock (die : Nat)
  | grant (stk : Nat)
  | duty
  deriving DecidableEq, Repr

/-- Inputs and governors (16 R535 to R550). -/
structure Power where
  aux     : Bool := true
  main    : Bool := false          -- main rails on
  conduct : Bool := false
  good    : Bool := false
  mV      : Nat := 0
  mA      : Nat := 0
  watts   : Nat := 0
  plim    : Nat := 3200
  slewD   : Nat := 16
  govD    : Nat := 16
  freqs   : List Nat := [33, 33, 33, 33]
  pendStep : List (Nat × Nat) := []  -- decided clock steps: die and new frequency (16 R547)
  reds    : List Red := []           -- newest first
  low     : Nat := 0                 -- ticks in a row at least 50 W below PLIM_EFF
  jmState : Nat := 0
  jmTarget : Nat := 0
  jmSince : Nat := 0
  lSeen   : Nat := 3200              -- limit target at the last tick
  jmLim   : Option Nat := none       -- limit below which a fall of L is awaiting grace
  jmOnset : List Nat := []           -- in JM throttle mode, INPUT_POWER as each throttle since the last tick became active
  deriving DecidableEq, Repr

/-- A temperature sensor (16 R551 to R553). -/
structure Sensor where
  mC     : Int := 45000
  peak   : Int := 45000
  code   : Nat := 0
  same   : Nat := 0
  st     : Nat := 1           -- 0 absent, 1 valid, 2 out of range, 3 stuck
  hist   : List Int := []     -- its last 16 valid readings, newest first (16 R562)
  deriving DecidableEq, Repr

/-- A sensor group (16 R552, R554 to R556): key 0-3 hearth dies, 16-31 stacks, 32-37 I/O dies, 48, 49
coolant inlet and outlet. -/
structure Group where
  throttle : Bool := false
  aboveT   : Nat := 0         -- last reading above the throttle threshold less 2 °C
  aboveB   : List Nat := [0, 0, 0]   -- the same for the band boundaries 85, 95, 105 °C
  fast     : Bool := false
  warmAt   : Nat := 0         -- last reading not at least 7 °C below the threshold
  noSensor : Bool := false
  critical : Bool := false
  hot      : Int := 45000
  hots     : List Int := []   -- hottest valid reading of the last 2,000 readings, newest first (16 R553)
  fresh    : Bool := false    -- a throttle became active and PLIM_EFF has not followed it yet (16 R543)
  jm       : Bool := false    -- the throttle is a reason of JM throttle mode (16 R549)
  deriving DecidableEq, Repr

/-- The thermal monitor. -/
structure Thermal where
  sensors : Tab Sensor := []
  groups  : Tab Group := []
  coolCut : Nat := 0          -- watts taken off by the coolant cap
  stopStep : Nat := 0         -- orderly stop: 0 none, else its step (16 R563)
  stopAt  : Nat := 0
  tp      : Option Nat := none
  cross   : Word := 0         -- the critical crossing as CRITICAL_STOP names it (16 R567)
  alert   : Bool := false
  trims   : Nat := 0
  osc     : Tab Int := []     -- by I/O die: what the SerDes reference is off its nominal frequency, in 0.01 ppm (16 R561)
  life    : Tab (Nat × Nat) := []   -- by group: crust time of the last reading, millionths of µs used (16 R566)
  deriving DecidableEq, Repr

/-! ### Crust (17) and pins (18) -/

/-- The service states of 17 R572. -/
inductive Svc where
  | standby | starting | service | test | recovery
  deriving DecidableEq, Repr

/-- A log entry: eight little-endian words L0, L1, W0 to W5 (17 R596, R597). -/
structure LogEnt where
  words : List Word
  deriving DecidableEq, Repr

/-- A firmware slot (17 R580, R581). -/
structure FwSlot where
  st    : Nat := 0
  tried : Bool := false
  img   : Bytes := []
  svn   : Nat := 0
  build : Word := 0
  deriving DecidableEq, Repr

/-- Firmware, measurements, attestation (17 R580 to R589). -/
structure Trust where
  slots   : List FwSlot := [{ st := 3 }, {}]
  running : Nat := 0
  fuseSvn : Nat := 0
  revoked : BitVec 4 := 0
  upd     : Nat := 0
  starter : Bool := false         -- the starter's recovery service runs (17 R582)
  meas    : List Bytes := List.replicate 6 (List.replicate 64 0)
  attSt   : Nat := 0
  nonce   : Bytes := []
  report  : Bytes := []
  joinNonce : Option Bytes := none
  tested  : Bool := false
  moved   : Bool := false
  deriving DecidableEq, Repr

/-- Test state (17 R594, R595). -/
structure Test where
  power : Nat := 0
  step  : Nat := 0
  mtest : Tab Nat := []           -- MTEST_STATE
  patt  : Tab (Nat × Nat) := []   -- pattern and passes of the running test
  bist  : Nat := 0
  bistTile : Nat := 0
  deriving DecidableEq, Repr

/-- The crust's own state. -/
structure Crust where
  time    : Nat := 0
  svc     : Svc := .standby
  boot    : Nat := 1
  resets  : Nat := 0
  lastReset : Nat := 1
  log     : List LogEnt := []     -- volatile ring, oldest first
  logSeq  : Nat := 0
  plog    : List LogEnt := []     -- persistent ring, oldest first
  plogNext : Nat := 0
  straps  : BitVec 24 := 0x000101
  strapsRec : BitVec 24 := 0x000101
  modReset : Bool := false        -- MOD_RESET_N asserted
  startHeld : Bool := false       -- a start failed: the next one needs a START write (17 R579)
  resetting : Nat := 0            -- 0 none, 1 module reset, 2 preserving reset under way
  limit   : Tab Nat := []         -- last log time of rate-limited events
  counts  : Tab Nat := []         -- events since the last entry of a rate-limited event
  deriving DecidableEq, Repr

/-- UCIe links (01 R21 to R25): link `4*d + h` joins I/O die d and hearth die h; link `64 + 4*a + b`
(a < b) joins hearth dies a and b. -/
structure Links where
  down : List Nat := []
  switching : List Nat := []      -- links lost whose senders have not yet taken their new routes
  deriving DecidableEq, Repr

/-- The stack side of the module. -/
structure Mem where
  dram    : Tab Column := []      -- key: (mbn * 32784 + physical row) * 64 + column
  stkc    : Tab StackC := []
  chans   : Tab Chan := []        -- key: 64 * stack + stack channel number
  banks   : Tab Bank := []        -- key: module bank number
  reqs    : List PortReq := []
  resps   : List Resp := []       -- newest first
  mrrs    : List (Nat × W32) := []  -- mode register values returned, newest first
  bursts  : List (Nat × Column) := []  -- bursts returned by SPRIG_DRAIN and SPRIG_STATUS: bank
  nextId  : Nat := 0
  spares  : List Spare := []
  rowCe   : Tab (List Nat) := []  -- key: mbn * 32768 + row: crust times of corrected errors
  spareReq : List (Nat × Nat) := []
  failed  : List (Nat × Nat) := []  -- bank and row of the rows that found no free spare (13 R473)
  jobs    : Tab Job := []         -- key: 2^32 * cluster + KQ ticket
  fenced  : BitVec 16 := 0
  scrubBase : Nat := 0            -- crust time at which the stacks started, from which scrub's schedule counts (03 R110)
  deriving DecidableEq, Repr

/-- The tables of the main domains as the crust's last copies have them, once their rails are off (15 R528). -/
structure Copies where
  svc      : Svc
  mem      : Tab StackC × Tab Chan
  clusters : Tab Cluster
  rings    : Tab Ring
  ports    : Tab EthPort
  cxl      : Tab CxlPort
  parts    : Tab Part
  deriving DecidableEq, Repr

/-- The state of the module. -/
structure State where
  pending  : List Instr := []     -- commands that wait, first in first out
  free     : Nat := 0             -- the MODEL's own field: the next free value's number (log entry 1)
  build    : Build
  crust    : Crust := {}
  trust    : Trust := {}
  test     : Test := {}
  mgmt     : Mgmt := {}
  links    : Links := {}
  mem      : Mem := {}
  clusters : Tab Cluster := []
  rings    : Tab Ring := []       -- key: 16 * partition + ring
  arr      : Tab ArrCtr := []     -- key: position * 64 + sender cluster
  dumps    : Tab Bytes := []      -- LAST_DUMP by partition
  fab      : Fabric := {}
  place    : Place := {}
  cxl      : Tab CxlPort := []
  power    : Power := {}
  therm    : Thermal := {}
  copies   : Option Copies := none  -- of the domains that have stopped (15 R528)
  deriving DecidableEq, Repr

/-- The reference part, UB-s16-i4-A (00 R13), which a log entry names as the reset build. -/
def Build.reference : Build where
  fitted := 0xFFFF
  ioDies := 4
  gradeB := false
  tiles := BitVec.allOnes 192
  serial := [85, 66, 45, 49]
  hwRev := 1
  fieldMac := 0x001F3D000001

/-- The module right after a cold start has reached STANDBY (17 R572, R574, R577): every register at its
default, nothing in memory, no command waiting. -/
def State.reset : State where
  build := Build.reference

end Sys2Proof.Machine
end

