-- ==== Sys2Proof/Machine/Ops.lean ====
section
/-! DEFINITION. Named operations over the state's tables, words, counters and log. -/

namespace Sys2Proof

variable {α : Type}

/-- The listed value of a key. -/
def Tab.find : Tab α → Nat → Option α
  | [], _ => none
  | (i, v) :: t, k => if i = k then some v else Tab.find t k

/-- List a value under a key, keeping keys strictly rising. -/
def Tab.put : Tab α → Nat → α → Tab α
  | [], k, v => [(k, v)]
  | (i, w) :: t, k, v =>
    if k < i then (k, v) :: (i, w) :: t
    else if i = k then (k, v) :: t
    else (i, w) :: Tab.put t k v

/-- Drop a key. -/
def Tab.erase : Tab α → Nat → Tab α
  | [], _ => []
  | (i, w) :: t, k => if i = k then Tab.erase t k else (i, w) :: Tab.erase t k

/-- The value of a key in a table whose unlisted keys read as `d`. -/
def Tab.get (d : α) (t : Tab α) (k : Nat) : α := (Tab.find t k).getD d

/-- Write a key, keeping the canonical form: a value equal to the default is not listed. -/
def Tab.set [DecidableEq α] (d : α) (t : Tab α) (k : Nat) (v : α) : Tab α :=
  if v = d then Tab.erase t k else Tab.put t k v

/-- Change every listed value of a table. -/
def Tab.mapV (f : α → α) (t : Tab α) : Tab α := t.map fun kv => (kv.1, f kv.2)

/-- Keys strictly rise. -/
def Tab.rising : Tab α → Bool
  | [] => true
  | [_] => true
  | (i, _) :: (j, w) :: t => decide (i < j) && Tab.rising ((j, w) :: t)

/-- The canonical form of a table with default `d`. -/
def Tab.wf [DecidableEq α] (d : α) (t : Tab α) : Bool :=
  Tab.rising t && t.all fun e => decide (e.2 ≠ d)

/-- A word made of fields: low bit and value of each (00 R16). -/
def packNat (fs : List (Nat × Nat)) : Nat := (fs.map fun f => f.2 * 2 ^ f.1).sum

/-- The same as a 64-bit word. -/
def pack (fs : List (Nat × Nat)) : Word := BitVec.ofNat 64 (packNat fs)

/-- Bits `[hi:lo]` of a number. -/
def nbits (n hi lo : Nat) : Nat := (n >>> lo) % 2 ^ (hi + 1 - lo)

/-- A natural number as `n` little-endian bytes (00 R17). -/
def leBytes : Nat → Nat → Bytes
  | 0, _ => []
  | n + 1, v => BitVec.ofNat 8 v :: leBytes n (v / 256)

/-- Little-endian bytes as a number. -/
def ofLeBytes : Bytes → Nat
  | [] => 0
  | b :: bs => b.toNat + 256 * ofLeBytes bs

/-- A byte string cut into lists of `n` bytes, `k` of them. -/
def chunks (n : Nat) : Nat → Bytes → List Bytes
  | 0, _ => []
  | k + 1, bs => bs.take n :: chunks n k (bs.drop n)

/-- Bytes as little-endian 64-bit words. -/
def wordsOfBytes (bs : Bytes) : List Word :=
  (chunks 8 ((bs.length + 7) / 8) bs).map fun c => BitVec.ofNat 64 (ofLeBytes c)

/-- Words as little-endian bytes. -/
def bytesOfWords (ws : List Word) : Bytes := ws.flatMap fun w => leBytes 8 w.toNat

/-- A sum modulo `2^w`, as every wrapping counter of the dictionary counts. -/
def wrapAdd (w n k : Nat) : Nat := (n + k) % 2 ^ w

/-- The smaller of a value and a bound, for saturating counts. -/
def sat (w n : Nat) : Nat := min n (2 ^ w - 1)

/-- One step of CRC-16 with polynomial 0x1021 (17 R597). -/
def crcBit (c : Nat) : Nat :=
  if c / 0x8000 % 2 = 1 then (c * 2 % 0x10000) ^^^ 0x1021 else c * 2 % 0x10000

def crcByte (c : Nat) (b : Byte) : Nat := Nat.repeat crcBit 8 (c ^^^ (b.toNat * 256))

/-- CRC-16 over bytes with initial value 0xFFFF (17 R597). -/
def crc16 (bs : Bytes) : Nat := bs.foldl crcByte 0xFFFF

/-- Replace element `i` of a list. -/
def setAt (l : List α) (i : Nat) (v : α) : List α := l.set i v

/-- The first `n` numbers. -/
def upTo (n : Nat) : List Nat := List.range n

namespace Machine

/-- What the model answers: a next state or a stop. -/
abbrev Out := Host.Outcome State Fault Refusal

/-- The effect `s'` of a command that is carried out in `s`, but for the queue and what the module is built of, which
are no command's to change. -/
def keep (s s' : State) : State := { s' with build := s.build, pending := s.pending }

/-- The answer of a command that is carried out in `s` and has the effect `s'`. -/
def go (s s' : State) : Out := .next (keep s s')

/-- A command that is taken only while `c` holds; otherwise nothing happens (log entry 11). -/
def when' (c : Bool) (s s' : State) : Out := if c then go s s' else .next s

/-- A command that names a unit: one that the build does not fit has no effect (00 R5, R6; log entry 12). -/
def ifUnit (s : State) (c : Bool) (o : Out) : Out := if c then o else .next s

/-- Take the next free value's number (log entry 1). -/
def State.draw (s : State) : State := { s with free := s.free + 1 }

/-! ### The build -/

/-- Stack position `n` is fitted (00 R5). -/
def State.fitted (s : State) (n : Nat) : Bool := decide (n < 16) && s.build.fitted.getLsbD n

/-- Stack `n` is fenced (17 R579). -/
def State.fenced (s : State) (n : Nat) : Bool := s.mem.fenced.getLsbD n

/-- Ethernet port `n` is fitted: four on each I/O die (00 R6). -/
def State.ethFitted (s : State) (n : Nat) : Bool := decide (n < 4 * s.build.ioDies)

/-- CXL port `n` is fitted: one on each I/O die (00 R6). -/
def State.cxlFitted (s : State) (n : Nat) : Bool := decide (n < s.build.ioDies)

/-- Sensor `n` exists (16 R551). -/
def State.sensorFitted (s : State) (n : Nat) : Bool :=
  decide (n < 0x20)
    || (decide (0x100 ≤ n) && decide (n < 0x200) && s.fitted ((n - 0x100) / 16))
    || (decide (0x200 ≤ n) && decide (n < 0x200 + 4 * s.build.ioDies))
    || n == 0x300 || n == 0x301 || (decide (0x310 ≤ n) && decide (n < 0x320))

/-- Tile `n` is present (07 R222). -/
def State.tilePresent (s : State) (n : Nat) : Bool := s.build.tiles.getLsbD n

def bitCount (n : Nat) : Nat → Nat
  | 0 => 0
  | k + 1 => (if n.testBit k then 1 else 0) + bitCount n k

/-- Fitted stacks. -/
def State.stackCount (s : State) : Nat := bitCount s.build.fitted.toNat 16

/-- The variant's maximum sustained input power in W (00 R8). -/
def State.maxPower (s : State) : Nat :=
  if s.stackCount = 8 then 1900 else if s.stackCount = 12 then 2700
  else if s.build.ioDies = 6 then 3500 else 3200

/-- The bus position of a stack and channel among `Chan` keys. -/
def chanKey (stk ch : Nat) : Nat := 64 * stk + ch

/-! ### Access to the numbered instances -/

def State.bank (s : State) (b : Nat) : Bank := Tab.get {} s.mem.banks b
def State.chan (s : State) (k : Nat) : Chan := Tab.get {} s.mem.chans k
def State.stk (s : State) (n : Nat) : StackC := Tab.get {} s.mem.stkc n
def State.cluster (s : State) (c : Nat) : Cluster := Tab.get {} s.clusters c
def State.port (s : State) (n : Nat) : EthPort := Tab.get {} s.fab.ports n
def State.cport (s : State) (n : Nat) : CxlPort := Tab.get {} s.cxl n
def State.part (s : State) (p : Nat) : Part := Tab.get {} s.mgmt.parts p
def State.cfgSet (s : State) (p : Nat) : CfgSet := Tab.get {} s.mgmt.sets p
def State.ring (s : State) (k : Nat) : Ring := Tab.get {} s.rings k

def State.setMem (s : State) (m : Mem) : State := { s with mem := m }
def State.setBank (s : State) (b : Nat) (v : Bank) : State :=
  { s with mem := { s.mem with banks := Tab.set {} s.mem.banks b v } }
def State.setChan (s : State) (k : Nat) (v : Chan) : State :=
  { s with mem := { s.mem with chans := Tab.set {} s.mem.chans k v } }
def State.setStk (s : State) (n : Nat) (v : StackC) : State :=
  { s with mem := { s.mem with stkc := Tab.set {} s.mem.stkc n v } }
def State.setCluster (s : State) (c : Nat) (v : Cluster) : State :=
  { s with clusters := Tab.set {} s.clusters c v }
def State.setPort (s : State) (n : Nat) (v : EthPort) : State :=
  { s with fab := { s.fab with ports := Tab.set {} s.fab.ports n v } }
def State.setCport (s : State) (n : Nat) (v : CxlPort) : State := { s with cxl := Tab.set {} s.cxl n v }
def State.setPart (s : State) (p : Nat) (v : Part) : State :=
  { s with mgmt := { s.mgmt with parts := Tab.set {} s.mgmt.parts p v } }
def State.setCfgSet (s : State) (p : Nat) (v : CfgSet) : State :=
  { s with mgmt := { s.mgmt with sets := Tab.set {} s.mgmt.sets p v } }
def State.setRing (s : State) (k : Nat) (v : Ring) : State := { s with rings := Tab.set {} s.rings k v }

def State.modBank (s : State) (b : Nat) (f : Bank → Bank) : State := s.setBank b (f (s.bank b))
def State.modChan (s : State) (k : Nat) (f : Chan → Chan) : State := s.setChan k (f (s.chan k))
def State.modStk (s : State) (n : Nat) (f : StackC → StackC) : State := s.setStk n (f (s.stk n))
def State.modCluster (s : State) (c : Nat) (f : Cluster → Cluster) : State := s.setCluster c (f (s.cluster c))
def State.modPort (s : State) (n : Nat) (f : EthPort → EthPort) : State := s.setPort n (f (s.port n))
def State.modCport (s : State) (n : Nat) (f : CxlPort → CxlPort) : State := s.setCport n (f (s.cport n))
def State.modPart (s : State) (p : Nat) (f : Part → Part) : State := s.setPart p (f (s.part p))

/-- A tile of a cluster. -/
def Cluster.tile (k : Cluster) (t : Nat) : Tile := Tab.get {} k.tiles t
def State.modTile (s : State) (c t : Nat) (f : Tile → Tile) : State :=
  s.modCluster c fun k => { k with tiles := Tab.set {} k.tiles t (f (k.tile t)) }

/-- A queue of a cluster (10 R337). -/
def Cluster.queue (k : Cluster) (q : Nat) : Queue := Tab.get {} k.queues q
def State.modQueue (s : State) (c q : Nat) (f : Queue → Queue) : State :=
  s.modCluster c fun k => { k with queues := Tab.set {} k.queues q (f (k.queue q)) }

/-! ### Dictionary values -/

/-- The key of entry OD *iiii.ss*. -/
def odKey (index sub : Nat) : Nat := index * 256 + sub

/-- A hardware counter of the dictionary: default zero. -/
def State.ctr (s : State) (index sub : Nat) : Nat := (Tab.get 0 s.mgmt.od (odKey index sub)).toNat

/-- Store a counter or another read-only value. -/
def State.setCtr (s : State) (index sub v : Nat) : State :=
  { s with mgmt := { s.mgmt with od := Tab.set 0 s.mgmt.od (odKey index sub) (BitVec.ofNat 64 v) } }

/-- Count `n` more on a counter that wraps at `w` bits. -/
def State.bump (s : State) (index sub : Nat) (n : Nat := 1) (w : Nat := 64) : State :=
  s.setCtr index sub (wrapAdd w (s.ctr index sub) n)

/-! ### The log (17 R596, R597) -/

/-- Events whose PERSIST bit is set (17 R596). -/
def persistEvent (e : Nat) : Bool :=
  (decide (1 ≤ e) && decide (e ≤ 6)) || e == 0x31 || e == 0x62 || e == 0x56 || e == 0x71
    || (decide (0x77 ≤ e) && decide (e ≤ 0x7A)) || (decide (0x81 ≤ e) && decide (e ≤ 0x8A))

/-- Put an entry at the end of a ring of `n` entries, dropping the oldest. -/
def pushRing (n : Nat) (l : List LogEnt) (e : LogEnt) : List LogEnt :=
  (if l.length < n then l else l.drop 1) ++ [e]

/-- The log entry of payload `ws` = W0 to W5. -/
def logEntry (s : State) (ws : List Word) : LogEnt :=
  let ev := Word.bits (ws.headD 0) 63 56
  let l0 := pack [(16, s.crust.time % 2 ^ 48), (12, if persistEvent ev then 1 else 0)]
  let l1 := packNat [(32, s.crust.logSeq % 2 ^ 32), (16, s.crust.boot % 2 ^ 16)]
  let pl := (ws ++ List.replicate 6 0).take 6
  { words := l0 :: BitVec.ofNat 64 (l1 + crc16 (bytesOfWords (l0 :: BitVec.ofNat 64 l1 :: pl))) :: pl }

/-- Make a log entry. -/
def State.log (s : State) (ws : List Word) : State :=
  let e := logEntry s ws
  let p := persistEvent (Word.bits (ws.headD 0) 63 56)
  { s with crust := { s.crust with
      log := pushRing 16384 s.crust.log e
      logSeq := s.crust.logSeq + 1
      plog := if p then pushRing 4096 s.crust.plog e else s.crust.plog
      plogNext := if p then s.crust.plogNext + 1 else s.crust.plogNext } }

/-- A rate-limited event (07 R230, 12 R436, 14 R495): at most one entry in any `us` µs for key `k`. The
payload is given the events counted since the last entry, this one included. -/
def State.logLimited (s : State) (us k : Nat) (pl : Nat → List Word) : State :=
  let n := Tab.get 0 s.crust.counts k + 1
  let due := match Tab.find s.crust.limit k with
    | none => true
    | some t => decide (t + us ≤ s.crust.time)
  if due then
    (State.log { s with crust := { s.crust with
      limit := Tab.put s.crust.limit k s.crust.time, counts := Tab.erase s.crust.counts k } } (pl n))
  else { s with crust := { s.crust with counts := Tab.put s.crust.counts k n } }

/-- SERVICE_STATE as OD 1000.0A codes it (15 R533). -/
def Svc.code : Svc → Nat
  | .standby => 0 | .starting => 1 | .service => 2 | .test => 3 | .recovery => 4

/-- A crust event (17 R598). -/
def State.crustEvent (s : State) (code detail value : Nat) (value2 : Word) (path : Nat := 0) (role : Nat := 0) :
    State :=
  s.log [pack [(56, code), (48, detail), (40, s.crust.svc.code), (36, path), (34, role), (0, value % 2 ^ 32)],
    value2]

/-- Change the service state and log it (17 R572, R598). -/
def State.setSvc (s : State) (v : Svc) : State :=
  if s.crust.svc = v then s
  else State.crustEvent { s with crust := { s.crust with svc := v } } 0x83 0 s.crust.svc.code 0

end Machine
end Sys2Proof
end

