-- ==== Sys2Proof/Machine/Ecc.lean ====
section
/-! DEFINITION. Column check bits, poison, and the classification of a column that is read (02 R50 to R52). -/

namespace Sys2Proof.Machine

/-- Multiply by α = 0x02 in GF(2⁸) with the polynomial 0x011D (02 R50). -/
def gfDouble (a : Nat) : Nat := if a / 128 % 2 = 1 then (a * 2 % 256) ^^^ 0x1D else a * 2 % 256

/-- Product in GF(2⁸) by the low `n` bits of `b`. -/
def gfMulN : Nat → Nat → Nat → Nat
  | 0, _, _ => 0
  | n + 1, a, b => (if b % 2 = 1 then a else 0) ^^^ gfMulN n (gfDouble a) (b / 2)

def gfMul (a b : Nat) : Nat := gfMulN 8 a b

/-- α^n. -/
def gfPow2 (n : Nat) : Nat := Nat.repeat gfDouble n 1

/-- A byte has an odd number of set bits. -/
def oddWeight (b : Nat) : Bool := bitCount b 8 % 2 == 1

/-- `u_j`, the `j`-th byte with an odd number of set bits (02 R50). -/
def oddByte (j : Nat) : Nat := if oddWeight (2 * j) then 2 * j else 2 * j + 1

/-- Sum of `u_j` over the set bits of one quarter: its low `n` bits. -/
def quarterSum (q : Nat) : Nat → Nat
  | 0 => 0
  | n + 1 => (if q.testBit n then oddByte n else 0) ^^^ quarterSum q n

/-- The 128 bits of quarter `q`. -/
def quarter (d : Line) (q : Nat) : Nat := nbits d.toNat (128 * q + 127) (128 * q)

/-- Check bytes from the four quarter values: byte k is Σ α^(kq)·v_q. -/
def checkOf (v0 v1 v2 v3 : Nat) : W32 :=
  let c (k : Nat) := v0 ^^^ gfMul (gfPow2 k) v1 ^^^ gfMul (gfPow2 (2 * k)) v2 ^^^ gfMul (gfPow2 (3 * k)) v3
  BitVec.ofNat 32 (packNat [(0, c 0), (8, c 1), (16, c 2), (24, c 3)])

/-- The check field of a clean column (02 R50). -/
def eccEncode (d : Line) : W32 :=
  checkOf (quarterSum (quarter d 0) 128) (quarterSum (quarter d 1) 128)
    (quarterSum (quarter d 2) 128) (quarterSum (quarter d 3) 128)

/-- The poison pattern P (02 R51). -/
def poisonPattern : W32 := 0x95FF1100

/-- A column stored clean. -/
def cleanCol (d : Line) : Column := { data := d, check := eccEncode d }
/-- A column stored poisoned (02 R51). -/
def poisonCol (d : Line) : Column := { data := d, check := eccEncode d ^^^ poisonPattern }
/-- A column stored clean or poisoned. -/
def storeCol (d : Line) (p : Bool) : Column := if p then poisonCol d else cleanCol d

/-- The inverse of the matrix α^(kq): `e_q` from the syndrome bytes (02 R52). -/
def eSolve (q : Nat) (s : W32) : Nat :=
  let row : List Nat := match q with
    | 0 => [0x2B, 0xB7, 0xE4, 0x79]
    | 1 => [0xB7, 0x21, 0x4, 0x92]
    | 2 => [0xE4, 0x4, 0xA9, 0x49]
    | _ => [0x79, 0x92, 0x49, 0xA2]
  (row.zipIdx.map fun ck => gfMul ck.1 (nbits s.toNat (8 * ck.2 + 7) (8 * ck.2))).foldl (· ^^^ ·) 0

/-- Every `e_q` is 0 or has an odd number of set bits (02 R52 case 4). -/
def eOdd (s : W32) : Bool := (upTo 4).all fun q => eSolve q s == 0 || oddWeight (eSolve q s)

/-- Exactly one bit of a check field is set. -/
def oneBit (s : W32) : Bool := bitCount s.toNat 32 == 1

/-- The data bits that case 4 flips. -/
def flipMask (s : W32) : Line :=
  BitVec.ofNat 512 <| packNat <| (upTo 4).map fun q =>
    (128 * q, if eSolve q s == 0 then 0 else 2 ^ (eSolve q s / 2))

/-- Bit q: e_q is not zero. -/
def quartersOf (s : W32) : Nat := packNat <| (upTo 4).map fun q => (q, if eSolve q s == 0 then 0 else 1)

/-- What a reader learns of a column: the case, the data (corrected), whether it is poisoned, whether a
corrected error counts, the syndrome, and QUARTERS of 03 R112. -/
structure EccOut where
  cse    : Nat
  data   : Line
  poison : Bool
  ce     : Bool
  synd   : W32
  quarters : Nat
  deriving DecidableEq, Repr

/-- Classify a column by the first case that applies (02 R52). -/
def eccRead (c : Column) : EccOut :=
  let s := c.check ^^^ eccEncode c.data
  let sp := s ^^^ poisonPattern
  if s = 0 then ⟨1, c.data, false, false, s, 0⟩
  else if sp = 0 then ⟨2, c.data, true, false, s, 0⟩
  else if oneBit s then ⟨3, c.data, false, true, s, 0⟩
  else if eOdd s then ⟨4, c.data ^^^ flipMask s, false, true, s, quartersOf s⟩
  else if oneBit sp then ⟨5, c.data, true, true, s, 0⟩
  else if eOdd sp then ⟨5, c.data ^^^ flipMask sp, true, true, s, quartersOf sp⟩
  else ⟨6, c.data, false, false, s, quartersOf s⟩

/-- The column is uncorrectable. -/
def EccOut.ue (o : EccOut) : Bool := o.cse == 6
/-- The reader gets no good data. -/
def EccOut.bad (o : EccOut) : Bool := o.poison || o.ue

end Sys2Proof.Machine
end

