-- ==== Sys2Proof/Machine/Float.lean ====
section
/-! DEFINITION. The element formats, exact arithmetic and the roundings of 06. -/

namespace Sys2Proof.Machine

/-- A number as the engines see it: NaN, an infinity, or ±m·2^e (06 R197). `fin neg 0 e` is ±0. -/
inductive FV where
  | nan
  | inf (neg : Bool)
  | fin (neg : Bool) (m : Nat) (e : Int)
  deriving DecidableEq, Repr

/-- A floating-point format (06 R196): mantissa bits, exponent of the smallest subnormal's unit, sign bit,
largest finite code, whether it has Inf and NaN, their codes. -/
structure Fmt where
  man  : Nat
  emin : Int
  sign : Nat
  maxc : Nat
  inf? : Bool
  infc : Nat
  nan? : Bool
  nanc : Nat
  deriving DecidableEq, Repr

/-- The formats by Sprig format code; INT8 (code 4) is not among them. -/
def fmtOf : Nat → Fmt
  | 0 => ⟨1, -1, 3, 0x7, false, 0, false, 0⟩
  | 1 => ⟨2, -4, 5, 0x1F, false, 0, false, 0⟩
  | 2 => ⟨3, -9, 7, 0x7E, false, 0, true, 0x7F⟩
  | 3 => ⟨2, -16, 7, 0x7B, true, 0x7C, true, 0x7E⟩
  | 5 => ⟨7, -133, 15, 0x7F7F, true, 0x7F80, true, 0x7FC0⟩
  | 6 => ⟨10, -24, 15, 0x7BFF, true, 0x7C00, true, 0x7E00⟩
  | _ => ⟨23, -149, 31, 0x7F7FFFFF, true, 0x7F800000, true, 0x7FC00000⟩

/-- Element width in bits and elements per column (04 R120). -/
def fmtBits : Nat → Nat
  | 0 => 4 | 1 => 6 | 2 => 8 | 3 => 8 | 4 => 8 | 5 => 16 | 6 => 16 | _ => 32
def fmtElems : Nat → Nat
  | 0 => 128 | 1 => 64 | 2 => 64 | 3 => 64 | 4 => 64 | 5 => 32 | 6 => 32 | _ => 16

/-- The value of a format's code (06 R196, R197). -/
def fpDecode (f : Fmt) (c : Nat) : FV :=
  let neg := c.testBit f.sign
  let mag := c % 2 ^ f.sign
  if f.inf? && mag == f.infc then .inf neg
  else if f.nan? && decide (mag > f.maxc) then .nan
  else
    let ex := mag / 2 ^ f.man
    let m := mag % 2 ^ f.man
    if ex = 0 then .fin neg m f.emin else .fin neg (2 ^ f.man + m) (f.emin + (ex : Int) - 1)

/-- The value of element code `c` in the format with Sprig code `k`; INT8 is two's complement. -/
def decodeElem (k c : Nat) : FV :=
  if k = 4 then (if c % 256 ≥ 128 then .fin true (256 - c % 256) 0 else .fin false (c % 256) 0)
  else fpDecode (fmtOf k) c

/-- The rounding modes of 06 R212; a stochastic rounding carries its 16-bit draw. -/
inductive Rnd where
  | nearest
  | stochastic (draw : Nat)
  | zero
  deriving DecidableEq, Repr

/-- Round m·2^(-sh) to an integer. -/
def roundShift (r : Rnd) (m sh : Nat) : Nat :=
  let a := m >>> sh
  let rem := m % 2 ^ sh
  match r with
  | .zero => a
  | .nearest =>
    if 2 * rem > 2 ^ sh || (2 * rem == 2 ^ sh && decide (sh > 0) && a % 2 == 1) then a + 1 else a
  | .stochastic d => if rem * 2 ^ 16 / 2 ^ sh + d ≥ 2 ^ 16 then a + 1 else a

/-- m·2^e on the grid with `p` significant bits and smallest unit 2^emin: the integer and its exponent. -/
def toGrid (r : Rnd) (p : Nat) (emin : Int) (m : Nat) (e : Int) : Nat × Int :=
  if m = 0 then (0, emin)
  else
    let q := max (e + (Nat.log2 m : Int) + 1 - p) emin
    if q ≤ e then (m * 2 ^ (e - q).toNat, q) else (roundShift r m (q - e).toNat, q)

/-- |m·2^e| lies beyond the largest finite value of the format (06 R214). -/
def beyond (f : Fmt) (m : Nat) (e : Int) : Bool :=
  match fpDecode f f.maxc with
  | .fin _ mm me => if e ≥ me then decide (m * 2 ^ (e - me).toNat > mm) else decide (m > mm * 2 ^ (me - e).toNat)
  | _ => false

/-- The magnitude code of n·2^q on the format's grid. -/
def magCode (f : Fmt) (n : Nat) (q : Int) : Nat :=
  if n < 2 ^ f.man then n else (q - f.emin + 1).toNat * 2 ^ f.man + (n - 2 ^ f.man)

/-- Convert a value to a format's code (06 R213, R214, R217, R218). `sat` makes a format with Inf saturate
its finite overflow to the largest finite value (06 R206). -/
def fpEncode (f : Fmt) (r : Rnd) (v : FV) (satur : Bool := false) : Nat :=
  match v with
  | .nan => if f.nan? then f.nanc else 0
  | .inf neg => (if neg then 2 ^ f.sign else 0) + (if f.inf? then f.infc else f.maxc)
  | .fin neg m e =>
    let s := if neg then 2 ^ f.sign else 0
    let ovf := if f.inf? && !satur then f.infc else f.maxc
    let g := toGrid r (f.man + 1) f.emin m e
    let c := magCode f g.1 g.2
    match r with
    | .zero => s + min c f.maxc
    | .nearest => s + (if c > f.maxc then ovf else c)
    | .stochastic _ => s + (if beyond f m e then ovf else c)

/-- Convert to INT8 (06 R213, R218). -/
def int8Encode (r : Rnd) (v : FV) : Nat :=
  match v with
  | .nan => 0
  | .inf neg => if neg then 0x80 else 0x7F
  | .fin neg m e =>
    let n := if e ≥ 0 then m * 2 ^ e.toNat else roundShift r m (-e).toNat
    if neg then (if n ≥ 128 then 0x80 else (256 - n) % 256) else min n 127

/-- Convert to the format with Sprig code `k`. -/
def encodeElem (k : Nat) (r : Rnd) (v : FV) (satur : Bool := false) : Nat :=
  if k = 4 then int8Encode r v else fpEncode (fmtOf k) r v satur

/-! ### FP32 -/

def f32 (w : W32) : FV := fpDecode (fmtOf 7) w.toNat
/-- One rounding to FP32, to nearest even. -/
def toF32 (v : FV) : W32 := BitVec.ofNat 32 (fpEncode (fmtOf 7) .nearest v)
/-- The canonical NaN (06 R201). -/
def nan32 : W32 := 0x7FC00000
def isNan32 (w : W32) : Bool := f32 w == .nan

def fvNeg : FV → FV
  | .nan => .nan
  | .inf n => .inf !n
  | .fin n m e => .fin (!n) m e

def fvAbs : FV → FV
  | .nan => .nan
  | .inf _ => .inf false
  | .fin _ m e => .fin false m e

/-- Exact product (04 R147). -/
def fvMul : FV → FV → FV
  | .nan, _ => .nan
  | _, .nan => .nan
  | .inf a, .inf b => .inf (a != b)
  | .inf a, .fin b m _ => if m = 0 then .nan else .inf (a != b)
  | .fin a m _, .inf b => if m = 0 then .nan else .inf (a != b)
  | .fin a m e, .fin b k g => .fin (a != b) (m * k) (e + g)

/-- A finite value as an integer multiple of 2^e. -/
def atExp (neg : Bool) (m : Nat) (e t : Int) : Int :=
  let v : Int := (m * 2 ^ (e - t).toNat : Nat)
  if neg then -v else v

/-- Exact sum; a zero sum of opposite signs is +0 (04 R147). -/
def fvAdd : FV → FV → FV
  | .nan, _ => .nan
  | _, .nan => .nan
  | .inf a, .inf b => if a = b then .inf a else .nan
  | .inf a, .fin .. => .inf a
  | .fin .., .inf b => .inf b
  | .fin a m e, .fin b k g =>
    let t := min e g
    let s := atExp a m e t + atExp b k g t
    if s = 0 then .fin (a && b) 0 t else .fin (decide (s < 0)) s.natAbs t

/-- Multiply by 2^k exactly. -/
def fvScale (k : Int) : FV → FV
  | .fin n m e => .fin n m (e + k)
  | v => v

/-- Compare two finite or infinite values: −1, 0 or 1; NaN is `none`. Zeros are equal. -/
def fvCmp (a b : FV) : Option Int :=
  match a, b with
  | .nan, _ => none
  | _, .nan => none
  | .inf x, .inf y => some (if x = y then 0 else if x then -1 else 1)
  | .inf x, _ => some (if x then -1 else 1)
  | _, .inf y => some (if y then 1 else -1)
  | .fin x m e, .fin y k g =>
    let t := min e g
    some (Int.sign (atExp x m e t - atExp y k g t))

def fvIsNeg : FV → Bool
  | .nan => false
  | .inf n => n
  | .fin n _ _ => n

/-- The larger value: NaN when either is NaN, and +0.0 above −0.0 (04 R147). -/
def fvMax (a b : FV) : FV :=
  match fvCmp a b with
  | none => .nan
  | some c => if c < 0 then b else if c > 0 then a else if fvIsNeg a then b else a

/-- 04 R147's compare codes. -/
def fvRel (cmp : Nat) (a b : FV) : Bool :=
  match fvCmp a b with
  | none => cmp == 1
  | some c =>
    match cmp with
    | 0 => c == 0
    | 1 => c != 0
    | 2 => decide (c < 0)
    | 3 => decide (c ≤ 0)
    | 4 => decide (c > 0)
    | _ => decide (c ≥ 0)

def add32 (a b : W32) : W32 := toF32 (fvAdd (f32 a) (f32 b))
def mul32 (a b : W32) : W32 := toF32 (fvMul (f32 a) (f32 b))
/-- a·b + c with one rounding. -/
def fma32 (a b c : W32) : W32 := toF32 (fvAdd (fvMul (f32 a) (f32 b)) (f32 c))
def neg32 (a : W32) : W32 := toF32 (fvNeg (f32 a))
def max32 (a b : W32) : W32 := toF32 (fvMax (f32 a) (f32 b))

/-- The sign-free square root of `n`, bit by bit. -/
def isqrtN : Nat → Nat → Nat → Nat
  | 0, _, r => r
  | k + 1, n, r => let c := r + 2 ^ k; isqrtN k n (if c * c ≤ n then c else r)

/-- A quotient m/k·2^e with at least 64 significant bits and a sticky last bit. -/
def quot (m k : Nat) (e : Int) : Nat × Int :=
  let sh := Nat.log2 k + 66
  let n := m * 2 ^ sh
  (2 * (n / k) + (if n % k = 0 then 0 else 1), e - sh - 1)

/-- Exact 1/x to more than 64 bits, with a sticky bit; zero gives Inf, Inf gives zero (04 R148). -/
def fvRecip : FV → FV
  | .nan => .nan
  | .inf n => .fin n 0 0
  | .fin n 0 _ => .inf n
  | .fin n m e => let q := quot 1 m (-e); .fin n q.1 q.2

/-- Exact 1/√x with a sticky bit (04 R148). -/
def fvRsqrt : FV → FV
  | .nan => .nan
  | .inf n => if n then .nan else .fin false 0 0
  | .fin n 0 _ => .inf n
  | .fin true _ _ => .nan
  | .fin false m e =>
    let m' := if e % 2 = 0 then m else 2 * m
    let e' := if e % 2 = 0 then e else e - 1
    let k := Nat.log2 m' + 40
    let n := 2 ^ (2 * k) / m'
    let r := isqrtN (k + 1) n 0
    .fin false (2 * r + (if r * r * m' = 2 ^ (2 * k) then 0 else 1)) (-(e' / 2) - k - 1)

/-- Exact √x with a sticky bit. -/
def fvSqrt : FV → FV
  | .nan => .nan
  | .inf n => if n then .nan else .inf false
  | .fin n 0 e => .fin n 0 e
  | .fin true _ _ => .nan
  | .fin false m e =>
    let m' := (if e % 2 = 0 then m else 2 * m) * 2 ^ 80
    let e' := (if e % 2 = 0 then e else e - 1) - 80
    let r := isqrtN (Nat.log2 m' / 2 + 1) m' 0
    .fin false (2 * r + (if r * r = m' then 0 else 1)) (e' / 2 - 1)

/-- Exact a/b with a sticky bit. -/
def fvDiv : FV → FV → FV
  | .nan, _ => .nan
  | _, .nan => .nan
  | .inf _, .inf _ => .nan
  | .inf a, .fin b _ _ => .inf (a != b)
  | .fin a _ _, .inf b => .fin (a != b) 0 0
  | .fin a m e, .fin b k g =>
    if k = 0 then (if m = 0 then .nan else .inf (a != b))
    else if m = 0 then .fin (a != b) 0 0
    else let q := quot m k (e - g); .fin (a != b) q.1 q.2

/-- Nearest even at 12 significant bits, as 04 R148's estimates are formed. -/
def round12 : FV → FV
  | .fin n m e => let g := toGrid .nearest 12 (-1000) m e; .fin n g.1 g.2
  | v => v

def rsqrtEst (a : W32) : W32 := toF32 (round12 (fvRsqrt (f32 a)))
def recipEst (a : W32) : W32 := toF32 (round12 (fvRecip (f32 a)))

/-! ### Elements of a column -/

/-- The code of element `n` of a column in format `k` (04 R120, R121). -/
def elemCode (k : Nat) (d : Line) (n : Nat) : Nat := nbits d.toNat (fmtBits k * n + fmtBits k - 1) (fmtBits k * n)

/-- Write element `n` of a column. -/
def setElem (k : Nat) (d : Line) (n code : Nat) : Line :=
  let w := fmtBits k
  let m : Nat := (2 ^ w - 1) * 2 ^ (w * n)
  BitVec.ofNat 512 ((d.toNat ^^^ (d.toNat &&& m)) + (code % 2 ^ w) * 2 ^ (w * n))

/-- A column made of element codes in order. -/
def lineOfElems (k : Nat) (cs : List Nat) : Line :=
  BitVec.ofNat 512 (packNat (cs.zipIdx.map fun ci => (fmtBits k * ci.2, ci.1)))

/-- An element widened to FP32 exactly (04 R122). -/
def widen (k c : Nat) : W32 := toF32 (decodeElem k c)

/-- An element with its scale byte: the product rounded once; 0xFF makes it NaN (04 R123, 06 R204). -/
def widenScaled (k c sb : Nat) : W32 :=
  if sb = 255 then nan32 else toF32 (fvScale ((sb : Int) - 127) (decodeElem k c))

/-- Byte `n` of a line. -/
def lineByte (d : Line) (n : Nat) : Nat := nbits d.toNat (8 * n + 7) (8 * n)

/-- A line from 64 bytes or fewer, lowest first. -/
def lineOfBytes (bs : Bytes) : Line := BitVec.ofNat 512 (ofLeBytes bs)
/-- The 64 bytes of a line. -/
def bytesOfLine (d : Line) : Bytes := leBytes 64 d.toNat

/-- Replace the bytes of a line whose mask bit is 1. -/
def mergeLine (old new : Line) (mask : BitVec 64) : Line :=
  BitVec.ofNat 512 (packNat ((upTo 64).map fun i =>
    (8 * i, if mask.getLsbD i then lineByte new i else lineByte old i)))

/-! ### Rounding sources (06 R215) -/

/-- One advance of a rounding source. -/
def xorshift (v : Word) : Word :=
  let a := v ^^^ (v <<< 13)
  let b := a ^^^ (a >>> 7)
  b ^^^ (b <<< 17)

/-- The four draws of a source's state. -/
def drawsOf (v : Word) : List Nat := [Word.bits v 15 0, Word.bits v 31 16, Word.bits v 47 32, Word.bits v 63 48]

/-- `n` advances: the draws in order and the state after. -/
def advances : Nat → Word → List Nat × Word
  | 0, v => ([], v)
  | n + 1, v =>
    let w := xorshift v
    let r := advances n w
    (drawsOf w ++ r.1, r.2)

/-- The draws for `n` elements: ⌈n/4⌉ advances. -/
def drawsFor (n : Nat) (v : Word) : List Nat × Word := advances ((n + 3) / 4) v

/-- A rounding mode code with the draw for one element. -/
def rndOf (code draw : Nat) : Rnd := if code = 1 then .stochastic draw else if code = 2 then .zero else .nearest

/-- The seed of a source in fixed mode; a zero seed is replaced by one (06 R216). -/
def fixedSeed (seed : Word) (src : Nat) : Word :=
  let v := seed ^^^ (BitVec.ofNat 64 (src * 0x9E3779B97F4A7C15))
  if v = 0 then 1 else v

/-! ### Scale choice (06 R206) -/

/-- ⌊log₂⌋ of a non-zero finite magnitude. -/
def floorLog2 : FV → Int
  | .fin _ m e => (Nat.log2 m : Int) + e
  | _ => 0

/-- E_max of 06 R206. -/
def scaleEmax : Nat → Int
  | 0 => 2 | 1 => 4 | 2 => 8 | _ => 15

/-- The scale byte of a block of FP32 values. -/
def chooseScale (k : Nat) (xs : List W32) : Nat :=
  let vs := xs.map f32
  if vs.any (· == .nan) then 255
  else
    let a := vs.foldl (fun a v => match v with | .fin .. => fvMax a (fvAbs v) | _ => a) (.fin false 0 0)
    match a with
    | .fin _ 0 _ => 127
    | _ => (max 0 (min 254 (floorLog2 a - scaleEmax k + 127))).toNat

/-- One element of a scaled block converted under scale byte `sb` (06 R206 step 4). -/
def encodeScaled (k sb : Nat) (r : Rnd) (x : W32) : Nat :=
  if sb = 255 then 0 else encodeElem k r (fvScale (127 - (sb : Int)) (f32 x)) true

end Sys2Proof.Machine
end

