-- ==== Sys2Proof/Machine/OdTable.lean ====
section
/-! DEFINITION. The entries of the object dictionary (15 R496 to R498, R509, R525, R531, R533, R534, and
the entry tables of the other chapters): type, access, apply class, default, writable bits and range. -/

namespace Sys2Proof.Machine

/-- The access codes of 15 R498. -/
inductive Access where
  | ro | rw | wo | rwl | w1
  deriving DecidableEq, Repr

/-- Rows of the dictionary: indices `base .. base+n-1`, sub-indices `sub .. sub+nsub-1`, type code (15
R497), access, apply class (0 IMM, 1 REF, 2 QSC, 3 EPO, 4 RST, 5 none; 15 R501), default, the bits that are
not RSVD (00 R18), and the least and greatest value accepted. -/
structure OdRow where
  base : Nat
  n    : Nat
  sub  : Nat
  nsub : Nat
  ty   : Nat
  acc  : Access
  cls  : Nat
  dflt : Nat
  mask : Nat
  lo   : Nat
  hi   : Nat
  deriving DecidableEq, Repr

def allMask : Nat := 0xFFFFFFFFFFFFFFFF

/-- Dictionary rows: Ident. -/
def odRowsIdent : List OdRow := [
  ⟨0x1000, 1, 1, 1, 8, .ro, 5, 0, allMask, 0, 0xffffffffffffffff⟩,
  ⟨0x1000, 1, 2, 1, 8, .ro, 5, 0, allMask, 0, 0xffffffffffffffff⟩,
  ⟨0x1000, 1, 3, 1, 8, .ro, 5, 0, allMask, 0, 0xffffffffffffffff⟩,
  ⟨0x1000, 1, 4, 1, 2, .ro, 5, 0, allMask, 0, 255⟩,
  ⟨0x1000, 1, 5, 1, 2, .ro, 5, 0, allMask, 0, 255⟩,
  ⟨0x1000, 1, 6, 1, 2, .ro, 5, 0, allMask, 0, 255⟩,
  ⟨0x1000, 1, 7, 1, 8, .ro, 5, 0, allMask, 0, 0xffffffffffffffff⟩,
  ⟨0x1000, 1, 8, 1, 2, .ro, 5, 0, allMask, 0, 255⟩,
  ⟨0x1000, 1, 9, 1, 2, .ro, 5, 1, allMask, 0, 255⟩,
  ⟨0x1000, 1, 10, 1, 2, .ro, 5, 0, allMask, 0, 255⟩,
  ⟨0x1000, 1, 11, 1, 5, .ro, 5, 0, allMask, 0, 0xffffffffffffffff⟩,
  ⟨0x1100, 1, 1, 1, 5, .ro, 5, 0, allMask, 0, 0xffffffffffffffff⟩,
  ⟨0x1100, 1, 2, 1, 5, .ro, 5, 0, allMask, 0, 0xffffffffffffffff⟩,
  ⟨0x1100, 1, 3, 1, 5, .ro, 5, 0, allMask, 0, 0xffffffffffffffff⟩,
  ⟨0x1100, 1, 4, 1, 2, .ro, 5, 0, allMask, 0, 255⟩,
  ⟨0x1100, 1, 5, 1, 2, .ro, 5, 1, allMask, 0, 255⟩,
  ⟨0x1101, 1, 1, 1, 2, .ro, 5, 1, allMask, 0, 255⟩,
  ⟨0x1101, 1, 2, 1, 2, .ro, 5, 1, allMask, 0, 255⟩,
  ⟨0x1101, 1, 3, 1, 3, .ro, 5, 0x2000, allMask, 0, 65535⟩,
  ⟨0x1102, 1, 1, 1, 2, .ro, 5, 1, allMask, 0, 255⟩,
  ⟨0x1102, 1, 2, 1, 2, .ro, 5, 1, allMask, 0, 255⟩,
  ⟨0x1102, 1, 3, 1, 2, .ro, 5, 1, allMask, 0, 255⟩,
  ⟨0x1102, 1, 4, 1, 3, .ro, 5, 0x1000, allMask, 0, 65535⟩,
  ⟨0x1102, 1, 5, 1, 3, .ro, 5, 0x100, allMask, 0, 65535⟩,
  ⟨0x1102, 1, 6, 1, 4, .ro, 5, 0x10000, allMask, 0, 0xffffffff⟩,
  ⟨0x1103, 1, 1, 1, 2, .ro, 5, 1, allMask, 0, 255⟩,
  ⟨0x1103, 1, 2, 1, 2, .ro, 5, 0x40, allMask, 0, 255⟩,
  ⟨0x1103, 1, 3, 1, 2, .ro, 5, 1, allMask, 0, 255⟩,
  ⟨0x1103, 1, 4, 1, 2, .ro, 5, 1, allMask, 0, 255⟩,
  ⟨0x1103, 1, 5, 1, 2, .ro, 5, 1, allMask, 0, 255⟩,
  ⟨0x1103, 1, 6, 1, 2, .ro, 5, 0x20, allMask, 0, 255⟩,
  ⟨0x1103, 1, 7, 1, 2, .ro, 5, 1, allMask, 0, 255⟩,
  ⟨0x1103, 1, 8, 1, 3, .ro, 5, 0x100, allMask, 0, 65535⟩,
  ⟨0x1104, 1, 1, 1, 2, .ro, 5, 0x30, allMask, 0, 255⟩,
  ⟨0x1104, 1, 2, 1, 2, .ro, 5, 1, allMask, 0, 255⟩]

/-- Dictionary rows: Part. -/
def odRowsPart : List OdRow := [
  ⟨0x2000, 1, 1, 1, 2, .ro, 5, 0x10, allMask, 0, 255⟩,
  ⟨0x2000, 1, 2, 1, 2, .ro, 5, 0, allMask, 0, 255⟩,
  ⟨0x2000, 1, 3, 1, 4, .ro, 5, 0, allMask, 0, 0xffffffff⟩,
  ⟨0x2000, 1, 4, 1, 4, .ro, 5, 0xffffffff, allMask, 0, 0xffffffff⟩,
  ⟨0x2000, 1, 5, 1, 1, .wo, 0, 0, allMask, 0, 1⟩,
  ⟨0x2000, 1, 6, 1, 1, .wo, 0, 0, allMask, 0, 1⟩,
  ⟨0x2000, 1, 7, 1, 4, .ro, 5, 0, allMask, 0, 0xffffffff⟩,
  ⟨0x2010, 16, 1, 1, 4, .rw, 2, 0, 0x1, 0, 0xffffffff⟩,
  ⟨0x2010, 16, 2, 1, 5, .rw, 2, 0, 0xffffffffffff, 0, 0xffffffffffffffff⟩,
  ⟨0x2010, 16, 3, 1, 2, .rw, 2, 0x10, allMask, 1, 255⟩,
  ⟨0x2010, 16, 4, 1, 4, .rw, 0, 0x2710, allMask, 100, 0xf4240⟩,
  ⟨0x2010, 16, 5, 1, 2, .ro, 5, 0, allMask, 0, 255⟩,
  ⟨0x2010, 16, 6, 1, 1, .wo, 0, 0, allMask, 0, 1⟩,
  ⟨0x2010, 16, 7, 1, 2, .ro, 5, 0, allMask, 0, 255⟩,
  ⟨0x2010, 16, 8, 1, 4, .ro, 5, 0, allMask, 0, 0xffffffff⟩,
  ⟨0x2010, 16, 9, 1, 4, .ro, 5, 0xffffffff, allMask, 0, 0xffffffff⟩,
  ⟨0x2010, 16, 10, 1, 1, .wo, 0, 0, allMask, 0, 1⟩,
  ⟨0x2010, 16, 11, 1, 1, .wo, 0, 0, allMask, 0, 1⟩,
  ⟨0x2010, 16, 12, 1, 4, .ro, 5, 0, allMask, 0, 0xffffffff⟩,
  ⟨0x2010, 16, 13, 1, 4, .ro, 5, 0, allMask, 0, 0xffffffff⟩,
  ⟨0x2100, 256, 1, 1, 4, .rw, 2, 0x1500, 0x3f03, 0, 0xffffffff⟩,
  ⟨0x2100, 256, 2, 1, 5, .rw, 2, 0, 0x1ffffe00000, 0, 0xffffffffffffffff⟩,
  ⟨0x2100, 256, 3, 1, 4, .rw, 2, 0x100, 0x1fffff, 0, 0xffffffff⟩,
  ⟨0x2100, 256, 4, 1, 4, .rw, 2, 0x200, 0x1fffff, 0, 0xffffffff⟩,
  ⟨0x2100, 256, 5, 1, 4, .rw, 2, 0x400, 0x1fffff, 0, 0xffffffff⟩,
  ⟨0x2100, 256, 6, 1, 4, .rw, 2, 0x800, 0x1fffff, 0, 0xffffffff⟩,
  ⟨0x2100, 256, 7, 1, 4, .rw, 2, 4, 0x1fffff, 0, 0xffffffff⟩,
  ⟨0x2100, 256, 8, 1, 4, .rw, 2, 8, 0x1fffff, 0, 0xffffffff⟩,
  ⟨0x2100, 256, 9, 1, 4, .rw, 2, 0x10, 0x1fffff, 0, 0xffffffff⟩,
  ⟨0x2100, 256, 10, 1, 4, .rw, 2, 0x20, 0x1fffff, 0, 0xffffffff⟩,
  ⟨0x2100, 256, 11, 1, 4, .rw, 2, 0x40, 0x1fffff, 0, 0xffffffff⟩,
  ⟨0x2100, 256, 12, 1, 4, .rw, 2, 0x80, 0x1fffff, 0, 0xffffffff⟩,
  ⟨0x2100, 256, 13, 1, 4, .rw, 2, 0x1000, 0x1fffff, 0, 0xffffffff⟩,
  ⟨0x2100, 256, 14, 1, 4, .rw, 2, 0x2000, 0x1fffff, 0, 0xffffffff⟩,
  ⟨0x2100, 256, 15, 1, 4, .rw, 2, 0x4000, 0x1fffff, 0, 0xffffffff⟩,
  ⟨0x2100, 256, 16, 1, 4, .rw, 2, 0x8000, 0x1fffff, 0, 0xffffffff⟩,
  ⟨0x2300, 16, 1, 1, 5, .rw, 2, 0, allMask, 0, 0xffffffffffffffff⟩,
  ⟨0x2400, 256, 1, 1, 5, .rw, 2, 0, allMask, 0, 0xffffffffffffffff⟩,
  ⟨0x2400, 256, 2, 1, 4, .rw, 2, 0, 0x3f0f01, 0, 0xffffffff⟩,
  ⟨0x2400, 256, 3, 1, 4, .ro, 5, 0, allMask, 0, 0xffffffff⟩,
  ⟨0x2400, 256, 4, 1, 2, .ro, 5, 0, allMask, 0, 255⟩,
  ⟨0x2400, 256, 5, 1, 1, .wo, 0, 0, allMask, 0, 1⟩,
  ⟨0x2500, 16, 1, 1, 4, .rw, 2, 0, allMask, 0, 0xffffffff⟩,
  ⟨0x2600, 16, 1, 1, 4, .rw, 2, 0, allMask, 0, 0xffffffff⟩,
  ⟨0x2600, 16, 2, 1, 9, .rw, 2, 0, allMask, 0, 0xffffffffffffffff⟩,
  ⟨0x2600, 16, 3, 1, 3, .rw, 2, 0, allMask, 0, 65535⟩,
  ⟨0x2600, 16, 4, 1, 5, .rw, 2, 0, allMask, 0, 0xffffffffffffffff⟩,
  ⟨0x2600, 16, 5, 1, 3, .rw, 2, 0, allMask, 0, 4096⟩,
  ⟨0x2600, 16, 6, 1, 9, .wo, 3, 0, allMask, 0, 0xffffffffffffffff⟩,
  ⟨0x2600, 16, 7, 1, 1, .wo, 0, 0, allMask, 0, 1⟩,
  ⟨0x2600, 16, 8, 1, 4, .ro, 5, 0, allMask, 0, 0xffffffff⟩,
  ⟨0x2600, 16, 9, 1, 5, .rw, 0, 0, 0xffffffffff, 0, 0xffffffffffffffff⟩,
  ⟨0x2600, 16, 10, 1, 5, .wo, 0, 0, allMask, 0, 0xffffffffffffffff⟩,
  ⟨0x2600, 16, 11, 1, 2, .ro, 5, 0, allMask, 0, 255⟩,
  ⟨0x2600, 16, 12, 1, 4, .ro, 5, 0, allMask, 0, 0xffffffff⟩]

/-- Dictionary rows: Mem. -/
def odRowsMem : List OdRow := [
  ⟨0x3000, 1, 1, 1, 3, .ro, 5, 0, allMask, 0, 65535⟩,
  ⟨0x3000, 1, 2, 1, 3, .rw, 0, 0x10, allMask, 0, 65535⟩,
  ⟨0x3000, 1, 3, 1, 1, .rw, 0, 1, allMask, 0, 1⟩,
  ⟨0x3010, 16, 1, 1, 4, .ro, 5, 0, allMask, 0, 0xffffffff⟩,
  ⟨0x3010, 16, 2, 1, 9, .ro, 5, 0, allMask, 0, 0xffffffffffffffff⟩,
  ⟨0x3020, 1, 1, 1, 4, .rw, 0, 0xfa0, allMask, 500, 0xf4240⟩,
  ⟨0x3020, 1, 2, 1, 4, .rw, 0, 0x32, allMask, 0, 10000⟩,
  ⟨0x3020, 1, 3, 1, 1, .rw, 0, 1, allMask, 0, 1⟩,
  ⟨0x3020, 1, 4, 1, 2, .rwl, 1, 0xa, allMask, 6, 14⟩,
  ⟨0x3020, 1, 5, 1, 3, .rw, 1, 0x100, allMask, 32, 256⟩,
  ⟨0x3020, 1, 6, 1, 2, .rw, 1, 0x10, allMask, 0, 64⟩,
  ⟨0x3020, 1, 7, 1, 2, .rwl, 1, 8, allMask, 0, 8⟩,
  ⟨0x3020, 1, 8, 1, 3, .rw, 0, 0x18, allMask, 1, 168⟩,
  ⟨0x3030, 16, 1, 1, 2, .ro, 5, 0, allMask, 0, 255⟩,
  ⟨0x3030, 16, 2, 1, 5, .ro, 5, 0, allMask, 0, 0xffffffffffffffff⟩,
  ⟨0x3030, 16, 3, 1, 5, .ro, 5, 0, allMask, 0, 0xffffffffffffffff⟩,
  ⟨0x3030, 16, 4, 1, 5, .ro, 5, 0, allMask, 0, 0xffffffffffffffff⟩,
  ⟨0x3030, 16, 5, 1, 5, .ro, 5, 0, allMask, 0, 0xffffffffffffffff⟩,
  ⟨0x3030, 16, 6, 1, 5, .ro, 5, 0, allMask, 0, 0xffffffffffffffff⟩,
  ⟨0x3030, 16, 7, 1, 3, .ro, 5, 0, allMask, 0, 65535⟩,
  ⟨0x3030, 16, 8, 1, 5, .ro, 5, 0, allMask, 0, 0xffffffffffffffff⟩,
  ⟨0x3030, 16, 9, 1, 1, .ro, 5, 0, allMask, 0, 1⟩,
  ⟨0x3030, 16, 10, 1, 2, .rw, 2, 0xff, allMask, 0, 255⟩,
  ⟨0x3030, 16, 11, 1, 4, .ro, 5, 0, allMask, 0, 0xffffffff⟩,
  ⟨0x3100, 128, 1, 1, 4, .rw, 2, 0, 0xf01, 0, 0xffffffff⟩,
  ⟨0x3100, 128, 2, 1, 4, .rw, 2, 0, allMask, 50, 0xf4240⟩,
  ⟨0x3100, 128, 3, 1, 5, .ro, 5, 0, allMask, 0, 0xffffffffffffffff⟩,
  ⟨0x3100, 128, 4, 1, 5, .ro, 5, 0, allMask, 0, 0xffffffffffffffff⟩]

/-- Dictionary rows: Eng. -/
def odRowsEng : List OdRow := [
  ⟨0x4000, 1, 1, 1, 2, .ro, 5, 1, allMask, 0, 255⟩,
  ⟨0x4000, 1, 2, 1, 2, .ro, 5, 1, allMask, 0, 255⟩,
  ⟨0x4000, 1, 3, 1, 3, .ro, 5, 0x40, allMask, 0, 65535⟩,
  ⟨0x4000, 1, 4, 1, 2, .rw, 0, 0, allMask, 0, 1⟩,
  ⟨0x4000, 1, 5, 1, 5, .wo, 0, 0, allMask, 0, 0xffffffffffffffff⟩,
  ⟨0x5000, 1, 4, 1, 2, .rw, 0, 0, allMask, 0, 1⟩,
  ⟨0x5000, 1, 5, 1, 5, .wo, 0, 0, allMask, 0, 0xffffffffffffffff⟩,
  ⟨0x5100, 192, 1, 1, 5, .ro, 5, 0, allMask, 0, 0xffffffffffffffff⟩,
  ⟨0x5100, 192, 2, 1, 5, .ro, 5, 0, allMask, 0, 0xffffffffffffffff⟩,
  ⟨0x5100, 192, 3, 1, 5, .ro, 5, 0, allMask, 0, 0xffffffffffffffff⟩,
  ⟨0x5100, 192, 4, 1, 5, .ro, 5, 0, allMask, 0, 0xffffffffffffffff⟩,
  ⟨0x5100, 192, 5, 1, 4, .ro, 5, 0, allMask, 0, 0xffffffff⟩,
  ⟨0x5100, 192, 6, 1, 4, .ro, 5, 0, allMask, 0, 0xffffffff⟩,
  ⟨0x5200, 48, 1, 1, 5, .ro, 5, 0, allMask, 0, 0xffffffffffffffff⟩,
  ⟨0x5200, 48, 2, 1, 5, .ro, 5, 0, allMask, 0, 0xffffffffffffffff⟩,
  ⟨0x5200, 48, 3, 1, 5, .ro, 5, 0, allMask, 0, 0xffffffffffffffff⟩,
  ⟨0x5200, 48, 4, 1, 5, .ro, 5, 0, allMask, 0, 0xffffffffffffffff⟩,
  ⟨0x5200, 48, 5, 1, 4, .ro, 5, 0, allMask, 0, 0xffffffff⟩,
  ⟨0x5300, 48, 1, 1, 5, .ro, 5, 0, allMask, 0, 0xffffffffffffffff⟩,
  ⟨0x5300, 48, 2, 1, 5, .ro, 5, 0, allMask, 0, 0xffffffffffffffff⟩,
  ⟨0x5300, 48, 3, 1, 5, .ro, 5, 0, allMask, 0, 0xffffffffffffffff⟩,
  ⟨0x5300, 48, 4, 1, 5, .ro, 5, 0, allMask, 0, 0xffffffffffffffff⟩,
  ⟨0x5300, 48, 5, 1, 5, .ro, 5, 0, allMask, 0, 0xffffffffffffffff⟩,
  ⟨0x5300, 48, 6, 1, 5, .ro, 5, 0, allMask, 0, 0xffffffffffffffff⟩,
  ⟨0x5300, 48, 7, 1, 5, .ro, 5, 0, allMask, 0, 0xffffffffffffffff⟩,
  ⟨0x5300, 48, 8, 1, 4, .ro, 5, 0, allMask, 0, 0xffffffff⟩,
  ⟨0x5300, 48, 9, 1, 4, .ro, 5, 0, allMask, 0, 0xffffffff⟩,
  ⟨0x5400, 48, 1, 1, 2, .ro, 5, 0, allMask, 0, 255⟩,
  ⟨0x5400, 48, 2, 1, 4, .ro, 5, 0, allMask, 0, 0xffffffff⟩,
  ⟨0x5400, 48, 3, 1, 5, .ro, 5, 0, allMask, 0, 0xffffffffffffffff⟩,
  ⟨0x5400, 48, 4, 1, 5, .ro, 5, 0, allMask, 0, 0xffffffffffffffff⟩,
  ⟨0x5400, 48, 5, 1, 5, .ro, 5, 0, allMask, 0, 0xffffffffffffffff⟩,
  ⟨0x5400, 48, 6, 1, 4, .ro, 5, 0, allMask, 0, 0xffffffff⟩,
  ⟨0x5400, 48, 7, 1, 4, .ro, 5, 0, allMask, 0, 0xffffffff⟩]

/-- Dictionary rows: Fab. -/
def odRowsFab : List OdRow := [
  ⟨0x6000, 1, 1, 1, 4, .rwl, 4, 0xffffffff, allMask, 0, 0xfffff⟩,
  ⟨0x6000, 1, 2, 1, 3, .rwl, 4, 0x88b5, allMask, 0, 65535⟩,
  ⟨0x6000, 1, 3, 1, 3, .rwl, 4, 1, allMask, 1, 4094⟩,
  ⟨0x6000, 1, 4, 1, 3, .rwl, 4, 0x24d, allMask, 0, 65535⟩,
  ⟨0x6000, 1, 5, 1, 3, .rwl, 4, 0xfa5, allMask, 0, 65535⟩,
  ⟨0x6000, 1, 6, 1, 3, .rw, 0, 0x40, allMask, 8, 1024⟩,
  ⟨0x6000, 1, 7, 1, 3, .rw, 0, 0x80, allMask, 8, 256⟩,
  ⟨0x6000, 1, 8, 1, 3, .rw, 0, 0x200, allMask, 8, 1024⟩,
  ⟨0x6000, 1, 9, 1, 5, .rwl, 4, 0, allMask, 0, 0xffffffffffffffff⟩,
  ⟨0x6000, 1, 10, 1, 9, .rwl, 4, 0, allMask, 0, 0xffffffffffffffff⟩,
  ⟨0x6000, 1, 11, 1, 2, .ro, 5, 0, allMask, 0, 255⟩,
  ⟨0x6000, 1, 12, 1, 4, .ro, 5, 0, allMask, 0, 0xffffffff⟩,
  ⟨0x6000, 1, 13, 1, 5, .ro, 5, 0, allMask, 0, 0xffffffffffffffff⟩,
  ⟨0x6000, 1, 14, 1, 1, .wo, 0, 0, allMask, 0, 1⟩,
  ⟨0x6010, 1, 1, 1, 5, .ro, 5, 0, allMask, 0, 0xffffffffffffffff⟩,
  ⟨0x6010, 1, 2, 1, 5, .ro, 5, 0, allMask, 0, 0xffffffffffffffff⟩,
  ⟨0x6010, 1, 3, 1, 5, .ro, 5, 0, allMask, 0, 0xffffffffffffffff⟩,
  ⟨0x6010, 1, 4, 1, 5, .ro, 5, 0, allMask, 0, 0xffffffffffffffff⟩,
  ⟨0x6010, 1, 5, 1, 5, .ro, 5, 0, allMask, 0, 0xffffffffffffffff⟩,
  ⟨0x6010, 1, 6, 1, 5, .ro, 5, 0, allMask, 0, 0xffffffffffffffff⟩,
  ⟨0x6010, 1, 7, 1, 5, .ro, 5, 0, allMask, 0, 0xffffffffffffffff⟩,
  ⟨0x6010, 1, 8, 1, 5, .ro, 5, 0, allMask, 0, 0xffffffffffffffff⟩,
  ⟨0x6010, 1, 9, 1, 5, .ro, 5, 0, allMask, 0, 0xffffffffffffffff⟩,
  ⟨0x6010, 1, 10, 1, 5, .ro, 5, 0, allMask, 0, 0xffffffffffffffff⟩,
  ⟨0x6010, 1, 11, 1, 5, .ro, 5, 0, allMask, 0, 0xffffffffffffffff⟩,
  ⟨0x6020, 1, 1, 1, 3, .rwl, 4, 0x100, allMask, 16, 8192⟩,
  ⟨0x6020, 1, 2, 1, 5, .ro, 5, 0, allMask, 0, 0xffffffffffffffff⟩,
  ⟨0x6020, 1, 3, 1, 5, .ro, 5, 0, allMask, 0, 0xffffffffffffffff⟩,
  ⟨0x6020, 1, 4, 1, 5, .ro, 5, 0, allMask, 0, 0xffffffffffffffff⟩,
  ⟨0x6020, 1, 5, 1, 5, .ro, 5, 0, allMask, 0, 0xffffffffffffffff⟩,
  ⟨0x6020, 1, 6, 1, 5, .ro, 5, 0, allMask, 0, 0xffffffffffffffff⟩,
  ⟨0x6030, 6, 1, 1, 2, .ro, 5, 0, allMask, 0, 255⟩,
  ⟨0x6030, 6, 2, 1, 4, .rw, 0, 0x64, allMask, 10, 10000⟩,
  ⟨0x6030, 6, 3, 1, 1, .ro, 5, 0, allMask, 0, 1⟩,
  ⟨0x6030, 6, 4, 1, 5, .ro, 5, 0, allMask, 0, 0xffffffffffffffff⟩,
  ⟨0x6030, 6, 5, 1, 4, .ro, 5, 0, allMask, 0, 0xffffffff⟩,
  ⟨0x6030, 6, 6, 1, 5, .ro, 5, 0, allMask, 0, 0xffffffffffffffff⟩,
  ⟨0x6040, 96, 1, 1, 4, .rw, 2, 0x10, 0xf37, 0, 0xffffffff⟩,
  ⟨0x6040, 96, 2, 1, 5, .rw, 2, 0, allMask, 0, 0xffffffffffffffff⟩,
  ⟨0x6040, 96, 3, 1, 4, .rw, 2, 0, allMask, 0, 8192⟩,
  ⟨0x6100, 24, 1, 1, 2, .ro, 5, 0, allMask, 0, 255⟩,
  ⟨0x6100, 24, 2, 1, 5, .ro, 5, 0, allMask, 0, 0xffffffffffffffff⟩,
  ⟨0x6100, 24, 3, 1, 5, .ro, 5, 0, allMask, 0, 0xffffffffffffffff⟩,
  ⟨0x6100, 24, 4, 1, 5, .ro, 5, 0, allMask, 0, 0xffffffffffffffff⟩,
  ⟨0x6100, 24, 5, 1, 5, .ro, 5, 0, allMask, 0, 0xffffffffffffffff⟩,
  ⟨0x6100, 24, 6, 1, 5, .ro, 5, 0, allMask, 0, 0xffffffffffffffff⟩,
  ⟨0x6100, 24, 7, 1, 5, .ro, 5, 0, allMask, 0, 0xffffffffffffffff⟩,
  ⟨0x6100, 24, 8, 1, 4, .ro, 5, 0, allMask, 0, 0xffffffff⟩]

/-- Dictionary rows: Pow. -/
def odRowsPow : List OdRow := [
  ⟨0x7000, 1, 1, 1, 4, .rw, 0, 0, allMask, 500, 0xffffffff⟩,
  ⟨0x7000, 1, 2, 1, 4, .ro, 5, 0, allMask, 0, 0xffffffff⟩,
  ⟨0x7000, 1, 3, 1, 4, .rw, 0, 0x3e8, allMask, 500, 2000⟩,
  ⟨0x7000, 1, 4, 1, 2, .rw, 0, 0, allMask, 0, 2⟩,
  ⟨0x7000, 1, 5, 1, 4, .ro, 5, 0, allMask, 0, 0xffffffff⟩,
  ⟨0x7000, 1, 6, 1, 4, .ro, 5, 0, allMask, 0, 0xffffffff⟩,
  ⟨0x7000, 1, 7, 1, 4, .ro, 5, 0, allMask, 0, 0xffffffff⟩,
  ⟨0x7000, 1, 8, 1, 4, .ro, 5, 0, allMask, 0, 0xffffffff⟩,
  ⟨0x7000, 1, 9, 1, 2, .ro, 5, 0, allMask, 0, 255⟩,
  ⟨0x7000, 1, 10, 1, 4, .ro, 5, 0, allMask, 0, 0xffffffff⟩,
  ⟨0x7000, 1, 11, 1, 5, .ro, 5, 0, allMask, 0, 0xffffffffffffffff⟩,
  ⟨0x7000, 1, 12, 1, 5, .ro, 5, 0, allMask, 0, 0xffffffffffffffff⟩,
  ⟨0x7001, 1, 1, 1, 1, .rw, 0, 0, allMask, 0, 1⟩,
  ⟨0x7001, 1, 2, 1, 4, .rw, 0, 0x1f4, allMask, 10, 5000⟩,
  ⟨0x7001, 1, 3, 1, 2, .ro, 5, 0, allMask, 0, 255⟩,
  ⟨0x7001, 1, 4, 1, 4, .ro, 5, 0, allMask, 0, 0xffffffff⟩,
  ⟨0x7001, 1, 5, 1, 4, .ro, 5, 0, allMask, 0, 0xffffffff⟩,
  ⟨0x7020, 16, 1, 1, 3, .ro, 5, 0, allMask, 0, 65535⟩,
  ⟨0x7020, 16, 2, 1, 4, .ro, 5, 0, allMask, 0, 0xffffffff⟩,
  ⟨0x7030, 1, 1, 1, 2, .rw, 0, 0x64, allMask, 80, 100⟩,
  ⟨0x7030, 1, 2, 1, 2, .rw, 0, 0x64, allMask, 80, 100⟩,
  ⟨0x7030, 1, 3, 1, 2, .rw, 0, 0x69, allMask, 85, 105⟩,
  ⟨0x7040, 1, 1, 1, 2, .ro, 5, 0, allMask, 0, 255⟩,
  ⟨0x7040, 1, 2, 1, 2, .ro, 5, 0, allMask, 0, 255⟩,
  ⟨0x7100, 1, 1, 1, 4, .ro, 5, 0, allMask, 0, 0xffffffff⟩,
  ⟨0x7100, 1, 2, 1, 2, .ro, 5, 0, allMask, 0, 255⟩,
  ⟨0x7100, 1, 3, 1, 2, .ro, 5, 0, allMask, 0, 255⟩,
  ⟨0x7100, 1, 4, 1, 2, .ro, 5, 0, allMask, 0, 255⟩,
  ⟨0x7400, 800, 1, 1, 6, .ro, 5, 0, allMask, 0, 0xffffffffffffffff⟩,
  ⟨0x7400, 800, 2, 1, 2, .ro, 5, 0, allMask, 0, 255⟩,
  ⟨0x7400, 800, 3, 1, 6, .ro, 5, 0, allMask, 0, 0xffffffffffffffff⟩]

/-- Dictionary rows: Sec. -/
def odRowsSec : List OdRow := [
  ⟨0x8000, 1, 1, 1, 3, .rw, 0, 0x8000, allMask, 0, 65535⟩,
  ⟨0x8000, 1, 2, 1, 5, .ro, 5, 0, allMask, 0, 0xffffffffffffffff⟩,
  ⟨0x8010, 1, 1, 1, 1, .rwl, 4, 1, allMask, 0, 1⟩,
  ⟨0x8010, 1, 2, 1, 2, .rwl, 4, 0, allMask, 1, 254⟩,
  ⟨0x8010, 1, 3, 1, 2, .rwl, 4, 8, allMask, 2, 255⟩,
  ⟨0x8010, 1, 4, 1, 1, .rwl, 4, 1, allMask, 0, 1⟩,
  ⟨0x8010, 1, 5, 1, 1, .rwl, 4, 1, allMask, 0, 1⟩,
  ⟨0x8020, 1, 1, 1, 9, .ro, 5, 0, allMask, 0, 0xffffffffffffffff⟩,
  ⟨0x8020, 1, 2, 1, 9, .ro, 5, 0, allMask, 0, 0xffffffffffffffff⟩,
  ⟨0x8020, 1, 3, 1, 9, .ro, 5, 0, allMask, 0, 0xffffffffffffffff⟩,
  ⟨0x8020, 1, 4, 1, 9, .wo, 0, 0, allMask, 0, 0xffffffffffffffff⟩,
  ⟨0x8020, 1, 5, 1, 2, .ro, 5, 0, allMask, 0, 255⟩,
  ⟨0x8020, 1, 6, 1, 9, .ro, 5, 0, allMask, 0, 0xffffffffffffffff⟩,
  ⟨0x8030, 3, 1, 1, 9, .wo, 0, 0, allMask, 0, 0xffffffffffffffff⟩,
  ⟨0x8030, 3, 2, 1, 1, .ro, 5, 0, allMask, 0, 1⟩,
  ⟨0x8040, 1, 1, 1, 2, .ro, 5, 0, allMask, 0, 255⟩,
  ⟨0x8040, 1, 2, 1, 5, .ro, 5, 0, allMask, 0, 0xffffffffffffffff⟩,
  ⟨0x8040, 1, 3, 1, 4, .rw, 0, 0x3c, allMask, 5, 3600⟩,
  ⟨0x8050, 1, 1, 1, 3, .ro, 5, 0, allMask, 0, 65535⟩,
  ⟨0x8050, 1, 2, 1, 2, .ro, 5, 0, allMask, 0, 255⟩,
  ⟨0x8050, 1, 3, 1, 2, .ro, 5, 0, allMask, 0, 255⟩,
  ⟨0x8050, 1, 4, 1, 2, .ro, 5, 0, allMask, 0, 255⟩,
  ⟨0x8050, 1, 5, 1, 5, .ro, 5, 0, allMask, 0, 0xffffffffffffffff⟩,
  ⟨0x8050, 1, 6, 1, 9, .wo, 0, 0, allMask, 0, 0xffffffffffffffff⟩,
  ⟨0x8050, 1, 7, 1, 1, .wo, 0, 0, allMask, 0, 1⟩,
  ⟨0x8050, 1, 8, 1, 1, .wo, 0, 0, allMask, 0, 1⟩,
  ⟨0x8050, 1, 9, 1, 2, .ro, 5, 0, allMask, 0, 255⟩,
  ⟨0x8060, 1, 1, 1, 2, .wo, 0, 0, allMask, 1, 3⟩,
  ⟨0x8060, 1, 2, 1, 2, .rwl, 4, 0, allMask, 0, 1⟩,
  ⟨0x8060, 1, 3, 1, 1, .wo, 0, 0, allMask, 0, 1⟩,
  ⟨0x8060, 1, 4, 1, 4, .ro, 5, 0, allMask, 0, 0xffffffff⟩,
  ⟨0x8060, 1, 5, 1, 4, .ro, 5, 0, allMask, 0, 0xffffffff⟩,
  ⟨0x8060, 1, 6, 1, 2, .ro, 5, 0, allMask, 0, 255⟩,
  ⟨0x8070, 1, 1, 6, 9, .ro, 5, 0, allMask, 0, 0xffffffffffffffff⟩,
  ⟨0x8080, 1, 1, 1, 9, .wo, 0, 0, allMask, 0, 0xffffffffffffffff⟩]

/-- Dictionary rows: LogDbg. -/
def odRowsLogDbg : List OdRow := [
  ⟨0x9000, 1, 1, 1, 4, .ro, 5, 0, allMask, 0, 0xffffffff⟩,
  ⟨0x9000, 1, 2, 1, 4, .ro, 5, 0, allMask, 0, 0xffffffff⟩,
  ⟨0x9000, 1, 3, 1, 4, .rw, 0, 0, allMask, 0, 0xffffffff⟩,
  ⟨0x9000, 1, 4, 1, 9, .ro, 5, 0, allMask, 0, 0xffffffffffffffff⟩,
  ⟨0x9000, 1, 5, 1, 4, .ro, 5, 0, allMask, 0, 0xffffffff⟩,
  ⟨0x9000, 1, 6, 1, 4, .rw, 0, 0, allMask, 0, 0xffffffff⟩,
  ⟨0x9000, 1, 7, 1, 9, .ro, 5, 0, allMask, 0, 0xffffffffffffffff⟩,
  ⟨0xA000, 1, 1, 1, 4, .rw, 0, 0x64, allMask, 0, 10000⟩,
  ⟨0xA000, 1, 2, 1, 5, .ro, 5, 0, allMask, 0, 0xffffffffffffffff⟩,
  ⟨0xA000, 1, 3, 1, 5, .ro, 5, 0, allMask, 0, 0xffffffffffffffff⟩,
  ⟨0xA000, 1, 4, 1, 5, .ro, 5, 0, allMask, 0, 0xffffffffffffffff⟩,
  ⟨0xA100, 48, 1, 48, 4, .rw, 0, 0, allMask, 0, 0xffffffff⟩,
  ⟨0xA100, 48, 49, 1, 5, .wo, 0, 0, 0x3fffffffff, 0, 0xffffffffffffffff⟩,
  ⟨0xA200, 16, 1, 1, 9, .ro, 5, 0, allMask, 0, 0xffffffffffffffff⟩,
  ⟨0xA200, 16, 2, 1, 4, .ro, 5, 0, allMask, 0, 0xffffffff⟩,
  ⟨0xA200, 16, 3, 1, 1, .wo, 0, 0, allMask, 0, 1⟩,
  ⟨0xA300, 11, 1, 1, 5, .rw, 0, 0, allMask, 0, 0xffffffffffffffff⟩,
  ⟨0xA300, 11, 2, 1, 5, .rw, 0, 0, allMask, 0, 0xffffffffffffffff⟩,
  ⟨0xA300, 11, 3, 1, 4, .ro, 5, 0, allMask, 0, 0xffffffff⟩,
  ⟨0xA300, 11, 4, 1, 5, .ro, 5, 0, allMask, 0, 0xffffffffffffffff⟩,
  ⟨0xA300, 11, 5, 1, 1, .wo, 0, 0, allMask, 0, 1⟩,
  ⟨0xA300, 11, 6, 1, 5, .ro, 5, 0, allMask, 0, 0xffffffffffffffff⟩]

/-- Dictionary rows: Test. -/
def odRowsTest : List OdRow := [
  ⟨0xF000, 1, 1, 1, 2, .rwl, 0, 0, allMask, 0, 2⟩,
  ⟨0xF000, 1, 2, 1, 2, .ro, 5, 0, allMask, 0, 255⟩,
  ⟨0xF010, 16, 1, 1, 4, .rwl, 0, 0, 0xfff1, 0, 0xffffffff⟩,
  ⟨0xF010, 16, 2, 1, 2, .ro, 5, 0, allMask, 0, 255⟩,
  ⟨0xF010, 16, 3, 1, 5, .ro, 5, 0, allMask, 0, 0xffffffffffffffff⟩,
  ⟨0xF010, 16, 4, 1, 5, .ro, 5, 0, allMask, 0, 0xffffffffffffffff⟩,
  ⟨0xF100, 1, 1, 1, 3, .rwl, 0, 0, 0x1ff, 0, 65535⟩,
  ⟨0xF100, 1, 2, 1, 2, .ro, 5, 0, allMask, 0, 255⟩,
  ⟨0xF200, 24, 1, 1, 2, .rwl, 0, 0, allMask, 0, 2⟩,
  ⟨0xF200, 24, 2, 1, 2, .rwl, 0, 0, allMask, 0, 1⟩,
  ⟨0xF200, 24, 3, 1, 5, .ro, 5, 0, allMask, 0, 0xffffffffffffffff⟩,
  ⟨0xF300, 6, 1, 1, 2, .rwl, 0, 0, allMask, 0, 1⟩,
  ⟨0xF400, 800, 1, 1, 6, .rwl, 0, 0x80000000, allMask, 0, 0xffffffffffffffff⟩]

def odRows : List OdRow :=
  odRowsIdent ++ odRowsPart ++ odRowsMem ++ odRowsEng ++ odRowsFab ++ odRowsPow ++ odRowsSec ++ odRowsLogDbg ++ odRowsTest


/-- An index is defined for an instance that the build fits (15 R534). A window of path 0 to 5 is counted
with its CXL port. -/
def State.odFits (s : State) (index : Nat) : Bool :=
  if 0x3010 ≤ index && decide (index < 0x3020) then s.fitted (index - 0x3010)
  else if 0x3030 ≤ index && decide (index < 0x3040) then s.fitted (index - 0x3030)
  else if 0x3100 ≤ index && decide (index < 0x3180) then s.fitted ((index - 0x3100) / 8)
  else if 0x6030 ≤ index && decide (index < 0x6036) then s.cxlFitted (index - 0x6030)
  else if 0x6040 ≤ index && decide (index < 0x60A0) then s.cxlFitted ((index - 0x6040) / 16)
  else if 0x6100 ≤ index && decide (index < 0x6118) then s.ethFitted (index - 0x6100)
  else if 0x7020 ≤ index && decide (index < 0x7030) then s.fitted (index - 0x7020)
  else if 0x7400 ≤ index && decide (index < 0x7800) then s.sensorFitted (index - 0x7400)
  else if 0xA300 ≤ index && decide (index < 0xA306) then s.cxlFitted (index - 0xA300)
  else if 0xF010 ≤ index && decide (index < 0xF020) then s.fitted (index - 0xF010)
  else if 0xF200 ≤ index && decide (index < 0xF218) then s.ethFitted (index - 0xF200)
  else if 0xF300 ≤ index && decide (index < 0xF306) then s.cxlFitted (index - 0xF300)
  else if 0xF400 ≤ index && decide (index < 0xF800) then s.sensorFitted (index - 0xF400)
  else true

/-- The row covers the entry. -/
def OdRow.covers (r : OdRow) (index sub : Nat) : Bool :=
  decide (r.base ≤ index) && decide (index < r.base + r.n) && decide (r.sub ≤ sub)
    && decide (sub < r.sub + r.nsub)

/-- The row of an entry, sub-index 0x00 apart. -/
def State.odRow (s : State) (index sub : Nat) : Option OdRow :=
  if s.odFits index then odRows.find? fun r => r.covers index sub else none

/-- HIGHEST_SUB of an index, zero when the index does not exist (15 R496). -/
def State.odHighest (s : State) (index : Nat) : Nat :=
  if s.odFits index then
    odRows.foldl (fun m r =>
      if r.base ≤ index && decide (index < r.base + r.n) then max m (r.sub + r.nsub - 1) else m) 0
  else 0

/-- The reset value of a stack-controller port's PORT_CTRL and LAT_TARGET (03 R90). -/
def portDefault (p sub : Nat) : Nat :=
  if sub = 1 then
    match p with
    | 4 => 0x501 | 5 => 0x001 | 6 => 0x601 | 7 => 0xF01 | _ => 0x101
  else
    match p with
    | 3 => 500 | 4 => 800 | 5 => 200 | 6 => 2000 | 7 => 100000 | _ => 300

/-- The default of an entry: of its row, except where it is per port (03 R90), per variant (16 POWER_LIMIT)
or per strap (18 R609). -/
def State.odDefault (s : State) (r : OdRow) (index sub : Nat) : Word :=
  BitVec.ofNat 64 <|
    if r.base = 0x3100 && decide (sub ≤ 2) then portDefault ((index - 0x3100) % 8) sub
    else if index = 0x7000 && sub = 1 then s.maxPower
    else if index = 0x8010 && sub = 2 then
      let node := nbits s.crust.straps.toNat 7 0
      if node = 255 then 0 else node
    else r.dflt

/-- The active value that the dictionary holds for an entry. -/
def State.odVal (s : State) (index sub : Nat) : Word :=
  match Tab.find s.mgmt.od (odKey index sub) with
  | some v => v
  | none =>
    match s.odRow index sub with
    | some r => s.odDefault r index sub
    | none => 0

/-- The same as a number. -/
def State.odNat (s : State) (index sub : Nat) : Nat := (s.odVal index sub).toNat

/-- Give an entry a value; the default is not listed, except of PLCA_NODE_ID, whose written value takes
precedence over a strap that may change (18 R609). -/
def State.odPut (s : State) (index sub : Nat) (v : Word) : State :=
  let d := match s.odRow index sub with
    | some r => s.odDefault r index sub
    | none => 0
  let t := s.mgmt.od
  let k := odKey index sub
  { s with mgmt := { s.mgmt with od := if k = odKey 0x8010 2 then Tab.put t k v else Tab.set d t k v } }

end Sys2Proof.Machine
end

