-- ==== Sys2Proof/Machine/Rank.lean ====
section
/-! DEFINITION. The rank of requests and Sprig jobs at a stack controller, and the order in which they arrived
(01 R31, R32; 03 R91, R92; 05 R179). -/

namespace Sys2Proof.Machine

/-- The urgency step after `t` ns with target `tgt` (03 R91). -/
def urgency (t tgt : Nat) : Nat :=
  if 2 * t < tgt then 0 else if 4 * t < 3 * tgt then 1 else if t < tgt then 2 else 3

/-- The effective class of a class at an urgency step (03 R92). -/
def effClass (cls step : Nat) : Nat := if 2 ≤ cls && step == 3 then cls - 1 else cls

/-- The first list of keys stands before the second: it is smaller at the first key in which they differ. -/
def keysBefore : List Nat → List Nat → Bool
  | a :: as, b :: bs => decide (a < b) || (a == b && keysBefore as bs)
  | _, _ => false

/-- When a request reached its controller: the Sprig cycle, in one cycle the lower-numbered port first (01 R32), and on
one port the order in which requests came. -/
def PortReq.arr (r : PortReq) : List Nat := [r.cyc, r.port, r.id]
/-- A Sprig job reaches its controller on P5 (01 R28). -/
def Job.arr (j : Job) : List Nat := [j.cyc, 5, j.arrived]

/-- The keys of 03 R92 in their order, smaller first. Arrival in one cycle is told apart as 01 R32 does (log entry 106). -/
def rankKeys (cls step : Nat) (aged : Bool) (arr : List Nat) : List Nat :=
  effClass cls step :: (if aged then 0 else 1) :: (3 - step) :: arr

def PortReq.eff (r : PortReq) : Nat := effClass r.cls r.step
def PortReq.rank (r : PortReq) : List Nat := rankKeys r.cls r.step r.aged r.arr
/-- The effective class of a job (05 R179; 03 R92). -/
def Job.eff (j : Job) : Nat := effClass j.cls j.step
def Job.rank (j : Job) : List Nat := rankKeys j.cls j.step j.aged j.arr

/-- `a` ranks above `b` (03 R92). -/
def outranks (a b : PortReq) : Bool := keysBefore a.rank b.rank
/-- Job `a` ranks above job `b` (05 R179; 03 R92). -/
def jobOutranks (a b : Job) : Bool := keysBefore a.rank b.rank

/-- The job has still to do with its bank: the bank has not left, and it will begin on it if it has not. -/
def Job.live (j : Job) (b : JBank) : Bool := b.phase != .left && !(b.phase == .waiting && j.stop.isSome)

/-- A live bank of a job. -/
def Job.liveOn (j : Job) (mbn : Nat) : Bool := j.banks.any fun b => b.mbn == mbn && j.live b

/-- A Sprig job is queued for the bank or holds it. -/
def State.jobOn (s : State) (mbn : Nat) : Bool := s.mem.jobs.any fun kj => kj.2.liveOn mbn

/-- The job that holds a bank. -/
def State.holder (s : State) (mbn : Nat) : Option Job := (s.bank mbn).hold.bind fun j => Tab.find s.mem.jobs j

/-- Change a job that the table holds. -/
def State.onJob (s : State) (id : Nat) (f : Job → Job) : State :=
  match Tab.find s.mem.jobs id with
  | none => s
  | some j => { s with mem := { s.mem with jobs := Tab.put s.mem.jobs id (f j) } }

/-- Change the job that holds a bank, if one does. -/
def State.onHolder (s : State) (mbn : Nat) (f : Job → Job) : State :=
  match (s.bank mbn).hold with
  | none => s
  | some id => s.onJob id f

/-- A command of the job has issued on a channel at cycle `t` (05 R192). -/
def Job.spanned (j : Job) (ch t : Nat) : Job :=
  { j with span := Tab.put j.span ch (match Tab.find j.span ch with | some x => (x.1, t) | none => (t, t)) }

/-- JOB_CYCLES: from the first command to the last, on the slowest channel (05 R192). -/
def Job.cycles (j : Job) : Nat := (j.span.map fun x => x.2.2 - x.2.1).foldl max 0

end Sys2Proof.Machine
end

