-- ==== Sys2Proof/Machine/StackMem.lean ====
section
/-! DEFINITION. The local address, interleave regions, the DRAM contents, and what a stack controller does
with a column that it reads or writes (02 R42 to R75, 03 R107 to R113). -/

namespace Sys2Proof.Machine

/-! ### The local address (02 R64 to R72) -/

/-- An enabled region of valid size: slot 0..255, first byte, SIZE_LOG2, pinned (02 R68, R69). -/
structure Region where
  slot : Nat
  base : Nat
  size : Nat
  pinned : Bool
  deriving DecidableEq, Repr

/-- The active regions of the module: an enabled REGION_CTRL differs from its default, so it is listed. -/
def State.regions (s : State) : List Region :=
  s.mgmt.od.filterMap fun kv =>
    let index := kv.1 / 256
    let c := kv.2.toNat
    let sz := nbits c 13 8
    if kv.1 % 256 = 1 && decide (0x2100 ≤ index) && decide (index < 0x2200) && c.testBit 0
        && decide (21 ≤ sz) && decide (sz ≤ 41) then
      some ⟨index - 0x2100, s.odNat index 2, sz, c.testBit 1⟩
    else none

/-- The region holds the linear offset. -/
def Region.holds (r : Region) (lin : Nat) : Bool := decide (r.base ≤ lin) && decide (lin < r.base + 2 ^ r.size)
/-- The partition that owns a region slot (02 R68). -/
def Region.owner (r : Region) : Nat := r.slot / 16

/-- The region that holds a linear offset (02 R65). -/
def State.regionAt (s : State) (lin : Nat) : Option Region := s.regions.find? fun r => r.holds lin

/-- The sub-index of the mask of each target bit, with the bit (02 R70). -/
def targetBits : List (Nat × Nat) :=
  [(3, 27), (4, 28), (5, 29), (6, 30), (7, 31), (8, 32), (9, 33), (10, 34), (11, 35), (12, 36), (13, 37),
    (14, 38), (15, 39), (16, 40)]

/-- The physical offset that region `r` gives a linear offset (02 R71, R72). -/
def State.physOf (s : State) (r : Region) (lin : Nat) : Nat :=
  if r.pinned then lin
  else
    targetBits.foldl (fun ph st =>
      if st.2 < r.size && bitCount (nbits lin 26 6 &&& s.odNat (0x2100 + r.slot) st.1) 21 % 2 == 1 then
        ph ^^^ 2 ^ st.2 else ph) lin

/-- A place in DRAM (02 R44, R64). -/
structure Loc where
  mbn : Nat
  row : Nat
  col : Nat
  deriving DecidableEq, Repr

def locOfPhys (ph : Nat) : Loc := ⟨nbits ph 40 27, nbits ph 26 12, nbits ph 11 6⟩
def Loc.stk (l : Loc) : Nat := l.mbn / 1024
def Loc.ch (l : Loc) : Nat := l.mbn / 16 % 64
def Loc.bank (l : Loc) : Nat := l.mbn % 16
def Loc.half (l : Loc) : Nat := l.row / 16384
/-- Segment of a row (03 R107). -/
def segOf (row : Nat) : Nat := nbits row 14 12

/-- The highest stack position that is fitted and not fenced. -/
def State.topStack (s : State) : Nat → Option Nat
  | 0 => none
  | n + 1 => if s.fitted n && !s.fenced n then some n else s.topStack n

/-- First byte and length of the system area (02 R67). -/
def State.systemArea (s : State) : Nat × Nat :=
  match s.topStack 16 with
  | none => (0, 0)
  | some p =>
    let len := 2 ^ 21 * (s.odNat 0x6020 1 + 4)
    (2 ^ 37 * (p + 1) - len, len)

def State.inSystem (s : State) (lin : Nat) : Bool :=
  let a := s.systemArea
  decide (a.1 ≤ lin) && decide (lin < a.1 + a.2)

/-- The place of a linear offset and the partition that owns it, 31 for the system area, which only the
I/O dies and the crust (`priv`) reach. Nothing when no enabled region holds it or its stack position is not
fitted or is fenced (02 R65, R67, 00 R7, 17 R579). -/
def State.place' (s : State) (priv : Bool) (lin : Nat) : Option (Loc × Nat) :=
  let hit : Option (Nat × Nat) :=
    if s.inSystem lin then (if priv then some (lin, 31) else none)
    else (s.regionAt lin).map fun r => (s.physOf r lin, r.owner)
  match hit with
  | none => none
  | some (ph, p) =>
    let l := locOfPhys ph
    if s.fitted l.stk && !s.fenced l.stk then some (l, p) else none

/-! ### DRAM contents -/

/-- What a column that is not listed reads as: poisoned, with data zero (log entry 4). -/
def blankCol : Column := poisonCol 0

/-- The key of a column in the DRAM table: physical rows 0..32767 and spares 32768..32783. -/
def dramKey (mbn prow col : Nat) : Nat := (mbn * 32784 + prow) * 64 + col

/-- The physical row of a row: its spare, or itself (02 R58, R59). -/
def State.physRow (s : State) (mbn row : Nat) : Nat :=
  match s.mem.spares.find? fun p => p.mbn == mbn && p.row == row with
  | some p => 32768 + p.idx
  | none => row

def State.dramGet (s : State) (mbn prow col : Nat) : Column := Tab.get blankCol s.mem.dram (dramKey mbn prow col)
def State.dramPut (s : State) (mbn prow col : Nat) (c : Column) : State :=
  { s with mem := { s.mem with dram := Tab.set blankCol s.mem.dram (dramKey mbn prow col) c } }

/-! ### What the system area holds (02 R67; 12 R432; 13 R443 to R445, R448) -/

/-- A directory entry: VALID and the leaf's frame. -/
def dirWord : Option Nat → Word
  | some f => pack [(63, 1), (0, f)]
  | none => 0

/-- The word at a byte offset of the placement store: directories in frames 0 to 7, home records in 8 to 11, leaves. -/
def Place.storeWord (p : Place) (off : Nat) : Word :=
  let frame := off / 2 ^ 21
  let i := off % 2 ^ 21 / 8
  if frame < 8 then dirWord (Tab.find p.dirs (off / 2 ^ 20 * 2 ^ 17 + off % 2 ^ 20 / 8))
  else if frame < 12 then Tab.get 0 p.home ((off - 8 * 2 ^ 21) / 8)
  else
    match p.dirs.find? fun d => d.2 == frame with
    | some d => Tab.get 0 p.leaves (d.1 / 2 ^ 17 * 2 ^ 35 + d.1 % 2 ^ 17 * 2 ^ 18 + i)
    | none => 0

/-- The word at a byte offset of the system area: the placement store, then the member table in the top 8 MiB. -/
def State.systemWord (s : State) (off : Nat) : Word :=
  let n := s.systemArea.2 - 2 ^ 23
  if off < n then s.place.storeWord off else Tab.get 0 s.fab.members ((off - n) / 8)

/-- The column of the system area at a place. The tables are the machine's own, and a DRAM error does not reach them (log
entry 131). -/
def State.systemCol (s : State) (l : Loc) : Option Column :=
  let ph := l.mbn * 2 ^ 27 + l.row * 4096 + l.col * 64
  if s.inSystem ph then
    some (cleanCol (BitVec.ofNat 512 (packNat ((upTo 8).map fun i =>
      (64 * i, (s.systemWord (ph - s.systemArea.1 + 8 * i)).toNat)))))
  else none

/-- The column at a place, through the row's remap. -/
def State.locGet (s : State) (l : Loc) : Column :=
  (s.systemCol l).getD (s.dramGet l.mbn (s.physRow l.mbn l.row) l.col)
def State.locPut (s : State) (l : Loc) (c : Column) : State := s.dramPut l.mbn (s.physRow l.mbn l.row) l.col c

/-- The row found no free spare: its reads are uncorrectable (13 R473). -/
def State.rowFailed (s : State) (mbn row : Nat) : Bool := s.mem.failed.contains (mbn, row)

/-- What a reader learns of a column of a row, which may have failed (02 R52; 13 R473; log entry 133). -/
def State.classify (s : State) (mbn row : Nat) (c : Column) : EccOut :=
  let e := eccRead c
  if s.rowFailed mbn row then { e with cse := 6, poison := false, ce := false } else e

/-- What a reader learns of the column at a place. -/
def State.eccAt (s : State) (l : Loc) : EccOut := s.classify l.mbn l.row (s.locGet l)

/-- The row's segment counts as lost (03 R107, R108; 17 R574). -/
def State.isLost (s : State) (mbn row : Nat) : Bool :=
  (s.stk (mbn / 1024)).lost.getLsbD (segOf row) || (s.chan (mbn / 16)).lost.getLsbD (segOf row)

/-! ### Bands, tokens and timing (03 R82, R84 to R87, R95, R96) -/

/-- The band whose timing a bank uses: the stack's, or an older one until its next REFPB or SRX (03 R96). -/
def State.bandOf (s : State) (mbn : Nat) : Nat := max (s.stk (mbn / 1024)).band (s.bank mbn).band

/-- Parameters of 03 R82 that differ between the two timing sets. -/
def tRCD (b : Nat) : Nat := if 2 ≤ b then 14 else 12
def tRP (b : Nat) : Nat := if 2 ≤ b then 14 else 12
def tRAS (b : Nat) : Nat := if 2 ≤ b then 24 else 22
def tRC (b : Nat) : Nat := if 2 ≤ b then 38 else 34
def tWR (b : Nat) : Nat := if 2 ≤ b then 14 else 12
def tNRR (b : Nat) : Nat := if 2 ≤ b then 38 else 34
def tokenHold (b : Nat) : Nat := if 2 ≤ b then 33 else 22

/-- `d` cycles have passed since an event, if it happened. -/
def since (a : Option Nat) (d t : Nat) : Bool :=
  match a with
  | none => true
  | some c => decide (c + d ≤ t)

/-- The duty in force (16 R540, R544). -/
def State.duty (s : State) : Nat := min s.power.slewD s.power.govD

/-- TOKEN_GRANT of a stack: the governor's grant times the duty over 16, at least 16 (16 R540). -/
def State.tokenGrant (s : State) (stk : Nat) : Nat := max 16 ((s.stk stk).grant * s.duty / 16)

/-- The pool size (03 R85). -/
def State.poolSize (s : State) (stk : Nat) : Nat :=
  let k := s.stk stk
  let m := min k.tokens (s.tokenGrant stk)
  if k.band = 3 then min m 128 else m

/-- The tokens that a command of a kind may still take. -/
def State.tokensLeft (s : State) (stk : Nat) (reserved : Bool) : Nat :=
  let k := s.stk stk
  s.poolSize stk - k.toks.length - (if reserved then 0 else k.reserve)

/-- A token may be taken: by forced and escalated refreshes and effective classes 0 and 1 down to the last,
otherwise only above TOKEN_RESERVE (03 R84, R86, R87). -/
def State.tokenFree (s : State) (stk : Nat) (reserved : Bool) : Bool :=
  decide (0 < s.tokensLeft stk reserved)

/-- Take a token, which returns at cycle `back`. -/
def State.takeToken (s : State) (stk back : Nat) : State := s.modStk stk fun k => { k with toks := k.toks ++ [back] }

/-- The refresh interval of a band in eighths of a Sprig cycle: 3.9, 1.95 and 0.975 µs at 825 MHz (03 R95). -/
def refInterval (band : Nat) : Nat := if band = 0 then 25740 else if band = 1 then 12870 else 6435

/-- The stack's clocks and rails run and its controller is part of the build and not fenced. -/
def State.stackOn (s : State) (stk : Nat) : Bool :=
  s.power.main && s.fitted stk && !s.fenced stk && !(s.stk stk).unpowered

/-! ### Stack-controller log entries (03 R112, R113) -/

/-- What a stack-controller entry names. -/
structure EvAt where
  loc  : Loc
  port : Nat := 7
  cls  : Nat := 3
  part : Nat := 31
  lin  : Nat := 0
  req  : Nat := 0xFFFF
  deriving DecidableEq, Repr

def State.stkEvent (s : State) (code : Nat) (a : EvAt) (e : Option EccOut := none) (count : Nat := 0) : State :=
  let stk := a.loc.stk
  let w1 := match e with
    | none => [(0, (s.stk stk).band)]
    | some o => [(32, o.synd.toNat), (28, o.quarters), (24, o.cse), (0, (s.stk stk).band)]
  s.log [pack [(56, code), (52, stk), (46, a.loc.ch), (42, a.loc.bank), (27, a.loc.row % 32768), (21, a.loc.col),
      (18, a.port), (16, a.cls), (11, a.part)],
    pack w1, pack [(0, a.lin % 2 ^ 41)], pack [(48, a.req), (0, count % 2 ^ 32)],
    BitVec.ofNat 64 (s.ctr (0x3030 + stk) 3)]

/-! ### Errors found (02 R54, R60; 03 R111, R115) -/

/-- 24 h in µs of crust time (02 R60). -/
def day : Nat := 86400000000

/-- The linear offset of a column and the partition that owns its region, 31 for none: a spread mapping is its own inverse
(02 R71). -/
def State.linAt (s : State) (l : Loc) : Nat × Nat :=
  let ph := l.mbn * 2 ^ 27 + l.row * 4096 + l.col * 64
  if s.inSystem ph then (ph, 31)
  else match s.regions.find? fun r => r.holds ph with
    | some r => (s.physOf r ph, r.owner)
    | none => (0, 31)

/-- What an entry of maintenance on P7 names (03 R112). -/
def State.maintEv (s : State) (l : Loc) : EvAt :=
  let x := s.linAt l
  { loc := l, part := x.2, lin := x.1 }

/-- What an entry of a Sprig job's read names: P5, the job's effective class and cluster; without a job, class 0 and no
requester (03 R112). -/
def State.jobEv (s : State) (mbn row col : Nat) : EvAt :=
  let a : EvAt := { s.maintEv ⟨mbn, row, col⟩ with port := 5 }
  match s.holder mbn with
  | some j => { a with cls := j.eff, req := j.c }
  | none => { a with cls := 0, req := 0 }

/-- Ask for a soft spare of a row, once (02 R60, R63). -/
def State.askSpare (s : State) (mbn row : Nat) : State :=
  if s.odNat 0x3000 3 = 0 || s.mem.spareReq.contains (mbn, row) || s.rowFailed mbn row then s
  else { s with mem := { s.mem with spareReq := s.mem.spareReq ++ [(mbn, row)] } }

/-- Count `n` corrected errors of a row: CE_COUNT, and the row's count within 24 h, which requests a soft
spare once it has reached CE_SPARE_THRESHOLD (02 R60; 03 R113, R115). -/
def State.countCe (s : State) (n : Nat) (a : EvAt) : State :=
  if n = 0 then s
  else
    let key := a.loc.mbn * 32768 + a.loc.row
    let old := (Tab.get [] s.mem.rowCe key).filter fun t => decide (s.crust.time < t + day)
    let new := old ++ List.replicate n s.crust.time
    let s1 := s.bump (0x3030 + a.loc.stk) 2 n
    let s2 := { s1 with mem := { s1.mem with rowCe := Tab.put s1.mem.rowCe key new } }
    let th := s.odNat 0x3000 2
    if th ≠ 0 && decide (th ≤ new.length) && s.odNat 0x3000 3 ≠ 0 && !s.mem.spareReq.contains (a.loc.mbn, a.loc.row) then
      (s2.stkEvent 0x04 a none new.length).askSpare a.loc.mbn a.loc.row
    else s2

/-- Rows that reach a new CE_SPARE_THRESHOLD, or that had reached it while sparing was disabled (02 R60, R63). -/
def State.spareDue (s : State) : State :=
  let th := s.odNat 0x3000 2
  if th = 0 || s.odNat 0x3000 3 = 0 then s
  else
    s.mem.rowCe.foldl (fun s e =>
      let n := (e.2.filter fun t => decide (s.crust.time < t + day)).length
      let mbn := e.1 / 32768
      let row := e.1 % 32768
      if n < th || s.mem.spareReq.contains (mbn, row) || s.rowFailed mbn row then s
      else (s.stkEvent 0x04 (s.maintEv ⟨mbn, row, 0⟩) none n).askSpare mbn row) s

/-- An uncorrectable column found: UE_COUNT, a log entry of the given code, a spare request (02 R54, R60). -/
def State.countUe (s : State) (code : Option Nat) (a : EvAt) (e : EccOut) : State :=
  let s1 := s.bump (0x3030 + a.loc.stk) 3
  let s2 := match code with
    | some c => s1.stkEvent c a (some e)
    | none => s1
  s2.askSpare a.loc.mbn a.loc.row

/-- What a column of an ordinary read gives: memory status (0 good, 4 UNCORRECTABLE, 13 R471), data. -/
def State.readCol (s : State) (a : EvAt) : State × Nat × Line :=
  if s.isLost a.loc.mbn a.loc.row then (s, 4, 0)
  else
    let e := s.eccAt a.loc
    let s1 := if e.ce then s.countCe 1 a else s
    if e.ue then (s1.countUe (some 0x01) a e, 4, 0)
    else if e.poison then (s1, 4, 0)
    else (s1, 0, e.data)

/-- The read of a partial write: merged data, whether it must be stored poisoned (02 R56). -/
def State.mergeCol (s : State) (a : EvAt) (d : Line) (mask : BitVec 64) : State × Line × Bool :=
  let e := s.eccAt a.loc
  let s1 := if e.ce then s.countCe 1 a else s
  let m := mergeLine e.data d mask
  if e.ue then (s1.countUe (some 0x03) a e, m, true)
  else if e.poison then (s1.stkEvent 0x03 a (some e), m, true)
  else (s1, m, false)

/-- Write bytes of a column, as R55, R56 and R57 set out: the state and the memory status. -/
def State.writeCol (s : State) (a : EvAt) (d : Line) (mask : BitVec 64) (poison : Bool) : State × Nat :=
  if mask = BitVec.allOnes 64 then (s.locPut a.loc (storeCol d poison), 0)
  else
    let r := s.mergeCol a d mask
    (r.1.locPut a.loc (storeCol r.2.1 (r.2.2 || poison)), if r.2.2 then 4 else 0)

/-! ### Requests of the engines, the host and the fabric, served whole (log entry 13) -/

/-- Who makes a request: it fixes the port and REQUESTER (01 R26 to R28; 03 R112). -/
inductive Origin where
  | cluster (c : Nat)
  | layout (c : Nat)
  | sprig (c : Nat)
  | fq (c : Nat)
  | eth (n : Nat)
  | host (n : Nat)
  | maint
  deriving DecidableEq, Repr

/-- The stack position to which a cluster is local, when it is fitted (01 R26, R27). -/
def State.localStack (s : State) (c : Nat) : Option Nat :=
  let p := 4 * (c / 12) + c % 12 / 3
  if s.fitted p then some p else none

/-- The stack-controller port of a request (01 R28). -/
def State.portOf (s : State) (o : Origin) (stk : Nat) : Nat :=
  match o with
  | .cluster c => if s.localStack c = some stk then c % 12 % 3 else 3
  | .layout _ => 6
  | .sprig _ => 5
  | .fq _ => 4
  | .eth _ => 4
  | .host _ => 4
  | .maint => 7

/-- REQUESTER of 03 R112. -/
def Origin.code : Origin → Nat
  | .cluster c => c
  | .layout c => c
  | .sprig c => c
  | .fq c => c
  | .eth n => 0x100 + 16 * (n / 4) + n % 4
  | .host n => 0x100 + 16 * n + 4
  | .maint => 0xFFFF

/-- Requests that may reach the system area: those of the I/O dies and the crust (02 R67). -/
def Origin.priv : Origin → Bool
  | .maint => true
  | _ => false

/-- The class that a request is served at (03 R88). -/
def State.servedClass (s : State) (stk port : Nat) (cls : Option Nat) : Nat :=
  if port = 7 then 3
  else
    let pc := s.odNat (0x3100 + 8 * stk + port) 1
    max (cls.getD (nbits pc 9 8)) (nbits pc 11 10)

/-- A partition is UNUSED (15 R507). -/
def State.unused (s : State) (p : Nat) : Bool := (s.part p).st == 0

/-- 0 when partition `p` may reach the linear offset, its own or one shared with it, else UNBACKED, also on a stack that is
not there, or ACCESS (00 R7; 13 R446). -/
def State.localReach (s : State) (p lin : Nat) : Nat :=
  match s.regionAt lin with
  | none => 3
  | some r => if (s.place' false lin).isNone then 3 else if r.owner = p || (s.odNat (0x2600 + r.owner) 3).testBit p then 0 else 2

/-- The region's owner is in a quiesce and another partition asks: the request waits (02 R75; 15 R511). -/
def State.quiesceWait (s : State) (from_ : Nat) (o : Origin) (lin : Nat) : Bool :=
  match s.place' o.priv lin with
  | none => false
  | some (_, p) => p != from_ && decide (p < 16) && (s.part p).st == 1

/-- The hearth dies that an I/O die links to (01 R21). -/
def linkedHearths (d : Nat) : List Nat := [[0, 1], [2, 3], [0, 2], [1, 3], [0, 3], [1, 2]].getD d []

/-- The UCIe link of I/O die `d` and hearth die `h`, and that of two hearth dies (01 R21, R22). -/
def ioLink (d h : Nat) : Nat := 4 * d + h
def hearthLink (a b : Nat) : Nat := 64 + 4 * min a b + max a b

def State.linkUp (s : State) (l : Nat) : Bool := !s.links.down.contains l

/-- The links of the way between two hearth dies when the links `up` are up: their own link, or those of the detour over the
lowest-numbered third die whose two links are up (01 R24). -/
def hearthWay (up : Nat → Bool) (a b : Nat) : Option (List Nat) :=
  if a = b then some []
  else if up (hearthLink a b) then some [hearthLink a b]
  else
    ((upTo 4).find? fun c => c != a && c != b && up (hearthLink a c) && up (hearthLink c b)).map fun c =>
      [hearthLink a c, hearthLink c b]

/-- The links of the way from an I/O die to a hearth die: its own link to that die; else over the lower-numbered of its two
linked dies whose link is up and from which a way goes on (01 R24, R29; log entry 117). -/
def ioWay (up : Nat → Bool) (d h : Nat) : Option (List Nat) :=
  if (linkedHearths d).contains h && up (ioLink d h) then some [ioLink d h]
  else (linkedHearths d).findSome? fun k =>
    if up (ioLink d k) then (hearthWay up k h).map fun p => ioLink d k :: p else none

/-- The links of the way from the origin of a request to a stack; none: no route is left (01 R24, R28). -/
def wayTo (up : Nat → Bool) (o : Origin) (stk : Nat) : Option (List Nat) :=
  match o with
  | .cluster c => hearthWay up (c / 12) (stk / 4)
  | .layout c => hearthWay up (c / 12) (stk / 4)
  | .sprig c => hearthWay up (c / 12) (stk / 4)
  | .fq c => hearthWay up (c / 12) (stk / 4)
  | .eth n => ioWay up (n / 4) (stk / 4)
  | .host n => ioWay up n (stk / 4)
  | .maint => some []

/-- The links that were up before the losses whose requests have not all completed (01 R25). -/
def State.linkWas (s : State) (l : Nat) : Bool := s.linkUp l || s.links.switching.contains l

/-- A way that a sender used leads over a lost link, and it does not yet use the new one (01 R25). -/
def State.switchWait (s : State) (way : Option (List Nat)) : Bool :=
  match way with
  | some p => p.any fun l => s.links.switching.contains l
  | none => false

def State.pathTo (s : State) (o : Origin) (stk : Nat) : Option (List Nat) := wayTo s.linkUp o stk

/-- The origin waits with a request for a linear offset, because its route to the stack is being switched. -/
def State.routeWait (s : State) (o : Origin) (lin : Nat) : Bool :=
  match s.place' o.priv lin with
  | none => false
  | some (l, _) => s.switchWait (wayTo s.linkWas o l.stk)

/-- Where a request goes, or the status that refuses it: UNBACKED, ACCESS for a region of an UNUSED
partition, or ROUTE_LOST (13 R471; 15 R508; 01 R24). -/
def State.target (s : State) (o : Origin) (cls : Option Nat) (lin : Nat) : Except Nat EvAt :=
  match s.place' o.priv lin with
  | none => .error 3
  | some (l, p) =>
    if p < 16 && s.unused p && o != .maint then .error 2
    else if (s.pathTo o l.stk).isNone then .error 8
    else
      let port := s.portOf o l.stk
      .ok { loc := l, port := port, cls := s.servedClass l.stk port cls, part := p, lin := lin, req := o.code }

/-- Count a request that is served on a held bank between two runs of its job (05 R186, R192). -/
def State.interleave (s : State) (mbn : Nat) : State :=
  let k := s.bank mbn
  match k.hold.bind fun id => (Tab.find s.mem.jobs id).map fun j => (id, j) with
  | none => s
  | some (id, j) =>
    if k.unit.status.st ≠ .idle then s
    else { s with mem := { s.mem with
      jobs := Tab.put s.mem.jobs id { j with res := { j.res with interleaved := j.res.interleaved + 1 } } } }

/-- Read one line at a linear offset. -/
def State.lineRead (s : State) (o : Origin) (cls : Option Nat) (lin : Nat) : State × Nat × Line :=
  match s.target o cls lin with
  | .error e => (s, e, 0)
  | .ok a => ((s.interleave a.loc.mbn).bump (0x3100 + 8 * a.loc.stk + a.port) 3).readCol a

/-- Write bytes of one line at a linear offset. A write to a lost segment is held until the fill (03 R108),
which callers test with `lostAt`. -/
def State.lineWrite (s : State) (o : Origin) (cls : Option Nat) (lin : Nat) (d : Line) (mask : BitVec 64)
    (poison : Bool) : State × Nat :=
  match s.target o cls lin with
  | .error e => (s, e)
  | .ok a => ((s.interleave a.loc.mbn).bump (0x3100 + 8 * a.loc.stk + a.port) 3).writeCol a d mask poison

/-- The line lies in a lost segment. -/
def State.lostAt (s : State) (priv : Bool) (lin : Nat) : Bool :=
  match s.place' priv lin with
  | some (l, _) => s.isLost l.mbn l.row
  | none => false

end Sys2Proof.Machine
end

