-- ==== Sys2Proof/Machine/SprigStep.lean ====
section
/-! DEFINITION. Recipe steps: their encoding and validity (04 R126, R132 to R142), and what each computes
from the registers of a Sprig unit (04 R122 to R124, R143 to R151, R156 to R158). -/

namespace Sys2Proof.Machine

/-! ### Encoding -/

/-- Opcode of a step (04 R132). -/
def stepOp (w : Word) : Nat := Word.bits w 63 59

/-- KIND and IDX of a 6-bit source (04 R133). -/
def srcKind (x : Nat) : Nat := x / 8
def srcIdx (x : Nat) : Nat := x % 8

/-- The source's KIND and IDX are defined (04 R133). -/
def srcOk (x : Nat) : Bool :=
  match srcKind x with
  | 0 => true
  | 1 => !x.testBit 1
  | 2 => !x.testBit 2
  | 3 => !x.testBit 2 && !x.testBit 1
  | 4 => true
  | 5 => !x.testBit 1 && !x.testBit 0
  | 6 => srcIdx x == 0
  | _ => false

/-- A packed source: LAT, SCR or OPR (04 R133). -/
def srcPacked (x : Nat) : Bool := decide (1 ≤ srcKind x) && decide (srcKind x ≤ 3)

def laneA (w : Word) : Nat := Word.bits w 55 50
def laneB (w : Word) : Nat := Word.bits w 49 44
def laneC (w : Word) : Nat := Word.bits w 43 38
def laneFmt (w : Word) : Nat := Word.bits w 37 35
def laneSel (w : Word) : Nat := Word.bits w 34 33
def laneScale (w : Word) : Bool := Word.bit w 32
def laneFn (w : Word) : Nat := Word.bits w 26 25

/-- The sources that a lane step uses (04 R135). -/
def laneSrcs (w : Word) : List Nat :=
  match stepOp w with
  | 1 => [laneA w]
  | 2 => [laneA w, laneB w, laneC w]
  | 3 => [laneA w, laneB w]
  | 4 => if laneFn w = 0 then [laneA w, laneB w] else [laneA w]
  | 5 => [laneA w, laneB w]
  | _ => [laneA w, laneB w, laneC w]

/-- SEL lies within the format's element count (04 R134). -/
def selOk (fmt sel : Nat) : Bool :=
  match fmt with
  | 0 => decide (sel ≤ 3)
  | 5 => sel == 0
  | 6 => sel == 0
  | _ => decide (sel ≤ 1)

def laneValid (w : Word) : Bool :=
  let ss := laneSrcs w
  let packed := ss.any srcPacked
  let ope := ss.any fun x => srcKind x == 5
  ss.all srcOk
    && (decide (ss.length ≥ 2) || laneB w == 0) && (decide (ss.length ≥ 3) || laneC w == 0)
    && decide ((ss.filter fun x => srcKind x == 1).length ≤ 1)
    && decide ((ss.filter fun x => srcKind x == 5).length ≤ 1)
    && (packed || ope || laneFmt w == 0)
    && (if packed then selOk (laneFmt w) (laneSel w) else laneSel w == 0)
    && (!laneScale w || ((ss.any fun x => srcKind x == 1) && decide (laneFmt w ≤ 3)))
    && (if stepOp w = 6 then decide (Word.bits w 31 29 ≤ 5) else Word.bits w 31 29 == 0)
    && !((stepOp w == 1 || stepOp w == 4) && Word.bit w 27)
    && (if stepOp w = 4 then decide (laneFn w ≤ 2) else laneFn w == 0)
    && Word.bits w 24 0 == 0

def dotValid (w : Word) : Bool :=
  let a := laneA w
  let af := Word.bits w 49 47
  let opf := Word.bits w 45 43
  (srcKind a == 1 || srcKind a == 2) && srcOk a && decide (af ≤ 4)
    && (!Word.bit w 46 || (srcKind a == 1 && decide (af ≤ 3)))
    && (opf == 0 || opf == 2 || opf == 3 || opf == 4)
    && ((af == 4) == (opf == 4)) && (opf == 0 || !Word.bit w 42) && Word.bits w 37 0 == 0

def foldValid (w : Word) : Bool :=
  srcKind (laneA w) == 0 && decide (1 ≤ Word.bits w 49 47) && decide (Word.bits w 49 47 ≤ 5) && Word.bits w 45 0 == 0

def moveValid (w : Word) : Bool :=
  !Word.bit w 58 && !Word.bit w 55 && !Word.bit w 53 && Word.bits w 51 0 == 0

def wbValid (w : Word) : Bool :=
  let tosc := Word.bit w 55
  let fmt := Word.bits w 50 48
  let sc := Word.bit w 43
  (if tosc then !Word.bit w 54 && (sc || !Word.bit w 53) else Word.bits w 52 51 == 0 && decide (5 ≤ fmt))
    && selOk fmt (Word.bits w 47 46) && decide (Word.bits w 45 44 ≤ 2) && (!sc || decide (fmt ≤ 3))
    && Word.bits w 42 0 == 0

def drainValid (w : Word) : Bool :=
  (Word.bit w 51 || Word.bits w 55 52 % 2 == 0) && Word.bits w 49 0 == 0

/-- Greatest value of a SETP target (04 R142). -/
def setpMax (c : Nat) : Nat :=
  if c ≤ 3 then 63 else if c ≤ 5 then 255 else if c = 6 then 127 else if c = 7 then 255 else 7

def setpValid (w : Word) : Bool :=
  decide (Word.bits w 58 55 ≤ 8) && decide (Word.bits w 7 0 ≤ setpMax (Word.bits w 58 55)) && Word.bits w 54 8 == 0

/-- The step is valid (04 R126). -/
def stepValid (w : Word) : Bool :=
  match stepOp w with
  | 0x00 => Word.bits w 58 0 == 0
  | 0x01 | 0x02 | 0x03 | 0x04 | 0x05 | 0x06 => laneValid w
  | 0x08 => dotValid w
  | 0x09 => foldValid w
  | 0x0C | 0x0D => moveValid w
  | 0x0E => wbValid w
  | 0x10 => drainValid w
  | 0x18 => Word.bits w 55 32 == 0
  | 0x19 => setpValid w
  | _ => false

/-! ### What a step names and depends on -/

/-- The LAT source of a lane or DOT step. -/
def latSrc (w : Word) : Option Nat :=
  if decide (1 ≤ stepOp w) && decide (stepOp w ≤ 6) then (laneSrcs w).find? fun x => srcKind x == 1
  else if stepOp w = 8 && srcKind (laneA w) == 1 then some (laneA w) else none

/-- The latch whose column the step reads, and whether it advances RCUR (04 R128, R133). -/
def stepReadLatch (w : Word) : Option (Nat × Bool) :=
  if stepOp w = 0x0C then some (if Word.bit w 52 then 1 else 0, Word.bit w 54)
  else (latSrc w).map fun x => (x % 2, x.testBit 2)

/-- The latch whose column the step writes, and whether it advances WCUR. -/
def stepWriteLatch (w : Word) : Option (Nat × Bool) :=
  if stepOp w = 0x0D then some (if Word.bit w 52 then 1 else 0, Word.bit w 54)
  else if stepOp w = 0x0E && !Word.bit w 55 then some (if Word.bit w 53 then 1 else 0, Word.bit w 54)
  else none

/-- The step names latch `l` (04 R131). -/
def stepNames (w : Word) (l : Nat) : Bool :=
  (match stepReadLatch w with | some x => x.1 == l | none => false)
    || (match stepWriteLatch w with | some x => x.1 == l | none => false)

/-- The step is scaled: the latch whose scale pointer it uses and the format (04 R123, R144, R150). -/
def stepScale (w : Word) : Option (Nat × Nat) :=
  if decide (1 ≤ stepOp w) && decide (stepOp w ≤ 6) && laneScale w then
    (latSrc w).map fun x => (x % 2, laneFmt w)
  else if stepOp w = 8 && Word.bit w 46 then (latSrc w).map fun x => (x % 2, Word.bits w 49 47)
  else if stepOp w = 0x0E && Word.bit w 43 then some (if Word.bit w 53 then 1 else 0, Word.bits w 50 48)
  else none

/-- Scale pointer of latch `l`. -/
def UnitPtrs.sptr (p : UnitPtrs) (l : Nat) : Nat := if l = 0 then p.sptr0 else p.sptr1
def UnitPtrs.rcur (p : UnitPtrs) (l : Nat) : Cursor := if l = 0 then p.rcur0 else p.rcur1
def UnitPtrs.wcur (p : UnitPtrs) (l : Nat) : Cursor := if l = 0 then p.wcur0 else p.wcur1

/-- The SC registers of the scale bytes that the step uses. -/
def scaleRegs (u : SprigUnit) (w : Word) : List Nat :=
  match stepScale w with
  | none => []
  | some (l, fmt) =>
    if stepOp w = 8 then (upTo (fmtElems fmt / 32)).map fun b => (u.ptrs.sptr l + b) % 256 / 64
    else [(u.ptrs.sptr l + (if stepOp w = 0x0E then Word.bits w 47 46 else laneSel w)) % 256 / 64]

/-- The destination accumulator of a DOT (04 R145). -/
def dotDst (u : SprigUnit) (w : Word) : Nat :=
  if Word.bit w 40 then (Word.bits w 58 56 + u.ptrs.accoff) % 8 else Word.bits w 58 56

/-- Accumulators, scratch registers and drain slots that the step writes. -/
def stepDests (u : SprigUnit) (w : Word) : List Nat × List Nat × List Nat :=
  match stepOp w with
  | 0x01 | 0x02 | 0x03 | 0x04 | 0x05 | 0x06 | 0x09 => ([Word.bits w 58 56], [], [])
  | 0x08 => ([dotDst u w], [], [])
  | 0x0C => ([], [Word.bits w 57 56], [])
  | 0x0E => if Word.bit w 55 then ([], [Word.bits w 52 51], []) else ([], [], [])
  | 0x10 =>
    let sl := Word.bits w 55 52
    (if Word.bit w 50 then [Word.bits w 58 56] else [], [], if Word.bit w 51 then [sl] else [sl, sl + 1])
  | _ => ([], [], [])

/-- Accumulators and scratch registers that the step reads. -/
def stepReads (u : SprigUnit) (w : Word) : List Nat × List Nat :=
  let sc := scaleRegs u w
  match stepOp w with
  | 0x01 | 0x02 | 0x03 | 0x04 | 0x05 | 0x06 =>
    (((laneSrcs w).filter fun x => srcKind x == 0).map srcIdx,
      ((laneSrcs w).filter fun x => srcKind x == 2).map (fun x => x % 4) ++ sc)
  | 0x08 => ([], (if srcKind (laneA w) = 2 then [laneA w % 4] else []) ++ sc)
  | 0x09 => ([srcIdx (laneA w)], [])
  | 0x0D => ([], [Word.bits w 57 56])
  | 0x0E => ([Word.bits w 58 56], sc)
  | 0x10 => ([Word.bits w 58 56], [])
  | _ => ([], [])

/-- The step reads operand register `r`. -/
def stepUsesOp (w : Word) (r : Nat) : Bool :=
  if stepOp w = 8 then (if Word.bits w 45 43 = 0 then (if Word.bit w 42 then 1 else 0) == r else true)
  else if decide (1 ≤ stepOp w) && decide (stepOp w ≤ 6) then
    (laneSrcs w).any fun x => (srcKind x == 3 && x % 2 == r) || srcKind x == 5
  else false

/-- Cycles from issue to ready and to retirement (04 R153). -/
def stepTimes (w : Word) : Nat × Nat :=
  match stepOp w with
  | 0x00 => (1, 1)
  | 0x01 | 0x03 => (4, 4)
  | 0x02 => (5, 5)
  | 0x04 => if laneFn w = 0 then (4, 4) else (6, 6)
  | 0x05 | 0x06 => (3, 3)
  | 0x08 => (6, 6)
  | 0x09 => (2 + Word.bits w 49 47, 2 + Word.bits w 49 47)
  | 0x0C | 0x0D | 0x0E => (3, 3)
  | 0x10 => (2, 2)
  | _ => (1, 1)

/-! ### Values -/

/-- Scale-buffer byte `b` and whether its register is poisoned (04, block scales). -/
def scaleByte (u : SprigUnit) (b : Nat) : Nat × Bool :=
  let r := u.sc.getD (b % 256 / 64) {}
  (lineByte r.data (b % 64), r.poison)

/-- What a source delivers to lane `i`: value and poison (04 R133, R134, R123, R156). `col` is the column of
the step's latch source. -/
def srcLane (u : SprigUnit) (col : PReg) (w : Word) (x i : Nat) : W32 × Bool :=
  let fmt := laneFmt w
  let sel := laneSel w
  let n := if fmt = 7 then i % 16 else 32 * sel + i
  match srcKind x with
  | 0 =>
    let a := u.acc.getD (srcIdx x) {}
    (a.lanes.getD i 0, a.poison.getLsbD i)
  | 1 =>
    if laneScale w then
      let sb := scaleByte u (u.ptrs.sptr (x % 2) + sel)
      (widenScaled fmt (elemCode fmt col.data n) sb.1, col.poison || sb.2)
    else (widen fmt (elemCode fmt col.data n), col.poison)
  | 2 => let r := u.sc.getD (x % 4) {}; (widen fmt (elemCode fmt r.data n), r.poison)
  | 3 => let r := u.ops.getD (x % 2) {}; (widen fmt (elemCode fmt r.data n), r.poison)
  | 4 => (u.sreg.getD (srcIdx x) 0, false)
  | 5 =>
    let e := fmtElems fmt
    let k := u.ptrs.eptr % (2 * e)
    let o0 := u.ops.getD 0 {}
    let o1 := u.ops.getD 1 {}
    (widen fmt (if k < e then elemCode fmt o0.data k else elemCode fmt o1.data (k - e)), o0.poison || o1.poison)
  | _ => (0, false)

/-- The lanes that a lane step writes: with a packed FP32 source only 16·SEL to 16·SEL+15 (04 R134). -/
def laneWrites (w : Word) (i : Nat) : Bool :=
  if laneFmt w = 7 && (laneSrcs w).any srcPacked then
    decide (16 * laneSel w ≤ i) && decide (i < 16 * laneSel w + 16)
  else true

/-- Negate when `b`. -/
def negIf (b : Bool) (v : W32) : W32 := if b then v ^^^ 0x80000000 else v

/-- The result of a lane step in lane `i`: value and poison (04 R146 to R148, R156). -/
def laneResult (u : SprigUnit) (col : PReg) (w : Word) (i : Nat) : W32 × Bool :=
  let a := srcLane u col w (laneA w) i
  let a' := if Word.bit w 28 then toF32 (fvNeg (f32 a.1)) else toF32 (f32 a.1)
  let b := srcLane u col w (laneB w) i
  let c := srcLane u col w (laneC w) i
  let negc := Word.bit w 27
  let b' := if negc then fvNeg (f32 b.1) else f32 b.1
  let c' := if negc then fvNeg (f32 c.1) else f32 c.1
  match stepOp w with
  | 1 => (a', a.2)
  | 2 => (toF32 (fvAdd (fvMul (f32 a') (f32 b.1)) c'), a.2 || b.2 || c.2)
  | 3 => (toF32 (fvAdd (f32 a') b'), a.2 || b.2)
  | 4 =>
    if laneFn w = 0 then (mul32 a' b.1, a.2 || b.2)
    else if laneFn w = 1 then (rsqrtEst a', a.2) else (recipEst a', a.2)
  | 5 => (toF32 (fvMax (f32 a') b'), a.2 || b.2)
  | _ =>
    let old := u.acc.getD (Word.bits w 58 56) {}
    if fvRel (Word.bits w 31 29) (f32 a') (f32 b.1) then (toF32 c', a.2 || b.2 || c.2)
    else (old.lanes.getD i 0, a.2 || b.2 || old.poison.getLsbD i)

/-- An accumulator from lane results; `none` keeps the lane. -/
def accOf (old : AccReg) (f : Nat → Option (W32 × Bool)) : AccReg :=
  let r := (upTo 32).map fun i => (f i).getD (old.lanes.getD i 0, old.poison.getLsbD i)
  { lanes := r.map (·.1), poison := BitVec.ofNat 32 (packNat (r.zipIdx.map fun x => (x.2, if x.1.2 then 1 else 0))) }

def laneStep (u : SprigUnit) (col : PReg) (w : Word) : AccReg :=
  accOf (u.acc.getD (Word.bits w 58 56) {}) fun i =>
    if laneWrites w i then some (laneResult u col w i) else none

/-- A lane that the step writes is poisoned (04 R159: a lane has become poisoned). -/
def laneBad (u : SprigUnit) (col : PReg) (w : Word) : Bool :=
  (upTo 32).any fun i => laneWrites w i && (laneResult u col w i).2

/-- Operand element `n` mod 128 of a DOT and the poison of its register (04 R143). -/
def dotOperand (u : SprigUnit) (w : Word) (n : Nat) : FV × Bool :=
  let f := Word.bits w 45 43
  let k := n % 128
  if f = 0 then
    let r := u.ops.getD (if Word.bit w 42 then 1 else 0) {}
    (decodeElem 0 (elemCode 0 r.data k), r.poison)
  else
    let r := u.ops.getD (k / 64) {}
    (decodeElem f (elemCode f r.data (k % 64)), r.poison)

/-- Exact sum of a list of values: the first, then each next one. -/
def fvSum : List FV → FV
  | [] => .fin false 0 0
  | v :: vs => vs.foldl fvAdd v

/-- The sum of products in format `k`: an INT8 sum is an integer and has no −0.0 (06 R211). -/
def dotSum (k : Nat) (vs : List FV) : FV :=
  match fvSum vs with
  | .fin neg m e => if k = 4 && m = 0 then .fin false 0 0 else .fin neg m e
  | v => v

/-- The contribution of a DOT to lane `i` (04 R144). -/
def dotLane (u : SprigUnit) (wt : PReg) (w : Word) (i : Nat) : W32 × Bool :=
  let f := Word.bits w 49 47
  let k := fmtElems f / 32
  let elem := Word.bit w 41
  let terms := (upTo k).map fun m =>
    let o := dotOperand u w (if elem then u.ptrs.opptr + k * i + m else u.ptrs.opptr + m)
    (fvMul (decodeElem f (elemCode f wt.data (k * i + m))) o.1, o.2)
  let sum := dotSum f (terms.map (·.1))
  let sb : Nat × Bool :=
    if Word.bit w 46 then scaleByte u (u.ptrs.sptr (laneA w % 2) + k * i / 32) else (127, false)
  let r := if sb.1 = 255 then nan32 else toF32 (fvScale ((sb.1 : Int) - 127) sum)
  (if Word.bit w 38 then neg32 r else r, wt.poison || sb.2 || terms.any (·.2))

def dotStep (u : SprigUnit) (wt : PReg) (w : Word) : AccReg :=
  let old := u.acc.getD (dotDst u w) {}
  let clr := Word.bit w 39 && u.ptrs.opptr == 0
  accOf old fun i =>
    let c := dotLane u wt w i
    some (if clr then c else (add32 (old.lanes.getD i 0) c.1, c.2 || old.poison.getLsbD i))

/-- One level of FOLD's tree (04 R149). -/
def foldLevel (fn : Bool) : List (W32 × Bool) → List (W32 × Bool)
  | a :: b :: t => ((if fn then max32 a.1 b.1 else add32 a.1 b.1), a.2 || b.2) :: foldLevel fn t
  | l => l

def foldStep (u : SprigUnit) (w : Word) : AccReg :=
  let a := u.acc.getD (srcIdx (laneA w)) {}
  let start := (upTo 32).map fun i => (a.lanes.getD i 0, a.poison.getLsbD i)
  let r := Nat.repeat (foldLevel (Word.bit w 46)) (Word.bits w 49 47) start
  accOf {} fun i => some (r.getD i (0, false))

/-- The lanes of a WB as element codes with their poison (04 R150). `draws` are the stochastic draws. With SCALE a NaN
lane, and every lane under a scale byte 0xFF, is converted like an unscaled NaN: the canonical NaN in FP8, code 0 in FP4
and FP6 (DESIGN CHOICE, log entry 103). -/
def wbCodes (u : SprigUnit) (w : Word) (draws : List Nat) : List (Nat × Bool) :=
  let fmt := Word.bits w 50 48
  let sel := Word.bits w 47 46
  let a := u.acc.getD (Word.bits w 58 56) {}
  let n := if fmt = 7 then 16 else 32
  let base := if fmt = 7 then 16 * sel else 0
  let sb : Nat × Bool :=
    if Word.bit w 43 then scaleByte u (u.ptrs.sptr (if Word.bit w 53 then 1 else 0) + sel) else (127, false)
  (upTo n).map fun i =>
    let r := rndOf (Word.bits w 45 44) (draws.getD i 0)
    let x := a.lanes.getD (base + i) 0
    let c :=
      if Word.bit w 43 then
        encodeElem fmt r (if sb.1 = 255 then .nan else fvScale (127 - (sb.1 : Int)) (f32 x)) true
      else encodeElem fmt r (f32 x)
    (c, a.poison.getLsbD (base + i) || sb.2)

/-- The SC register after a WB (04 R150, R157). -/
def wbSc (u : SprigUnit) (w : Word) (draws : List Nat) : PReg :=
  let fmt := Word.bits w 50 48
  let old := u.sc.getD (Word.bits w 52 51) {}
  let cs := wbCodes u w draws
  let base := if fmt = 7 then 0 else 32 * Word.bits w 47 46
  { data := cs.zipIdx.foldl (fun d c => setElem fmt d (base + c.2) c.1.1) old.data,
    poison := old.poison || cs.any (·.2) }

/-- The column that a WB writes to a latch. -/
def wbCol (u : SprigUnit) (w : Word) (draws : List Nat) : PReg :=
  let cs := wbCodes u w draws
  { data := lineOfElems (Word.bits w 50 48) (cs.map (·.1)), poison := cs.any (·.2) }

/-- The drain slots that a DRAIN writes (04 R151, R158). -/
def drainSlots (u : SprigUnit) (w : Word) : List (Nat × PReg) :=
  let a := u.acc.getD (Word.bits w 58 56) {}
  let sl := Word.bits w 55 52
  if Word.bit w 51 then
    [(sl, { data := lineOfElems 5 (a.lanes.map fun x => encodeElem 5 .nearest (f32 x)), poison := a.poison != 0 })]
  else
    [(sl, { data := lineOfElems 7 ((a.lanes.take 16).map (·.toNat)), poison := a.poison.toNat % 65536 != 0 }),
      (sl + 1, { data := lineOfElems 7 ((a.lanes.drop 16).map (·.toNat)), poison := a.poison.toNat / 65536 != 0 })]

/-! ### Cursors and pointers -/

/-- Advance a cursor; at 63 it passes the end (04 R128). -/
def Cursor.adv (c : Cursor) : Cursor := if c.pos = 63 then { c with past := true } else { c with pos := c.pos + 1 }

/-- Load the pointer with SETP target code `c` (04 R142; loading clears the past-end flag, R128). -/
def UnitPtrs.load (p : UnitPtrs) (c v : Nat) : UnitPtrs :=
  match c with
  | 0 => { p with rcur0 := ⟨v, false⟩ }
  | 1 => { p with rcur1 := ⟨v, false⟩ }
  | 2 => { p with wcur0 := ⟨v, false⟩ }
  | 3 => { p with wcur1 := ⟨v, false⟩ }
  | 4 => { p with sptr0 := v }
  | 5 => { p with sptr1 := v }
  | 6 => { p with opptr := v }
  | 7 => { p with eptr := v }
  | _ => { p with accoff := v }

/-- Advance the scale pointer of latch `l`. -/
def UnitPtrs.advScale (p : UnitPtrs) (l n : Nat) : UnitPtrs :=
  if l = 0 then { p with sptr0 := (p.sptr0 + n) % 256 } else { p with sptr1 := (p.sptr1 + n) % 256 }
def UnitPtrs.advRead (p : UnitPtrs) (l : Nat) : UnitPtrs :=
  if l = 0 then { p with rcur0 := p.rcur0.adv } else { p with rcur1 := p.rcur1.adv }
def UnitPtrs.advWrite (p : UnitPtrs) (l : Nat) : UnitPtrs :=
  if l = 0 then { p with wcur0 := p.wcur0.adv } else { p with wcur1 := p.wcur1.adv }

/-- The side effects of a step on cursors and pointers, at issue (04 R127, R124, R133, R143, R145). -/
def stepPtrs (p : UnitPtrs) (w : Word) : UnitPtrs :=
  let p1 := match stepReadLatch w with
    | some (l, true) =>
      let q := p.advRead l
      match stepScale w with
      | some (_, fmt) => q.advScale l (fmtElems fmt / 32)
      | none => q
    | _ => p
  let p2 := match stepWriteLatch w with
    | some (l, true) => p1.advWrite l
    | _ => p1
  let op := stepOp w
  let p3 :=
    if decide (1 ≤ op) && decide (op ≤ 6)
        && (laneSrcs w).any (fun x => srcKind x == 5 && x.testBit 2) then
      { p2 with eptr := (p2.eptr + 1) % (2 * fmtElems (laneFmt w)) }
    else p2
  if op = 8 then
    let e := fmtElems (Word.bits w 49 47)
    let n := p3.opptr + (if Word.bit w 41 then e else e / 32)
    { p3 with opptr := n % 128,
              accoff := if Word.bit w 40 && decide (128 ≤ n) then (p3.accoff + 1) % 8 else p3.accoff }
  else if op = 0x19 then p3.load (Word.bits w 58 55) (Word.bits w 7 0)
  else p3

/-! ### Effects of issued steps -/

/-- Apply an effect to the unit's registers; latch writes are applied to DRAM by the caller. -/
def applyEff (u : SprigUnit) : StepEffect → SprigUnit
  | .acc n v b => { u with acc := u.acc.set n v, status := { u.status with poison := u.status.poison || b } }
  | .sc n v b => { u with sc := u.sc.set n v, status := { u.status with poison := u.status.poison || b } }
  | .slot n v => { u with drain := u.drain.set n v }
  | .latch .. => u

/-- The unit as later steps see it: every issued effect applied (04 R127). -/
def forwarded (u : SprigUnit) : SprigUnit := (u.fly.flatMap (·.effs)).foldl applyEff u

/-- The column that a latch shows at a cursor, with writes still on their way (04 R154). -/
def flyCol (u : SprigUnit) (l row col : Nat) (d : Column) : Column :=
  (u.fly.flatMap (·.effs)).foldl (fun c e =>
    match e with
    | .latch l' r' c' v => if l' = l && r' = row && c' = col then v else c
    | _ => c) d

/-- The effects of a step, given the unit as it sees itself, its latch column, the open row of the latch it
writes, and stochastic draws. -/
def stepEffects (v : SprigUnit) (col : PReg) (row : Nat) (draws : List Nat) (w : Word) : List StepEffect :=
  match stepOp w with
  | 0x01 | 0x02 | 0x03 | 0x04 | 0x05 | 0x06 => 
    [.acc (Word.bits w 58 56) (laneStep v col w) (laneBad v col w)]
  | 0x08 =>
    let a := dotStep v (if srcKind (laneA w) = 2 then v.sc.getD (laneA w % 4) {} else col) w
    [.acc (dotDst v w) a (a.poison != 0)]
  | 0x09 => let a := foldStep v w; [.acc (Word.bits w 58 56) a (a.poison != 0)]
  | 0x0C => [.sc (Word.bits w 57 56) col col.poison]
  | 0x0D =>
    let r := v.sc.getD (Word.bits w 57 56) {}
    let l := if Word.bit w 52 then 1 else 0
    [.latch l row (v.ptrs.wcur l).pos (storeCol r.data r.poison)]
  | 0x0E =>
    if Word.bit w 55 then [.sc (Word.bits w 52 51) (wbSc v w draws) ((wbCodes v w draws).any (·.2))]
    else
      let r := wbCol v w draws
      let l := if Word.bit w 53 then 1 else 0
      [.latch l row (v.ptrs.wcur l).pos (storeCol r.data r.poison)]
  | 0x10 =>
    (drainSlots v w).map (fun x => StepEffect.slot x.1 x.2)
      ++ (if Word.bit w 50 then [.acc (Word.bits w 58 56) {} false] else [])
  | _ => []

end Sys2Proof.Machine
end

