-- ==== Sys2Proof/Machine/SprigUnit.lean ====
section
/-! DEFINITION. The Sprig unit of a bank: issue and retirement of steps, stops, pauses, the status word,
and what each extended command does to an addressed bank (04 R116 to R119, R125 to R131, R152 to R159;
05 R172 to R178). -/

namespace Sys2Proof.Machine

def Bank.latch (k : Bank) (l : Nat) : Latch := if l = 0 then k.l0 else k.l1
def Bank.setLatch (k : Bank) (l : Nat) (v : Latch) : Bank := if l = 0 then { k with l0 := v } else { k with l1 := v }
/-- The row of a latch is open. -/
def Bank.isOpen (k : Bank) (l : Nat) : Bool := (k.latch l).row.isSome

def State.modUnit (s : State) (mbn : Nat) (f : SprigUnit → SprigUnit) : State :=
  s.modBank mbn fun k => { k with unit := f k.unit }

/-- Set END to PROTOCOL, with no other effect (04 R119). -/
def unitProtocol (u : SprigUnit) : SprigUnit := { u with status := { u.status with endc := 4 } }

/-- Stop a run (04 R129). -/
def unitStop (u : SprigUnit) (endc t : Nat) : SprigUnit :=
  { u with status := { u.status with st := .stopped, endc := endc }, run := { u.run with done := true, stopAt := t } }

/-- The unit is in recipe mode. -/
def SprigUnit.active (u : SprigUnit) : Bool := u.status.st != .off
/-- A run is RUNNING or PAUSED. -/
def SprigUnit.busy (u : SprigUnit) : Bool := u.status.st == .running || u.status.st == .paused

/-- The state at recipe-mode entry: everything but the recipe memory is cleared (04 R116, R117). -/
def unitEnter (u : SprigUnit) (t : Nat) : SprigUnit :=
  { recipe := u.recipe, status := { st := .idle }, run := { modeAt := some t, recipeAt := u.run.recipeAt } }

/-- The state after leaving recipe mode: registers, pointers, slots and status discarded (04 R117). -/
def unitLeave (u : SprigUnit) : SprigUnit := { recipe := u.recipe }

/-- Names of latch `l` among the steps FIRST to LAST (04 R131). -/
def runNames (u : SprigUnit) (first last l : Nat) : Bool :=
  (upTo 32).any fun i => decide (first ≤ i) && decide (i ≤ last) && stepNames (Tab.get 0 u.recipe i) l

/-! ### The status word (04 R159) -/

def UnitState.code : UnitState → Nat
  | .off => 0 | .idle => 1 | .running => 2 | .paused => 3 | .stopped => 4

def bitIf (i : Nat) (b : Bool) : Nat × Nat := (i, if b then 1 else 0)

def statusWord (u : SprigUnit) : Word :=
  let q := u.status
  pack <| [(61, q.st.code), (58, q.endc), bitIf 57 q.poison, bitIf 56 q.ue, (55, q.ueLatch), (49, q.ueCol),
      (43, q.ce0), (37, q.ce1), (32, q.step % 32), (20, q.iterDone % 4096), bitIf 5 q.outPoison]
    ++ (u.acc.zipIdx.map fun a => bitIf (12 + a.2) (a.1.poison != 0))
    ++ (u.sc.zipIdx.map fun a => bitIf (8 + a.2) a.1.poison)
    ++ (u.ops.zipIdx.map fun a => bitIf (6 + a.2) a.1.poison)

/-- Clear the sticky fields (04 R159). -/
def clearSticky (u : SprigUnit) : SprigUnit :=
  { u with status := { u.status with poison := false, ue := false, ueLatch := 0, ueCol := 0, ueRow := 0,
                                     ce0 := 0, ce1 := 0, outPoison := false, ues := [] } }

/-! ### Rounding sources of the banks (06 R215, R216) -/

/-- The seed of a source: fixed mode gives it, hardware mode draws it (06 R216). -/
def State.sourceSeed (s : State) (index src : Nat) : State × Word :=
  if s.odNat index 4 = 1 then (s, fixedSeed (s.odVal index 5) src)
  else
    let v := Config.random s.free
    (s.draw, if v = 0 then 1 else v)

/-- The state of a bank's source, seeding it at its first use. -/
def State.bankSource (s : State) (mbn : Nat) : State × Word :=
  match (s.bank mbn).rnd with
  | some v => (s, v)
  | none => s.sourceSeed 0x4000 mbn

/-! ### Issue of a step (04 R127, R128, R152 to R154) -/

/-- The steps in flight, and those that have left flight lately, at the times that count for later steps. -/
def SprigUnit.recent (u : SprigUnit) : List InFlight := u.fly ++ u.run.ghosts

/-- The issue conditions of the step `w` at cycle `t`. -/
def stepReady (u : SprigUnit) (w : Word) (t : Nat) : Bool :=
  let r := u.run
  let d := stepDests u w
  let rd := stepReads u w
  let hit (f : InFlight) : Bool :=
    f.scs.any (fun x => d.2.1.contains x || rd.2.contains x) || f.slots.any (fun x => d.2.2.contains x)
      || f.accs.any (fun x => d.1.contains x || rd.1.contains x)
  since r.runAt 2 t && since r.issueAt 1 t && since r.resumeAt 0 t
    && u.recent.all (fun f =>
      if hit f then
        if stepOp w = 8 && f.dotAcc.isSome then decide (f.issueAt + 1 ≤ t) else decide (f.readyAt ≤ t)
      else true)
    && (match stepReadLatch w with
      | none => true
      | some (l, _) =>
        u.recent.all (fun f =>
            match f.pathAt with
            | none => true
            | some p => p != t && p + 1 != t && (f.pathCol != some (l, (u.ptrs.rcur l).pos) || decide (p < t)))
          && (match r.pathAt with
            | none => true
            | some p => p != t && p + 1 != t))

/-- The step issues at cycle `t`: the first cycle that meets the conditions (04 R127; 05 R178). No condition keeps a step
waiting for more than 24 cycles after its predecessor. -/
def stepDue (u : SprigUnit) (w : Word) (t : Nat) : Bool :=
  stepReady u w t && (upTo 24).all fun i => decide (t ≤ i) || !stepReady u w (t - 1 - i)

/-- Why the step stops the run, if it does: END LATCH_CLOSED or COLUMN_OVERRUN (04 R128). Where a latch holds no open row
and its cursor's past-end flag is set too, LATCH_CLOSED is reported (DESIGN CHOICE, log entry 104). -/
def stepStop (k : Bank) (w : Word) : Option Nat :=
  let bad (x : Option (Nat × Bool)) (c : Nat → Cursor) : Option Nat :=
    match x with
    | none => none
    | some (l, _) => if !k.isOpen l then some 2 else if (c l).past then some 3 else none
  match bad (stepReadLatch w) k.unit.ptrs.rcur with
  | some e => some e
  | none => bad (stepWriteLatch w) k.unit.ptrs.wcur

/-- The column that the step reads from its latch, classified (04 R155): the unit with its CE and UE fields
counted, and the register contents delivered. -/
def stepColumn (s : State) (mbn : Nat) (w : Word) : SprigUnit × PReg :=
  let k := s.bank mbn
  let u := k.unit
  match stepReadLatch w with
  | none => (u, {})
  | some (l, _) =>
    let la := k.latch l
    let row := la.row.getD 0
    let col := (u.ptrs.rcur l).pos
    let e := s.classify mbn la.logRow (flyCol u l row col (s.dramGet mbn row col))
    let q := u.status
    let q1 := if e.ce then
        (if l = 0 then { q with ce0 := min 63 (q.ce0 + 1) } else { q with ce1 := min 63 (q.ce1 + 1) }) else q
    let q2 := if e.ue && !q1.ue then { q1 with ue := true, ueLatch := l, ueCol := col, ueRow := la.logRow } else q1
    let q2 := if e.ue then { q2 with ues := q2.ues ++ [(l, col, la.logRow)] } else q2
    ({ u with status := q2 }, { data := e.data, poison := e.bad })

/-- Number of elements that a WB with stochastic rounding converts, 0 for every other step. -/
def stepDraws (w : Word) : Nat :=
  if stepOp w = 0x0E && Word.bits w 45 44 = 1 then (if Word.bits w 50 48 = 7 then 16 else 32) else 0

/-- The next step after the one issued, and the iterations completed. After the last step of the last iteration STEP
stands at FIRST (DESIGN CHOICE, log entry 105). -/
def stepAdvance (u : SprigUnit) : SprigUnit :=
  let q := u.status
  if q.step = u.run.last then
    { u with status := { q with iterDone := q.iterDone + 1, step := u.run.first },
             run := { u.run with done := decide (q.iterDone + 1 ≥ u.run.iter) } }
  else { u with status := { q with step := q.step + 1 } }

/-- Issue the next step of a run, when it is of opcode `op` and meets its conditions at cycle `t`; a closed
latch or a passed cursor stops the run instead. -/
def stepIssue (op mbn t : Nat) (s : State) : Out :=
  let k := s.bank mbn
  let u := k.unit
  let w := Tab.get 0 u.recipe u.status.step
  if !(decide (mbn < 16384) && s.fitted (mbn / 1024)) then .next s
  else if !(s.stackOn (mbn / 1024) && u.status.st == .running && !u.run.done && stepOp w == op && stepDue u w t) then
    .next s
  else
    match stepStop k w with
    | some e => go s (s.setBank mbn { k with unit := unitStop u e t })
    | none =>
      let uc := stepColumn s mbn w
      let v := forwarded uc.1
      let src := if stepDraws w = 0 then (s, 0) else s.bankSource mbn
      let dr := drawsFor (stepDraws w) src.2
      let wl := (stepWriteLatch w).map (·.1)
      let row := match wl with
        | some l => (k.latch l).row.getD 0
        | none => 0
      let d := stepDests u w
      let tm := stepTimes w
      let f : InFlight :=
        { effs := stepEffects v uc.2 row dr.1 w, accs := d.1, scs := d.2.1, slots := d.2.2,
          dotAcc := if op = 8 then some (dotDst u w) else none, issueAt := t, readyAt := t + tm.1,
          retireAt := t + tm.2, pathAt := wl.map fun _ => t + 2,
          pathCol := wl.map fun l => (l, (u.ptrs.wcur l).pos) }
      let u1 : SprigUnit := { uc.1 with
        ptrs := stepPtrs u.ptrs w
        sreg := if op = 0x18 then u.sreg.set (Word.bits w 58 56) (w.setWidth 32) else u.sreg
        fly := u.fly ++ [f]
        run := { uc.1.run with issueAt := some t, wroteLatch := u.run.wroteLatch || wl.isSome } }
      go s (src.1.setBank mbn { k with
        unit := stepAdvance u1, rnd := if stepDraws w = 0 then k.rnd else some dr.2 })

/-- Apply the latch writes of effects to DRAM; a poisoned column sets OUT_POISON (04 R158). -/
def applyLatch (s : State) (mbn : Nat) (effs : List StepEffect) : State :=
  effs.foldl (fun s e =>
    match e with
    | .latch _ row col v =>
      let s1 := s.dramPut mbn row col v
      if (eccRead v).bad then
        s1.modUnit mbn fun u => { u with status := { u.status with outPoison := true } }
      else s1
    | _ => s) s

/-- Retire the `k`-th issued step at cycle `t`, not before an earlier one that retires no later (04 R153). -/
def stepRetireAt (mbn k t : Nat) (s : State) : Out :=
  let u := (s.bank mbn).unit
  if !(decide (mbn < 16384) && s.fitted (mbn / 1024)) then .next s
  else
    match u.fly[k]? with
    | none => .next s
    | some f =>
      if !(s.stackOn (mbn / 1024) && decide (f.retireAt ≤ t)
          && (u.fly.take k).all fun g => decide (f.retireAt < g.retireAt)) then .next s
      else
        let s1 := applyLatch s mbn f.effs
        go s (s1.modUnit mbn fun v =>
          let v1 := f.effs.foldl applyEff { v with fly := v.fly.eraseIdx k }
          let v2 : SprigUnit := { v1 with run := { v1.run with
            retireAt := max v1.run.retireAt f.retireAt,
            ghosts := (f :: v1.run.ghosts).take 40,
            pathAt := match f.pathAt with | some p => some p | none => v1.run.pathAt } }
          if v2.run.done && v2.fly.isEmpty && v2.busy then
            { v2 with status := { v2.status with st := .idle } }
          else v2)

/-! ### Collecting corrected errors (04 R155) -/

/-- Take CE`l` from the status word and count it for the row that latch `l` holds, for the stack, and for
the job that holds the bank. -/
def collectCe (s : State) (mbn l : Nat) : State :=
  let k := s.bank mbn
  let n := if l = 0 then k.unit.status.ce0 else k.unit.status.ce1
  if n = 0 || !k.unit.active then s
  else
    let s1 := s.countCe n (s.jobEv mbn (k.latch l).logRow 0)
    let s2 := s1.modUnit mbn fun u =>
      { u with status := if l = 0 then { u.status with ce0 := 0 } else { u.status with ce1 := 0 } }
    match k.hold with
    | none => s2
    | some j =>
      match Tab.find s2.mem.jobs j with
      | none => s2
      | some jb =>
        let jb' := { jb with res := { jb.res with ceTotal := jb.res.ceTotal + n } }
        { s2 with mem := { s2.mem with jobs := Tab.put s2.mem.jobs j jb' } }

/-! ### Extended commands (05 R172 to R178) -/

def extCmd (w : BitVec 48) : Nat := Word.bits w 47 43
def extMask (w : BitVec 48) : Nat := Word.bits w 42 27
/-- Banks that the mask addresses, as module bank numbers. -/
def extBanks (stk ch : Nat) (w : BitVec 48) : List Nat :=
  ((upTo 16).filter fun b => (extMask w).testBit b).map fun b => stk * 1024 + ch * 16 + b

/-- RSVD bits of an extended command are zero (05 R172, R173). -/
def extRsvdOk (w : BitVec 48) : Bool :=
  match extCmd w with
  | 0x10 => Word.bits w 25 0 == 0
  | 0x11 => Word.bits w 18 0 == 0
  | 0x12 => Word.bits w 25 0 == 0
  | 0x13 => Word.bits w 3 0 == 0
  | 0x14 => Word.bits w 22 0 == 0
  | 0x15 => Word.bits w 25 0 == 0
  | _ => false

/-- The command is formed as 05 R173 asks. -/
def extFormed (w : BitVec 48) : Bool :=
  extRsvdOk w &&
    match extCmd w with
    | 0x11 => decide (Word.bits w 26 22 + Word.bits w 21 19 ≤ 31)
    | 0x13 => decide (1 ≤ Word.bits w 16 5) && decide (Word.bits w 26 22 ≤ Word.bits w 21 17)
    | 0x14 => bitCount (extMask w) 16 == 1
    | 0x15 => bitCount (extMask w) 16 == 1
    | _ => true

/-- Words of the cursor payload: P0 and P1; RSVD parts must be zero (05 R175, 00 R18). -/
def payloadOk (d : Line) : Bool :=
  nbits d.toNat 63 9 == 0 && nbits d.toNat 69 64 == 0 && d.toNat / 2 ^ 128 == 0

/-- The value of SETP target `c` in word P1 (05 R175). -/
def payloadValue (p1 : Nat) (c : Nat) : Nat :=
  match c with
  | 0 => nbits p1 63 58
  | 1 => nbits p1 57 52
  | 2 => nbits p1 51 46
  | 3 => nbits p1 45 40
  | 4 => nbits p1 39 32
  | 5 => nbits p1 31 24
  | 6 => nbits p1 23 17
  | 7 => nbits p1 16 9
  | _ => nbits p1 8 6

/-- Load the pointers that LOAD_MASK names. -/
def loadPayload (p : UnitPtrs) (mask p1 : Nat) : UnitPtrs :=
  (upTo 9).foldl (fun p c => if mask.testBit c then p.load c (payloadValue p1 c) else p) p

/-- SPRIG_RUN on one unit (04 R125, R126): pointers load, the steps are validated, the run starts or stops
with END BAD_STEP. -/
def unitRun (u : SprigUnit) (w : BitVec 48) (data : Option Line) (t : Nat) : SprigUnit :=
  let first := Word.bits w 26 22
  let last := Word.bits w 21 17
  let ptrs := match data with
    | some d => loadPayload u.ptrs (nbits d.toNat 8 0) (nbits d.toNat 127 64)
    | none => u.ptrs
  let bad := (upTo 32).find? fun i =>
    decide (first ≤ i) && decide (i ≤ last) && !stepValid (Tab.get 0 u.recipe i)
  let r : UnitRun := { u.run with
    first := first, last := last, iter := Word.bits w 16 5, done := bad.isSome, wroteLatch := false,
    runAt := some t, stopAt := t, ghosts := [], pauseAt := none, resumeAt := none }
  let q : UnitStatus :=
    match bad with
    | some i => { u.status with st := .stopped, endc := 1, step := i, iterDone := 0 }
    | none => { u.status with st := .running, step := first, iterDone := 0 }
  { u with ptrs := ptrs, run := r, status := q }

/-- The state accepts the command (04 R119). -/
def extAccepted (u : SprigUnit) (w : BitVec 48) : Bool :=
  let st := u.status.st
  match extCmd w with
  | 0x10 => if Word.bit w 26 then st == .off else st != .off
  | 0x11 => st == .idle || st == .stopped
  | 0x12 => st == .idle || st == .stopped
  | 0x13 => st == .idle || st == .stopped
  | 0x14 => st != .off
  | 0x15 => true
  | _ => false

/-- The inbound burst that the command carries is poisoned or uncorrectable, or its payload breaks R175. -/
def extBadBurst (w : BitVec 48) (b : Column) : Bool :=
  let e := eccRead b
  match extCmd w with
  | 0x11 => e.bad
  | 0x13 => Word.bit w 4 && (e.bad || !payloadOk e.data)
  | _ => false

/-- The timing minimums of 05 R178 for one bank, and tRFCpb (03 R82). -/
def extTiming (k : Bank) (band : Nat) (w : BitVec 48) (t : Nat) : Bool :=
  let u := k.unit
  let first := Word.bits w 26 22
  let last := Word.bits w 21 17
  since k.refAt 99 t && match extCmd w with
  | 0x10 => if Word.bit w 26 then true else since u.run.modeAt 2 t && since u.run.beatAt 3 t
  | 0x13 =>
    since u.run.modeAt 2 t && since u.run.reportAt 0 t
      && (upTo 2).all (fun l => !runNames u first last l || since (k.latch l).actAt (tRCD band) t)
      && (upTo 32).all (fun i => !(decide (first ≤ i) && decide (i ≤ last)) || since (Tab.find u.run.recipeAt i) 4 t)
      && (upTo 32).all (fun i => !(decide (first ≤ i) && decide (i ≤ last))
        || ((!stepUsesOp (Tab.get 0 u.recipe i) 0 || since u.run.bcast0 4 t)
          && (!stepUsesOp (Tab.get 0 u.recipe i) 1 || since u.run.bcast1 4 t)))
  | _ => since u.run.modeAt 2 t

/-- The unit takes the command: it is no protocol error (04 R119; 05 R173, R174). -/
def extTaken (u : SprigUnit) (w : BitVec 48) (burst : Column) : Bool :=
  extFormed w && extAccepted u w && !extBadBurst w burst

/-- The run fields that a job expects of the next SPRIG_RUN on a held bank are checked by the caller; this is
what the command does to one addressed bank. -/
def extOnBank (s : State) (w : BitVec 48) (burst : Column) (t mbn : Nat) : State :=
  let u := (s.bank mbn).unit
  let e := eccRead burst
  if !extTaken u w burst then s.modUnit mbn unitProtocol
  else
    match extCmd w with
    | 0x10 =>
      if Word.bit w 26 then s.modUnit mbn fun u => unitEnter u t
      else
        let done := (u.fly.filter fun f => match f.pathAt with | some p => decide (p ≤ t) | none => false)
        let s1 := applyLatch s mbn (done.flatMap (·.effs))
        s1.modBank mbn fun k => { k with unit := unitLeave k.unit, leaveAt := some t }
    | 0x11 =>
      s.modUnit mbn fun u =>
        (upTo (Word.bits w 21 19 + 1)).foldl (fun u i =>
          let n := Word.bits w 26 22 + i
          { u with recipe := Tab.set 0 u.recipe n (BitVec.ofNat 64 (nbits e.data.toNat (64 * i + 63) (64 * i))),
                   run := { u.run with recipeAt := Tab.put u.run.recipeAt n t } }) u
    | 0x12 =>
      let r := if Word.bit w 26 then 1 else 0
      s.modUnit mbn fun u =>
        { u with ops := u.ops.set r { data := e.data, poison := e.bad },
                 status := { u.status with poison := u.status.poison || e.bad },
                 run := if r = 0 then { u.run with bcast0 := some t } else { u.run with bcast1 := some t } }
    | 0x13 => s.modUnit mbn fun u => unitRun u w (if Word.bit w 4 then some e.data else none) t
    | 0x14 =>
      let v := forwarded u
      let d := v.drain.getD (Word.bits w 26 23) {}
      let s1 := s.modUnit mbn fun u => { u with run := { u.run with beatAt := some (t + 8) } }
      { s1 with mem := { s1.mem with bursts := (mbn, storeCol d.data d.poison) :: s1.mem.bursts } }
    | _ =>
      let word := (statusWord u).setWidth 512
      let s1 := s.modUnit mbn fun u =>
        let v := if Word.bit w 26 then clearSticky u else u
        { v with run := { v.run with beatAt := some (t + 8) } }
      { s1 with mem := { s1.mem with bursts := (mbn, cleanCol word) :: s1.mem.bursts } }

end Sys2Proof.Machine
end

