-- ==== Sys2Proof/Machine/JobPlan.lean ====
section
/-! DEFINITION. What a Sprig job does next on each of its banks: the rows it wants open, and its next command in the row
slot and in the column slot (05 R161, R162, R168 to R183). -/

namespace Sys2Proof.Machine

/-! ### Job rows (05 R161, R162) -/

/-- Walk step `k` of a job opens this primary row. -/
def jobPrimary (row0 walk k : Nat) : Nat :=
  if walk = 0 then row0
  else if walk = 1 then row0 + k
  else 16384 * ((row0 / 16384 + k) % 2) + row0 % 16384 + k / 2

def jobWord (d : List Word) (n : Nat) : Word := d.getD n 0
def jobWalk (d : List Word) : Nat := Word.bits (jobWord d 0) 53 52
def jobPaired (d : List Word) : Bool := Word.bit (jobWord d 0) 51
def jobRows (d : List Word) : Nat := Word.bits (jobWord d 2) 52 37
def jobPairRow (d : List Word) : Nat := Word.bits (jobWord d 2) 36 22
def jobBankCount (d : List Word) : Nat := Word.bits (jobWord d 2) 63 53
def jobOperRegs (d : List Word) : Nat := Word.bits (jobWord d 0) 39 38
def jobOperTable (d : List Word) : Bool := Word.bit (jobWord d 0) 37
def jobDrainMode (d : List Word) : Nat := Word.bits (jobWord d 0) 50 49

/-- `row` is one of the job's rows. -/
def Job.hasRow (j : Job) (row : Nat) : Bool :=
  let n := jobRows j.desc
  let walk := jobWalk j.desc
  let prim :=
    if walk = 2 then
      let off := row % 16384 - j.row0 % 16384
      let k := 2 * off + (if row / 16384 = j.row0 / 16384 then 0 else 1)
      decide (j.row0 % 16384 ≤ row % 16384) && decide (k < n)
    else decide (j.row0 ≤ row) && decide (row < j.row0 + n)
  prim || (jobPaired j.desc && decide (jobPairRow j.desc ≤ row) && decide (row < jobPairRow j.desc + n))

/-- A row of a bank is a job row of the bank's holder (05 R185). -/
def State.jobHolds (s : State) (mbn row : Nat) : Bool :=
  match s.holder mbn with
  | some j => j.hasRow row
  | none => false

/-- A request for a row of a bank that arrived at `arr` waits until a job that arrived before it has released the bank: the
row is one of the job's (05 R185; 01 R33). -/
def State.awaitsJob (s : State) (mbn row : Nat) (arr : List Nat) : Bool :=
  s.mem.jobs.any fun kj => kj.2.liveOn mbn && kj.2.hasRow row && keysBefore kj.2.arr arr

/-! ### Segments and runs (05 R169, R170) -/

/-- The segment is selected on walk step `k` of `n` (05 R169). -/
def segSelected (sg : Word × Word) (k n : Nat) : Bool :=
  match Word.bits sg.1 29 28 with
  | 0 => true
  | 1 => k == 0
  | 2 => k + 1 == n
  | _ => k + 1 != n

/-- The segments that walk step `k` runs, in entry order. -/
def Job.segsAt (j : Job) (k : Nat) : List (Word × Word) := j.img.segs.filter fun sg => segSelected sg k (jobRows j.desc)

/-- Exchange the bits of two neighbours in LOAD_MASK for RCUR, WCUR and SPTR (05 R170). -/
def swapMask (m : Nat) : Nat :=
  packNat ((upTo 9).map fun c =>
    (c, if m.testBit (if c < 6 then (if c % 2 = 0 then c + 1 else c - 1) else c) then 1 else 0))

/-- FIRST, LAST, ITER, LOAD_MASK and the value of each target of a segment's run on walk step `k`. -/
def Job.runFields (j : Job) (sg : Word × Word) (k : Nat) : Nat × Nat × Nat × Nat × (Nat → Nat) :=
  let alt := Word.bit sg.1 27 && jobWalk j.desc == 2 && k % 2 == 1
  let off := if alt then j.img.altOff else 0
  let tail := Word.bits sg.1 41 30
  let iter := if k + 1 = jobRows j.desc && tail ≠ 0 then tail else Word.bits sg.1 53 42
  let m := Word.bits sg.1 26 18
  let v (c : Nat) := payloadValue sg.2.toNat c
  (Word.bits sg.1 63 59 + off, Word.bits sg.1 58 54 + off, iter, if alt then swapMask m else m,
    fun c => if alt && decide (c < 6) then v (if c % 2 = 0 then c + 1 else c - 1) else v c)

/-- A segment's run on walk step `k` names latch `l` (04 R131). -/
def Job.segNames (j : Job) (sg : Word × Word) (k l : Nat) : Bool :=
  let f := j.runFields sg k
  j.img.steps.zipIdx.any fun w =>
    decide (f.1 ≤ j.img.loadAt + w.2) && decide (j.img.loadAt + w.2 ≤ f.2.1) && stepNames w.1 l

/-- The job bank's record. -/
def Job.bankRec (j : Job) (mbn : Nat) : Option JBank := j.banks.find? fun b => b.mbn == mbn

def Job.setBank (j : Job) (mbn : Nat) (f : JBank → JBank) : Job :=
  { j with banks := j.banks.map fun b => if b.mbn = mbn then f b else b }

/-! ### The rows a bank wants (05 R180, R182) -/

/-- The row is open in the latch of its half. -/
def Bank.rowOpen (k : Bank) (row : Nat) : Bool := k.isOpen (row / 16384) && (k.latch (row / 16384)).logRow == row

/-- The rows of walk step `k`: primary, then paired. -/
def Job.stepRows (j : Job) (k : Nat) : List Nat :=
  jobPrimary j.row0 (jobWalk j.desc) k :: (if jobPaired j.desc then [jobPairRow j.desc + k] else [])

/-- The primary row of step `k` + 1, when no segment of step `k` names its latch (05 R182). -/
def Job.early (j : Job) (k : Nat) : Option Nat :=
  let r := jobPrimary j.row0 (jobWalk j.desc) (k + 1)
  if decide (k + 1 < jobRows j.desc) && !(j.segsAt k).any fun sg => j.segNames sg k (r / 16384) then some r else none

/-- The rows that the job wants open in a bank at its place in the walk, in the order in which it opens them. A row of the
next step takes the latch of a row of this one only after this step's first run (log entry 107). -/
def Job.wants (j : Job) (b : JBank) : List Nat :=
  let rs := j.stepRows b.k
  match j.early b.k with
  | none => rs
  | some e =>
    if rs.any fun r => r / 16384 == e / 16384 then
      (if b.seg ≠ 0 || b.ran then rs.filter (fun r => r / 16384 != e / 16384) ++ [e] else rs)
    else rs ++ [e]

/-- The rows that a run needs are open: before a step's first run all rows of the step, with no latch open that the job
does not want; before a later run those that it names (05 R180, R186). -/
def Job.rowsReady (j : Job) (kb : Bank) (b : JBank) (sg : Word × Word) : Bool :=
  if b.seg = 0 then
    (j.stepRows b.k).all kb.rowOpen && (upTo 2).all fun l => !kb.isOpen l || (j.wants b).contains (kb.latch l).logRow
  else
    (upTo 2).all fun l => !j.segNames sg b.k l || (kb.isOpen l && (j.stepRows b.k).contains (kb.latch l).logRow)

/-- Go on from a walk step that runs no segment, once its rows are open; after the last step the bank drains (05 R180). -/
def Job.walkOn (j : Job) (kb : Bank) : Nat → JBank → JBank
  | 0, b => b
  | n + 1, b =>
    if b.phase != .running then b
    else if jobRows j.desc ≤ b.k then { b with phase := .draining }
    else if (j.segsAt b.k).length ≤ b.seg && (b.seg ≠ 0 || (j.stepRows b.k).all kb.rowOpen) then
      j.walkOn kb n { b with k := b.k + 1, seg := 0 }
    else b

/-- The place of a bank after something that may let it go on. -/
def Job.settled (j : Job) (kb : Bank) (b : JBank) : JBank := j.walkOn kb (jobRows j.desc + 2) b

/-! ### The row slot (05 R180 to R182, R187; 03 R99) -/

/-- A command of the row slot that serves a request or a job. -/
inductive RowCmd where
  | act (bank row : Nat)
  | pre (bank latch : Nat)
  | preb (bank : Nat)
  | nrr (bank half : Nat)
  deriving DecidableEq, Repr

/-- The latch that a run uses next: of the first step from STEP on, round the run, that names one (03 R99). -/
def nextLatch (u : SprigUnit) : Option Nat :=
  let n := u.run.last + 1 - u.run.first
  (upTo n).findSome? fun i =>
    let w := Tab.get 0 u.recipe (u.run.first + (u.status.step - u.run.first + i) % n)
    (upTo 2).find? (stepNames w)

/-- The rows that a paused run is to reopen, the one it uses next first (03 R99; 05 R187). -/
def Bank.reopens (k : Bank) : List Nat :=
  let rs := k.unit.run.reopen
  let first := rs.filter fun x => some x.1 == nextLatch k.unit
  (first ++ rs.filter fun x => some x.1 != nextLatch k.unit).map (·.2)

/-- The command by which a bank comes to have its wanted rows open: the first of them that is not open is opened, or its
latch closed first; with all open, a latch whose row is not wanted is closed. -/
def Bank.toward (k : Bank) (bank : Nat) (rows : List Nat) : Option RowCmd :=
  match rows.find? fun r => !k.rowOpen r with
  | some r => some (if k.isOpen (r / 16384) then .pre bank (r / 16384) else .act bank r)
  | none => ((upTo 2).find? fun l => k.isOpen l && !rows.contains (k.latch l).logRow).map (RowCmd.pre bank)

/-- The row-slot command that a job needs next on a bank that it holds. -/
def Job.rowNext (j : Job) (k : Bank) (b : JBank) : Option RowCmd :=
  match b.phase with
  | .running =>
    if k.unit.status.st == .paused then ((k.reopens).find? fun r => !k.rowOpen r).map (RowCmd.act (b.mbn % 16))
    else k.toward (b.mbn % 16) (j.wants b)
  | .draining => k.toward (b.mbn % 16) []
  | .leaving => some (.preb (b.mbn % 16))
  | _ => none

/-- The walk step that a row belongs to at a bank's place: that of the bank, or the next (05 R181). -/
def Job.stepOf (j : Job) (b : JBank) (row : Nat) : Nat := if (j.stepRows b.k).contains row then b.k else b.k + 1

/-! ### The column slot (05 R172, R180) -/

/-- The bank's tag is the job's (05 R171). -/
def Job.tag (j : Job) : RecipeTag := { part := j.part, id := j.img.id, at_ := j.img.loadAt, count := j.img.steps.length }
def Job.tagMatches (j : Job) (k : Bank) : Bool := j.img.id != 0 && k.tag == some j.tag

/-- An extended command word: CMD, one bank, and the other fields (05 R172). -/
def extWord (cmd mbn : Nat) (fields : List (Nat × Nat)) : BitVec 48 :=
  BitVec.ofNat 48 (packNat ([(43, cmd), (27, 2 ^ (mbn % 16))] ++ fields))

/-- The RECIPE_WRITE commands that load a bank with the image: words and bursts, in order (05 R172, R180). -/
def Job.recipeLoads (j : Job) (mbn : Nat) : List (BitVec 48 × Column) :=
  (upTo ((j.img.steps.length + 7) / 8)).map fun i =>
    let st := (j.img.steps.drop (8 * i)).take 8
    (extWord 0x11 mbn [(22, j.img.loadAt + 8 * i), (19, st.length - 1)], cleanCol (lineOfBytes (bytesOfWords st)))

/-- The OPERAND_BCAST commands (05 R164, R174). -/
def Job.operLoads (j : Job) (mbn : Nat) : List (BitVec 48 × Column) :=
  (upTo (jobOperRegs j.desc)).map fun r =>
    let o := Tab.get {} j.oper (if jobOperTable j.desc then 2 * (mbn / 16 % 64) + r else r)
    (extWord 0x12 mbn [(26, r)], storeCol o.data o.poison)

/-- How many of the loads that come first a bank skips, because its tag is the job's (05 R171). -/
def Job.skips (j : Job) (k : Bank) : Nat := if j.tagMatches k then (j.img.steps.length + 7) / 8 else 0

/-- The loads of a bank: the recipe, then the operands. -/
def Job.loads (j : Job) (mbn : Nat) : List (BitVec 48 × Column) := j.recipeLoads mbn ++ j.operLoads mbn

/-- A job bank with no load left runs. -/
def Job.loadOn (j : Job) (b : JBank) : JBank :=
  if b.phase == .loading && decide ((j.loads b.mbn).length ≤ b.loaded) then { b with phase := .running } else b

/-- Index of a bank within its job, and the slots still to drain: none under DRAIN_MODE 0. -/
def Job.index (j : Job) (mbn : Nat) : Nat := mbn - j.first
def jobSlots (d : List Word) : Nat := if jobDrainMode d = 0 then 0 else Word.bits (jobWord d 0) 15 0
def Job.slotsLeft (j : Job) (mbn : Nat) : List Nat :=
  (upTo 16).filter fun x => (jobSlots j.desc).testBit x && (Tab.find j.drains (16 * j.index mbn + x)).isNone

/-- The SPRIG_RUN word of a segment on walk step `k`, with its payload when it loads anything. -/
def Job.runWord (j : Job) (mbn : Nat) (sg : Word × Word) (k : Nat) : BitVec 48 :=
  let f := j.runFields sg k
  extWord 0x13 mbn [(22, f.1), (17, f.2.1), (5, f.2.2.1), (4, if f.2.2.2.1 = 0 then 0 else 1)]

/-- All drain deliveries of the job have been written, which comes before a bank leaves (05 R183). -/
def Job.delivered (j : Job) : Bool := jobSlots j.desc == 0 || decide (2 ≤ j.stage)

/-- The column-slot command that a job needs next on a bank that it holds (05 R180). SPRIG_STATUS carries CLEAR (DESIGN
CHOICE, log entry 108). -/
def Job.colNext (j : Job) (k : Bank) (b : JBank) : Option (BitVec 48) :=
  match b.phase with
  | .loading => if j.stop.isSome then none else ((j.loads b.mbn)[b.loaded]?).map (·.1)
  | .running =>
    if b.ran || j.stop.isSome then none
    else ((j.segsAt b.k)[b.seg]?).bind fun sg => if j.rowsReady k b sg then some (j.runWord b.mbn sg b.k) else none
  | .draining =>
    match (j.slotsLeft b.mbn).head? with
    | some x => some (extWord 0x14 b.mbn [(23, x)])
    | none =>
      if b.stat then some (extWord 0x15 b.mbn [(26, 1)])
      else if j.delivered then some (extWord 0x10 b.mbn []) else none
  | _ => none

/-- The burst that goes with the job's next command, where the command carries one to the bank (05 R174, R175). -/
def Job.burstOk (j : Job) (b : JBank) (burst : Column) : Bool :=
  match b.phase with
  | .loading => ((j.loads b.mbn)[b.loaded]?).map (·.2) == some burst
  | .running =>
    match (j.segsAt b.k)[b.seg]? with
    | none => false
    | some sg =>
      let f := j.runFields sg b.k
      let pay := (eccRead burst).data.toNat
      f.2.2.2.1 == 0 || (nbits pay 8 0 == f.2.2.2.1
        && (upTo 9).all fun c => !f.2.2.2.1.testBit c || payloadValue (nbits pay 127 64) c == f.2.2.2.2 c)
  | _ => true

/-- A command word without its BANK_MASK. -/
def unmasked (w : BitVec 48) : Nat := w.toNat - extMask w * 2 ^ 27

/-- The controller issues the command on this bank now: a bank that no job holds takes any command; a held
bank only what its job issues next (05 R180). -/
def State.extExpected (s : State) (w : BitVec 48) (burst : Column) (mbn : Nat) : Bool :=
  let kb := s.bank mbn
  match kb.hold with
  | none => true
  | some _ =>
    match s.holder mbn with
    | none => false
    | some j =>
      match j.bankRec mbn with
      | none => false
      | some b => ((j.colNext kb b).map unmasked == some (unmasked w)) && j.burstOk b burst

/-- The direction of the command's burst: inbound, outbound or none (05 R172, R177). -/
def extBurst (w : BitVec 48) : Option Bool :=
  match extCmd w with
  | 0x11 => some false
  | 0x12 => some false
  | 0x13 => if Word.bit w 4 then some false else none
  | 0x14 => some true
  | 0x15 => some true
  | _ => none

/-- The channel's column slot and data pins take the command at cycle `t` (03 R78, R82, R83; 05 R177). -/
def Chan.takesExt (c : Chan) (w : BitVec 48) (t : Nat) : Bool :=
  since c.colSlot 1 t &&
    match extBurst w with
    | none => true
    | some rd =>
      decide ((c.bursts.filter fun a => decide (t < a + 4)).length < 3)
        && (if rd then since c.wrAt 10 t else since c.rdAt 4 t)

/-! ### Beginning on a bank (05 R179) -/

/-- The image holds a writing step among the steps that its segments run (05 R163). -/
def Image.writes (img : Image) (alt : Bool) : Bool :=
  img.segs.any fun sg =>
    (upTo img.steps.length).any fun i =>
      let n := img.loadAt + i
      let f := Word.bits sg.1 63 59
      let l := Word.bits sg.1 58 54
      let o := img.altOff
      ((decide (f ≤ n) && decide (n ≤ l))
        || (alt && Word.bit sg.1 27 && decide (f + o ≤ n) && decide (n ≤ l + o)))
        && (stepWriteLatch (img.steps.getD i 0)).isSome

/-- The job writes rows: a writing step stands among the steps that its segments run. -/
def imageWrites (d : List Word) (im : Image) : Bool := im.writes (jobWalk d == 2 && decide (2 ≤ jobRows d))

/-- A loaf that migrates from here and has not been forwarded holds a row of the job in the bank (13 R466). -/
def State.migHolds (s : State) (j : Job) (mbn : Nat) : Bool :=
  imageWrites j.desc j.img && s.place.migs.any fun m =>
    decide (m.2.step ≤ 4) && m.2.loff / 64 == mbn && (upTo 512).any fun i => j.hasRow (m.2.loff % 64 * 512 + i)

def Job.overlaps (a b : Job) : Bool := a.banks.any fun x => b.banks.any fun y => x.mbn == y.mbn
def Job.begun (j : Job) : Bool := j.banks.any fun b => b.phase != .waiting
/-- Every bank has left, or never began and never will. -/
def Job.over' (j : Job) : Bool := j.banks.all fun b => !j.live b

/-- The bank may take the job now: the requests to its rows that came before it have completed, no job holds the bank, and
of the jobs whose banks overlap it is the one to run (05 R179). -/
def State.jobMayBegin (s : State) (id : Nat) (j : Job) (mbn : Nat) : Bool :=
  let k := s.bank mbn
  j.stop.isNone && (match j.bankRec mbn with | some b => b.phase == .waiting | none => false)
    && k.hold.isNone && !k.unit.active && !s.migHolds j mbn
    && !(s.mem.reqs.any fun r => r.mbn == mbn && j.hasRow r.row && keysBefore r.arr j.arr)
    && !(s.mem.reqs.any fun r => r.mbn == mbn && r.merge.isSome)
    && !(s.mem.jobs.any fun o => o.1 != id && o.2.overlaps j && !o.2.over'
      && (o.2.begun || (!j.begun && jobOutranks o.2 j)))

/-- SPRIG_MODE enter on one bank. -/
def enterWord (mbn : Nat) : BitVec 48 := extWord 0x10 mbn [(26, 1)]

/-- The ranks of the jobs whose next column command, the enter of a bank included, may issue on a channel at cycle `t`, with
their banks (03 R93). -/
def State.jobCols (s : State) (stk ch t : Nat) : List (Nat × List Nat) :=
  let c := s.chan (chanKey stk ch)
  ((upTo 16).filterMap fun bank =>
    let mbn := stk * 1024 + ch * 16 + bank
    let kb := s.bank mbn
    (s.holder mbn).bind fun j => (j.bankRec mbn).bind fun b => (j.colNext kb b).bind fun w =>
      if extTiming kb (s.bandOf mbn) w t && c.takesExt w t then some (mbn, j.rank) else none)
  ++ s.mem.jobs.flatMap fun o =>
    (o.2.banks.filter fun b => b.mbn / 16 == chanKey stk ch && s.jobMayBegin o.1 o.2 b.mbn
      && since (s.bank b.mbn).refAt 99 t && c.takesExt (enterWord b.mbn) t).map fun b => (b.mbn, o.2.rank)

end Sys2Proof.Machine
end

