-- ==== Sys2Proof/Machine/StackCtl.lean ====
section
/-! DEFINITION. The stack controller: requests, the ordinary channel commands, tokens, refresh, self-refresh,
scrub and sparing (02 R58 to R62; 03; 04 R119, R131, R155). -/

namespace Sys2Proof.Machine

/-- Stack channel and bank lie on a fitted stack. -/
def State.hasBank (s : State) (stk ch bank : Nat) : Bool :=
  s.fitted stk && decide (ch < 64) && decide (bank < 16)
def mbnOf (stk ch bank : Nat) : Nat := stk * 1024 + ch * 16 + bank

/-! ### Requests (03 R88 to R94) -/

def PortReq.loc (r : PortReq) : Loc := ⟨r.mbn, r.row, r.col⟩
def PortReq.half (r : PortReq) : Nat := r.row / 16384
def PortReq.at' (r : PortReq) : EvAt :=
  { loc := r.loc, port := r.port, cls := r.eff, part := r.part, lin := r.lin, req := r.requester }

/-- An earlier request to the same column is queued (01 R31, R32; 03 R94). -/
def State.behind (s : State) (r : PortReq) : Bool :=
  s.mem.reqs.any fun q => q.mbn == r.mbn && q.row == r.row && q.col == r.col && keysBefore q.arr r.arr

/-- The request writes to a segment that counts as lost: it is held until the fill (03 R108). -/
def State.heldByFill (s : State) (r : PortReq) : Bool := r.kind != .read && s.isLost r.mbn r.row

/-- The request waits for a Sprig job: its row is one of an earlier job's, its bank stands between a job's leave and its
PREB, or the job that holds its bank is not between two runs or is not outranked (05 R184 to R186). -/
def State.jobBlocks (s : State) (r : PortReq) : Bool :=
  s.awaitsJob r.mbn r.row r.arr ||
    match s.holder r.mbn with
    | none => (s.bank r.mbn).hold.isSome
    | some j =>
      let u := (s.bank r.mbn).unit
      !u.active || u.busy || !keysBefore r.rank j.rank

/-- The request can be served now, timing and tokens apart. -/
def State.servable (s : State) (r : PortReq) : Bool := !s.behind r && !s.jobBlocks r && !s.heldByFill r

/-- The channel takes commands: not in self-refresh, tXS after SRX, stack awake. -/
def State.chanReady (s : State) (stk ch t : Nat) : Bool :=
  let c := s.chan (chanKey stk ch)
  s.stackOn stk && !c.sr && since c.srxAt 495 t && !(s.stk stk).nap

/-- Timing of an ACT or NRR of latch `l` (03 R82). -/
def State.rowTiming (s : State) (stk ch bank l t : Nat) : Bool :=
  let mbn := mbnOf stk ch bank
  let b := s.bandOf mbn
  let k := s.bank mbn
  let la := k.latch l
  let c := s.chan (chanKey stk ch)
  !la.row.isSome && since la.preAt (tRP b) t && since la.actAt (tRC b) t && since la.nrrAt (tNRR b) t
    && since k.refAt 99 t && since c.rowSlot 1 t
    && (match c.rowAt with
      | none => true
      | some (b', l', a) => (b' == bank && l' == l) || decide (a + 2 ≤ t))

/-- Timing of a command that closes latch `l`: tRAS, tRTP, tWR (03 R82), and the wait after a run that
named the latch (05 R178). -/
def State.closeTiming (s : State) (mbn l t : Nat) : Bool :=
  let b := s.bandOf mbn
  let k := s.bank mbn
  let la := k.latch l
  let r := k.unit.run
  since la.actAt (tRAS b) t && since la.rdAt 4 t && since la.wrAt (4 + tWR b) t
    && (!k.unit.active || r.runAt.isNone || !runNames k.unit r.first r.last l
      || decide (max r.retireAt r.stopAt + 2 + (if r.wroteLatch then tWR b - 3 else 0) ≤ t))

/-- Timing of a RD or WR (03 R78, R82, R83; 05 R177, R178). -/
def State.colTiming (s : State) (stk ch bank l t : Nat) (read : Bool) : Bool :=
  let mbn := mbnOf stk ch bank
  let k := s.bank mbn
  let c := s.chan (chanKey stk ch)
  (k.latch l).row.isSome && since (k.latch l).actAt (tRCD (s.bandOf mbn)) t && since k.colAt 2 t
    && since c.colSlot 1 t && decide ((c.bursts.filter fun a => decide (t < a + 4)).length < 3)
    && since k.leaveAt 1 t && (if read then since c.wrAt 10 t else since c.rdAt 4 t)

/-- The next channel command of a request. -/
inductive NextCmd where
  | act | pre | col
  deriving DecidableEq, Repr

def State.nextCmd (s : State) (r : PortReq) : NextCmd :=
  let la := (s.bank r.mbn).latch r.half
  match la.row with
  | none => .act
  | some _ => if la.logRow = r.row then .col else .pre

/-- The request moves a column to the controller next: a read, the read of a partial write, or scrub's read. -/
def PortReq.reads (r : PortReq) : Bool :=
  match r.kind with
  | .read => r.merge.isNone
  | .write _ m _ => m != BitVec.allOnes 64 && r.merge.isNone

/-- Queue length of the neighbour refreshes of a half. -/
def Bank.nrr (k : Bank) (l : Nat) : List Nat := if l = 0 then k.nrr0 else k.nrr1

/-- The open row of a latch is the target of a request that can be served, or of the job that holds the bank, and that does
not rank below `rank` (03 R93, R94; log entry 109). -/
def State.rowWanted (s : State) (mbn l : Nat) (rank : List Nat) : Bool :=
  let la := (s.bank mbn).latch l
  (s.mem.reqs.any fun q =>
      q.mbn == mbn && q.half == l && q.row == la.logRow && s.servable q && !keysBefore rank q.rank)
    || (match s.holder mbn with
      | none => false
      | some j => match j.bankRec mbn with
        | none => false
        | some b => b.phase == .running && (j.wants b).contains la.logRow && !keysBefore rank j.rank)

/-! ### The candidates of the two slots (03 R93; 05 R180, R181) -/

/-- A candidate of the row slot: its rank, whether it may take the last tokens, and its command. -/
structure RowCand where
  rank : List Nat
  cmd  : RowCmd
  deriving DecidableEq, Repr

/-- A run uses latch `l` now (04 R131). -/
def Bank.running (k : Bank) (l : Nat) : Bool := k.unit.busy && runNames k.unit k.unit.run.first k.unit.run.last l

/-- The ACT of a row, or the oldest neighbour refresh of its half in its place (03 R93, R102), when its timing and a token
allow it; `left` tokens go to commands before it. -/
def State.actCand (s : State) (stk ch bank row t : Nat) (eff left : Nat) (rank : List Nat) : Option RowCand :=
  let l := row / 16384
  let nrr := decide (4 ≤ ((s.bank (mbnOf stk ch bank)).nrr l).length)
  if s.rowTiming stk ch bank l t && decide (left < s.tokensLeft stk (nrr || decide (eff ≤ 1))) then
    some ⟨rank, if nrr then .nrr bank l else .act bank row⟩
  else none

/-- The PRE of a latch, when its timing and the requests for its row allow it. -/
def State.preCand (s : State) (stk ch bank l t : Nat) (rank : List Nat) : Option RowCand :=
  let mbn := mbnOf stk ch bank
  if s.closeTiming mbn l t && !(s.bank mbn).running l && !s.rowWanted mbn l rank then some ⟨rank, .pre bank l⟩ else none

/-- What a request asks of the row slot. -/
def State.reqCand (s : State) (r : PortReq) (t : Nat) : Option RowCand :=
  let ch := r.mbn / 16 % 64
  if !s.servable r then none
  else
    match s.nextCmd r with
    | .act => s.actCand r.stk ch (r.mbn % 16) r.row t r.eff 0 r.rank
    | .pre => s.preCand r.stk ch (r.mbn % 16) r.half t r.rank
    | .col => none

/-- The bank's latches may close for a PREB (03 R82; 05 R178). -/
def State.prebTiming (s : State) (mbn t : Nat) : Bool :=
  let k := s.bank mbn
  since k.refAt 99 t && !k.unit.busy && (upTo 2).all fun l => !k.isOpen l || s.closeTiming mbn l t

/-- The ACTs of a job that come before that of walk step `k` in bank `mbn` and only wait for a token (05 R181). -/
def State.actsBefore (s : State) (j : Job) (k mbn t : Nat) : Nat :=
  (j.banks.filter fun b =>
    match s.holder b.mbn with
    | some o => o.arrived == j.arrived && (match j.rowNext (s.bank b.mbn) b with
      | some (.act bank row) =>
        let k' := j.stepOf b row
        (decide (k' < k) || (k' == k && decide (b.mbn < mbn)))
          && s.rowTiming (b.mbn / 1024) (b.mbn / 16 % 64) bank (row / 16384) t
      | _ => false)
    | none => false).length

/-- What the job that holds a bank asks of the row slot. -/
def State.jobCand (s : State) (mbn t : Nat) : Option RowCand :=
  let stk := mbn / 1024
  let ch := mbn / 16 % 64
  (s.holder mbn).bind fun j => (j.bankRec mbn).bind fun b => (j.rowNext (s.bank mbn) b).bind fun c =>
    match c with
    | .act bank row =>
      let k := j.stepOf b row
      s.actCand stk ch bank row t j.eff (s.actsBefore j k mbn t) (j.rank ++ [k, mbn])
    | .pre bank l => s.preCand stk ch bank l t (j.rank ++ [b.k, mbn])
    | .preb bank => if s.prebTiming mbn t then some ⟨j.rank ++ [b.k, mbn], .preb bank⟩ else none
    | .nrr .. => none

/-- Of the candidates the one that ranks highest, the first of equals. -/
def bestCand (l : List RowCand) : Option RowCand :=
  l.foldl (fun b c => match b with
    | none => some c
    | some q => if keysBefore c.rank q.rank then some c else some q) none

/-- The command of the highest-ranked request or job of a channel whose next row-slot command is allowed at `t`. -/
def State.rowBest (s : State) (stk ch t : Nat) : Option RowCmd :=
  (bestCand (((s.mem.reqs.filter fun r => r.stk == stk && r.mbn / 16 % 64 == ch).filterMap fun r => s.reqCand r t)
    ++ ((upTo 16).filterMap fun bank => s.jobCand (mbnOf stk ch bank) t))).map (·.cmd)

/-- The request's RD or WR may issue at `t`, rank apart. -/
def State.colReady (s : State) (r : PortReq) (t : Nat) : Bool :=
  s.servable r && s.nextCmd r == .col
    && s.colTiming r.stk (r.mbn / 16 % 64) (r.mbn % 16) r.half t r.reads

/-- The requests of a channel whose RD or WR may issue at `t`. -/
def State.reqCols (s : State) (stk ch t : Nat) : List PortReq :=
  s.mem.reqs.filter fun r => r.stk == stk && r.mbn / 16 % 64 == ch && s.colReady r t

/-- No request and no job whose column command may issue at `t` ranks above `rank` (03 R93). -/
def State.colTop (s : State) (stk ch t : Nat) (rank : List Nat) : Bool :=
  !((s.reqCols stk ch t).any fun q => keysBefore q.rank rank)
    && !((s.jobCols stk ch t).any fun q => keysBefore q.2 rank)

/-- Deliver a response and count it (03 R89). -/
def State.respond (s : State) (r : PortReq) (status : Nat) (d : Line) (poison : Bool) : State :=
  let s1 := (s.interleave r.mbn).bump (0x3100 + 8 * r.stk + r.port) 3
  let s2 := if r.step = 3 then s1.bump (0x3100 + 8 * r.stk + r.port) 4 else s1
  let rs : Resp := { id := r.id, status := status, data := d, poison := poison }
  { s2 with mem := { s2.mem with
      reqs := s2.mem.reqs.filter fun q => q.id != r.id
      resps := if r.lost then s2.mem.resps else rs :: s2.mem.resps } }

/-- The requester of a request may use the port (01 R26 to R28). -/
def State.portRule (s : State) (stk port requester : Nat) : Bool :=
  match port with
  | 7 => requester == 0xFFFF
  | 4 => decide (0x100 ≤ requester) && decide (requester < 0x100 + 16 * s.build.ioDies) && decide (requester % 16 ≤ 4)
  | 5 | 6 => decide (requester < 48)
  | 3 => decide (requester < 48) && s.localStack requester != some stk
  | _ => decide (requester < 48) && s.localStack requester == some stk && requester % 12 % 3 == port

/-- A request answered at once, and counted on its port (03 R89). -/
def State.answer (s : State) (stk port status : Nat) : State :=
  let rs : Resp := { id := s.mem.nextId, status := status, data := 0, poison := false }
  let s1 := if s.fenced stk || !s.fitted stk then s else s.bump (0x3100 + 8 * stk + port) 3
  { s1 with mem := { s1.mem with resps := rs :: s.mem.resps, nextId := s.mem.nextId + 1 } }

/-- A request or a job for a channel has come: the stack does not nap, an entry to self-refresh is cancelled, and a channel
in self-refresh is to leave it (03 R104, R105). -/
def State.callChan (s : State) (stk ch : Nat) : State :=
  (s.modStk stk fun k => { k with nap := false }).modChan (chanKey stk ch) fun c =>
    { c with srPend := false, wake := c.sr }

/-- Queue a request. -/
def State.enqueue (s : State) (r : PortReq) : State :=
  ({ s with mem := { s.mem with reqs := s.mem.reqs ++ [r], nextId := s.mem.nextId + 1 } }).callChan r.stk (r.mbn / 16 % 64)

/-- Who a REQUESTER code names (03 R112). -/
def originOf (port requester : Nat) : Origin :=
  if requester = 0xFFFF then .maint
  else if requester < 0x100 then
    (if port = 5 then .sprig requester else if port = 6 then .layout requester else .cluster requester)
  else if requester % 16 = 4 then .host ((requester - 0x100) / 16)
  else .eth (4 * ((requester - 0x100) / 16) + requester % 16)

/-- PORT_REQUEST: a request reaches a stack controller on one of its ports in Sprig cycle `t` (01 R28, R32; 03 R88;
13 R446, R471). `part` is the partition that an engine's request comes from; ingress and host requests have been checked at
their home. -/
def execPortRequest (stk port : Nat) (cls : Option Nat) (lin : Nat) (kind : ReqKind) (part requester t : Nat)
    (s : State) : Out :=
  if !(decide (stk < 16) && decide (port < 8)) then .next s
  else if !s.fitted stk || s.fenced stk then go s (s.answer stk port 3)
  else if !(s.stackOn stk && s.portRule stk port requester) then .next s
  else
    match s.place' (port == 7) lin with
    | none => go s (s.answer stk port 3)
    | some (l, p) =>
      if l.stk ≠ stk then .next s
      else if port ≠ 7 && decide (p < 16) && s.unused p then go s (s.answer stk port 2)
      else if port ≠ 7 && port ≠ 4 && s.localReach part lin ≠ 0 then go s (s.answer stk port 2)
      else if port ≠ 7 && decide (p < 16) && p ≠ part && (s.part p).st == 1 then .next s
      else
        let o := originOf port requester
        match s.pathTo o stk with
        | none => go s (s.answer stk port 8)
        | some way =>
          if s.switchWait (wayTo s.linkWas o stk) then .next s
          else if s.isLost l.mbn l.row && kind == .read then go s (s.answer stk port 4)
          else
            go s (s.enqueue
              { id := s.mem.nextId, cyc := t, stk := stk, port := port, cls := s.servedClass stk port cls, step := 0,
                aged := false, lin := lin, mbn := l.mbn, row := l.row, col := l.col, kind := kind, part := p,
                requester := requester, merge := none, mergeBad := false, route := way })

/-- Change a queued request. -/
def State.modReq (s : State) (id : Nat) (f : PortReq → PortReq) : State :=
  { s with mem := { s.mem with reqs := s.mem.reqs.map fun r => if r.id = id then f r else r } }

/-- Change the job that arrived with number `id`, while no command of it has issued (05 R179). -/
def State.modJobs (s : State) (id : Nat) (f : Job → Job) : State :=
  { s with mem := { s.mem with jobs := s.mem.jobs.map fun kj =>
      (kj.1, if kj.2.arrived = id && kj.2.banks.all (fun b => b.phase == .waiting) then f kj.2 else kj.2) } }

/-- URGENCY_STEP: a queued request's or job's elapsed time crosses a fraction of LAT_TARGET (03 R91). -/
def execUrgencyStep (id elapsedNs : Nat) (s : State) : Out :=
  match s.mem.reqs.find? fun r => r.id == id with
  | none =>
    go s (s.modJobs id fun j =>
      let e := 0x3100 + 8 * (j.first / 1024) + 5
      if (s.odVal e 1).getLsbD 0 then { j with step := max j.step (urgency elapsedNs (s.odNat e 2)) } else j)
  | some r =>
    let e := 0x3100 + 8 * r.stk + r.port
    if (s.odVal e 1).getLsbD 0 then
      go s (s.modReq id fun r => { r with step := max r.step (urgency elapsedNs (s.odNat e 2)) })
    else .next s

/-- REQUEST_AGED: a queued request has waited AGE_LIMIT (03 R92). -/
def execRequestAged (id waitedNs : Nat) (s : State) : Out :=
  when' (decide (s.odNat 0x3020 1 ≤ waitedNs)) s ((s.modReq id fun r => { r with aged := true }).modJobs id fun j => { j with aged := true })

/-! ### Which command the row slot takes (03 R93, R97, R98) -/

/-- A request or a Sprig job of effective class 0 or 1 is queued for the bank or runs on it (03 R97). -/
def State.class01 (s : State) (mbn : Nat) : Bool :=
  (s.mem.reqs.any fun r => r.mbn == mbn && decide (r.eff ≤ 1))
    || s.mem.jobs.any fun kj => kj.2.liveOn mbn && decide (kj.2.eff ≤ 1)

def State.bankQueued (s : State) (mbn : Nat) : Bool :=
  (s.mem.reqs.any fun r => r.mbn == mbn) || s.jobOn mbn || (s.bank mbn).hold.isSome

/-- A refresh of the bank is forced (03 R98). -/
def State.forced (s : State) (mbn : Nat) : Bool := decide ((s.bank mbn).debt > ((s.stk (mbn / 1024)).postpone : Int))

/-- REFPB may issue: forced, due, or early on an idle bank (03 R97, R98). -/
def State.refDue (s : State) (mbn : Nat) : Bool :=
  s.forced mbn || (decide ((s.bank mbn).debt > 0) && !s.class01 mbn)
    || (decide ((s.bank mbn).debt > -8) && !s.bankQueued mbn)

/-- REFPB timing: tRAS, tRTP and tWR of each open latch, tRFCpb. A running recipe does not delay it (05 R187). -/
def State.refTiming (s : State) (stk ch bank t : Nat) : Bool :=
  let mbn := mbnOf stk ch bank
  let k := s.bank mbn
  let b := s.bandOf mbn
  since (s.chan (chanKey stk ch)).rowSlot 1 t && since k.refAt 99 t
    && (upTo 2).all fun l =>
      let la := k.latch l
      !k.isOpen l || (since la.actAt (tRAS b) t && since la.rdAt 4 t && since la.wrAt (4 + tWR b) t
        && (k.unit.busy || s.closeTiming mbn l t))

/-- A refresh of the bank that outranks requests may issue: forced, or due (03 R93). -/
def State.refReady (s : State) (stk ch bank t : Nat) : Bool :=
  let mbn := mbnOf stk ch bank
  (s.forced mbn || (decide ((s.bank mbn).debt > 0) && !s.class01 mbn))
    && s.refTiming stk ch bank t && s.tokenFree stk (s.forced mbn)

/-- Such a refresh of a bank below `n` takes the row slot first (03 R93). -/
def State.refFirst (s : State) (stk ch n t : Nat) : Bool := (upTo n).any fun b => s.refReady stk ch b t

/-- No request and no job asks for the row slot of the channel. -/
def State.rowIdle (s : State) (stk ch t : Nat) : Bool := (s.rowBest stk ch t).isNone

/-- A neighbour refresh of the channel may issue in an idle row slot (03 R93, R102). -/
def State.nrrReady (s : State) (stk ch t : Nat) : Bool :=
  (upTo 16).any fun bank => (upTo 2).any fun l =>
    let q := (s.bank (mbnOf stk ch bank)).nrr l
    q != [] && s.rowTiming stk ch bank l t && s.tokenFree stk (decide (4 ≤ q.length))

/-- The row slot takes the bank's REFPB: of those that outrank requests the lowest bank's; an early one only in an idle
slot, after the queued neighbour refreshes (03 R93, R97). -/
def State.refTurn (s : State) (stk ch bank t : Nat) : Bool :=
  !s.refFirst stk ch bank t
    && (s.refReady stk ch bank t || (!s.refFirst stk ch 16 t && s.rowIdle stk ch t && !s.nrrReady stk ch t))

/-- The row slot takes a queued NRR: in an idle slot, or in place of the ACT of the highest-ranked request or job
(03 R93, R102). -/
def State.nrrTurn (s : State) (stk ch bank half t : Nat) : Bool :=
  !s.refFirst stk ch 16 t && (s.rowIdle stk ch t || s.rowBest stk ch t == some (.nrr bank half))

/-- The row slot takes a PRE of the latch: the highest-ranked request or job asks for it, or the slot is idle and no job
holds the bank (03 R93; 05 R180; log entry 110). -/
def State.preTurn (s : State) (stk ch bank latch t : Nat) : Bool :=
  !s.refFirst stk ch 16 t && (s.rowBest stk ch t == some (.pre bank latch)
    || (s.rowIdle stk ch t && !(s.bank (mbnOf stk ch bank)).hold.isSome))

/-- The same for a PREB (03 R93; 05 R184). -/
def State.prebTurn (s : State) (stk ch bank t : Nat) : Bool :=
  !s.refFirst stk ch 16 t && (s.rowBest stk ch t == some (.preb bank)
    || (s.rowIdle stk ch t && !(s.bank (mbnOf stk ch bank)).hold.isSome))

/-! ### Time waited for tokens (03 R115; 05 R192) -/

/-- The cycle from which an ACT or NRR of latch `l` meets 03 R82. -/
def State.rowReadyAt (s : State) (stk ch bank l : Nat) : Nat :=
  let mbn := mbnOf stk ch bank
  let b := s.bandOf mbn
  let k := s.bank mbn
  let la := k.latch l
  let c := s.chan (chanKey stk ch)
  let f (a : Option Nat) (d : Nat) : Nat := (a.map (· + d)).getD 0
  [f la.preAt (tRP b), f la.actAt (tRC b), f la.nrrAt (tNRR b), f k.refAt 99, f c.rowSlot 1, f c.srxAt 495,
    match c.rowAt with
    | none => 0
    | some (b', l', a) => if b' == bank && l' == l then 0 else a + 2].foldl max 0

/-- The cycle from which a REFPB meets 03 R82. -/
def State.refReadyAt (s : State) (mbn : Nat) : Nat :=
  let b := s.bandOf mbn
  let k := s.bank mbn
  let f (a : Option Nat) (d : Nat) : Nat := (a.map (· + d)).getD 0
  ((upTo 2).map fun l => let la := k.latch l
    if k.isOpen l then max (f la.actAt (tRAS b)) (max (f la.rdAt 4) (f la.wrAt (4 + tWR b))) else 0).foldl max (f k.refAt 99)

/-- How long a command that is ready at `ready` has waited for a token up to `t`, since waits were last counted. -/
def State.tokenLag (s : State) (stk t : Nat) (reserved : Bool) (ready : Nat) : Nat :=
  if s.tokenFree stk reserved then 0 else t - max (s.stk stk).waitAt ready

/-- The waits of a job's ACTs on a stack. -/
def State.jobLag (s : State) (j : Job) (stk t : Nat) : Nat :=
  (j.banks.map fun b =>
    match s.holder b.mbn with
    | none => 0
    | some o =>
      if o.arrived ≠ j.arrived || b.mbn / 1024 ≠ stk then 0
      else match j.rowNext (s.bank b.mbn) b with
        | some (.act bank row) =>
          if (s.bank b.mbn).isOpen (row / 16384) then 0
          else s.tokenLag stk t (decide (j.eff ≤ 1)) (s.rowReadyAt stk (b.mbn / 16 % 64) bank (row / 16384))
        | _ => 0).sum

/-- The waits of a bank's forced or due REFPB and of its neighbour refreshes. -/
def State.bankLag (s : State) (mbn t : Nat) : Nat :=
  let stk := mbn / 1024
  let k := s.bank mbn
  (if s.forced mbn || (decide (k.debt > 0) && !s.class01 mbn) then s.tokenLag stk t (s.forced mbn) (s.refReadyAt mbn) else 0)
    + ((upTo 2).map fun l =>
        let q := k.nrr l
        if q = [] || k.isOpen l then 0
        else s.tokenLag stk t (decide (4 ≤ q.length)) (s.rowReadyAt stk (mbn / 16 % 64) (mbn % 16) l)).sum

/-- The waits of the queued requests of a stack. -/
def State.reqLag (s : State) (stk t : Nat) : Nat :=
  (s.mem.reqs.map fun r =>
    if r.stk = stk && s.servable r && s.nextCmd r == .act then
      s.tokenLag stk t (decide (r.eff ≤ 1)) (max r.cyc (s.rowReadyAt stk (r.mbn / 16 % 64) (r.mbn % 16) r.half))
    else 0).sum

/-- Count the waits for tokens of a stack up to cycle `t`: on TOKEN_WAIT, and those of each job's ACTs on the job. -/
def State.tokenTick (s : State) (stk t : Nat) : State :=
  let n := s.reqLag stk t + ((s.mem.banks.filter fun kb => kb.1 / 1024 == stk).map fun kb => s.bankLag kb.1 t).sum
  let js := s.mem.jobs.map fun kj => (kj.1, s.jobLag kj.2 stk t)
  let s1 : State := { s with mem := { s.mem with
    jobs := s.mem.jobs.map fun kj =>
      (kj.1, { kj.2 with res := { kj.2.res with tokenWait := kj.2.res.tokenWait + s.jobLag kj.2 stk t } }) } }
  let s2 := s1.bump (0x3030 + stk) 6 (n + (js.map (·.2)).sum)
  s2.modStk stk fun k => { k with waitAt := max k.waitAt t, now := max k.now t }

/-! ### Neighbour refresh (02 R49, R62; 03 R100 to R102) -/

/-- One step of a channel's LFSR (03 R101). -/
def lfsrStep (v : W32) : W32 := if v.getLsbD 0 then (v >>> 1) ^^^ 0x80200003 else v >>> 1

/-- The physical row at distance `d` below or above, when it exists: within the half, or among the spares
of the half. The spec does not place the spares: the 8 of a half are neighbours in index order, and none is a neighbour of
an ordinary row (DESIGN CHOICE, log entry 111). -/
def neighbour (prow d : Nat) (up : Bool) : Option Nat :=
  let size := if prow < 32768 then 16384 else 8
  let off := prow % size
  if up then (if off + d < size then some (prow + d) else none)
  else (if d ≤ off then some (prow - d) else none)

/-- The rows that an ACT of physical row `prow` queues when the LFSR reads `v`, in order −1, +1, −2, +2. -/
def drawnRows (v : W32) (k prow : Nat) : List Nat :=
  (if nbits v.toNat (k - 1) 0 = 0 then [neighbour prow 1 false, neighbour prow 1 true] else []).filterMap id
    ++ (if nbits v.toNat (k + 16) 16 = 0 then [neighbour prow 2 false, neighbour prow 2 true] else []).filterMap id

def Bank.setNrr (k : Bank) (l : Nat) (q : List Nat) : Bank := if l = 0 then { k with nrr0 := q } else { k with nrr1 := q }

/-- The banks of a job whose place the state of its bank now lets go on (05 R180). -/
def State.jobGoOn (s : State) (mbn : Nat) : State :=
  s.onHolder mbn fun j => j.setBank mbn fun b => j.settled (s.bank mbn) b

/-- A row-slot command of the job that holds the bank, if one does, has issued (05 R192). -/
def State.jobRowDone (s : State) (mbn t : Nat) : State := s.onHolder mbn fun j => j.spanned (mbn / 16) t

/-- What ACT does: open the row, take a token, advance the LFSR 16 steps and queue neighbours. -/
def State.doAct (s : State) (stk ch bank row t : Nat) : State :=
  let mbn := mbnOf stk ch bank
  let ck := chanKey stk ch
  let l := row / 16384
  let prow := s.physRow mbn row
  let v := Nat.repeat lfsrStep 16 (s.chan ck).lfsr
  let s1 := (s.tokenTick stk t).takeToken stk (t + tokenHold (s.bandOf mbn))
  let s2 := s1.modChan ck fun c => { c with lfsr := v, rowSlot := some t, rowAt := some (bank, l, t) }
  s2.modBank mbn fun k =>
    let la := { k.latch l with row := some prow, logRow := row, actAt := some t, rdAt := none, wrAt := none }
    (k.setLatch l la).setNrr l ((k.nrr l).filter (fun r => r != prow) ++ drawnRows v (s.stk stk).k prow)

/-- The row slot takes the ACT: the highest-ranked request or job asks for it, or the slot is idle, no job holds the bank
and maintenance on P7 opens the row (03 R93; log entry 110). -/
def State.actWanted (s : State) (stk ch bank row t : Nat) : Bool :=
  s.rowBest stk ch t == some (.act bank row)
    || (s.rowIdle stk ch t && !(s.bank (mbnOf stk ch bank)).hold.isSome && s.tokenFree stk false)

/-- ACT may issue (03 R79, R82, R84, R86, R93, R97, R102). -/
def State.actOk (s : State) (stk ch bank row t : Nat) : Bool :=
  let l := row / 16384
  decide (row < 32768) && s.chanReady stk ch t && s.rowTiming stk ch bank l t
    && decide (((s.bank (mbnOf stk ch bank)).nrr l).length < 4)
    && s.actWanted stk ch bank row t && !s.refFirst stk ch 16 t

/-- ACT: open a row in the latch of its half. -/
def execAct (stk ch bank row t : Nat) (s : State) : Out :=
  let mbn := mbnOf stk ch bank
  ifUnit s (s.hasBank stk ch bank) (when' (s.actOk stk ch bank row t) s
    (((s.doAct stk ch bank row t).jobRowDone mbn t).jobGoOn mbn))

/-- Close a latch, collecting the corrected errors of a bank in recipe mode (04 R155). -/
def State.closeLatch (s : State) (mbn l t : Nat) : State :=
  (collectCe s mbn l).modBank mbn fun k => k.setLatch l { k.latch l with row := none, preAt := some t }

def State.useRowSlot (s : State) (stk ch t : Nat) : State :=
  s.modChan (chanKey stk ch) fun c => { c with rowSlot := some t }

/-- PRE: close one latch (03 R79, R82, R94). -/
def execPre (stk ch bank latch t : Nat) (s : State) : Out :=
  let mbn := mbnOf stk ch bank
  ifUnit s (s.hasBank stk ch bank && decide (latch < 2)) <|
    when' (s.chanReady stk ch t && (s.bank mbn).isOpen latch && since (s.chan (chanKey stk ch)).rowSlot 1 t
        && s.closeTiming mbn latch t && !(s.bank mbn).running latch && s.preTurn stk ch bank latch t) s
      ((((s.closeLatch mbn latch t).useRowSlot stk ch t).jobRowDone mbn t).jobGoOn mbn)

/-- The bank's job has left recipe mode and its hold ends (05 R184). -/
def State.endHold (s : State) (mbn : Nat) : State :=
  let k := s.bank mbn
  match k.hold with
  | none => s
  | some j =>
    if k.unit.active then s
    else
      let s1 := s.modBank mbn fun k => { k with hold := none }
      match Tab.find s1.mem.jobs j with
      | none => s1
      | some jb =>
        let bs := jb.banks.map fun b => if b.mbn = mbn then { b with phase := .left } else b
        { s1 with mem := { s1.mem with jobs := Tab.put s1.mem.jobs j { jb with banks := bs } } }

/-- Close a latch if it is open. -/
def State.closeIfOpen (s : State) (mbn l t : Nat) : State := if (s.bank mbn).isOpen l then s.closeLatch mbn l t else s

/-- PREB: close both latches; after a job's SPRIG_MODE leave it ends the hold (03 R79; 05 R184). -/
def execPreb (stk ch bank t : Nat) (s : State) : Out :=
  let mbn := mbnOf stk ch bank
  ifUnit s (s.hasBank stk ch bank) <|
    when' (s.chanReady stk ch t && since (s.chan (chanKey stk ch)).rowSlot 1 t && s.prebTiming mbn t
        && s.prebTurn stk ch bank t) s
      (((((s.jobRowDone mbn t).closeIfOpen mbn 0 t).closeIfOpen mbn 1 t).endHold mbn).useRowSlot stk ch t)

/-- Record a column burst on the channel. -/
def State.useColumn (s : State) (stk ch bank l t : Nat) (read : Bool) : State :=
  let s1 := s.modChan (chanKey stk ch) fun c =>
    { c with
      bursts := (c.bursts.filter fun a => decide (t < a + 4)) ++ [t]
      colSlot := some t
      rdAt := if read then some t else c.rdAt
      wrAt := if read then c.wrAt else some t }
  s1.modBank (mbnOf stk ch bank) fun k =>
    let la := k.latch l
    { k.setLatch l (if read then { la with rdAt := some t } else { la with wrAt := some t }) with colAt := some t }

/-- Stop the run of a bank that an ordinary RD or WR reaches (04 R119). -/
def State.hitRun (s : State) (mbn t : Nat) : State := s.modUnit mbn fun u => unitStop u 4 t

/-- The fields of a 48-bit RD or WR word (05 R172): CMD 0x01 or 0x02, one bank in BANK_MASK, LATCH and COLUMN. -/
def colBank (w : BitVec 48) : Option Nat := (upTo 16).find? fun b => extMask w == 2 ^ b
def colLatch (w : BitVec 48) : Nat := Word.bits w 26 26
def colColumn (w : BitVec 48) : Nat := Word.bits w 25 20
/-- The word is a RD (`cmd` 1) or a WR (`cmd` 2) to one bank, its RSVD bits zero. -/
def colWord (cmd : Nat) (w : BitVec 48) : Bool := extCmd w == cmd && (colBank w).isSome && Word.bits w 19 0 == 0

/-- A RD or WR of request `r` may issue: it stands first in its column and ranks highest in the column slot. -/
def State.colOk (s : State) (r : PortReq) (stk ch bank latch col t : Nat) : Bool :=
  r.mbn == mbnOf stk ch bank && r.col == col && r.half == latch && s.chanReady stk ch t && s.colReady r t
    && s.colTop stk ch t r.rank

/-- Scrub's read of a column is done: nothing is written, or the column is to be written back (03 R109). -/
def State.scrubRead (s : State) (r : PortReq) : State × Option Column :=
  let a := s.maintEv r.loc
  let e := s.eccAt r.loc
  if s.isLost r.mbn r.row then (s, none)
  else if e.ue then (s.countUe (some 0x02) a e, some (poisonCol e.data))
  else if e.ce && !e.poison then (s.countCe 1 a, some (cleanCol e.data))
  else if e.ce then (s.countCe 1 a, none)
  else (s, none)

/-- RD: move one column to the controller and classify it (02 R52 to R56; 03 R79, R80, R109). A RD that reaches a running
recipe outside a job stops it (04 R119). -/
def execRd (stk ch : Nat) (w : BitVec 48) (id t : Nat) (s : State) : Out :=
  ifUnit s (s.fitted stk && decide (ch < 64)) <|
    match colBank w, s.mem.reqs.find? fun r => r.id == id with
    | some bank, some r =>
      let mbn := mbnOf stk ch bank
      let latch := colLatch w
      if !(colWord 1 w && r.reads && s.colOk r stk ch bank latch (colColumn w) t) then .next s
      else
        let s1 := s.useColumn stk ch bank latch t true
        if (s.bank mbn).unit.busy then go s ((s1.hitRun mbn t).respond r 4 0 false)
        else if r.scrub then
          let x := s1.scrubRead r
          match x.2 with
          | none => go s (x.1.respond r 0 0 false)
          | some c => go s (x.1.modReq id fun q => { q with merge := some c })
        else
          match r.kind with
          | .read =>
            let x := s1.readCol r.at'
            go s (x.1.respond r x.2.1 x.2.2 false)
          | .write d m _ =>
            let x := s1.mergeCol r.at' d m
            go s (x.1.modReq id fun q => { q with merge := some { data := x.2.1, check := 0 }, mergeBad := x.2.2 })
    | _, _ => .next s

/-- What the WR of a request stores: for scrub the column it writes back, for a partial write the merged column, and
otherwise the bytes of the write (02 R55 to R57; 03 R109). -/
def PortReq.stores (r : PortReq) : Option Column :=
  match r.merge, r.kind with
  | some c, .read => some c
  | some c, .write _ _ p => some (storeCol c.data (r.mergeBad || p))
  | none, .write d _ p => some (storeCol d p)
  | none, .read => none

/-- WR: store the whole column, clean or poisoned (02 R55 to R57; 03 R79, R80). -/
def execWr (stk ch : Nat) (w : BitVec 48) (id t : Nat) (s : State) : Out :=
  ifUnit s (s.fitted stk && decide (ch < 64)) <|
    match colBank w, s.mem.reqs.find? fun r => r.id == id with
    | some bank, some r =>
      let mbn := mbnOf stk ch bank
      let latch := colLatch w
      match r.stores with
      | none => .next s
      | some v =>
        if !(colWord 2 w && !r.reads && s.colOk r stk ch bank latch (colColumn w) t) then .next s
        else
          let s1 := s.useColumn stk ch bank latch t false
          if (s.bank mbn).unit.busy then go s ((s1.hitRun mbn t).respond r 4 0 false)
          else go s ((s1.locPut r.loc v).respond r (if r.mergeBad then 4 else 0) 0 false)
    | _, _ => .next s

/-! ### Refresh (03 R81, R95 to R99) -/

/-- A step in flight with every time moved on by `d` cycles. -/
def InFlight.shift (f : InFlight) (d : Nat) : InFlight :=
  { f with
    issueAt := f.issueAt + d
    readyAt := f.readyAt + d
    retireAt := f.retireAt + d
    pathAt := f.pathAt.map (· + d) }

/-- Pause the run of a bank: the rows then open are to be reopened (03 R99; 04 R130; 05 R187). -/
def State.pauseRun (s : State) (mbn t : Nat) : State :=
  let k := s.bank mbn
  if k.unit.status.st ≠ .running then s
  else
    let rows := (upTo 2).filterMap fun l => if k.isOpen l then some (l, (k.latch l).logRow) else none
    let s1 := s.modUnit mbn fun u =>
      { u with
        status := { u.status with st := .paused }
        run := { u.run with reopen := rows, pauses := u.run.pauses + 1, pauseAt := some t, ghosts := (u.recent).take 40 } }
    s1.onHolder mbn fun j => { j with res := { j.res with pauses := j.res.pauses + 1 } }

/-- REFPB: close the latches, refresh the next four rows, lower the debt, pause a run (03 R79, R81, R97). -/
def execRefpb (stk ch bank t : Nat) (s : State) : Out :=
  let mbn := mbnOf stk ch bank
  let f := s.forced mbn
  ifUnit s (s.hasBank stk ch bank) <|
    when' (s.chanReady stk ch t && s.refDue mbn && s.refTiming stk ch bank t && s.tokenFree stk f
        && s.refTurn stk ch bank t) s <|
      let s1 := (((s.tokenTick stk t).pauseRun mbn t).takeToken stk (t + tokenHold (s.bandOf mbn)))
      let s2 := (s1.closeIfOpen mbn 0 t).closeIfOpen mbn 1 t
      let s3 := s2.modBank mbn fun k =>
        { k with debt := k.debt - 1, refStep := (k.refStep + 1) % 8196, refAt := some t, band := 0 }
      let s4 := s3.useRowSlot stk ch t
      if f then s4.bump (0x3030 + stk) 4 else s4

/-- NRR: refresh the oldest queued neighbour row of a half (03 R79, R102). -/
def execNrr (stk ch bank half t : Nat) (s : State) : Out :=
  let mbn := mbnOf stk ch bank
  ifUnit s (s.hasBank stk ch bank && decide (half < 2)) <|
    match (s.bank mbn).nrr half with
    | [] => .next s
    | _ :: rest =>
      when' (s.chanReady stk ch t && s.rowTiming stk ch bank half t && s.tokenFree stk (decide (3 ≤ rest.length))
          && s.nrrTurn stk ch bank half t) s <|
        let s1 := (s.tokenTick stk t).takeToken stk (t + tokenHold (s.bandOf mbn))
        let s2 := s1.modChan (chanKey stk ch) fun c => { c with rowSlot := some t, rowAt := some (bank, half, t) }
        let s3 := s2.modBank mbn fun k =>
          (k.setLatch half { k.latch half with nrrAt := some t }).setNrr half rest
        s3.bump (0x3030 + stk) 5

/-- The tokens out without the first that is back by cycle `t`. -/
def dropBack (t : Nat) : List Nat → List Nat
  | [] => []
  | a :: r => if a ≤ t then r else a :: dropBack t r

/-- TOKEN_RETURN: TOKEN_HOLD after its command a token comes back (03 R84, R85). -/
def execTokenReturn (stk t : Nat) (s : State) : Out :=
  ifUnit s (s.fitted stk) <|
    when' ((s.stk stk).toks.any fun a => decide (a ≤ t)) s
      ((s.tokenTick stk t).modStk stk fun k => { k with toks := dropBack t k.toks })

/-- REFRESH_INTERVAL: one refresh interval of a bank has elapsed by cycle `t`, and the next begins at its end
(03 R95 to R97). -/
def execRefreshInterval (stk ch bank t : Nat) (s : State) : Out :=
  let mbn := mbnOf stk ch bank
  let e := (s.bank mbn).intAt + refInterval (s.bandOf mbn)
  ifUnit s (s.hasBank stk ch bank) <|
    when' (s.stackOn stk && !(s.chan (chanKey stk ch)).sr && decide (e ≤ 8 * t)) s
      ((s.modBank mbn fun k => { k with debt := k.debt + 1, intAt := e }).modStk stk fun k => { k with now := max k.now t })

/-- A stack changes band. At a rise a bank whose interval has run for the new interval or longer gains a debt and starts its
next one; a fall reaches each bank at its next REFPB or SRX (03 R96). The decision's cycle is the latest that a command of
the stack has named (log entry 112). -/
def State.rebank (s : State) (stk old new bank : Nat) : State :=
  let mbn := 1024 * stk + bank
  if new < old then s.modBank mbn fun k => { k with band := max k.band old }
  else
    let now := 8 * (s.stk stk).now
    let k := s.bank mbn
    if refInterval (max k.band new) ≤ now - k.intAt && !(s.chan (mbn / 16)).sr then
      s.setBank mbn { k with debt := k.debt + 1, intAt := now }
    else s

/-! ### Self-refresh and nap (03 R103 to R107) -/

def chanBanks (stk ch : Nat) : List Nat := (upTo 16).map fun b => mbnOf stk ch b

/-- No latch of the channel is open. -/
def State.latchesClosed (s : State) (stk ch : Nat) : Bool :=
  (chanBanks stk ch).all fun b => !(s.bank b).isOpen 0 && !(s.bank b).isOpen 1

/-- A request, scrub's own included, or a Sprig job is queued for the channel. -/
def State.chanAsked (s : State) (stk ch : Nat) : Bool :=
  (s.mem.reqs.any fun r => r.stk == stk && r.mbn / 16 % 64 == ch) || (chanBanks stk ch).any s.jobOn

/-- The channel is idle (03 R103). -/
def State.chanIdle (s : State) (stk ch : Nat) : Bool :=
  !s.chanAsked stk ch && s.latchesClosed stk ch
    && ((chanBanks stk ch).all fun b => (s.bank b).hold.isNone) && !(s.chan (chanKey stk ch)).scrubWake

/-- A partition owns a region on the stack (03 R107). -/
def State.ownsOn (s : State) (p stk : Nat) : Bool :=
  s.regions.any fun r => r.owner == p && decide (r.base < 2 ^ 37 * (stk + 1)) && decide (2 ^ 37 * stk < r.base + 2 ^ r.size)

/-- Every partition that owns a region on the stack is UNUSED. -/
def State.stackUnused (s : State) (stk : Nat) : Bool := (upTo 16).all fun p => !s.ownsOn p stk || s.unused p

/-- The channel enters self-refresh; an unused stack keeps only the segments of PASR_KEEP (03 R107). -/
def State.enterSr (s : State) (stk ch t : Nat) : State :=
  let keep := s.odNat (0x3030 + stk) 10
  s.modChan (chanKey stk ch) fun c =>
    { c with
      sr := true
      srAt := some t
      srPend := false
      srUs := s.crust.time
      rowSlot := some t
      lost := if s.stackUnused stk then c.lost ||| ~~~(BitVec.ofNat 8 keep) else c.lost }

/-- SRE: the channel enters self-refresh (03 R79, R103; 04 R118). -/
def execSre (stk ch t : Nat) (s : State) : Out :=
  ifUnit s (s.fitted stk && decide (ch < 64)) <|
    when' (s.chanReady stk ch t && (s.chan (chanKey stk ch)).srPend && s.latchesClosed stk ch
        && since (s.chan (chanKey stk ch)).rowSlot 1 t
        && (chanBanks stk ch).all fun b =>
          decide ((s.bank b).debt ≤ 0) && !(s.bank b).unit.active && (s.bank b).hold.isNone && since (s.bank b).leaveAt 2 t) s
      (s.enterSr stk ch t)

/-- The channel leaves self-refresh: each bank's debt starts at 0 and its first interval at SRX, and it takes the stack's
band (03 R103). -/
def State.leaveSr (s : State) (stk ch t : Nat) : State :=
  let s1 := s.modChan (chanKey stk ch) fun c => { c with sr := false, wake := false, srxAt := some t, rowSlot := some t }
  (chanBanks stk ch).foldl (fun s b => s.modBank b fun k => { k with debt := 0, band := 0, intAt := 8 * t }) s1

/-- SRX: a waiting request or job, or a scrub that must catch up, brings the channel out (03 R104, R110). -/
def execSrx (stk ch t : Nat) (s : State) : Out :=
  let c := s.chan (chanKey stk ch)
  ifUnit s (s.fitted stk && decide (ch < 64)) <|
    when' (s.stackOn stk && c.sr && !(s.stk stk).nap && since c.srAt 13 t
        && (c.scrubWake || c.wake || s.chanAsked stk ch)) s
      (s.leaveSr stk ch t)

/-- SR_IDLE_EXPIRY: the channel has been idle for SR_IDLE; entry to self-refresh begins (03 R103). -/
def execSrIdleExpiry (stk ch _t : Nat) (s : State) : Out :=
  ifUnit s (s.fitted stk && decide (ch < 64)) <|
    when' (s.stackOn stk && !(s.chan (chanKey stk ch)).sr && s.odNat 0x3020 2 != 0 && s.chanIdle stk ch) s
      (s.modChan (chanKey stk ch) fun c => { c with srPend := true })

/-- NAP_ENTRY: every channel has been in self-refresh for more than 1 ms, and nothing waits for one (03 R105). -/
def execNapEntry (stk : Nat) (s : State) : Out :=
  ifUnit s (s.fitted stk) <|
    when' (s.stackOn stk && s.odNat 0x3020 3 == 1 && (upTo 64).all fun ch =>
        let c := s.chan (chanKey stk ch)
        c.sr && !c.wake && !s.chanAsked stk ch && decide (c.srUs + 1000 < s.crust.time)) s
      (s.modStk stk fun k => { k with nap := true })

/-- MRW: write a DRAM mode register (03 R79). -/
def execMrw (stk ch reg : Nat) (value : BitVec 32) (t : Nat) (s : State) : Out :=
  ifUnit s (s.fitted stk && decide (ch < 64)) <|
    when' (s.chanReady stk ch t && s.latchesClosed stk ch && since (s.chan (chanKey stk ch)).rowSlot 1 t) s
      (s.modChan (chanKey stk ch) fun c => { c with modes := Tab.set 0 c.modes reg value, rowSlot := some t })

/-- MRR: read a DRAM mode register (03 R79). -/
def execMrr (stk ch reg t : Nat) (s : State) : Out :=
  ifUnit s (s.fitted stk && decide (ch < 64)) <|
    when' (s.chanReady stk ch t && s.latchesClosed stk ch && since (s.chan (chanKey stk ch)).rowSlot 1 t) s <|
      let s1 := s.useRowSlot stk ch t
      { s1 with mem := { s1.mem with mrrs := (reg, Tab.get 0 (s.chan (chanKey stk ch)).modes reg) :: s1.mem.mrrs } }

/-! ### Patrol scrub (03 R109, R110) -/

/-- The column at a channel's scrub position. -/
def scrubLoc (stk ch pos : Nat) : Loc := ⟨mbnOf stk ch (pos / 2097152), pos / 64 % 32768, pos % 64⟩

/-- Scrub's request for a column. -/
def scrubReq (id stk : Nat) (l : Loc) (x : Nat × Nat) (t : Nat) : PortReq where
  id := id
  cyc := t
  stk := stk
  port := 7
  cls := 3
  step := 0
  aged := false
  lin := x.1
  mbn := l.mbn
  row := l.row
  col := l.col
  kind := .read
  part := x.2
  requester := 0xFFFF
  merge := none
  mergeBad := false
  scrub := true

/-- SCRUB_DUE: patrol scrub asks for the channel's next column on P7 at class 3; the request is served like any other, its
RD followed by a WR where the column is written back (03 R109). It does not wake a channel from self-refresh (R110). -/
def execScrubDue (stk ch t : Nat) (s : State) : Out :=
  let c := s.chan (chanKey stk ch)
  let l := scrubLoc stk ch c.scrubPos
  let x := s.linAt l
  ifUnit s (s.fitted stk && decide (ch < 64)) <|
    when' (s.stackOn stk && !c.sr) s
      (({ s with mem := { s.mem with
          nextId := s.mem.nextId + 1
          reqs := s.mem.reqs ++ [scrubReq s.mem.nextId stk l x t] } }).modChan (chanKey stk ch) fun c =>
        { c with
          srPend := false
          scrubPos := (c.scrubPos + 1) % 33554432
          scrubPass := if c.scrubPos + 1 = 33554432 then c.scrubPass + 1 else c.scrubPass })

/-- Seconds by which a channel's scrub is behind its schedule: a pass takes SCRUB_PERIOD, and its columns are due at equal
distances from the start of the stacks on (03 R109, R115; log entry 113). -/
def State.scrubLag (s : State) (stk ch : Nat) : Nat :=
  let c := s.chan (chanKey stk ch)
  let period := 3600 * s.odNat 0x3020 8
  (s.crust.time - s.mem.scrubBase) / 1000000 - (c.scrubPass * period + c.scrubPos * period / 33554432)

/-- SCRUB_CATCH_UP: a channel whose scrub is 1 h behind its schedule is woken; when it is back on schedule it may enter
self-refresh again (03 R110). -/
def execScrubCatchUp (stk ch _t : Nat) (s : State) : Out :=
  let c := s.chan (chanKey stk ch)
  ifUnit s (s.fitted stk && decide (ch < 64)) <|
    when' (s.stackOn stk) s <|
      if c.scrubWake && !c.sr && s.scrubLag stk ch == 0 then s.modChan (chanKey stk ch) fun c => { c with scrubWake := false }
      else if c.sr && decide (3600 ≤ s.scrubLag stk ch) then
        (s.modStk stk fun k => { k with nap := false }).modChan (chanKey stk ch) fun c => { c with scrubWake := true }
      else s

/-! ### Row sparing (02 R58 to R61) -/

/-- The spare of the half that is taken: the free one of lowest index (DESIGN CHOICE, log entry 114). -/
def State.freeSpare (s : State) (mbn half : Nat) : Option Nat :=
  ((upTo 8).map fun i => 8 * half + i).find? fun i => !(s.mem.spares.any fun p => p.mbn == mbn && p.idx == i)

/-- Copy one column to a spare: corrected stored clean, uncorrectable and poisoned stored poisoned (02 R60). -/
def State.copyToSpare (s : State) (mbn prow dst col : Nat) : State :=
  let e := eccRead (s.dramGet mbn prow col)
  s.dramPut mbn dst col (storeCol e.data e.bad)

/-- Set RETIRE_PENDING in the home record of each loaf that holds a column of the row (13 R473). -/
def State.retireRow (s : State) (mbn row : Nat) : State :=
  (upTo 64).foldl (fun s col =>
    let ph := mbn * 2 ^ 27 + row * 4096 + col * 64
    let lin := match s.regions.find? (fun r => r.holds ph || r.holds (s.physOf r ph)) with
      | some r => s.physOf r ph
      | none => ph
    let k := lin / 2 ^ 21
    let v := Tab.get 0 s.place.home k
    { s with place := { s.place with home := Tab.put s.place.home k (v ||| (1 <<< 58)) } }) s

/-- A row that finds no spare has failed (02 R61; 13 R473). -/
def State.failRow (s : State) (mbn row : Nat) : State :=
  { s with mem := { s.mem with failed := s.mem.failed ++ [(mbn, row)] } }

/-- SOFT_SPARE: once no Sprig job holds the row and no write to it is half done, the row is copied to a spare of its half
and remapped; a latch that held the old row closes. A half with no free spare keeps the row, which has failed; the event is
logged and its loafs are to be retired. With SPARING_ENABLE 0 no spare is made (02 R60, R61, R63; 13 R473). -/
def execSoftSpare (mbn row t : Nat) (s : State) : Out :=
  let stk := mbn / 1024
  let half := row / 16384
  let k := s.bank mbn
  ifUnit s (decide (mbn < 16384) && s.fitted stk && decide (row < 32768)) <|
    if !(s.stackOn stk && s.odNat 0x3000 3 == 1 && s.mem.spareReq.contains (mbn, row) && !s.jobHolds mbn row
        && !k.running half && !s.mem.reqs.any fun r => r.mbn == mbn && r.row == row && r.merge.isSome) then .next s
    else
      let asked := s.mem.spareReq.filter fun x => x != (mbn, row)
      let a := s.maintEv ⟨mbn, row, 0⟩
      match s.freeSpare mbn half with
      | none =>
        let s1 := { s with mem := { s.mem with spareReq := asked } }
        go s (((s1.failRow mbn row).stkEvent 0x06 a).retireRow mbn row)
      | some i =>
        let prow := s.physRow mbn row
        let s1 := if k.rowOpen row then s.closeLatch mbn half t else s
        let s2 := (upTo 64).foldl (fun s col => s.copyToSpare mbn prow (32768 + i) col) s1
        let sp : Spare := { mbn := mbn, row := row, idx := i, fused := false }
        let s3 := { s2 with mem := { s2.mem with
          spares := sp :: s2.mem.spares
          spareReq := asked
          rowCe := Tab.erase s2.mem.rowCe (mbn * 32768 + row) } }
        go s (s3.stkEvent 0x05 a)

end Sys2Proof.Machine
end

