-- ==== Sys2Proof/Machine/Trans.lean ====
section
/-! DEFINITION. Placement entries, home records, translation and what makes a request wait at its home
(13 R442 to R450, R461, R464; 14 R486, R487). -/

namespace Sys2Proof.Machine

/-! ### Placement entries (13 R442 to R444) -/

/-- The loaf number of a partition virtual address. -/
def loafOf (pva : Nat) : Nat := nbits pva 55 21

/-- The key of a placement entry: partition and loaf. -/
def leafKey (p loaf : Nat) : Nat := p * 2 ^ 35 + loaf

def State.entryOf (s : State) (p loaf : Nat) : Word := Tab.get 0 s.place.leaves (leafKey p loaf)

def entSt (w : Word) : Nat := Word.bits w 63 62
def entWr (w : Word) : Bool := Word.bit w 61
def entLocal (w : Word) : Bool := Word.bit w 60
def entEpoch (w : Word) : Nat := Word.bits w 59 52
def entRepl (w : Word) : Nat := Word.bits w 51 40
def entReplicable (w : Word) : Bool := Word.bit w 51
def entPos (w : Word) : Nat := Word.bits w 39 20
def entLoff (w : Word) : Nat := Word.bits w 19 0

/-- A placement entry from its fields. -/
def mkEntry (st : Nat) (wr local_ : Bool) (epoch repl pos loff : Nat) : Word :=
  pack [(62, st), (61, wr.toNat), (60, local_.toNat), (52, epoch % 256), (40, repl), (20, pos), (0, loff)]

/-! ### Home records (13 R448) -/

/-- A home record, field by field. -/
structure HomeRec where
  st      : Nat := 0
  replicable : Bool := false
  live    : Bool := false
  retire  : Bool := false
  fwd     : Bool := false
  epoch   : Nat := 0
  fpos    : Nat := 0
  floff   : Nat := 0
  deriving DecidableEq, Repr

def HomeRec.ofWord (w : Word) : HomeRec where
  st := Word.bits w 63 61
  replicable := Word.bit w 60
  live := Word.bit w 59
  retire := Word.bit w 58
  fwd := Word.bit w 57
  epoch := Word.bits w 47 40
  fpos := Word.bits w 39 20
  floff := Word.bits w 19 0

def HomeRec.word (r : HomeRec) : Word :=
  pack [(61, r.st), (60, r.replicable.toNat), (59, r.live.toNat), (58, r.retire.toNat), (57, r.fwd.toNat),
    (40, r.epoch % 256), (20, r.fpos), (0, r.floff)]

def State.homeRec (s : State) (loff : Nat) : HomeRec := HomeRec.ofWord (Tab.get 0 s.place.home loff)
def State.setHomeRec (s : State) (loff : Nat) (r : HomeRec) : State :=
  { s with place := { s.place with home := Tab.set 0 s.place.home loff r.word } }

/-- A loaf becomes VACANT: RETIRED instead when a row of it could not be spared (13 R473). -/
def State.vacate (s : State) (loff : Nat) (keepFwd : Bool) : State :=
  let r := s.homeRec loff
  if r.retire then
    let s1 := s.setHomeRec loff { st := 5, retire := true, epoch := r.epoch }
    { s1 with place := { s1.place with
        retired := if s.place.retired.contains loff then s.place.retired else s.place.retired ++ [loff] } }
  else if keepFwd then s.setHomeRec loff { r with st := 0, live := false, replicable := false }
  else s.setHomeRec loff { epoch := r.epoch }

/-- This module's position, when it is set (12 R431, R438). -/
def State.position (s : State) : Option Nat :=
  let v := s.odNat 0x6000 1
  if v < 2 ^ 20 then some v else none

/-! ### Translation (13 R442, R449, R450, R461) -/

/-- What translating an address gives: a memory status, a place here that is served now, a wait at the home
record, or a home elsewhere with the epoch to send. -/
inductive Xl where
  | bad (status : Nat)
  | here (lin : Nat)
  | hold
  | there (pos lin epoch : Nat)
  deriving DecidableEq, Repr

/-- How a home record of this module answers a request of this module with epoch `e` (13 R449, R450): a
STALE answer or a REDIRECT meets the same placement entry again, so the request completes STALE. -/
def State.homeLocal (s : State) (lin e : Nat) (write : Bool) : Xl :=
  let r := s.homeRec (nbits lin 40 21)
  match r.st with
  | 1 => if r.epoch = e then .here lin else .bad 6
  | 2 => if r.epoch = e then (if write then .hold else .here lin) else .bad 6
  | 4 =>
    if (e + 1) % 256 = r.epoch then .there r.fpos (r.floff * 2 ^ 21 + nbits lin 20 0) r.epoch else .bad 6
  | 0 => if r.fwd then .bad 6 else .bad 5
  | 5 => .bad 9
  | _ => .bad 6

/-- The replica of a loaf that may be read here (13 R461). -/
def State.replicaAt (s : State) (p loaf : Nat) : Option Replica :=
  (Tab.find s.place.replicas (leafKey p loaf)).bind fun r => if r.usable then some r else none

/-- The members of a partition's domain: partition and position (13 R451). -/
def State.domainMembers (s : State) (p : Nat) : List (Nat × Nat) :=
  let b := Tab.get [] s.mgmt.blobs (odKey (0x2600 + p) 2)
  (chunks 4 (b.length / 4) b).map fun c => let v := ofLeBytes c; (nbits v 23 20, nbits v 19 0)

/-- 0 when partition `p` may reach the offset at its home here through an entry that names this module: its own memory,
memory shared with it, or that of a partition whose domain lists it; else UNBACKED or ACCESS (00 R7; 01 R38; 13 R451, R452). -/
def State.homeReach (s : State) (p lin : Nat) : Nat :=
  match s.regionAt lin with
  | none => 3
  | some r =>
    if s.localReach p lin = 2 && (s.domainMembers r.owner).any (fun m => m.1 == p && some m.2 == s.position) then 0
    else s.localReach p lin

/-- A line of the memory of a partition that is UNUSED completes with ACCESS (15 R508). -/
def State.ownerUnused (s : State) (lin : Nat) : Bool :=
  match s.regionAt lin with
  | none => false
  | some r => s.unused r.owner

/-- A request of this module at its home here: the memory that it may reach answers by the home record. -/
def State.homeAnswer (s : State) (reach lin e : Nat) (write : Bool) : Xl :=
  if reach ≠ 0 then .bad reach else if s.ownerUnused lin then .bad 2 else s.homeLocal lin e write

/-- Translate an address of partition `p` (13 R442). -/
def State.xlate (s : State) (p pva : Nat) (write : Bool) : Xl :=
  let loaf := loafOf pva
  let w := s.entryOf p loaf
  if entSt w = 0 || entSt w = 3 then .bad 1
  else if write && !entWr w then .bad 2
  else
    let lin := entLoff w * 2 ^ 21 + nbits pva 20 0
    if entLocal w then
      s.homeAnswer (s.localReach p lin) lin (entEpoch w) write
    else
      match (if entSt w = 2 && !write then s.replicaAt p loaf else none) with
      | some r => .here (s.odNat (0x2600 + p) 4 + 2 ^ 21 * r.slot + nbits pva 20 0)
      | none =>
        if s.position = some (entPos w) then
          s.homeAnswer (s.homeReach p lin) lin (entEpoch w) write
        else .there (entPos w) lin (entEpoch w)

/-- A request of this module that `xlate` refuses was put to the home record here, which answers it; otherwise no module got
it (11 R383). -/
def State.homeAsked (s : State) (p pva : Nat) (write : Bool) : Bool :=
  let w := s.entryOf p (loafOf pva)
  let lin := entLoff w * 2 ^ 21 + nbits pva 20 0
  (entSt w == 1 || entSt w == 2) && (!write || entWr w)
    && (if entLocal w then s.localReach p lin == 0 else s.position == some (entPos w) && s.homeReach p lin == 0)

/-! ### The placement caches (13 R447) -/

/-- The set of a loaf: the exclusive OR of five values. -/
def pcacheSet (p loaf : Nat) : Nat :=
  (nbits loaf 10 0 ^^^ nbits loaf 21 11 ^^^ nbits loaf 32 22 ^^^ (nbits loaf 34 33 <<< 9) ^^^ (p <<< 7)) % 2048

/-- The I/O die that translates for a cluster: the lowest-numbered up die linked to its hearth die. -/
def State.xlateDie (s : State) (c : Nat) : Option Nat :=
  (upTo s.build.ioDies).find? fun d =>
    (linkedHearths d).contains (c / 12) && s.linkUp (ioLink d (c / 12))

/-- A look-up: a hit becomes most recent, a miss is counted. -/
def State.pcacheLook (s : State) (die : Option Nat) (p pva : Nat) : State :=
  match die with
  | none => s
  | some d =>
    let tag := leafKey p (loafOf pva)
    let key := d * 2048 + pcacheSet p (loafOf pva)
    let l := Tab.get [] s.place.pcache key
    if l.contains tag then
      { s with place := { s.place with pcache := Tab.set [] s.place.pcache key (tag :: l.filter (· != tag)) } }
    else s.bump 0x6020 2

/-- A fill: the entry becomes most recent and the least recent of nine leaves. -/
def State.pcacheFill (s : State) (d p loaf : Nat) : State :=
  let tag := leafKey p loaf
  let key := d * 2048 + pcacheSet p loaf
  let l := Tab.get [] s.place.pcache key
  { s with place := { s.place with
      pcache := Tab.set [] s.place.pcache key ((tag :: l.filter (· != tag)).take 8) } }

/-- The caches drop a loaf of a partition. -/
def State.pcacheDrop (s : State) (p loaf : Nat) : State :=
  { s with place := { s.place with
      pcache := (s.place.pcache.map fun kv => (kv.1, kv.2.filter (· != leafKey p loaf))).filter
        fun kv => kv.2 != [] } }

end Sys2Proof.Machine
end

