-- ==== Sys2Proof/Machine/Fabric.lean ====
section
/-! DEFINITION. Mizor frames, paths, tag spaces, credits and transmission (12 R401 to R431). -/

namespace Sys2Proof

/-- Replace bits `[hi:lo]` of a word. -/
def Word.setBits (w : Word) (hi lo v : Nat) : Word :=
  BitVec.ofNat 64 (w.toNat - nbits w.toNat hi lo * 2 ^ lo + v % 2 ^ (hi + 1 - lo) * 2 ^ lo)

/-! ### Header fields (12 R404) -/

namespace Frame

def ver (f : Frame) : Nat := Word.bits f.h0 63 60
def op (f : Frame) : Nat := Word.bits f.h0 59 54
def level (f : Frame) : Nat := Word.bits f.h0 53 52
def cls (f : Frame) : Nat := Word.bits f.h0 51 50
def nlines (f : Frame) : Nat := Word.bits f.h0 47 41
def status (f : Frame) : Nat := Word.bits f.h0 40 33
def ctr (f : Frame) : Nat := Word.bits f.h0 19 0
def srcPos (f : Frame) : Nat := Word.bits f.h1 63 44
def srcPort (f : Frame) : Nat := Word.bits f.h1 43 39
def dstPos (f : Frame) : Nat := Word.bits f.h1 38 19
def dstPort (f : Frame) : Nat := Word.bits f.h1 18 14
def cluster (f : Frame) : Nat := Word.bits f.h1 13 8
def fq (f : Frame) : Bool := Word.bit f.h1 7
def sgrp (f : Frame) : Nat := Word.bits f.h2 63 62
def seq (f : Frame) : Nat := Word.bits f.h2 47 32
def epoch (f : Frame) : Nat := Word.bits f.h2 31 0
def incarnation (f : Frame) : Nat := Word.bits f.h3 63 32
def opmod (f : Frame) : Nat := Word.bits f.h3 31 24
def addrClass (f : Frame) : Nat := Word.bits f.h4 63 61
def addrPos (f : Frame) : Nat := Word.bits f.h4 60 41
def addrLin (f : Frame) : Nat := Word.bits f.h4 40 0

/-- Lines that a READ, WRITE, REDUCE or ATOMIC frame touches. -/
def span (f : Frame) : Nat := if f.op = 4 then 1 else f.nlines

/-- The frames come on one stream, of hedge or fabric-row level (12 R409, R412). -/
def sameStream (f g : Frame) : Bool :=
  f.level != 3 && g.srcPos == f.srcPos && g.srcPort / 4 == f.srcPort / 4 && g.sgrp == f.sgrp

/-! ### Bytes of a frame (12 R401) -/

/-- A value in network byte order, in `n` bytes. -/
def be (n v : Nat) : Bytes := (leBytes n v).reverse

/-- Header and payload, which the MCRC covers. -/
def body (f : Frame) : Bytes :=
  [f.h0, f.h1, f.h2, f.h3, f.h4, f.h5, f.h6].flatMap (fun w => be 8 w.toNat) ++ f.lines.flatMap Machine.bytesOfLine

/-- One bit, and one byte, of CRC-32C: polynomial 0x1EDC6F41, here with its bits reversed. -/
def crcBit (c : Nat) : Nat := if c % 2 = 1 then (c / 2) ^^^ 0x82F63B78 else c / 2
def crcByte (c : Nat) (b : Byte) : Nat := (upTo 8).foldl (fun c _ => crcBit c) (c ^^^ b.toNat)

/-- The MCRC that header and payload ask for. Bit order, start value and final inversion are those by which the name CRC-32C
is known (PRESUMED, log entry 120). -/
def crc (f : Frame) : BitVec 32 := BitVec.ofNat 32 ((f.body.foldl crcByte 0xFFFFFFFF) ^^^ 0xFFFFFFFF)

/-- The frame with its MCRC. -/
def sealed (f : Frame) : Frame := { f with mcrc := f.crc }

/-- The bytes of a frame up to its FCS: TPID 0x8100 begins the tag. -/
def wire (f : Frame) : Bytes :=
  be 6 f.dstMac.toNat ++ be 6 f.srcMac.toNat
    ++ (if f.tagged then be 2 0x8100 ++ be 2 (f.pcp * 2 ^ 13 + f.dei.toNat * 2 ^ 12 + f.vid) else [])
    ++ be 2 f.etype.toNat ++ f.body ++ be 4 f.mcrc.toNat

end Frame

namespace Machine

/-- A fabric address (12 R405): class, position, local offset. -/
def fabAddr (cls pos lin : Nat) : Word := pack [(61, cls), (41, pos), (0, lin)]

/-- The level of a path: 1 hedge, 2 fabric row, 3 hall (12 R418). -/
def levelOf (a b : Nat) : Nat := if nbits a 19 6 = nbits b 19 6 then 1 else if nbits a 19 11 = nbits b 19 11 then 2 else 3

/-- The MAC address of a module port (12 R402). -/
def State.macOf (s : State) (pos port : Nat) : BitVec 48 :=
  BitVec.ofNat 48 (s.odNat 0x6000 4 * 2 ^ 32 + pos * 32 + port)

/-- The 802.1Q priority of a stream group (12 R413). -/
def State.pcpOf (s : State) (sgrp : Nat) : Nat := nbits (s.odNat 0x6000 5) (3 * sgrp + 2) (3 * sgrp)

/-- This module's position in its frames. -/
def State.pos (s : State) : Nat := s.position.getD 0

def State.setFab (s : State) (f : Fabric) : State := { s with fab := f }

/-! ### Members and paths (12 R410, R432, R436) -/

/-- The member record of a position, when it is a member. -/
def State.member (s : State) (pos : Nat) : Option Word :=
  match Tab.find s.fab.members pos with
  | some w => if Word.bits w 63 62 = 1 then some w else none
  | none => none

/-- The up ports of an I/O die. -/
def State.upPorts (s : State) (die : Nat) : List Nat :=
  ((upTo 4).map fun l => 4 * die + l).filter fun n => s.ethFitted n && (s.port n).up

/-- The up ports of a peer: those of its last KEEPALIVE, else all of its record. -/
def State.peerPorts (s : State) (pos : Nat) : List Nat :=
  match Tab.find s.fab.peers pos with
  | some m => (upTo 24).filter fun n => m.getLsbD n
  | none => upTo (((s.member pos).map fun w => Word.bits w 61 57).getD 0)

/-- D of R410: the I/O dies with an up port; for an origin on hearth die `h` whose traffic is restricted, those linked to it. -/
def State.egressDies (s : State) (h : Option Nat) : List Nat :=
  (upTo s.build.ioDies).filter fun d =>
    s.upPorts d != [] && (match h with | none => true | some k => (linkedHearths d).contains k)

/-- The key of the die that a stream has chosen. -/
def routeKey (h : Option Nat) (pos sgrp : Nat) : Nat := (h.getD 4 * 2 ^ 20 + pos) * 2 + sgrp

/-- The egress die of a stream: the one it has chosen, or the choice of R410. -/
def State.egressDie (s : State) (h : Option Nat) (pos sgrp : Nat) : Option Nat :=
  match Tab.find s.fab.routes (routeKey h pos sgrp) with
  | some d => some d
  | none =>
    let ds := s.egressDies h
    if ds = [] then none else ds[pos % ds.length]?

/-- The ports of a path from a die to a position (R410 steps 3 and 4). -/
def State.choosePath (s : State) (h : Option Nat) (die pos : Nat) : Option (Nat × Nat) :=
  let us := s.upPorts die
  let vs := s.peerPorts pos
  let n := (s.egressDies h).length
  if us = [] || vs = [] || n = 0 then none
  else
    match us[pos / n % us.length]?, vs[(s.pos + die) % vs.length]? with
    | some u, some v => some (u, v)
    | _, _ => none

/-- CREDITS of a level (12 R417, R438). -/
def State.credits (s : State) (level : Nat) : Nat := s.odNat 0x6000 (5 + level)

/-- The key of a tag space. -/
def spaceKey (die pos : Nat) : Nat := die * 2 ^ 20 + pos

/-! ### Sending frames -/

/-- Note a frame of SGRP 0 to 2 exchanged with a peer (R430). -/
def State.noteActive (s : State) (die pos : Nat) : State :=
  { s with fab := { s.fab with active := Tab.put s.fab.active (spaceKey die pos) s.crust.time } }

/-- Hand a frame to a port: it waits while its priority is paused, and is lost when the port is down. -/
def State.emit (s : State) (n : Nat) (f : Frame) : State :=
  let p := s.port n
  if !p.up then s
  else
    let f := f.sealed
    let s1 := if f.sgrp ≤ 2 then s.noteActive (n / 4) f.dstPos else s
    if p.paused.getLsbD f.pcp then { s1 with fab := { s1.fab with txq := s1.fab.txq ++ [(n, f)] } }
    else (State.bump { s1 with fab := { s1.fab with sent := (n, f) :: s1.fab.sent } } (0x6100 + n) 4)

/-- Send the frames of the transmit queue whose priority is no longer paused. -/
def State.flushTx (s : State) : State :=
  s.fab.txq.foldl (fun s nf => s.emit nf.1 nf.2) { s with fab := { s.fab with txq := [] } }

/-- A frame of this module. -/
def State.mkFrame (s : State) (h0 : List (Nat × Nat)) (port dstPos dstPort cluster : Nat) (fq : Bool)
    (sgrp seq epoch opmod : Nat) (addr a0 a1 : Word) (lines : List Line) : Frame where
  dstMac := s.macOf dstPos dstPort
  srcMac := s.macOf s.pos port
  tagged := true
  vid := s.odNat 0x6000 3
  pcp := s.pcpOf sgrp
  dei := false
  etype := BitVec.ofNat 16 (s.odNat 0x6000 2)
  h0 := pack ([(60, 1), (52, levelOf s.pos dstPos)] ++ h0)
  h1 := pack [(44, s.pos), (39, port), (19, dstPos), (14, dstPort), (8, cluster), (7, fq.toNat)]
  h2 := pack [(62, sgrp), (32, seq), (0, epoch)]
  h3 := pack [(32, s.fab.incarnation.toNat), (24, opmod)]
  h4 := addr
  h5 := a0
  h6 := a1
  lines := lines
  mcrc := 0
  fcsOk := true

/-- The stream group of a request (12 R406, R409). -/
def reqSgrp (op cls : Nat) : Nat := if op = 8 || op = 9 then 0 else cls / 2

/-- What a request of this module says, before it has a tag and a path. -/
def State.mkReq (s : State) (op cls nlines pos : Nat) (cluster : Nat) (fq : Bool) (epoch opmod : Nat)
    (addr a0 a1 : Word) (lines : List Line) : Frame :=
  s.mkFrame [(54, op), (50, cls), (41, nlines)] 0 pos 0 cluster fq (reqSgrp op cls) 0 epoch opmod addr a0 a1 lines

/-- The same frame with its tag, sequence number and path. -/
def State.address (s : State) (f : Frame) (ctr seq port dstPort : Nat) : Frame :=
  { f with
    dstMac := s.macOf f.dstPos dstPort
    srcMac := s.macOf s.pos port
    h0 := f.h0.setBits 19 0 ctr
    h1 := (f.h1.setBits 43 39 port).setBits 18 14 dstPort
    h2 := f.h2.setBits 47 32 seq }

def TagSpace.path (t : TagSpace) (g : Nat) : Option (Nat × Nat) := if g = 0 then t.path0 else t.path1
def TagSpace.setPath (t : TagSpace) (g : Nat) (p : Option (Nat × Nat)) : TagSpace :=
  if g = 0 then { t with path0 := p } else { t with path1 := p }
def TagSpace.via (t : TagSpace) (g : Nat) : Option (Option Nat) := if g = 0 then t.via0 else t.via1
def TagSpace.setVia (t : TagSpace) (g : Nat) (v : Option Nat) : TagSpace :=
  if g = 0 then { t with via0 := some v } else { t with via1 := some v }
def TagSpace.seq (t : TagSpace) (g : Nat) : Nat := if g = 0 then t.seq0 else t.seq1
def TagSpace.bumpSeq (t : TagSpace) (g : Nat) : TagSpace :=
  if g = 0 then { t with seq0 := wrapAdd 16 t.seq0 1 } else { t with seq1 := wrapAdd 16 t.seq1 1 }

/-! ### Resending (12 R411, R421, R422) -/

/-- Send an unanswered request again, with RETX set. -/
def State.resend (s : State) (o : Outst) : State :=
  if (s.port o.port).up then (s.emit o.port { o.frame with h0 := o.frame.h0 ||| (1 <<< 49) }).bump 0x6010 1 else s

/-- The unanswered requests of a stream from a sequence number on, in SEQ order. The list of outstanding
requests is in order of first transmission. -/
def State.unanswered (s : State) (die pos sgrp : Nat) : List Outst :=
  s.fab.outst.filter fun o => o.die == die && o.pos == pos && o.sgrp == sgrp

/-- A stream that has carried a frame chooses its path anew and, if there is one, sends its unanswered requests again
(R411). -/
def State.repath (s : State) (die pos sgrp : Nat) : State :=
  let key := spaceKey die pos
  match Tab.find s.fab.spaces key with
  | none => s
  | some t =>
    match t.via sgrp with
    | none => s
    | some h =>
      let p := s.choosePath h die pos
      let s1 : State := { s with fab := { s.fab with
        spaces := Tab.put s.fab.spaces key (t.setPath sgrp p)
        routes := if p.isSome then s.fab.routes else s.fab.routes.filter fun r => !(r.2 == die && r.1 / 2 % 2 ^ 20 == pos && r.1 % 2 == sgrp)
        outst := s.fab.outst.map fun o =>
          if o.die = die && o.pos == pos && o.sgrp == sgrp then
            match p with
            | some (a, b) => { o with port := a, frame := s.address o.frame o.ctr o.seq a b }
            | none => o
          else o } }
      if p.isSome then (s1.unanswered die pos sgrp).foldl State.resend s1 else s1

/-- The streams that have no path try for one again. -/
def State.repathLost (s : State) : State :=
  s.fab.spaces.foldl (fun s kv =>
    (upTo 2).foldl (fun s g => if (kv.2.path g).isNone then s.repath (kv.1 / 2 ^ 20) (kv.1 % 2 ^ 20) g else s) s) s

/-! ### First transmission -/

/-- D of R410 is restricted for FQ and layout-engine traffic only. -/
def ReqSrc.restricted : ReqSrc → Bool
  | .fq .. => true
  | .line (.lay _) _ => true
  | .wline (.lay _) _ _ => true
  | _ => false

/-- The hearth die that restricts the choice of a request's egress die. -/
def Waiting.via (w : Waiting) : Option Nat := if w.src.restricted then w.hearth else none

/-- A request that completes at once: an engine's line has its status, an invalidation has nothing to wait for,
every other request is settled by `State.settle`. -/
def State.deadReq (s : State) (src : ReqSrc) (st : Nat) : State :=
  match src with
  | .line a pva =>
    { s with fab := { s.fab with pool := s.fab.pool.map fun l =>
        if l.agent = a && l.pva == pva && !l.wr then { l with status := some st } else l } }
  | .wline a _ _ => { s with fab := { s.fab with fails := s.fab.fails ++ [(a, st)] } }
  | .inval _ => s
  | _ => { s with fab := { s.fab with dead := s.fab.dead ++ [(src, st)] } }

/-- The UCIe links from the hearth die of a request to its egress die, those of R29 in reverse; none: no route is left
(01 R24, R30). -/
def egressWay (up : Nat → Bool) (h : Option Nat) (die : Nat) : Option (List Nat) :=
  match h with
  | none => some []
  | some k => ioWay up die k

/-- The request has its tag, SEQ and path, and goes out. -/
def State.sendFirst (s : State) (w : Waiting) (die port dport : Nat) (way : List Nat) : State :=
  let key := spaceKey die w.pos
  let t := (Tab.find s.fab.spaces key).getD {}
  let hall := levelOf s.pos w.pos = 3
  let seq := if hall then 0 else t.seq w.sgrp
  let f := s.address w.frame t.ctr seq port dport
  let t1 := { (if hall then t else t.bumpSeq w.sgrp) with ctr := wrapAdd 20 t.ctr 1 }
  let t2 := if (t.via w.sgrp).isSome then t1 else t1.setVia w.sgrp w.via
  let o : Outst := {
    id := w.id, die := die, pos := w.pos, ctr := t.ctr, sgrp := w.sgrp, seq := seq, port := port, retx := 0,
    frame := f, src := w.src, part := w.part, pva := w.pva, hearth := w.hearth, way := way }
  let s1 : State := { s with
    fab := { s.fab with
      spaces := Tab.put s.fab.spaces key (t2.setPath w.sgrp (some (port, dport)))
      routes := Tab.put s.fab.routes (routeKey w.via w.pos w.sgrp) die
      outst := s.fab.outst ++ [o] } }
  s1.emit port f

/-- Transmit a waiting request for the first time, if its route, its path, a credit and a tag are to be had; a request whose
position is no member any more, or to which no route leads, completes at once (R417, R426, R436; 01 R24, R25). -/
def State.transmit (s : State) (w : Waiting) : Option State :=
  if (s.member w.pos).isNone then some (s.deadReq w.src 5)
  else
    match s.egressDie w.via w.pos w.sgrp with
    | none => none
    | some die =>
      if s.switchWait (egressWay s.linkWas w.hearth die) then none
      else
        match egressWay s.linkUp w.hearth die with
        | none => some (s.deadReq w.src 8)
        | some way =>
          let s := match (Tab.find s.fab.spaces (spaceKey die w.pos)) with
            | some t => if (t.path w.sgrp).isNone then s.repath die w.pos w.sgrp else s
            | none => s
          let known := Tab.find s.fab.spaces (spaceKey die w.pos)
          let t := known.getD {}
          let mine : List Outst := s.fab.outst.filter fun o => o.die == die && o.pos == w.pos
          let tag := t.ctr % 65536
          let busy := t.quar.contains tag || mine.any fun o => o.ctr % 65536 == tag
          let full := known.isNone && decide (8192 ≤ (s.fab.spaces.filter fun kv => kv.1 / 2 ^ 20 == die).length)
          if busy || full || Nat.ble (s.credits (levelOf s.pos w.pos)) (mine.filter fun o => o.sgrp == w.sgrp).length then none
          else
            match (match t.path w.sgrp with
              | some p => some p
              | none => s.choosePath w.via die w.pos) with
            | none => none
            | some (port, dport) => some (s.sendFirst w die port dport way)

/-! ### Turns between partitions (15 R510) -/

/-- A partition's quantum. The unit is open; the model takes it to be at least the longest frame (log entry 121). -/
def State.quantum (s : State) (p : Nat) : Nat := s.odNat (0x2010 + p) 3 * (4178 + Config.drrUnit)

/-- The partition of `ps` whose turn it is, by deficit round robin, when each wants to send `size` bytes. -/
def Drr.serve (d : Drr) (quantum size : Nat → Nat) (ps : List Nat) : Drr × Nat :=
  let have_ (p : Nat) : Nat := if ps.contains p then Tab.get 0 d.deficit p else 0
  let set_ (p v : Nat) : Tab Nat := Tab.put (d.deficit.filter fun kv => ps.contains kv.1) p v
  if ps.contains d.turn && decide (size d.turn ≤ have_ d.turn) then
    ({ d with deficit := set_ d.turn (have_ d.turn - size d.turn) }, d.turn)
  else
    let q := ((ps.filter (d.turn < ·)).min?.getD (ps.min?.getD 0))
    ({ turn := q, deficit := set_ q (have_ q + quantum q - size q) }, q)

/-- The waiting requests that can be transmitted now: no earlier one of its partition and stream waits. -/
def State.sendable (s : State) : List Waiting → List Waiting → List Waiting
  | [], _ => []
  | w :: ws, before =>
    let r := s.sendable ws (before ++ [w])
    if before.any (fun k => k.pos == w.pos && k.sgrp == w.sgrp && k.hearth == w.hearth && k.part == w.part)
        || (s.transmit w).isNone then r
    else w :: r

/-- The key of the round robin of an I/O die and a class. -/
def drrKey (die cls : Nat) : Nat := die * 4 + cls

/-- The request to transmit next. Requests of no partition come first, then the classes in ascending order (DESIGN CHOICE, log
entry 121); within the class of an I/O die the partitions take turns. -/
def State.pickSend (s : State) (ws : List Waiting) : Option (State × Waiting) :=
  match ws.find? fun w => 16 ≤ w.part with
  | some w => some (s, w)
  | none =>
    match (upTo 4).findSome? fun c => ws.find? fun w => w.frame.cls == c with
    | none => ws.head?.map fun w => (s, w)
    | some w0 =>
      let die := (s.egressDie w0.via w0.pos w0.sgrp).getD 0
      let mine := ws.filter fun w => w.frame.cls == w0.frame.cls && (s.egressDie w.via w.pos w.sgrp).getD 0 == die
      let first (p : Nat) : Option Waiting := mine.find? fun w => w.part == p
      let ps := (mine.map Waiting.part).dedup
      match ps with
      | [p] => (first p).map fun w =>
          ({ s with fab := { s.fab with drr := Tab.erase s.fab.drr (drrKey die w0.frame.cls) } }, w)
      | _ =>
        let key := drrKey die w0.frame.cls
        let size (p : Nat) : Nat := match first p with
          | some w => 82 + 64 * w.frame.lines.length
          | none => 0
        let r := (Tab.get {} s.fab.drr key).serve s.quantum size ps
        (first r.2).map fun w => ({ s with fab := { s.fab with drr := Tab.put s.fab.drr key r.1 } }, w)

/-- Transmit what can be transmitted (R417; 15 R510). -/
def State.pumpN (s : State) : Nat → State
  | 0 => s
  | fuel + 1 =>
    match s.pickSend (s.sendable s.fab.waiting []) with
    | none => s
    | some (s1, w) =>
      let s2 : State := { s1 with fab := { s1.fab with waiting := s1.fab.waiting.filter fun x => x.id != w.id } }
      ((s2.transmit w).getD s2).pumpN fuel

def State.pump (s : State) : State := s.pumpN s.fab.waiting.length

/-- Requests that this module owes others as a home, and goes on sending while it leaves (12 R437). -/
def ReqSrc.owed : ReqSrc → Bool
  | .inval _ => true
  | .forward .. => true
  | _ => false

/-- Hand over a request: it completes at once when its position is no member, or when this module is leaving the fabric;
otherwise it waits for its turn (12 R436, R437). -/
def State.sendReq (s : State) (src : ReqSrc) (hearth : Option Nat) (die pos part pva : Nat) (f : Frame) : State :=
  if (s.member pos).isNone || ((s.fab.leaving || s.fab.left) && !src.owed) then s.deadReq src 5
  else
    State.pump { s with fab := { s.fab with
      nextReq := s.fab.nextReq + 1
      waiting := s.fab.waiting ++ [{
        id := s.fab.nextReq, hearth := hearth, die := die, pos := pos, sgrp := f.sgrp, frame := f, src := src, part := part, pva := pva }] } }

/-- Every request of this module that has not completed: waiting, transmitted or failed at once. -/
def State.anyReq (s : State) (p : ReqSrc → Bool) : Bool :=
  (s.fab.waiting.any fun w => p w.src) || (s.fab.outst.any fun o => p o.src) || (s.fab.dead.any fun d => p d.1)

/-! ### Responses and the replay window (12 R406, R428) -/

def replayKey (f : Frame) : Nat := f.srcPos * 8 + f.srcPort / 4

def State.seenOf (s : State) (f : Frame) : Option Seen :=
  (Tab.find s.fab.replay (replayKey f)).bind fun w => w.seen.find? fun e => e.ctr == f.ctr

def State.putSeen (s : State) (f : Frame) (e : Seen) : State :=
  match Tab.find s.fab.replay (replayKey f) with
  | none => s
  | some w => { s with fab := { s.fab with
      replay := Tab.put s.fab.replay (replayKey f) { w with seen := (w.seen.filter fun x => x.ctr != e.ctr) ++ [e] } } }

/-- A response frame to request `q` that came on port `n`: opcode 0x10 COMPLETION, 0x11 NACK, 0x12 REDIRECT. -/
def State.respFrame (s : State) (n : Nat) (q : Frame) (op status : Nat) (a0 a1 : Word) (lines : List Line) :
    Frame :=
  s.mkFrame [(54, op), (50, q.cls), (41, lines.length), (33, status), (0, q.ctr)] n q.srcPos q.srcPort 0x3F false
    2 0 0 0 q.h4 a0 a1 lines

/-- Send a response and count what it is (13 R475). -/
def State.sendResp (s : State) (n : Nat) (q : Frame) (op status : Nat) (a0 a1 : Word) (lines : List Line) : State :=
  let s1 := s.emit n (s.respFrame n q op status a0 a1 lines)
  let s2 := if op = 0x12 then s1.bump 0x6020 4 else if op = 0x11 && status == 6 then s1.bump 0x6020 6 else s1
  if op = 0x11 && status == 0xE1 then s2.bump 0x6010 0xB else s2

/-- Answer a request for the first time: its value becomes done, and each held duplicate gets the same
response (12 R428). A READ's duplicate is read again at the same instant. -/
def State.fabRespond (s : State) (n : Nat) (q : Frame) (op status : Nat) (a0 a1 : Word) (lines : List Line) : State :=
  let e := (s.seenOf q).getD { ctr := q.ctr, done := none }
  let s1 := s.sendResp n q op status a0 a1 lines
  let s2 := e.dups.foldl (fun s d => s.sendResp d.1 d.2 op status a0 a1 lines) s1
  s2.putSeen q { e with done := some (status, a0), redirect := if op = 0x12 then some a0 else none, dups := [] }

/-- Answer with a status: 0 COMPLETION, otherwise NACK. -/
def State.fabAnswer (s : State) (n : Nat) (q : Frame) (status : Nat) (old : Word := 0) : State :=
  if status = 0 then s.fabRespond n q 0x10 0 old 0 [] else s.fabRespond n q 0x11 status 0 0 []

end Machine
end Sys2Proof
end

