-- ==== Sys2Proof/Machine/Gate.lean ====
section
/-! DEFINITION. Windows of the host ports, the origins of requests, and what makes a request wait on its way to its home and
there (14 R479 to R481, R486, R487; 01 R25, R28, R31; 03 R104, R108; 05 R185; 15 R511). -/

namespace Sys2Proof.Machine

/-! ### Windows of the host ports (14 R479 to R481) -/

def winIndex (n k : Nat) : Nat := 0x6040 + 16 * n + k
def State.winCtrl (s : State) (n k : Nat) : Nat := s.odNat (winIndex n k) 1
def State.winEnabled (s : State) (n k : Nat) : Bool := (s.winCtrl n k).testBit 0
def State.winSize (s : State) (n k : Nat) : Nat := if s.winEnabled n k then 2 ^ 28 * s.odNat (winIndex n k) 3 else 0
/-- First device address of decoder `k`. -/
def State.winBase (s : State) (n k : Nat) : Nat := ((upTo k).map (s.winSize n)).sum
/-- The window that a device address falls in. -/
def State.winOf (s : State) (n dpa : Nat) : Option Nat :=
  (upTo 16).find? fun k => s.winEnabled n k && decide (s.winBase n k ≤ dpa) && decide (dpa < s.winBase n k + s.winSize n k)

/-- A window of a port. -/
structure WinV where
  k    : Nat
  part : Nat
  cls  : Nat
  ro   : Bool
  db   : Bool
  pva  : Nat
  deriving DecidableEq, Repr

/-- The window that serves a device address: the host's decoder of it is committed (14 R479, R481; log entry 136). -/
def State.window (s : State) (n dpa : Nat) : Option WinV :=
  (s.winOf n dpa).bind fun k =>
    let c := s.winCtrl n k
    if (s.cport n).decoders.getLsbD k then
      some {
        k := k, part := nbits c 11 8, cls := nbits c 5 4, ro := c.testBit 2, db := c.testBit 1
        pva := s.odNat (winIndex n k) 2 + (dpa - s.winBase n k) }
    else none

/-! ### Origins of requests -/

/-- The origin of an agent's requests (01 R28). A submission ring's entry reads and record writes have no row in the table
under R28: they take the port of their cluster's own requests (DESIGN CHOICE, log entry 119). -/
def Agent.origin : Agent → Origin
  | .tile c _ _ => .cluster c
  | .vec c => .cluster c
  | .lay c => .layout c
  | .ring c _ _ => .cluster c
  | .job n => .sprig (n / 2 ^ 32)
  | .fq c _ => .fq c
  | .host n => .host n

def ReqSrc.origin : ReqSrc → Origin
  | .fq c _ _ _ => .fq c
  | .host n _ _ _ => .host n
  | .line a _ => a.origin
  | .wline a _ _ => a.origin
  | _ => .maint

/-! ### What makes a request wait at its home -/

/-- The lines that hosts hold and that a request of another origin must wait for: the port and the snoop to
send, true for BISnpInv (14 R487). -/
def State.conflicts (s : State) (o : Origin) (write : Bool) (lin : Nat) : List (Nat × Bool) :=
  s.cxl.filterMap fun kv =>
    if o = .host kv.1 then none
    else
      match kv.2.tracked.find? fun t => t.lin == lin / 64 * 64 with
      | none => none
      | some t => if write then some (kv.1, true) else if t.excl then some (kv.1, false) else none

/-- The rank of a request that comes now: behind every request and job of its class (03 R92; log entry 13). -/
def State.rankNow (s : State) (o : Origin) (cls : Option Nat) (stk : Nat) : List Nat :=
  rankKeys (s.servedClass stk (s.portOf o stk) cls) 0 false []

/-- Requests and Sprig jobs keep a request that comes now from its column: a request for the column, or for the row of a
reduce-write, is queued; a job that came earlier has the row; the bank's job is not between two runs or is not outranked
(01 R31, R33; 05 R179, R184 to R186). -/
def State.bankWait (s : State) (o : Origin) (cls : Option Nat) (reduce : Bool) (lin : Nat) : Bool :=
  match s.place' o.priv lin with
  | none => false
  | some (l, _) =>
    let k := s.bank l.mbn
    let rank := s.rankNow o cls l.stk
    (s.mem.reqs.any fun r => r.mbn == l.mbn && r.row == l.row && (reduce || r.col == l.col))
      || (s.mem.jobs.any fun kj => kj.2.liveOn l.mbn
        && (kj.2.hasRow l.row || (reduce && (kj.2.begun || !keysBefore rank kj.2.rank))))
      || k.unit.busy || (reduce && k.unit.active)
      || (match s.holder l.mbn with
        | none => k.hold.isSome
        | some j => reduce || !k.unit.active || !keysBefore rank j.rank)

/-- The stack naps or the channel is in self-refresh, so that the request waits until it has left (03 R104, R105). -/
def State.asleep (s : State) (o : Origin) (lin : Nat) : Option Loc :=
  match s.place' o.priv lin with
  | none => none
  | some (l, _) => if (s.chan (l.mbn / 16)).sr || (s.stk l.stk).nap then some l else none

/-- A request waits at its stack: other requests or a Sprig job come first, its channel is in self-refresh, or its segment is
lost and it writes (01 R31; 05 R185; 03 R104, R108). -/
def State.atStack (s : State) (o : Origin) (write : Bool) (lin : Nat) (cls : Option Nat) (reduce : Bool) : Bool :=
  s.bankWait o cls reduce lin || (s.asleep o lin).isSome || (write && s.lostAt o.priv lin)

/-- A held request: origin, class, first line and count, whether it writes or reduces. -/
structure HeldOp where
  o : Origin
  cls : Option Nat
  lin : Nat
  count : Nat
  write : Bool
  reduce : Bool
  deriving DecidableEq, Repr

/-- The linear offset that a mapped entry of this module gives an address, also of a write that a freeze holds. -/
def State.linHere (s : State) (p pva : Nat) (write : Bool) : Option Nat :=
  match s.xlate p pva write with
  | .here lin => some lin
  | .hold => some (entLoff (s.entryOf p (loafOf pva)) * 2 ^ 21 + nbits pva 20 0)
  | _ => none

def State.heldOp (s : State) : HeldReq → Option HeldOp
  | .frame n f =>
    if 1 ≤ f.op && f.op ≤ 4 then
      some { o := .eth n, cls := some f.cls, lin := f.addrLin, count := f.span, write := f.op != 1, reduce := f.op == 3 }
    else none
  | .own src part pva f =>
    (s.linHere part pva (f.op != 1)).map fun lin =>
      { o := src.origin, cls := some f.cls, lin := lin, count := f.span, write := f.op != 1, reduce := f.op == 3 }
  | .hostRead n dpa _ =>
    (s.window n dpa).bind fun w => (s.linHere w.part (w.pva / 64 * 64) false).map fun lin =>
      { o := .host n, cls := some w.cls, lin := lin, count := 1, write := false, reduce := false }
  | .hostWrite n dpa _ _ _ =>
    (s.window n dpa).bind fun w => (s.linHere w.part (w.pva / 64 * 64) true).map fun lin =>
      { o := .host n, cls := some w.cls, lin := lin, count := 1, write := true, reduce := false }

def HeldOp.covers (q : HeldOp) (lin : Nat) : Bool :=
  decide (q.lin / 64 ≤ lin / 64) && decide (lin / 64 < q.lin / 64 + q.count)

/-- Some line of a held request waits at its stack. -/
def State.heldAtStack (s : State) (q : HeldOp) : Bool :=
  (upTo q.count).any fun i => s.atStack q.o q.write (q.lin + 64 * i) q.cls q.reduce

/-- A request for the same column has reached its stack before and waits there (01 R31). Held requests stand in the order
in which they came, and while they are tried again those before this one are in the list. -/
def State.heldBefore (s : State) (write : Bool) (lin : Nat) : Bool :=
  s.place.held.any fun h =>
    match s.heldOp h with
    | some q => q.covers lin && (write || q.write) && s.heldAtStack q
    | none => false

/-- A request waits: its owner quiesces, its route is being switched, it waits at its stack, an earlier request does for the
same column, or a host holds the line (15 R511; 01 R25, R31; 14 R487). -/
def State.gate (s : State) (p : Nat) (o : Origin) (write : Bool) (lin : Nat) (cls : Option Nat := none)
    (reduce : Bool := false) : Bool :=
  s.quiesceWait p o lin || s.routeWait o lin || s.atStack o write lin cls reduce || s.heldBefore write lin
    || s.conflicts o write lin != []

/-- Do what a waiting request needs: call its channel out of self-refresh, and send the back-invalidations that are not under
way (03 R104; 14 R487). -/
def State.snoop (s : State) (o : Origin) (write : Bool) (lin : Nat) : State :=
  let s := match s.asleep o lin with
    | some l => s.callChan l.stk l.ch
    | none => s
  (s.conflicts o write lin).foldl (fun s nb =>
    let a := lin / 64 * 64
    let cp := s.cport nb.1
    if cp.tracked.any fun t => t.lin == a && (t.pend == none || (t.pend == some false && nb.2)) then
      (s.setCport nb.1 { cp with
        tracked := cp.tracked.map fun t => if t.lin == a then { t with pend := some nb.2 } else t
        snoops := (a, nb.2) :: cp.snoops }).bump (0x6030 + nb.1) 4
    else s) s

end Sys2Proof.Machine
end

