-- ==== Sys2Proof/Machine/TileDesc.lean ====
section
/-! DEFINITION. The fields of an MQ descriptor and when one is valid (10 R349, R350; 07 R226 to R229, R248). -/

namespace Sys2Proof.Machine

def mqW (d : List Word) (n : Nat) : Word := d.getD n 0

def mqCmd (d : List Word) : Nat := Word.bits (mqW d 0) 55 54
def mqClass (d : List Word) : Nat := Word.bits (mqW d 0) 53 52
def mqPbuf (d : List Word) : Nat := Word.bits (mqW d 0) 51 50
def mqCbuf (d : List Word) : Nat := Word.bits (mqW d 0) 49 49
def mqClr (d : List Word) : Bool := Word.bit (mqW d 0) 48
def mqClrAfter (d : List Word) : Bool := Word.bit (mqW d 0) 47
def mqFmtA (d : List Word) : Nat := Word.bits (mqW d 0) 46 44
def mqAScaled (d : List Word) : Bool := Word.bit (mqW d 0) 43
def mqFmtB (d : List Word) : Nat := Word.bits (mqW d 0) 42 40
def mqBScaled (d : List Word) : Bool := Word.bit (mqW d 0) 39
def mqFmtC (d : List Word) : Nat := Word.bits (mqW d 0) 38 36
def mqFmtOut (d : List Word) : Nat := Word.bits (mqW d 0) 35 33
def mqOutScaled (d : List Word) : Bool := Word.bit (mqW d 0) 32
def mqRnd (d : List Word) : Nat := Word.bits (mqW d 0) 31 30
def mqLayout (d : List Word) : Nat := Word.bits (mqW d 0) 29 28
def mqPanelK (d : List Word) : Nat := Word.bits (mqW d 1) 63 61
def mqPanelN (d : List Word) : Nat := Word.bits (mqW d 1) 55 48
def mqRows (d : List Word) : Nat := Word.bits (mqW d 1) 47 40
def mqCols (d : List Word) : Nat := Word.bits (mqW d 1) 39 32
def mqTail (d : List Word) : Nat := Word.bits (mqW d 1) 31 24

/-- Scales go with FP4, FP6, FP8E4 and FP8E5 only (07 R227). -/
def scaleOk (fmt : Nat) (scaled : Bool) : Bool := !scaled || decide (fmt ≤ 3)

/-- The bits of D0 and D1 that a command uses, beside KIND, CMD and CLASS (07 R229). -/
def mqUsed : Nat → Nat × Nat
  | 0 => (0x000C078000000000, 0xE0FF000000000000)
  | 1 => (0x000F780000000000, 0x0000FF00FF000000)
  | 2 => (0x0002007000000000, 0x0000FFFF00000000)
  | _ => (0x0002800FF0000000, 0x0000FFFF00000000)

/-- KIND, CMD and CLASS. -/
def mqHead : Nat := 0xFFF0000000000000

/-- The descriptor is valid, the pair of formats and K_TAIL of an MMA apart (10 R349, R350). -/
def mqValid (d : List Word) : Bool :=
  let u := mqUsed (mqCmd d)
  let rows := decide (1 ≤ mqRows d) && decide (mqRows d ≤ 128)
  let cols := decide (1 ≤ mqCols d) && decide (mqCols d ≤ 128)
  Word.bits (mqW d 0) 63 56 == 1
    && (mqW d 0).toNat &&& (u.1 ||| mqHead) == (mqW d 0).toNat
    && (mqW d 1).toNat &&& u.2 == (mqW d 1).toNat
    && (d.drop 2).all (· == 0)
    && match mqCmd d with
      | 0 => decide (mqPbuf d ≤ 2) && scaleOk (mqFmtB d) (mqBScaled d) && decide (1 ≤ mqPanelK d)
          && decide (mqPanelK d ≤ 4) && decide (1 ≤ mqPanelN d) && decide (mqPanelN d ≤ 128)
      | 1 => decide (mqPbuf d ≤ 2) && scaleOk (mqFmtA d) (mqAScaled d) && rows
      | 2 => (mqFmtC d == 5 || mqFmtC d == 7) && rows && cols
      | _ => scaleOk (mqFmtOut d) (mqOutScaled d) && decide (mqRnd d ≤ 2) && decide (mqLayout d ≤ 2) && rows && cols
          && (mqLayout d != 0 || (mqFmtOut d != 1 && !mqOutScaled d && (mqFmtOut d != 0 || mqCols d % 2 == 0)))

/-- A pair of formats that the array multiplies (07 R226). -/
def pairOk (a b : Nat) : Bool :=
  (a == 0 && b == 0) || (decide (1 ≤ a) && decide (a ≤ 3) && decide (1 ≤ b) && decide (b ≤ 3)) || (a == 4 && b == 4)
    || ((a == 5 || a == 6) && (b == 5 || b == 6)) || (a == 7 && b == 7)

/-- Data columns of a scaled page and scale bytes of a column (06 R207). -/
def pageD (fmt : Nat) : Nat := if fmt = 0 then 60 else 62
def scaleB (fmt : Nat) : Nat := fmtElems fmt / 32

end Sys2Proof.Machine
end

