-- ==== Sys2Proof/Machine/Cluster.lean ====
section
/-! DEFINITION. A cluster's SRAMs, flag words, queues and arrival counters (10 R327 to R348; 11 R370 to R388). -/

namespace Sys2Proof.Machine

/-! ### SRAM bytes -/

/-- `n` bytes from address `a`; unlisted bytes are zero (10 R330). -/
def sramGet (t : Tab Byte) (a n : Nat) : Bytes := (upTo n).map fun i => Tab.get 0 t (a + i)

def sramPut (t : Tab Byte) (a : Nat) : Bytes → Tab Byte
  | [] => t
  | b :: bs => sramPut (Tab.set 0 t a b) (a + 1) bs

/-- A line of cluster SRAM (8 MiB). -/
def State.csLine (s : State) (c a : Nat) : Line := lineOfBytes (sramGet (s.cluster c).csram a 64)

/-- Write bytes of a line of cluster SRAM. -/
def State.csPut (s : State) (c a : Nat) (d : Line) (mask : BitVec 64) : State :=
  s.modCluster c fun k => { k with
    csram := (upTo 64).foldl (fun t i =>
      if mask.getLsbD i then Tab.set 0 t (a + i) (BitVec.ofNat 8 (lineByte d i)) else t) k.csram }

/-! ### The FQ descriptor (10 R353) -/

def fqOp (d : List Word) : Nat := Word.bits (jobWord d 0) 55 52
def fqClass (d : List Word) : Nat := Word.bits (jobWord d 0) 51 50
def fqRfn (d : List Word) : Nat := Word.bits (jobWord d 0) 49 49
def fqRfmt (d : List Word) : Nat := Word.bits (jobWord d 0) 48 47
def fqAop (d : List Word) : Nat := Word.bits (jobWord d 0) 46 43
def fqSigop (d : List Word) : Nat := Word.bits (jobWord d 0) 42 42
def fqLength (d : List Word) : Nat := Word.bits (jobWord d 0) 20 0
def fqRemote (d : List Word) : Nat := Word.bits (jobWord d 1) 55 0
def fqLspace (d : List Word) : Nat := Word.bits (jobWord d 2) 63 63
def fqLocal (d : List Word) : Nat := Word.bits (jobWord d 2) 55 0
def fqTarget (d : List Word) : Nat := Word.bits (jobWord d 5) 31 12
def fqTcluster (d : List Word) : Nat := Word.bits (jobWord d 5) 11 6
def fqTflag (d : List Word) : Nat := Word.bits (jobWord d 5) 5 0
def fqCount (d : List Word) : Nat := Word.bits (jobWord d 6) 31 0
def fqSignal (d : List Word) : Bool := fqOp d == 4 || fqOp d == 5
def fqData (d : List Word) : Bool := decide (fqOp d ≤ 2)

/-- The descriptor has no reserved or invalid field. -/
def fqValid (d : List Word) : Bool :=
  Word.bits (jobWord d 0) 63 56 == 1 && decide (fqOp d ≤ 5) && Word.bits (jobWord d 0) 41 21 == 0
    && Word.bits (jobWord d 1) 63 56 == 0 && Word.bits (jobWord d 2) 62 56 == 0 && Word.bits (jobWord d 5) 63 32 == 0
    && Word.bits (jobWord d 6) 63 32 == 0 && jobWord d 7 == 0
    && (fqOp d != 2 || fqRfmt d != 3) && (fqOp d != 3 || decide (fqAop d ≤ 9))
    && ((fqOp d == 3 && fqAop d == 2) || jobWord d 4 == 0) && (fqOp d == 5 || fqCount d == 0)
    && (if fqData d then
          decide (64 ≤ fqLength d) && decide (fqLength d ≤ 1048576) && fqLength d % 64 == 0 && fqRemote d % 64 == 0
            && fqLocal d % 64 == 0
        else fqLength d == 0)
    && (if fqOp d = 3 then fqRemote d % 8 == 0 && fqLocal d % 8 == 0 else true)
    && (if fqSignal d then fqRemote d == 0 && fqLocal d == 0 && decide (fqTflag d ≤ 47) else true)

/-! ### Registers and the core's release -/

def Core.reg (k : Core) (n : Nat) : Word := if n = 0 then 0 else Tab.get 0 k.regs n
def Core.setReg (k : Core) (n : Nat) (v : Word) : Core :=
  if n = 0 then k else { k with regs := Tab.set 0 k.regs n v }

def State.modCore (s : State) (c : Nat) (f : Core → Core) : State :=
  s.modCluster c fun k => { k with core := f k.core }

/-- Release a core that waits in WFE when a masked event is pending (10 R334). -/
def Core.wakeWfe (k : Core) : Core :=
  match k.wait with
  | some (.wfe rd mask) =>
    let e := k.events.toNat &&& mask
    if e = 0 then k
    else
      { (k.setReg rd (BitVec.ofNat 64 e)) with
        events := k.events &&& ~~~ BitVec.ofNat 9 mask, st := .running, pc := k.pc + 4, wait := none, stalled := false }
  | _ => k

/-- An event becomes pending (10 R334; 11 R377). Within an open hearth cycle the core is released when the cycle ends. -/
def State.coreEvent (s : State) (c bit : Nat) : State :=
  let s1 := s.modCore c fun k => { k with events := k.events ||| BitVec.ofNat 9 (2 ^ bit) }
  if (s.cluster c).cycle.isSome then s1 else s1.modCore c Core.wakeWfe

/-- Release a core that waits on queue `q`, or on stream `str` of a tile: it issues its instruction again. -/
def State.releaseQueue (s : State) (c q : Nat) : State :=
  s.modCore c fun k =>
    if k.wait = some (.fullQueue q) then { k with st := .running, wait := none, stalled := false } else k
def State.releaseStream (s : State) (c t str : Nat) : State :=
  s.modCore c fun k =>
    if k.wait = some (.fullStream t str) then { k with st := .running, wait := none, stalled := false } else k

/-! ### Flag words and waits (11 R370 to R377) -/

def State.flag (s : State) (c n : Nat) : W32 := Tab.get 0 (s.cluster c).flags n
def State.setFlag (s : State) (c n : Nat) (v : W32) : State :=
  s.modCluster c fun k => { k with flags := Tab.set 0 k.flags n v }

/-- A wait form holds (11 R373). -/
def waitHolds (form : Nat) (f v : W32) : Bool :=
  match form with
  | 0 => true
  | 2 => f == v
  | _ => decide ((f - v).toNat < 2 ^ 31)

def e0Form (e : Word) : Nat := Word.bits e 63 61
def e0Flag (e : Word) : Nat := Word.bits e 53 48
def e0Value (e : Word) : W32 := BitVec.ofNat 32 (Word.bits e 31 0)
/-- E0 keeps 10 R338. -/
def e0Ok (e : Word) : Bool :=
  decide (e0Form e ≤ 3) && Word.bits e 60 54 == 0 && Word.bits e 47 32 == 0 && decide (e0Flag e ≤ 47)
    && (e0Form e != 0 || e0Flag e == 0)
/-- E1 keeps 10 R339. -/
def e1Ok (e : Word) : Bool :=
  decide (Word.bits e 63 62 ≤ 2) && Word.bits e 61 54 == 0 && Word.bits e 47 32 == 0
    && decide (Word.bits e 53 48 ≤ 47) && (Word.bits e 63 62 != 0 || Word.bits e 53 48 == 0)

/-! ### Queue heads (10 R340, R341, R346) -/

/-- The oldest entry that has not dispatched and has not completed. -/
def Queue.head (q : Queue) : Option QEntry := q.entries.find? fun e => !e.disp && e.compl.isNone

def Queue.modEntry (q : Queue) (ticket : Nat) (f : QEntry → QEntry) : Queue :=
  { q with entries := q.entries.map fun e => if e.ticket = ticket then f e else e }

def State.modEntry (s : State) (c q ticket : Nat) (f : QEntry → QEntry) : State :=
  s.modQueue c q fun k => k.modEntry ticket f

/-- An entry completes with a status and a detail; the first completion stands (10 R358). -/
def State.complete (s : State) (c q ticket status detail : Nat) : State :=
  s.modEntry c q ticket fun e => if e.compl.isSome then e else { e with compl := some (status, detail) }

def State.entry (s : State) (c q ticket : Nat) : Option QEntry :=
  ((s.cluster c).queue q).entries.find? fun e => e.ticket == ticket

/-- Module tile number. -/
def tileNo (c t : Nat) : Nat := 4 * c + t

/-- The stack of the job that a KQ descriptor describes, when its BASE names memory of this module. -/
def State.kqStack (s : State) (p : Nat) (d : List Word) : Option Nat :=
  match s.xlate p (Word.bits (jobWord d 1) 55 0) false with
  | .here lin => (s.place' false lin).map fun lp => lp.1.stk
  | _ => none

/-- Jobs that have dispatched to a stack's controller and that it has not taken yet (05 R195; 10 R336). -/
def State.kqComing (s : State) (stk : Nat) : Nat :=
  (s.clusters.map fun kc =>
    ((kc.2.queue 6).entries.filter fun x =>
      x.disp && !x.started && x.compl.isNone && s.kqStack (kc.2.part.getD 31) x.desc == some stk).length).sum

/-- The queue's dispatch rule lets its head go (10 R336). -/
def State.mayDispatch (s : State) (c q : Nat) (e : QEntry) : Bool :=
  let es := ((s.cluster c).queue q).entries
  let out := es.filter fun x => x.disp && x.compl.isNone
  match q with
  | 4 => out == []
  | 5 => out == []
  | 7 => decide (out.length < 256)
  | 6 =>
    match s.kqStack ((s.cluster c).part.getD 31) e.desc with
    | none => true
    | some k => decide ((s.mem.jobs.filter fun j => j.2.first / 1024 == k && j.2.banks != []).length + s.kqComing k < 64)
  | _ => true

/-- The head's wait holds. -/
def State.headHolds (s : State) (c : Nat) (e : QEntry) : Bool :=
  waitHolds (e0Form e.e0) (s.flag c (e0Flag e.e0)) (e0Value e.e0)

/-- Keep account of since when each head has been blocked (11 R391). -/
def State.noteHeads (s : State) (c : Nat) : State :=
  s.modCluster c fun k => { k with
    queues := Tab.mapV (fun q =>
      match q.head with
      | none => q
      | some h =>
        if k.closed || !e0Ok h.e0 || s.headHolds c h then
          q.modEntry h.ticket fun e => { e with blockedSince := none, stalled := false }
        else
          q.modEntry h.ticket fun e => { e with blockedSince := some (e.blockedSince.getD s.crust.time) }) k.queues }

/-- TILE_ABSENT (07 R225): at most one entry a second and tile. -/
def State.tileAbsent (s : State) (c t : Nat) (e : QEntry) : State :=
  (s.bump (0x5100 + tileNo c t) 6 1 32).logLimited 1000000 (0x210000 + tileNo c t) fun n =>
    [pack [(56, 0x21), (50, c), (48, t), (42, e.ticket % 64), (40, Word.bits (e.desc.headD 0) 55 54),
      (35, (s.cluster c).part.getD 31), (0, n)]]

/-- The status of an entry at the head of a closed queue: DISCARDED, unless a row of R344 above it applies: BAD_DESC, or
ABSENT once the wait of an entry for an absent tile holds (07 R224; 10 R341, R344, R346). -/
def State.closedStatus (s : State) (c q : Nat) (e : QEntry) : Nat :=
  if !e0Ok e.e0 then 3
  else if q < 4 && !s.tilePresent (tileNo c q) && s.headHolds c e then 2
  else if !e1Ok e.e1 then 3
  else 9

/-- Complete the head of a closed queue. -/
def State.closeHead (s : State) (c q : Nat) (e : QEntry) : State :=
  let st := s.closedStatus c q e
  let s1 := s.complete c q e.ticket st 0
  if st = 2 then s1.tileAbsent c q e else s1

/-- Act on the head of a queue: refuse it, discard it, or dispatch it with its DEC (10 R340, R341, R346;
07 R224). -/
def State.dispatchHead (s : State) (c q : Nat) : State :=
  let k := s.cluster c
  match (k.queue q).head with
  | none => s
  | some e =>
    if k.part.isNone then s
    else if !e0Ok e.e0 then (s.complete c q e.ticket 3 0).noteHeads c
    else if k.closed then (s.closeHead c q e).noteHeads c
    else if s.headHolds c e && s.mayDispatch c q e then
      let s1 := if e0Form e.e0 = 3 then s.setFlag c (e0Flag e.e0) (s.flag c (e0Flag e.e0) - e0Value e.e0) else s
      if q < 4 && !s.tilePresent (tileNo c q) then ((s1.complete c q e.ticket 2 0).tileAbsent c q e).noteHeads c
      else if !e1Ok e.e1 || (q < 4 && !mqValid e.desc) then (s1.complete c q e.ticket 3 0).noteHeads c
      else (s1.modEntry c q e.ticket fun x => { x with disp := true, blockedSince := none, stalled := false }).noteHeads c
    else s

/-- Release the core's FWAIT on a flag of `ns` when it holds (11 R375). -/
def State.evalCore (s : State) (c : Nat) (ns : List Nat) : State :=
  match (s.cluster c).core.wait with
  | some (.flag form n v) =>
    if ns.contains n && waitHolds form (s.flag c n) v then
      let s1 := if form = 3 then s.setFlag c n (s.flag c n - v) else s
      s1.modCore c fun k => { k with st := .running, wait := none, pc := k.pc + 4, stalled := false }
    else s
  | _ => s

/-- Evaluate the waits on the flags `ns` that a hearth cycle has written: the heads in queue order, then the core's FWAIT
(11 R375). -/
def State.evalWaits (s : State) (c : Nat) (ns : List Nat) : State :=
  let s1 := (upTo 8).foldl (fun s q =>
    match ((s.cluster c).queue q).head with
    | some e => if e0Ok e.e0 && e0Form e.e0 != 0 && ns.contains (e0Flag e.e0) then s.dispatchHead c q else s
    | none => s) s
  (s1.evalCore c ns).noteHeads c

/-! ### The writes of one hearth cycle (11 R374, R375) -/

/-- A hearth cycle of an assigned cluster begins to take writes. -/
def State.openCycle (s : State) (c : Nat) : State :=
  if (s.cluster c).part.isNone || (s.cluster c).cycle.isSome then s
  else s.modCluster c fun k => { k with cycle := some { start := k.flags } }

/-- The hearth cycle ends: the waits are evaluated, and a core in WFE sees the events that have become pending. -/
def State.closeCycle (s : State) (c : Nat) : State :=
  match (s.cluster c).cycle with
  | none => s
  | some fc =>
    ((s.modCluster c fun k => { k with cycle := none }).evalWaits c (fc.writes.map FlagW.flg)).modCore c Core.wakeWfe

/-- What is done within one hearth cycle of a cluster, the one that is open or one of its own. -/
def State.together (s : State) (c : Nat) (f : State → State) : State :=
  if (s.cluster c).cycle.isSome then f s else (f (s.openCycle c)).closeCycle c

/-- The open hearth cycle ends with a command, unless another command of the same cycle follows it (`more`; 11 R374; log
entry 123). -/
def State.cycleEnd (s : State) (c : Nat) (more : Bool) : State := if more then s else s.closeCycle c

/-- A command whose flag-word writes fall into the open hearth cycle of a cluster, or into one of their own. -/
def State.inCycle (s : State) (c : Nat) (more : Bool) (f : State → State) : State := (f (s.openCycle c)).cycleEnd c more

/-- A write among those of its cycle, behind all of its place in the order of R374. -/
def FlagCycle.add (fc : FlagCycle) (w : FlagW) : FlagCycle :=
  { fc with writes := fc.writes.takeWhile (fun x => x.rank ≤ w.rank) ++ w :: fc.writes.dropWhile (fun x => x.rank ≤ w.rank) }

/-- What the writes of a cycle make of a flag word, each acting on the value that the write before it left. -/
def FlagCycle.value (fc : FlagCycle) (n : Nat) : W32 :=
  fc.writes.foldl (fun v w => if w.flg = n then (if w.set_ then w.v else v + w.v) else v) (Tab.get 0 fc.start n)

/-- A flag word at the start of the hearth cycle. -/
def State.flagStart (s : State) (c n : Nat) : W32 :=
  match (s.cluster c).cycle with
  | some fc => Tab.get 0 fc.start n
  | none => s.flag c n

/-- Act on a queue's head; a DEC may let the core's FWAIT hold (10 R340; 11 R373). -/
def State.dispatchNow (s : State) (c q : Nat) : State :=
  match ((s.cluster c).queue q).head with
  | some e =>
    let s1 := s.dispatchHead c q
    if s1.flag c (e0Flag e.e0) = s.flag c (e0Flag e.e0) then s1 else (s1.evalCore c [e0Flag e.e0]).noteHeads c
  | none => s

/-- A flag-word write, SET or ADD, with its place in the order of R374: by the core (0), or by a delivery, a signal or a
management write, which also sets event bit 8 (11 R371, R374, R377). -/
def State.flagWrite (s : State) (c rank n : Nat) (set_ : Bool) (v : W32) : State :=
  s.together c fun s =>
    match (s.cluster c).cycle with
    | none => s
    | some fc =>
      let fc := fc.add { rank := rank, flg := n, set_ := set_, v := v }
      let s1 := (s.modCluster c fun k => { k with cycle := some fc }).setFlag c n (fc.value n)
      if rank = 0 then s1 else s1.coreEvent c 8

/-! ### Delivery (10 R342, R343) -/

/-- The completion record of an entry. -/
def recordOf (status detail : Nat) (abortReq : Bool) (ticket : Nat) : Word :=
  pack [(56, status), (48, detail), (47, abortReq.toNat), (0, ticket % 2 ^ 32)]

/-- Deliver the oldest entry of a queue: its record, its signal, its event and its slot together. The ring entry it came
from is left for the fetcher's record. -/
def State.deliver (s : State) (c q : Nat) (e : QEntry) (status detail : Nat) : State := s.together c fun s =>
  let s1 := s.modCluster c fun k => { k with
    dsram := sramPut k.dsram (0xF000 + 512 * q + 8 * (e.ticket % 64)) (leBytes 8 (recordOf status detail e.abortReq e.ticket).toNat) }
  let s2 := s1.modQueue c q fun k => { k with entries := k.entries.filter fun x => x.ticket != e.ticket }
  let op := Word.bits e.e1 63 62
  let s3 := if e1Ok e.e1 && op != 0 then
      s2.flagWrite c (1 + q) (Word.bits e.e1 53 48) (op == 2) (BitVec.ofNat 32 (Word.bits e.e1 31 0))
    else s2
  let s4 := if status = 9 then s3.bump (0x5400 + c) 7 1 32 else s3
  ((s4.coreEvent c q).releaseQueue c q).noteHeads c

/-- Place an entry into a queue (10 R337); the queue has a free slot. -/
def State.pushEntry (s : State) (c q : Nat) (desc : List Word) (e0 e1 : Word) (ring : Option RingSrc) : State :=
  ((s.modQueue c q fun k => { k with
    next := wrapAdd 32 k.next 1
    entries := k.entries ++ [{ ticket := k.next, desc := desc, e0 := e0, e1 := e1, ring := ring }] }).bump
      (0x5400 + c) 4).noteHeads c

/-- Free entries of a queue. -/
def State.queueFree (s : State) (c q : Nat) : Nat := 64 - ((s.cluster c).queue q).entries.length

/-! ### Signals (11 R379 to R386) -/

/-- SIGNAL_SPACE of a partition (11 R378). -/
def State.signalSpace (s : State) (p : Nat) : Nat := s.odNat (0x2500 + p) 1

/-- Why a signal to a cluster is refused: 1 unassigned, 2 signal domain, 0 accepted. `own` is the sender's
partition when it lies on this module (11 R379). -/
def State.signalCheck (s : State) (tc : Nat) (space : Nat) (own : Option Nat) : Nat :=
  match (if tc < 48 then (s.cluster tc).part else none) with
  | none => 1
  | some p => if own = some p || (space != 0 && s.signalSpace p == space) then 0 else 2

/-- SIGNAL_REJECT and its count, logged at most once a second for each sender cluster (11 R379, R394). -/
def State.signalReject (s : State) (tc tf value pos cl reason count arrived : Nat) : State :=
  (s.bump 0xA000 4).logLimited 1000000 (0x4200000000 + pos * 64 + cl) fun _ =>
    [pack [(56, 0x42), (50, tc), (45, (s.cluster tc).part.getD 0), (32, tf), (0, value)],
      pack [(32, (s.flag tc tf).toNat)], pack [(44, pos), (38, cl), (34, reason)], pack [(32, count), (0, arrived)]]

/-- The key of an arrival counter. -/
def arrKey (pos cl : Nat) : Nat := pos * 64 + cl

/-- What a counted signal's sender hears: the answer to its frame, or its FQ operation's completion. -/
def State.signalAnswer (s : State) (h : HeldSig) (status : Nat) : State :=
  match h.reply with
  | some (n, q) => s.fabAnswer n q status
  | none =>
    match h.localFq with
    | some (c, t) =>
      s.modCluster c fun k => { k with
        fq := k.fq.map fun o => if o.ticket = t then
          { o with out := [], wfail := o.wfail || status != 0, err := if status = 0 then o.err else some (o.err.getD status) }
        else o }
    | none => s

/-- Apply a counted signal whose lines have arrived, and answer it (11 R385). -/
def State.applyCounted (s : State) (key : Nat) (h : HeldSig) : State :=
  let a := Tab.get {} s.arr key
  let s1 : State := { s with arr := Tab.put s.arr key { a := (a.a + 2 ^ 32 - h.count) % 2 ^ 32, held := none } }
  (s1.flagWrite h.tcluster 9 h.tflag h.set_ h.value).signalAnswer h 0

/-- Count the lines of a write whose response is returned (11 R383, R384). -/
def State.countLines (s : State) (pos cl lines : Nat) : State :=
  let key := arrKey pos cl
  match Tab.find s.arr key with
  | none =>
    if 16384 ≤ s.arr.length then
      s.logLimited 1000000 0x44 fun _ => [pack [(56, 0x44)], 0, pack [(44, pos), (38, cl)]]
    else { s with arr := Tab.put s.arr key { a := lines % 2 ^ 32 } }
  | some k =>
    let a := (k.a + lines) % 2 ^ 32
    let s1 : State := { s with arr := Tab.put s.arr key { k with a := a } }
    match k.held with
    | some h => if h.count ≤ a then s1.applyCounted key h else s1
    | none => s1

/-- A counted signal that reached an accepted target (11 R385, R386). -/
def State.takeCounted (s : State) (pos cl : Nat) (h : HeldSig) : State :=
  let key := arrKey pos cl
  let k := Tab.get {} s.arr key
  if h.count = 0 then (s.flagWrite h.tcluster 9 h.tflag h.set_ h.value).signalAnswer h 0
  else if k.held.isSome || ((Tab.find s.arr key).isNone && decide (16384 ≤ s.arr.length)) then
    (s.signalReject h.tcluster h.tflag h.value.toNat pos cl 3 h.count k.a).signalAnswer h 7
  else if h.count ≤ k.a then s.applyCounted key h
  else { s with arr := Tab.put s.arr key { k with held := some h } }

end Sys2Proof.Machine
end

