-- ==== Sys2Proof/Machine/Home.lean ====
section
/-! DEFINITION. What the home of a line does with a read, a write, a reduce-write and an atomic, the
invalidation rounds, and how a home record treats a request frame (13 R448 to R464). -/

namespace Sys2Proof.Machine

/-! ### Operations on lines -/

/-- What a request asks of its home, from a linear offset on: lines to read, lines to write or reduce with
their poison mask, or an atomic on a word. -/
inductive HomeOp where
  | read (n : Nat)
  | write (ls : List Line) (mask : Nat)
  | reduce (fn fmt : Nat) (ls : List Line) (mask : Nat)
  | atomic (aop : Nat) (x cmp : Word)
  deriving DecidableEq, Repr

def HomeOp.isWrite : HomeOp → Bool
  | .read _ => false
  | _ => true
def HomeOp.isReduce : HomeOp → Bool
  | .reduce .. => true
  | _ => false
/-- Lines it touches. -/
def HomeOp.count : HomeOp → Nat
  | .read n => n
  | .write ls _ => ls.length
  | .reduce _ _ ls _ => ls.length
  | .atomic .. => 1

/-- What the home answers: first error status, data, poison mask, old word. -/
structure HomeRes where
  status : Nat := 0
  lines  : List Line := []
  mask   : Nat := 0
  old    : Word := 0
  deriving DecidableEq, Repr

/-- Read lines: UNCORRECTABLE lines come back marked poisoned (13 R471). -/
def State.readLines (s : State) (o : Origin) (cls : Option Nat) (lin : Nat) : Nat → State × HomeRes
  | 0 => (s, {})
  | n + 1 =>
    let r := s.readLines o cls lin n
    let x := r.1.lineRead o cls (lin + 64 * n)
    (x.1, { r.2 with
      status := if r.2.status = 0 && x.2.1 != 4 then x.2.1 else r.2.status
      lines := r.2.lines ++ [x.2.2]
      mask := if x.2.1 = 4 then r.2.mask + 2 ^ n else r.2.mask })

/-- Write whole lines. -/
def State.writeLines (s : State) (o : Origin) (cls : Option Nat) (mask : Nat) : Nat → Nat → List Line → Nat → State × Nat
  | _, _, [], st => (s, st)
  | lin, i, d :: ds, st =>
    let x := s.lineWrite o cls lin d (BitVec.allOnes 64) (mask.testBit i)
    x.1.writeLines o cls mask (lin + 64) (i + 1) ds (if st = 0 then x.2 else st)

/-- The element format of RFMT (10 R353). -/
def rfmtCode (f : Nat) : Nat := if f = 0 then 7 else if f = 1 then 5 else 6

/-- A line combined with a stored line, element by element, in FP32 with one rounding to the format (13 R458;
06 R210, R217). -/
def reduceLine (fn fmt : Nat) (old new : Line) : Line :=
  let k := rfmtCode fmt
  lineOfElems k ((upTo (fmtElems k)).map fun i =>
    let a := widen k (elemCode k old i)
    let b := widen k (elemCode k new i)
    encodeElem k .nearest (f32 (if fn = 1 then max32 a b else add32 a b)))

/-- The reduce-write's own job on a bank, served whole (log entry 13): it enters recipe mode, loads its recipe into steps 0 to
7, whose words the spec leaves open, clears the recipe tag, leaves, and the PREB closes both latches (05 R180, R189). -/
def State.reduceJob (s : State) (mbn : Nat) : State :=
  let s := s.modBank mbn fun b =>
    let rec_ := (upTo 8).foldl (fun t i => Tab.set 0 t i (Config.freeWord (s.free + i))) b.unit.recipe
    { b with
      tag := none
      unit := unitLeave { b.unit with recipe := rec_ }
      l0 := { b.l0 with row := none }
      l1 := { b.l1 with row := none } }
  { s with free := s.free + 8 }

/-- One line of a reduce-write: an update of its column that nothing divides (13 R458). -/
def State.reduceCol (s : State) (a : EvAt) (fn fmt : Nat) (d : Line) (bad : Bool) : State × Nat :=
  let e := s.eccAt a.loc
  let s1 := if e.ce then s.countCe 1 a else s
  let s2 := if e.ue then s1.countUe none a e else s1
  let v := reduceLine fn fmt e.data d
  let s3 := (s2.reduceJob a.loc.mbn).locPut a.loc (storeCol v (bad || e.bad))
  (s3, if e.bad && !bad then 4 else 0)

def State.reduceLines (s : State) (o : Origin) (cls : Option Nat) (fn fmt mask : Nat) :
    Nat → Nat → List Line → Nat → State × Nat
  | _, _, [], st => (s, st)
  | lin, i, d :: ds, st =>
    let x : State × Nat := match s.target o cls lin with
      | .error e => (s, e)
      | .ok a => (s.bump (0x3100 + 8 * a.loc.stk + a.port) 3).reduceCol a fn fmt d (mask.testBit i)
    x.1.reduceLines o cls fn fmt mask (lin + 64) (i + 1) ds (if st = 0 then x.2 else st)

/-- The new word of an atomic (10 R353, 13 R460); none: nothing is written. -/
def atomicWord (aop : Nat) (old x cmp : Word) : Option Word :=
  match aop with
  | 0 => some (old + x)
  | 1 => some x
  | 2 => if old = cmp then some x else none
  | 3 => some (old &&& x)
  | 4 => some (old ||| x)
  | 5 => some (old ^^^ x)
  | 6 => some (if BitVec.slt old x then x else old)
  | 7 => some (if BitVec.slt x old then x else old)
  | 8 => some (if old < x then x else old)
  | _ => some (if x < old then x else old)

/-- An atomic: an RD and a WR of the word's column with nothing between them (13 R460). -/
def State.atomicRun (s : State) (o : Origin) (cls : Option Nat) (lin aop : Nat) (x cmp : Word) : State × HomeRes :=
  match s.target o cls lin with
  | .error e => (s, { status := e })
  | .ok a =>
    let r := (s.bump (0x3100 + 8 * a.loc.stk + a.port) 3).readCol a
    if r.2.1 ≠ 0 then (r.1, { status := r.2.1 })
    else
      let i := lin % 64 / 8
      let old := BitVec.ofNat 64 (nbits r.2.2.toNat (64 * i + 63) (64 * i))
      match atomicWord aop old x cmp with
      | none => (r.1, { old := old })
      | some v =>
        let d := BitVec.ofNat 512 (v.toNat * 2 ^ (64 * i))
        let m : BitVec 64 := BitVec.ofNat 64 (0xFF * 2 ^ (8 * i))
        (r.1.locPut a.loc (cleanCol (mergeLine r.2.2 d m)), { old := old })

/-- Carry out a request at its home. -/
def State.homeRun (s : State) (o : Origin) (cls : Option Nat) (lin : Nat) (op : HomeOp) : State × HomeRes :=
  match op with
  | .read n => s.readLines o cls lin n
  | .write ls m => let r := s.writeLines o cls m lin 0 ls 0; (r.1, { status := r.2 })
  | .reduce fn fmt ls m => let r := s.reduceLines o cls fn fmt m lin 0 ls 0; (r.1, { status := r.2 })
  | .atomic aop x cmp => s.atomicRun o cls lin aop x cmp

/-- Some line of a request must wait (05 R185; 14 R487). -/
def State.gateAll (s : State) (p : Nat) (o : Origin) (cls : Option Nat) (lin : Nat) (op : HomeOp) : Bool :=
  (upTo op.count).any fun i => s.gate p o op.isWrite (lin + 64 * i) cls op.isReduce
def State.snoopAll (s : State) (o : Origin) (lin : Nat) (op : HomeOp) : State :=
  (upTo op.count).foldl (fun s i => s.snoop o op.isWrite (lin + 64 * i)) s

/-! ### Domains and invalidation rounds (13 R451, R452, R462, R463) -/

def State.inDomain (s : State) (p pos : Nat) : Bool := (s.domainMembers p).any fun m => m.2 == pos

/-- A member's entry for a loaf acts as DIRECT from now on (13 R462). -/
def State.dropReplica (s : State) (p loaf : Nat) : State :=
  match Tab.find s.place.replicas (leafKey p loaf) with
  | none => s
  | some r =>
    let s1 : State := { s with place := { s.place with
      replicas := Tab.put s.place.replicas (leafKey p loaf) { r with usable := false, broken := true } } }
    if r.usable || r.broken then s1 else s1.bump (0x2600 + p) 0xC 1 32

/-- The loafs of partition `p` that an entry places at loaf `loff` of this module: a LOCAL one, or one that names the
module's own position. -/
def State.localLoafs (s : State) (p loff : Nat) : List Nat :=
  (s.place.leaves.filterMap fun kv =>
    if kv.1 / 2 ^ 35 = p && entSt kv.2 != 0 && (entLocal kv.2 || s.position == some (entPos kv.2)) && entLoff kv.2 == loff
    then some (kv.1 % 2 ^ 35) else none).eraseDups

/-- Send REPLICA_INV to the members of the owner's domain other than the owner (13 R462, R463); members on
this module answer at once. -/
def State.sendInvs (s : State) (round owner loff loaf : Nat) : State :=
  (s.domainMembers owner).foldl (fun s m =>
    if some m.2 = s.position then (if m.1 = owner then s else s.dropReplica m.1 loaf)
    else
      let f := s.mkReq 8 0 0 m.2 0x3F false 0 0 (fabAddr 0 s.pos (loff * 2 ^ 21))
        (pack [(56, m.1), (0, loaf)]) 0 []
      s.sendReq (.inval round) none (m.2 % 6) m.2 owner 0 f) s

/-- A write to a loaf has taken effect: it joins the loaf's invalidation round, starts one, or needs none.
Answers the round to wait for (13 R462). -/
def State.invRound (s : State) (lin : Nat) : State × Option Nat :=
  let loff := nbits lin 40 21
  match s.place.rounds.find? fun r => r.loff == loff with
  | some r => (s, some r.id)
  | none =>
    let h := s.homeRec loff
    match s.regionAt lin with
    | none => (s, none)
    | some rg =>
      if !(h.replicable && h.live) then (s, none)
      else
        let id := s.place.nextRound
        let s1 : State := s.setHomeRec loff { h with live := false }
        let s2 : State := { s1 with place := { s1.place with
          nextRound := id + 1
          rounds := s1.place.rounds ++ [{ id := id, loff := loff, writes := [], agents := [], hosts := [] }] } }
        let s3 := (s.localLoafs rg.owner loff).foldl (fun s loaf => s.sendInvs id rg.owner loff loaf)
          (s2.bump 0x6020 5)
        if s3.anyReq (· == .inval id) then (s3, some id)
        else ({ s3 with place := { s3.place with rounds := s3.place.rounds.filter fun r => r.id != id } }, none)

def State.modRound (s : State) (id : Nat) (f : InvRound → InvRound) : State :=
  { s with place := { s.place with rounds := s.place.rounds.map fun r => if r.id = id then f r else r } }

/-! ### Request frames at their home (13 R449, R452, R468) -/

/-- The operation that a request frame carries. -/
def frameOp (f : Frame) : HomeOp :=
  match f.op with
  | 1 => .read f.nlines
  | 2 => .write f.lines f.h6.toNat
  | 3 => .reduce (f.opmod / 16 % 2) (f.opmod % 4) f.lines f.h6.toNat
  | _ => .atomic (f.opmod % 16) f.h5 f.h6

/-- Return a response to a WRITE or REDUCE frame: its lines count (11 R383), and then it is answered. -/
def State.finishFrame (s : State) (n : Nat) (f : Frame) (status : Nat) (old : Word := 0) : State :=
  let s1 := if (f.op == 2 || f.op == 3) && f.fq then s.countLines f.srcPos f.cluster f.lines.length else s
  s1.fabAnswer n f status old

/-- Carry out a frame at its home and answer it, or leave the answer to an invalidation round. -/
def State.serveHere (s : State) (n : Nat) (f : Frame) : State :=
  let op := frameOp f
  let lin := f.addrLin
  let loff := nbits lin 40 21
  let r := s.homeRun (.eth n) (some f.cls) lin op
  match op with
  | .read _ =>
    if r.2.status ≠ 0 then r.1.fabAnswer n f r.2.status
    else
      let h := r.1.homeRec loff
      let s1 := if h.replicable then r.1.setHomeRec loff { h with live := true } else r.1
      s1.fabRespond n f 0x10 0 0 (BitVec.ofNat 64 r.2.mask) r.2.lines
  | _ =>
    if r.2.status ≠ 0 && r.2.status ≠ 4 then r.1.finishFrame n f r.2.status
    else
      let v := r.1.invRound lin
      match v.2 with
      | some id => v.1.modRound id fun x => { x with writes := x.writes ++ [(n, f, r.2.status, r.2.old)] }
      | none => v.1.finishFrame n f r.2.status r.2.old

/-- Hold a request. -/
def State.hold (s : State) (h : HeldReq) : State := { s with place := { s.place with held := s.place.held ++ [h] } }

/-- Forward a request to the loaf's new home (13 R468). -/
def State.forward (s : State) (n : Nat) (f : Frame) (r : HomeRec) : State :=
  let lin := r.floff * 2 ^ 21 + nbits f.addrLin 20 0
  let g := s.mkReq f.op f.cls f.nlines r.fpos 0x3F false ((f.epoch + 1) % 256) f.opmod (fabAddr 0 r.fpos lin)
    f.h5 f.h6 f.lines
  (s.bump 0x6020 3).sendReq (.forward n f) none (n / 4) r.fpos 31 0 g

/-- An earlier request of the frame's stream for a column of it is held, and one of the two writes (12 R412). -/
def State.streamBefore (s : State) (f : Frame) : Bool :=
  s.place.held.any fun h =>
    match h with
    | .frame _ g =>
      f.sameStream g && decide (1 ≤ g.op) && decide (g.op ≤ 4) && (f.op != 1 || g.op != 1)
        && decide (g.addrLin / 64 < f.addrLin / 64 + f.span) && decide (f.addrLin / 64 < g.addrLin / 64 + g.span)
    | _ => false

/-- A READ, WRITE, REDUCE or ATOMIC frame at the home named by its address (13 R449, R452). -/
def State.serveFrame (s : State) (n : Nat) (f : Frame) : State :=
  let lin := f.addrLin
  let r := s.homeRec (nbits lin 40 21)
  let op := frameOp f
  let same := f.epoch == r.epoch
  let run (s : State) : State :=
    if s.gateAll 31 (.eth n) (some f.cls) lin op || s.streamBefore f then (s.snoopAll (.eth n) lin op).hold (.frame n f)
    else s.serveHere n f
  match s.regionAt lin with
  | none => s.finishFrame n f 3
  | some rg =>
    if (s.place' false lin).isNone then s.finishFrame n f 3
    else if s.unused rg.owner || !s.inDomain rg.owner f.srcPos then s.finishFrame n f 2
    else
      match r.st with
      | 1 => if same then run s else s.finishFrame n f 6
      | 2 => if !same then s.finishFrame n f 6 else if op.isWrite then s.hold (.frame n f) else run s
      | 3 =>
        if same && Tab.find s.place.incoming (nbits lin 40 21) == some f.srcPos then run s else s.finishFrame n f 6
      | 4 => if !same && (f.epoch + 1) % 256 == r.epoch then s.forward n f r else s.finishFrame n f 6
      | 0 =>
        if r.fwd then
          (if (f.op == 2 || f.op == 3) && f.fq then s.countLines f.srcPos f.cluster f.lines.length else s).fabRespond
            n f 0x12 0 (BitVec.ofNat 64 r.fpos) 0 []
        else s.finishFrame n f 5
      | 5 => s.finishFrame n f 9
      | _ => s.finishFrame n f 6

end Sys2Proof.Machine
end

