-- ==== Sys2Proof/Machine/Access.lean ====
section
/-! DEFINITION. How an engine of a cluster reads and writes lines in cluster SRAM and through partition virtual
addresses: every line of a command's step is ready, or the step waits and asks for what is missing (log
entry 13; 10 R353, R362; 13 R442 to R457). -/

namespace Sys2Proof.Machine

/-- A place: space 0, cluster SRAM of cluster `c`; space 1, a partition virtual address. -/
structure Place2 where
  space : Nat
  addr  : Nat
  deriving DecidableEq, Repr

/-- Who reads or writes: the agent, the origin its requests have, cluster and partition, class. -/
structure Who where
  a    : Agent
  o    : Origin
  c    : Nat
  p    : Nat
  cls  : Option Nat
  deriving DecidableEq, Repr

/-- The epoch, position and linear offset that a remote request of class MEM carries. -/
def State.remoteReq (s : State) (w : Who) (op nlines pos lin epoch : Nat) (lines : List Line) (mask : Nat) : Frame :=
  s.mkReq op (w.cls.getD 0) nlines pos 0x3F false epoch 0 (fabAddr 0 pos lin) 0 (BitVec.ofNat 64 mask) lines

/-- The pool's line of an agent. -/
def State.poolLine (s : State) (a : Agent) (pva : Nat) (wr : Bool := false) : Option PoolLine :=
  s.fab.pool.find? fun l => l.agent == a && l.pva == pva && l.wr == wr

/-- The answer that has come for a line under way. -/
def State.poolAnswer (s : State) (a : Agent) (pva : Nat) (wr : Bool := false) : Option (Nat × Line) :=
  (s.poolLine a pva wr).bind fun l => l.status.map fun e => (e, l.data)

/-- A request that waits at a stack of this module is under way on the UCIe links of its route (01 R24). -/
def State.underWay (s : State) (w : Who) (pva lin : Nat) (write reduce : Bool) : State :=
  if (s.poolLine w.a pva write).isSome || !s.atStack w.o write lin w.cls reduce then s
  else
    match (s.place' w.o.priv lin).bind fun l => s.pathTo w.o l.1.stk with
    | some (k :: ks) =>
      { s with fab := { s.fab with pool := s.fab.pool ++ [{ agent := w.a, pva := pva, wr := write, way := k :: ks }] } }
    | _ => s

/-- Ask for a remote line that has not been asked for. -/
def State.askLine (s : State) (w : Who) (pva pos lin epoch : Nat) : State :=
  if (s.poolLine w.a pva).isSome then s
  else
    let s1 : State := { s with fab := { s.fab with pool := s.fab.pool ++ [{ agent := w.a, pva := pva }] } }
    s1.sendReq (.line w.a pva) (some (w.c / 12)) 0 pos w.p pva (s1.remoteReq w 1 1 pos lin epoch [] 0)

/-- Forget lines that an agent has asked for. -/
def State.clearPool (s : State) (a : Agent) (used : Nat → Bool) : State :=
  { s with fab := { s.fab with pool := s.fab.pool.filter fun l => !(l.agent == a && used l.pva) } }

/-- Whether a line can be read now. -/
def State.readReady (s : State) (w : Who) (x : Place2) : Bool :=
  x.space == 0 ||
    match s.xlate w.p x.addr false with
    | .bad _ => true
    | .hold => false
    | .here lin => (s.poolAnswer w.a x.addr).isSome || !s.gate w.p w.o false lin w.cls
    | .there .. => (s.poolAnswer w.a x.addr).isSome

/-- Ask for what a line that is not ready needs. -/
def State.readAsk (s : State) (w : Who) (x : Place2) : State :=
  if x.space = 0 then s
  else
    match s.xlate w.p x.addr false with
    | .here lin =>
      if s.gate w.p w.o false lin w.cls then (s.snoop w.o false lin).underWay w x.addr lin false false else s
    | .there pos lin epoch => s.askLine w x.addr pos lin epoch
    | _ => s

/-- Read a line that is ready: memory status and data. The placement cache is looked up once for each line
read (13 R447). -/
def State.readOne (s : State) (w : Who) (x : Place2) : State × Nat × Line :=
  if x.space = 0 then (s, 0, s.csLine w.c (x.addr % 2 ^ 23))
  else
    let s := s.pcacheLook (s.xlateDie w.c) w.p x.addr
    match s.xlate w.p x.addr false with
    | .bad e => (s, e, 0)
    | .hold => (s, 0, 0)
    | .here lin =>
      match s.poolAnswer w.a x.addr with
      | some r => (s, r)
      | none => s.lineRead w.o w.cls lin
    | .there .. => (s, (s.poolAnswer w.a x.addr).getD (0, 0))

def State.readAll (s : State) (w : Who) : List Place2 → State × List (Nat × Line)
  | [] => (s, [])
  | x :: xs =>
    let r := s.readOne w x
    let t := r.1.readAll w xs
    (t.1, r.2 :: t.2)

/-- Read every line, or ask for what is missing. -/
def State.fetchLines (s : State) (w : Who) (xs : List Place2) : State × Option (List (Nat × Line)) :=
  if xs.all (s.readReady w) then
    let r := s.readAll w xs
    (r.1.clearPool w.a fun v => xs.any fun x => x.space == 1 && x.addr == v, some r.2)
  else (xs.foldl (fun s x => if s.readReady w x then s else s.readAsk w x) s, none)

/-- A line to write; `red` makes it a reduce-write: RFN and RFMT. -/
structure LineW where
  x     : Place2
  data  : Line
  mask  : BitVec 64 := BitVec.allOnes 64
  poison : Bool := false
  red   : Option (Nat × Nat) := none
  deriving DecidableEq, Repr

/-- The bytes that a write stores. -/
def LineW.bytes (l : LineW) : Nat := ((upTo 64).filter fun i => l.mask.getLsbD i).length

/-- A request of an agent for a remote line is not answered: a write, or a read of it. -/
def State.lineBusy (s : State) (a : Agent) (pva : Nat) : Bool :=
  s.anyReq (fun r => match r with
    | .wline b v _ => b == a && v == pva
    | .line b v => b == a && v == pva
    | _ => false)

/-- Whether a line can be written now. A part of a remote line is merged into the line first, since a WRITE
frame carries whole lines (12 R406; log entry 129). The writes of an agent to one remote line follow one another, each
after the answer to the one before, since frames may keep no order (12 R419): nothing is merged into a line that a write is
on its way to, and data of two writes does not mix (09 R292, R300). Reduce-writes need not wait. -/
def State.writeReady (s : State) (w : Who) (l : LineW) : Bool :=
  l.x.space == 0 ||
    match s.xlate w.p l.x.addr true with
    | .bad _ => true
    | .hold => false
    | .here lin => (s.poolAnswer w.a l.x.addr true).isSome || !s.gate w.p w.o true lin w.cls l.red.isSome
    | .there .. => l.red.isSome ||
      (!s.lineBusy w.a l.x.addr && (l.mask == BitVec.allOnes 64 || (s.poolAnswer w.a l.x.addr).isSome))

def State.writeAsk (s : State) (w : Who) (l : LineW) : State :=
  if l.x.space = 0 then s
  else
    match s.xlate w.p l.x.addr true with
    | .here lin =>
      if s.gate w.p w.o true lin w.cls l.red.isSome then (s.snoop w.o true lin).underWay w l.x.addr lin true l.red.isSome
      else s
    | .there pos lin epoch =>
      if l.mask = BitVec.allOnes 64 || s.lineBusy w.a l.x.addr then s else s.askLine w l.x.addr pos lin epoch
    | _ => s

/-- A local write has taken effect: the agent waits for the loaf's invalidation round (13 R454, R462). -/
def State.afterWrite (s : State) (a : Agent) (lin : Nat) : State :=
  let v := s.invRound lin
  match v.2 with
  | some id => v.1.modRound id fun r => { r with agents := if r.agents.contains a then r.agents else r.agents ++ [a] }
  | none => v.1

/-- Write a line that is ready: the status of a local write; a remote one answers later. -/
def State.writeOne (s : State) (w : Who) (l : LineW) : State × Nat :=
  if l.x.space = 0 then (s.csPut w.c (l.x.addr % 2 ^ 23) l.data l.mask, 0)
  else
    let s := s.pcacheLook (s.xlateDie w.c) w.p l.x.addr
    match s.xlate w.p l.x.addr true with
    | .bad e => (s, e)
    | .hold => (s, 0)
    | .here lin =>
      match s.poolAnswer w.a l.x.addr true with
      | some r => (s, r.1)
      | none =>
        let r := match l.red with
          | none => s.lineWrite w.o w.cls lin l.data l.mask l.poison
          | some f => s.reduceLines w.o w.cls f.1 f.2 l.poison.toNat lin 0 [l.data] 0
        if r.2 = 0 || r.2 = 4 then (r.1.afterWrite w.a lin, r.2) else r
    | .there pos lin epoch =>
      let old := s.poolAnswer w.a l.x.addr
      if l.mask = BitVec.allOnes 64 then
        (s.sendReq (.wline w.a l.x.addr 64) (some (w.c / 12)) 0 pos w.p l.x.addr
          (match l.red with
            | none => s.remoteReq w 2 1 pos lin epoch [l.data] l.poison.toNat
            | some f => { s.remoteReq w 3 1 pos lin epoch [l.data] l.poison.toNat with
                h3 := pack [(32, s.fab.incarnation.toNat), (24, 16 * f.1 + f.2)] }), 0)
      else
        match old with
        | none => (s, 0)
        | some (st, d) =>
          if st ≠ 0 && st ≠ 4 then (s, st)
          else
            (s.sendReq (.wline w.a l.x.addr l.bytes) (some (w.c / 12)) 0 pos w.p l.x.addr
              (s.remoteReq w 2 1 pos lin epoch [mergeLine d l.data l.mask] (l.poison || st == 4).toNat), 0)

def State.writeAll (s : State) (w : Who) : List LineW → State × List Nat
  | [] => (s, [])
  | l :: ls =>
    let r := s.writeOne w l
    let t := r.1.writeAll w ls
    (t.1, r.2 :: t.2)

/-- Write every line, or ask for what is missing. -/
def State.storeLines (s : State) (w : Who) (ls : List LineW) : State × Option (List Nat) :=
  if ls.all (s.writeReady w) then
    let r := s.writeAll w ls
    (r.1.clearPool w.a fun v => ls.any fun l => l.x.space == 1 && l.x.addr == v, some r.2)
  else (ls.foldl (fun s l => if s.writeReady w l then s else s.writeAsk w l) s, none)

/-- The line requests of an agent that are on their way (07 R236; 09 R306). -/
def State.inFlight (s : State) (a : Agent) : Nat :=
  (s.fab.pool.filter fun l => l.agent == a && l.status.isNone).length
    + (s.fab.outst.filter fun o => match o.src with | .wline b _ _ => b == a | _ => false).length
    + (s.fab.waiting.filter fun o => match o.src with | .wline b _ _ => b == a | _ => false).length

/-- A line that an engine keeps. -/
def Held.find (h : Held) (x : Place2) : Option (Nat × Line) :=
  (List.find? (fun l => l.1 == (x.space, x.addr)) h).map Prod.snd

/-- Read those of the lines that an engine does not keep yet and that are ready, and ask for the others while fewer than
`lim` are on their way: each line is read once. -/
def State.holdLines (s : State) (w : Who) (lim : Nat) : List Place2 → Held → State × Held
  | [], got => (s, got)
  | x :: xs, got =>
    if (got.find x).isSome then s.holdLines w lim xs got
    else if s.readReady w x then
      let r := s.readOne w x
      (r.1.clearPool w.a fun v => x.space == 1 && v == x.addr).holdLines w lim xs (got ++ [((x.space, x.addr), r.2)])
    else
      (if (s.poolLine w.a x.addr).isSome || decide (s.inFlight w.a < lim) then s.readAsk w x else s).holdLines w lim xs got

/-- Every one of the lines is kept. -/
def Held.all (h : Held) (xs : List Place2) : Bool := xs.all fun x => (h.find x).isSome

/-- Every write of an agent has taken effect and its rounds have ended (13 R454). -/
def State.settled (s : State) (a : Agent) : Bool :=
  !s.anyReq (fun r => match r with | .wline b _ _ => b == a | _ => false) && !s.place.rounds.any fun r => r.agents.contains a

/-- Whether a remote write of the agent met an error response; the mark is taken off. -/
def State.takeFail (s : State) (a : Agent) : State × Bool :=
  ({ s with fab := { s.fab with fails := s.fab.fails.filter fun f => f.1 != a } }, s.fab.fails.any fun f => f.1 == a)

end Sys2Proof.Machine
end

