-- ==== Sys2Proof/Machine/HostMem.lean ====
section
/-! DEFINITION. CXL.mem: windows, host reads and writes at their home, tracking, and what the host is answered
(14 R479 to R488). -/

namespace Sys2Proof.Machine

/-- The port carries CXL.mem: its link is up. -/
def State.cxlUp (s : State) (n : Nat) : Bool :=
  s.power.main && s.cxlFitted n && decide (2 ≤ (s.cport n).link) && !(s.cport n).perst

/-! ### Answers (14 R484; 14 R491) -/

/-- Append to a log of 256 records, dropping the oldest. -/
def push256 {α : Type} (l : List α) (x : α) : List α := (l ++ [x]).drop (l.length + 1 - 256)

/-- Record a memory status: UNCORRECTABLE is a General Media event, every other a vendor event; MSI-X vector 1. -/
def State.hostEvent (s : State) (n dpa k status : Nat) : State :=
  let p := s.cport n
  let r : EvRec := { status := status, dpa := dpa, window := k, stamp := p.stamp }
  (s.setCport n { p with
    failure := if status = 4 then push256 p.failure r else p.failure
    vendor := if status = 4 then p.vendor else push256 p.vendor r
    msix := 1 :: p.msix }).bump (0x6030 + n) 6

/-- Complete a host access. -/
def State.hostDone (s : State) (n dpa k : Nat) (read : Bool) (status : Nat) (d : Line) (poison : Bool)
    (grant : HostWant) : State :=
  let s1 := if status = 0 then s else s.hostEvent n dpa k status
  let p := s1.cport n
  let bad := poison || status != 0
  s1.setCport n { p with
    resps := { dpa := dpa, read := read, data := d, poison := read && bad, grant := grant } :: p.resps
    poisonList := if read && bad then push256 (p.poisonList.filter (· != dpa)) dpa else p.poisonList }

/-! ### Tracking (14 R486) -/

def trackedLimit : Nat := 16

/-- The line that must leave the tracker before `lin` can enter: its set is full. -/
def CxlPort.victim (p : CxlPort) (lin : Nat) : Option Tracked :=
  if p.tracked.length < trackedLimit || p.tracked.any (fun t => t.lin == lin) then none
  else
    let set_ := p.tracked.filter fun t => Config.trackSet t.lin == Config.trackSet lin
    if set_.length < trackedLimit then none else set_.head?

/-- Send a back-invalidation of a tracked line. -/
def State.sendSnoop (s : State) (n lin : Nat) (inv : Bool) : State :=
  let p := s.cport n
  (s.setCport n { p with
    tracked := p.tracked.map fun t => if t.lin = lin then { t with pend := some inv } else t
    snoops := (lin, inv) :: p.snoops }).bump (0x6030 + n) 4

/-- Grant a line. -/
def State.track (s : State) (n lin part : Nat) (excl : Bool) : State :=
  let p := s.cport n
  s.setCport n { p with
    tracked := (p.tracked.filter fun t => t.lin != lin) ++ [{ lin := lin, excl := excl, part := part }] }

/-! ### Reads and writes (14 R482 to R488) -/

def State.hostWho (n : Nat) (w : WinV) : Who where
  a := .host n
  o := .host n
  c := 0
  p := w.part
  cls := some w.cls

/-- The loaf's home is this module: a line served from a replica slot is homed elsewhere (13 R461). -/
def State.homeHere (s : State) (p pva : Nat) : Bool :=
  let w := s.entryOf p (loafOf pva)
  entLocal w || s.position == some (entPos w)

/-- A host read at its home, or on its way there; held while it must wait. A line homed on another module is
answered with no cacheable state in a tracking window (14 R486), also where a replica serves it. A window of an UNUSED partition
answers ACCESS (15 R507; log entry 137). -/
def State.serveHostRead (s : State) (n dpa : Nat) (want : HostWant) : State :=
  match s.window n dpa with
  | none => s
  | some w =>
    if s.unused w.part then s.hostDone n dpa w.k true 2 0 true .uncached
    else if w.db && (s.cport n).noTrack then s.hostDone n dpa w.k true 0 0 true .uncached
    else
      let pva := w.pva / 64 * 64
      let x := s.pcacheLook (some n) w.part pva
      match x.xlate w.part pva false with
      | .bad e => x.hostDone n dpa w.k true e 0 true .uncached
      | .hold => s.hold (.hostRead n dpa want)
      | .there pos lin epoch =>
        x.sendReq (.host n dpa true want) none n pos w.part pva (x.remoteReq (State.hostWho n w) 1 1 pos lin epoch [] 0)
      | .here lin =>
        if x.gate w.part (.host n) false lin (some w.cls) then (s.snoop (.host n) false lin).hold (.hostRead n dpa want)
        else
          let want : HostWant := if w.db && !s.homeHere w.part pva then .uncached else want
          let keep := w.db && want != .uncached
          match (if keep then (s.cport n).victim lin else none) with
          | some t => (if t.pend = some true then s else s.sendSnoop n t.lin true).hold (.hostRead n dpa want)
          | none =>
            let r := x.lineRead (.host n) (some w.cls) lin
            let s1 := if keep && r.2.1 == 0 then r.1.track n lin w.part (want == .exclusive) else r.1
            s1.hostDone n dpa w.k true r.2.1 r.2.2 false (if r.2.1 = 0 then want else .uncached)

/-- CXL_RO_DROP (14 R495). -/
def State.roDrop (s : State) (n dpa : Nat) (w : WinV) : State :=
  s.logLimited 1000000 (0x5700000000 + 16 * n + w.k) fun c =>
    [pack [(56, 0x57), (51, n), (47, w.k), (43, w.part), (0, c % 2 ^ 32)], BitVec.ofNat 64 dpa]

/-- A host write at its home, or on its way there. -/
def State.serveHostWrite (s : State) (n dpa : Nat) (data : Line) (mask : BitVec 64) (poison : Bool) : State :=
  match s.window n dpa with
  | none => s
  | some w =>
    let done (s : State) (st : Nat) := s.hostDone n dpa w.k false st 0 false .uncached
    if s.unused w.part then done s 2
    else if w.ro then done (s.roDrop n dpa w) 0
    else if w.db && (s.cport n).noTrack then done s 0
    else
      let pva := w.pva / 64 * 64
      let x := s.pcacheLook (some n) w.part pva
      let keep : HeldReq := .hostWrite n dpa data mask poison
      match x.xlate w.part pva true with
      | .bad e => done x e
      | .hold => s.hold keep
      | .there pos lin epoch =>
        let who := State.hostWho n w
        if mask = BitVec.allOnes 64 then
          x.sendReq (.host n dpa false .uncached) none n pos w.part pva
            (x.remoteReq who 2 1 pos lin epoch [data] poison.toNat)
        else
          match s.poolLine (.host n) pva false with
          | none =>
            let s1 : State := { s with fab := { s.fab with pool := s.fab.pool ++ [{ agent := .host n, pva := pva }] } }
            (s1.sendReq (.line (.host n) pva) none n pos w.part pva (s1.remoteReq who 1 1 pos lin epoch [] 0)).hold keep
          | some l =>
            match l.status with
            | none => s.hold keep
            | some st =>
              let s1 := x.clearPool (.host n) (· == pva)
              if st ≠ 0 && st ≠ 4 then done s1 st
              else
                s1.sendReq (.host n dpa false .uncached) none n pos w.part pva
                  (s1.remoteReq who 2 1 pos lin epoch [mergeLine l.data data mask] (poison || st == 4).toNat)
      | .here lin =>
        if x.gate w.part (.host n) true lin (some w.cls) then (s.snoop (.host n) true lin).hold keep
        else
          let r := x.lineWrite (.host n) (some w.cls) lin data mask poison
          if r.2 = 0 || r.2 = 4 then
            let v := r.1.invRound lin
            match v.2 with
            | some id => v.1.modRound id fun x => { x with hosts := x.hosts ++ [(n, dpa, r.2)] }
            | none => done v.1 r.2
          else done r.1 r.2

end Sys2Proof.Machine
end

