-- ==== Sys2Proof/Machine/Tile.lean ====
section
/-! DEFINITION. Matrix tiles: streams, PANEL, MMA, CLOAD, STORE and their completion (07). -/

namespace Sys2Proof.Machine

/-! ### Engines and streams of a tile -/

def engineOf (cmd : Nat) : TileEngine := if cmd = 0 then .panelLoader else if cmd = 1 then .array else .cEngine

def Tile.eng (t : Tile) : TileEngine → Option TileCmd
  | .panelLoader => t.engB
  | .array => t.engA
  | .cEngine => t.engC
def Tile.setEng (t : Tile) (e : TileEngine) (c : Option TileCmd) : Tile :=
  match e with
  | .panelLoader => { t with engB := c }
  | .array => { t with engA := c }
  | .cEngine => { t with engC := c }

/-- The stream an engine takes its lines from: 0 A, 1 B, 2 C (07 R228; 10 R355). -/
def streamOf : TileEngine → Nat
  | .panelLoader => 1
  | .array => 0
  | .cEngine => 2

def Tile.str (t : Tile) (n : Nat) : StreamF := if n = 0 then t.strA else if n = 1 then t.strB else t.strC
def Tile.setStr (t : Tile) (n : Nat) (v : StreamF) : Tile :=
  if n = 0 then { t with strA := v } else if n = 1 then { t with strB := v } else { t with strC := v }

def State.tile (s : State) (c t : Nat) : Tile := (s.cluster c).tile t
def State.setTile (s : State) (c t : Nat) (v : Tile) : State := s.modTile c t fun _ => v

/-- The entry keeps 07 R233 and, for a scaled operand of format `fmt`, R240. -/
def streamEntOk (store : Bool) (scaled : Option Nat) (w : Word) : Bool :=
  Word.bits w 61 56 == 0 && (Word.bit w 63 || Word.bits w 55 23 == 0) && (store || !Word.bit w 62)
    && match scaled with
      | none => true
      | some f => decide (Word.bits w 11 6 + Word.bits w 5 0 + 1 ≤ pageD f)

/-- Take the next line of a stream: its request and whether the entry's last line was taken. -/
def StreamF.take (q : StreamF) (ord : Nat) (store : Bool) (scaled : Option Nat) : Option (LineReq × Bool × StreamF) :=
  match q.ents with
  | [] => none
  | w :: ws =>
    let addr := Word.bits w 55 6 * 64 + 64 * q.used
    let last := q.used == Word.bits w 5 0
    let sc := scaled.map fun f => (addr / 4096 * 4096 + 64 * pageD f + scaleB f * (addr % 4096 / 64), scaleB f)
    some ({ ord := ord, space := Word.bits w 63 63, addr := addr, bad := !streamEntOk store scaled w, scale := sc,
            close := Word.bit w 62, first := ord - q.used, count := Word.bits w 5 0 + 1 }, last,
      if last then { q with ents := ws, used := 0 } else { q with used := q.used + 1 })

/-- A command has its lines: the rest of the entry it consumed in part is discarded (07 R234). -/
def StreamF.endCmd (q : StreamF) : StreamF := if q.used = 0 then q else { q with ents := q.ents.drop 1, used := 0 }

/-- Discard `n` lines as their entries arrive; what is left to discard (10 R351, R356). -/
def StreamF.discard : Nat → StreamF → Nat × StreamF
  | 0, q => (0, q.endCmd)
  | n + 1, q =>
    match q.take 0 false none with
    | none => (n + 1, q)
    | some r => StreamF.discard n r.2.2

def StreamF.runDrops (q : StreamF) : List Nat → StreamF
  | [] => { q with drops := [] }
  | n :: ns =>
    let r := StreamF.discard n q
    if r.1 = 0 then r.2.runDrops ns else { r.2 with drops := r.1 :: ns }

/-- Add a command's lines to those to discard. -/
def StreamF.addDrop (q : StreamF) (n : Nat) : StreamF := q.runDrops (q.drops ++ (if n = 0 then [] else [n]))

/-! ### What a command needs -/

/-- Elements of an operand line of a format (07 R226, R247). -/
def kLine (fmt : Nat) : Nat := fmtElems fmt

/-- The lines of a STORE (07 R248). -/
def storeCount (d : List Word) : Nat :=
  let l := kLine (mqFmtOut d)
  let m := mqRows d
  let n := mqCols d
  if mqLayout d = 2 then (m + l - 1) / l * n else m * ((n + l - 1) / l)

/-- An MMA may run on the panel of its buffer (10 R350; 07 R230): the pair of formats and K_TAIL. -/
def mmaOk (d : List Word) (p : PanelBuf) : Bool :=
  decide (1 ≤ mqTail d) && decide (mqTail d ≤ kLine (mqFmtA d)) && (p.n == 0 || pairOk (mqFmtA d) p.fmt)

/-- The stream lines that a valid command takes. -/
def Tile.linesOf (t : Tile) (d : List Word) : Nat :=
  match mqCmd d with
  | 0 => mqPanelK d * mqPanelN d
  | 1 =>
    let p := Tab.get {} t.pbuf (mqPbuf d)
    if mmaOk d p then p.k * mqRows d else 0
  | 2 => let l := kLine (mqFmtC d); mqRows d * ((mqCols d + l - 1) / l)
  | _ => storeCount d

/-- The scaled format of a command's stream, if it is scaled. -/
def mqScaledFmt (d : List Word) : Option Nat :=
  match mqCmd d with
  | 0 => if mqBScaled d then some (mqFmtB d) else none
  | 1 => if mqAScaled d then some (mqFmtA d) else none
  | 2 => none
  | _ => if mqOutScaled d then some (mqFmtOut d) else none

/-! ### Lines -/

/-- Who a tile port is. -/
def State.tileWho (s : State) (c t port : Nat) (d : List Word) : Who where
  a := .tile c t port
  o := .cluster c
  c := c
  p := (s.cluster c).part.getD 31
  cls := some (mqClass d)

/-- A line whose data the spec leaves open. -/
def freeLineAt (n : Nat) : Line :=
  BitVec.ofNat 512 (packNat ((upTo 8).map fun i => (64 * i, (Config.freeWord (n + i)).toNat)))
def State.freeLine (s : State) : State × Line := ({ s with free := s.free + 8 }, freeLineAt s.free)

/-- TILE_BAD_STREAM (07 R225, R234). -/
def State.badStream (s : State) (c t : Nat) (k : TileCmd) : State :=
  s.log [pack [(56, 0x22), (50, c), (48, t), (42, k.ticket % 64), (40, mqCmd k.desc),
    (35, (s.cluster c).part.getD 31), (0, 1)]]

/-- An entry stopped before it started must still discard its stream lines (10 R351). -/
def QEntry.owesDrop (x : QEntry) : Bool :=
  !x.dropped && !x.started && mqValid x.desc && (match x.compl with | some v => v.1 == 8 || v.1 == 9 | none => false)

/-- Lines that an earlier entry of the same engine must discard stand before a command's own (10 R351). -/
def State.behindDrops (s : State) (c t : Nat) (e : TileEngine) (ticket : Nat) : Bool :=
  (((s.cluster c).queue t).entries.takeWhile fun x => x.ticket != ticket).any fun x =>
    engineOf (mqCmd x.desc) == e && x.owesDrop

/-- Request the lines that the stream holds and the ports may have in flight (07 R234, R236). -/
def State.askTile (s : State) (c t : Nat) (e : TileEngine) : Nat → State
  | 0 => s
  | fuel + 1 =>
    let ti := s.tile c t
    match ti.eng e with
    | none => s
    | some k =>
      let q := ti.str (streamOf e)
      if k.need ≤ k.asked || q.drops != [] || mqCmd k.desc == 3 || s.behindDrops c t e k.ticket
          || decide (16 ≤ (k.out.filter fun r => r.space == 0).length)
          || decide (1024 ≤ (k.out.filter fun r => r.space == 1).length) then s
      else
        match q.take k.asked false (mqScaledFmt k.desc) with
        | none => s
        | some (r, _, q1) =>
          let q2 := if k.asked + 1 = k.need then q1.endCmd else q1
          if r.bad then
            let f := s.freeLine
            let k1 := { k with asked := k.asked + 1, poison := true, got := Tab.put k.got k.asked { data := f.2, poison := true } }
            let s1 := f.1.setTile c t ((ti.setStr (streamOf e) q2).setEng e (some k1))
            (if q.used = 0 || k.asked = 0 then s1.badStream c t k else s1).askTile c t e fuel
          else
            let k1 := { k with asked := k.asked + 1, out := k.out ++ [r] }
            (s.setTile c t ((ti.setStr (streamOf e) q2).setEng e (some k1))).askTile c t e fuel

/-- The lines that hold the scale bytes of a request's stream entry (07 R240). -/
def LineReq.scaleLines (r : LineReq) : List Nat :=
  match r.scale with
  | none => []
  | some q =>
    let lo := q.1 - q.2 * (r.ord - r.first)
    (upTo ((lo + q.2 * r.count - 1) / 64 + 1 - lo / 64)).map fun i => 64 * (lo / 64 + i)

/-- A line's own scale line among those of its entry. -/
def LineReq.scaleOf (r : LineReq) (rs : List (Nat × Line)) : Option (Nat × Line) :=
  match r.scale, r.scaleLines with
  | some q, a :: _ => rs[(q.1 - a) / 64]?
  | _, _ => none

/-- A requested line arrives, the first of a scaled stream entry with the entry's scale lines, which the port reads once;
nothing happens while it must wait (07 R236, R237, R240). -/
def State.tileLine (s : State) (c t : Nat) (e : TileEngine) (k : Nat) : State :=
  let ti := s.tile c t
  match ti.eng e with
  | none => s
  | some m =>
    match m.out[k]? with
    | none => s
    | some r =>
      let w := s.tileWho c t (streamOf e) m.desc
      let old := Tab.find m.scl r.first
      let xs : List Place2 := ⟨r.space, r.addr⟩ :: (if old.isSome then [] else r.scaleLines.map fun a => ⟨r.space, a⟩)
      let f := s.fetchLines w xs
      match f.2 with
      | none => f.1
      | some rs =>
        let d := rs.headD (0, 0)
        let sls := old.getD (rs.drop 1)
        let sc := r.scaleOf sls
        let bad := d.1 != 0 || (match sc with | some x => x.1 != 0 | none => false)
        let fl := f.1.freeLine
        let data := if d.1 = 0 then d.2 else fl.2
        let scale := match r.scale, sc with
          | some q, some x => (upTo q.2).map fun i => lineByte x.2 (q.1 % 64 + i)
          | _, _ => []
        let m1 := { m with
          out := m.out.eraseIdx k
          got := Tab.put m.got r.ord { data := data, scale := scale, poison := bad }
          scl := if r.scale.isSome then Tab.put m.scl r.first sls else m.scl
          poison := m.poison || bad }
        (if d.1 = 0 then f.1 else fl.1).modTile c t fun x => x.setEng e (some m1)

/-! ### What the array computes (07 R241 to R243) -/

/-- The exact sum of the products of `n` elements from `lo` on, of which those from `hi` on count as zero. -/
def groupSum (fa fb : Nat) (a b : Line) (lo hi n : Nat) : FV :=
  dotSum fa (((upTo (hi - lo)).map fun i =>
    fvMul (decodeElem fa (elemCode fa a (lo + i))) (decodeElem fb (elemCode fb b (lo + i))))
      ++ (if hi < lo + n then [.fin false 0 0] else []))

/-- Add the contributions of one chunk to an accumulator element; `lim` is where valid K indices end. -/
def chunkAdd (fa fb : Nat) (a b : TLine) (lim : Nat) (acc : W32) : W32 :=
  if fa ≤ 4 then
    (upTo (kLine fa / 32)).foldl (fun acc g =>
      if lim ≤ 32 * g then acc
      else
        let sa := a.scale.getD g 127
        let sb := b.scale.getD g 127
        let v := if sa = 255 || sb = 255 then .nan
          else fvScale ((sa : Int) + sb - 254) (groupSum fa fb a.data b.data (32 * g) (min lim (32 * g + 32)) 32)
        add32 acc (toF32 v)) acc
  else if fa ≤ 6 then
    (upTo 2).foldl (fun acc g =>
      if lim ≤ 16 * g then acc
      else add32 acc (toF32 (groupSum fa fb a.data b.data (16 * g) (min lim (16 * g + 16)) 16))) acc
  else
    (upTo lim).foldl (fun acc i =>
      fma32 (BitVec.ofNat 32 (elemCode 7 a.data i)) (BitVec.ofNat 32 (elemCode 7 b.data i)) acc) acc

/-- Set bit `n` of a mask when `c`. -/
def orBit (v : BitVec 128) (n : Nat) (c : Bool) : BitVec 128 := if c then v ||| BitVec.ofNat 128 (2 ^ n) else v

/-- An MMA's effect on its buffer once its A lines are there. -/
def mmaRun (d : List Word) (p : PanelBuf) (got : Tab TLine) (cb : CBuf) : CBuf :=
  let rows := mqRows d
  let aline (ch m : Nat) : TLine := Tab.get { data := 0 } got (ch * rows + m)
  let bline (ch n : Nat) : TLine := p.lines.getD (n * p.k + ch) { data := 0 }
  let lim (ch : Nat) : Nat := if ch + 1 = p.k then mqTail d else kLine (mqFmtA d)
  { el := (upTo rows).foldl (fun t m => (upTo p.n).foldl (fun t n =>
      Tab.set 0 t (128 * m + n) ((upTo p.k).foldl (fun acc ch =>
        chunkAdd (mqFmtA d) p.fmt (aline ch m) (bline ch n) (lim ch) acc) (Tab.get 0 t (128 * m + n)))) t) cb.el
    rowP := (upTo rows).foldl (fun v m => orBit v m ((upTo p.k).any fun ch => (aline ch m).poison)) cb.rowP
    colP := (upTo p.n).foldl (fun v n => orBit v n (p.colPoison.getLsbD n)) cb.colP }

/-- A CLOAD's effect (07 R246). -/
def cloadRun (d : List Word) (got : Tab TLine) (cb : CBuf) : CBuf :=
  let k := mqFmtC d
  let l := kLine k
  let per := (mqCols d + l - 1) / l
  { cb with
    el := (upTo (mqRows d)).foldl (fun t m => (upTo (mqCols d)).foldl (fun t n =>
      let ln : TLine := Tab.get { data := 0 } got (m * per + n / l)
      Tab.set 0 t (128 * m + n) (widen k (elemCode k ln.data (n % l)))) t) cb.el
    rowP := (upTo (mqRows d)).foldl (fun v m =>
      orBit v m ((upTo per).any fun i => (Tab.get { data := 0 } got (m * per + i)).poison)) cb.rowP }

/-- Some element of the first `rows` rows and `cols` columns is poisoned (07 R244). -/
def CBuf.anyPoison (cb : CBuf) (rows cols : Nat) : Bool :=
  ((upTo rows).any fun m => cb.rowP.getLsbD m) || ((upTo cols).any fun n => cb.colP.getLsbD n)

/-! ### What STORE writes (07 R247 to R252) -/

/-- Which element of the buffer each position of output line `i` holds. -/
def storeElems (d : List Word) (i : Nat) : List (Option (Nat × Nat)) :=
  let l := kLine (mqFmtOut d)
  let rows := mqRows d
  let cols := mqCols d
  (upTo l).map fun j =>
    match mqLayout d with
    | 0 =>
      let per := (cols + l - 1) / l
      let n := i % per * l + j
      if n < cols then some (i / per, n) else none
    | 1 =>
      let n := i / rows * l + j
      if n < cols then some (i % rows, n) else none
    | _ =>
      let kc := (rows + l - 1) / l
      let kp := i / (4 * cols)
      let pk := min 4 (kc - 4 * kp)
      let w := i - 4 * cols * kp
      let m := (4 * kp + w % pk) * l + j
      if m < rows then some (m, w / pk) else none

/-- The canonical NaN code of a format, or code 0 where it has none (07 R251; 06 R218). -/
def nanCode (k : Nat) : Nat := if k = 4 then 0 else if (fmtOf k).nan? then (fmtOf k).nanc else 0

/-- Give the valid positions of a line their draws, in ascending order. -/
def spread : List Bool → List Nat → List Nat
  | [], _ => []
  | true :: vs, d :: ds => d :: spread vs ds
  | _ :: vs, ds => 0 :: spread vs ds

/-- One converted line and the rounding source after it. -/
def storeLine (d : List Word) (cb : CBuf) (src : Word) (i : Nat) : OutLine × Word :=
  let k := mqFmtOut d
  let es := storeElems d i
  let valid := es.map Option.isSome
  let n := (valid.filter id).length
  let dr := if mqRnd d = 1 then drawsFor n src else ([], src)
  let draws := spread valid dr.1
  let xs : List W32 := es.map fun e => match e with | some p => Tab.get 0 cb.el (128 * p.1 + p.2) | none => 0
  let pois := es.map fun e => match e with | some p => cb.rowP.getLsbD p.1 || cb.colP.getLsbD p.2 | none => false
  let scales := if mqOutScaled d then
      (upTo (kLine k / 32)).map fun b => chooseScale k ((xs.drop (32 * b)).take 32) else []
  let codes := (upTo es.length).map fun j =>
    if valid.getD j false then
      let r := rndOf (mqRnd d) (draws.getD j 0)
      if mqOutScaled d then encodeScaled k (scales.getD (j / 32) 127) r (xs.getD j 0)
      else encodeElem k r (f32 (xs.getD j 0))
    else 0
  let bytes := if mqLayout d = 0 then n * fmtBits k / 8 else 64
  ({ data := lineOfElems k codes, mask := BitVec.ofNat 64 (2 ^ bytes - 1), scales := scales, pois := pois }, dr.2)

/-- The line as it goes to cluster SRAM: poisoned elements become NaN or 0. -/
def OutLine.clean (l : OutLine) (k : Nat) : Line :=
  l.pois.zipIdx.foldl (fun d pi => if pi.1 then setElem k d pi.2 (nanCode k) else d) l.data

/-- Bytes of a line from byte `at_` on, with their mask. -/
def bytesAt (at_ : Nat) (bs : List Nat) : Line × BitVec 64 :=
  (BitVec.ofNat 512 (packNat (bs.zipIdx.map fun b => (8 * (at_ + b.2), b.1))),
    BitVec.ofNat 64 ((2 ^ bs.length - 1) * 2 ^ at_))

/-- What completes a page after data column `c` (07 R250; 06 R208). -/
def closePage (x : Place2) (k : Nat) : List LineW :=
  let base := x.addr / 4096 * 4096
  let d0 := x.addr % 4096 / 64 + 1
  let dn := pageD k
  let b := scaleB k
  let cols := (upTo (dn - d0)).map fun i => ({ x := ⟨x.space, base + 64 * (d0 + i)⟩, data := 0 } : LineW)
  let first := 64 * dn + b * d0
  let tail := (upTo (64 - dn)).map fun i =>
    let lo := max first (64 * (dn + i))
    let bs := (upTo (64 * (dn + i) + 64 - lo)).map fun j => if lo + j < 64 * dn + b * dn then 127 else 0
    let v := bytesAt (lo % 64) bs
    ({ x := ⟨x.space, base + 64 * (dn + i)⟩, data := v.1, mask := v.2 } : LineW)
  cols ++ tail.filter fun w => w.mask != 0

/-- The data columns that closing a page writes. -/
def closeCols (x : Place2) (k : Nat) : Nat := pageD k - (x.addr % 4096 / 64 + 1)

/-- One masked write of scale bytes from byte address `lo` on. -/
def scaleWrites (space lo : Nat) (bs : List Nat) : List LineW :=
  if bs = [] then []
  else (upTo ((lo + bs.length - 1) / 64 + 1 - lo / 64)).map fun i =>
    let a := max lo (64 * (lo / 64 + i))
    let z := min (lo + bs.length) (64 * (lo / 64 + i) + 64)
    let v := bytesAt (a % 64) ((bs.drop (a - lo)).take (z - a))
    { x := ⟨space, 64 * (lo / 64 + i)⟩, data := v.1, mask := v.2 }

/-- The writes of one output line at its place; with the last line of its stream entry go the scale bytes `sb` of the
entry's lines, as one write (07 R249 to R251). -/
def lineWrites (d : List Word) (r : LineReq) (l : OutLine) (sb : List Nat) (ends closes : Bool) : List LineW :=
  let k := mqFmtOut d
  let x : Place2 := ⟨r.space, r.addr⟩
  let bad := l.pois.any id
  let main : LineW := { x := x, data := if r.space = 0 then l.clean k else l.data, mask := l.mask, poison := bad && r.space == 1 }
  let sc : List LineW := match r.scale with
    | some q => if ends then scaleWrites r.space (q.1 - q.2 * (r.ord - r.first)) sb else []
    | none => []
  main :: sc ++ (if closes then closePage x k else [])

/-- The tile's store-path rounding source, seeded at its first use (06 R215, R216). -/
def State.tileSource (s : State) (c t : Nat) : State × Word :=
  match (s.tile c t).rnd with
  | some v => (s, v)
  | none =>
    let r := s.sourceSeed 0x5000 (0x4000 + tileNo c t)
    (r.1.modTile c t fun x => { x with rnd := some r.2 }, r.2)

/-- Convert and write the lines of a STORE one by one as their stream entries come, until one must wait (07 R247 to
R252). -/
def State.pumpStore (s : State) (c t : Nat) : Nat → State
  | 0 => s
  | fuel + 1 =>
    let ti := s.tile c t
    match ti.engC with
    | none => s
    | some k =>
      if mqCmd k.desc != 3 || k.need ≤ k.asked || ti.strC.drops != [] || s.behindDrops c t .cEngine k.ticket then s
      else
        match ti.strC.take k.asked true (mqScaledFmt k.desc) with
        | none => s
        | some (r, last, q1) =>
          let final := k.asked + 1 == k.need
          let ends := last || final
          let src := if mqRnd k.desc = 1 then s.tileSource c t else (s, 0)
          let o := storeLine k.desc (Tab.get {} ti.cbuf (mqCbuf k.desc)) src.2 k.asked
          let rnd := if mqRnd k.desc = 1 then some o.2 else ti.rnd
          let sb := k.sbuf ++ o.1.scales
          let k1 := { k with
            asked := k.asked + 1
            sbuf := if ends then [] else sb
            poison := k.poison || r.bad || o.1.pois.any id }
          let put (x : Tile) (k : TileCmd) : Tile := { x with
            strC := if final then q1.endCmd else q1
            rnd := rnd
            engC := some k }
          if r.bad then
            let s1 := src.1.modTile c t fun x => put x k1
            (if ti.strC.used = 0 || k.asked = 0 then s1.badStream c t k else s1).pumpStore c t fuel
          else
            let closes := r.close && mqOutScaled k.desc && ends
            let f := src.1.storeLines (s.tileWho c t 2 k.desc) (lineWrites k.desc r o.1 sb ends closes)
            match f.2 with
            | none => f.1
            | some sts =>
              let k2 := { k1 with wfail := k1.wfail || sts.any (· != 0) }
              let n := 1 + (if closes then closeCols ⟨r.space, r.addr⟩ (mqFmtOut k.desc) else 0)
              ((f.1.modTile c t fun x => put x k2).bump (0x5100 + tileNo c t) 4 n).pumpStore c t fuel

/-! ### Work -/

/-- Do the work of a command whose lines are all there (07 R231, R245). -/
def State.tileWork (s : State) (c t : Nat) (e : TileEngine) : State :=
  let ti := s.tile c t
  match ti.eng e with
  | none => s
  | some k =>
    if k.done then s
    else
      let d := k.desc
      let cb := Tab.get {} ti.cbuf (mqCbuf d)
      match mqCmd d with
      | 3 => if k.need ≤ k.asked then s.modTile c t fun x => x.setEng e (some { k with done := true }) else s
      | cmd =>
        if k.got.length < k.need then s
        else
          match cmd with
          | 0 =>
            let lines := (upTo k.need).map fun i => Tab.get { data := 0 } k.got i
            let col := (upTo (mqPanelN d)).foldl (fun v n =>
              orBit v n ((upTo (mqPanelK d)).any fun ch => (lines.getD (n * mqPanelK d + ch) { data := 0 }).poison)) 0
            let p : PanelBuf := {
              k := mqPanelK d, n := mqPanelN d, fmt := mqFmtB d, scaled := mqBScaled d, lines := lines, colPoison := col }
            s.setTile c t ({ ti with pbuf := Tab.set {} ti.pbuf (mqPbuf d) p }.setEng e (some { k with done := true }))
          | 1 =>
            let p := Tab.get {} ti.pbuf (mqPbuf d)
            let cb1 := mmaRun d p k.got cb
            let cyc := p.k * max ((if mqFmtA d = 7 then 2 else 1) * mqRows d) 8
            (s.setTile c t ({ ti with cbuf := Tab.set {} ti.cbuf (mqCbuf d) cb1 }.setEng e
              (some { k with done := true, poison := k.poison || cb1.anyPoison (mqRows d) p.n }))).bump
              (0x5100 + tileNo c t) 1 cyc
          | _ =>
            let cb1 := cloadRun d k.got cb
            s.setTile c t ({ ti with cbuf := Tab.set {} ti.cbuf (mqCbuf d) cb1 }.setEng e
              (some { k with done := true, poison := k.poison || cb1.anyPoison (mqRows d) (mqCols d) }))

/-- A core that waits on a stream of the tile issues its SPUSH again once the stream has room (10 R355). -/
def State.freeStreams (s : State) (c t : Nat) : State :=
  (upTo 3).foldl (fun s i => if ((s.tile c t).str i).ents.length < 32 then s.releaseStream c t i else s) s

/-- Discard the lines of an entry that was stopped before it took them (10 R351). -/
def State.dropEntry (s : State) (c t : Nat) (x : QEntry) : State :=
  if x.owesDrop then
    let str := streamOf (engineOf (mqCmd x.desc))
    let n := x.lines.getD ((s.tile c t).linesOf x.desc)
    let s1 := s.modTile c t fun ti => ti.setStr str ((ti.str str).addDrop n)
    s1.modEntry c t x.ticket fun v => { v with dropped := true }
  else s

/-- The number of an entry's stream lines is known: for an MMA, no earlier PANEL into its buffer has still to start. -/
def State.linesKnown (s : State) (c t : Nat) (x : QEntry) : Bool :=
  mqCmd x.desc != 1 || x.lines.isSome ||
    !((((s.cluster c).queue t).entries.takeWhile fun y => y.ticket != x.ticket).any fun y =>
      mqCmd y.desc == 0 && mqPbuf y.desc == mqPbuf x.desc && !y.started && y.compl.isNone)

/-- Discard the lines of stopped entries of an engine whose turn at the stream has come, every earlier entry of the engine
having taken or discarded its own (10 R351, R356). -/
def State.settleDrops (s : State) (c t : Nat) (e : TileEngine) : List QEntry → State
  | [] => s
  | x :: xs =>
    if engineOf (mqCmd x.desc) ≠ e then s.settleDrops c t e xs
    else if x.started then
      match (s.tile c t).eng e with
      | some k => if k.ticket = x.ticket && decide (k.asked < k.need) then s else s.settleDrops c t e xs
      | none => s.settleDrops c t e xs
    else if x.compl.isNone || !s.linesKnown c t x then s
    else (s.dropEntry c t x).settleDrops c t e xs

/-- What the stopped entries of a tile's queue have to discard goes off its three streams. -/
def State.settleTile (s : State) (c t : Nat) : State :=
  ([.array, .panelLoader, .cEngine].foldl
    (fun s e => s.settleDrops c t e ((s.cluster c).queue t).entries) s).freeStreams c t

/-- Let a tile's engine go on as far as its stream and the memory allow. -/
def State.pumpTile (s : State) (c t : Nat) (e : TileEngine) : State :=
  ((((s.settleTile c t).askTile c t e 512).pumpStore c t (if e = .cEngine then 1024 else 0)).tileWork c t e).settleTile c t

/-! ### Starting a command (07 R230) -/

/-- An entry's work is done: it has completed, or its engine is through with it. -/
def State.mqDone (s : State) (c t : Nat) (x : QEntry) : Bool :=
  x.compl.isSome || (x.started && match (s.tile c t).eng (engineOf (mqCmd x.desc)) with
    | some k => k.ticket == x.ticket && k.done
    | none => false)

/-- An earlier entry that conflicts with `e` and has not passed its point. -/
def State.mqConflict (s : State) (c t : Nat) (e x : QEntry) : Bool :=
  let d := e.desc
  let f := x.desc
  match mqCmd d, mqCmd f with
  | 0, 1 => mqPbuf f == mqPbuf d && !s.mqDone c t x
  | 1, 0 => mqPbuf f == mqPbuf d && !s.mqDone c t x
  | 1, 2 => mqCbuf f == mqCbuf d && x.compl.isNone
  | 1, 3 => mqCbuf f == mqCbuf d && x.compl.isNone
  | 2, 1 => mqCbuf f == mqCbuf d && !s.mqDone c t x
  | 3, 1 => mqCbuf f == mqCbuf d && !s.mqDone c t x
  | _, _ => false

/-- A PANEL is about to replace the panel of its buffer: the stopped MMAs before it keep the number of lines that the
panel gave them (10 R351). -/
def State.fixLines (s : State) (c t ticket pbuf : Nat) : State :=
  let n (x : QEntry) : Nat := (s.tile c t).linesOf x.desc
  let before := ((s.cluster c).queue t).entries.takeWhile fun y => y.ticket != ticket
  (before.filter fun x => x.owesDrop && mqCmd x.desc == 1 && mqPbuf x.desc == pbuf && x.lines.isNone).foldl
    (fun s x => s.modEntry c t x.ticket fun v => { v with lines := some (n x) }) s

/-- The entry that an engine starts next. -/
def State.nextFor (s : State) (c t : Nat) (e : TileEngine) : Option QEntry :=
  ((s.cluster c).queue t).entries.find? fun x =>
    engineOf (mqCmd x.desc) == e && !x.started && x.compl.isNone

/-- Start a command: it takes its engine, and an MMA that may not run on its panel completes BAD_DESC. -/
def State.startTile (s : State) (c t cmd : Nat) : State :=
  let e := engineOf cmd
  match s.nextFor c t e with
  | none => s
  | some x =>
    let es := ((s.cluster c).queue t).entries
    let before := es.takeWhile fun y => y.ticket != x.ticket
    if !x.disp || mqCmd x.desc != cmd || ((s.tile c t).eng e).isSome || before.any (s.mqConflict c t x) then s
    else
      let ti := s.tile c t
      let d := x.desc
      if cmd = 1 && !mmaOk d (Tab.get {} ti.pbuf (mqPbuf d)) then (s.complete c t x.ticket 3 0).settleTile c t
      else
        let s2 := (if cmd = 0 then s.fixLines c t x.ticket (mqPbuf d) else s).modEntry c t x.ticket fun v => { v with started := true }
        let base : TileCmd := { ticket := x.ticket, desc := d, need := ti.linesOf d }
        match cmd with
        | 0 =>
          let p : PanelBuf := {
            k := mqPanelK d, n := mqPanelN d, fmt := mqFmtB d, scaled := mqBScaled d, lines := [], usable := false }
          (s2.setTile c t ({ ti with pbuf := Tab.set {} ti.pbuf (mqPbuf d) p }.setEng e (some base))).pumpTile c t e
        | 1 =>
          let ti1 := if mqClr d then { ti with cbuf := Tab.set {} ti.cbuf (mqCbuf d) {} } else ti
          (s2.setTile c t (ti1.setEng e (some base))).pumpTile c t e
        | _ => (s2.setTile c t (ti.setEng e (some base))).pumpTile c t e

/-! ### Abort (07 R232; 10 R359) -/

/-- A buffer whose contents the spec leaves open, every row poisoned; the column poison bits stay (07 R232, R245). -/
def CBuf.open_ (free : Nat) (colP : BitVec 128) : CBuf :=
  { el := (upTo 16384).foldl (fun t i => Tab.set 0 t i (Config.freeW32 (free + i))) []
    rowP := BitVec.allOnes 128, colP := colP }

/-- Stop a command that has started: it issues nothing more, and its remaining lines are discarded. -/
def State.stopTile (s : State) (c t : Nat) (e : TileEngine) : State :=
  let ti := s.tile c t
  match ti.eng e with
  | none => s
  | some k =>
    let str := streamOf e
    let ti1 := (ti.setEng e none).setStr str ((ti.str str).addDrop (k.need - k.asked))
    match mqCmd k.desc with
    | 0 =>
      let p := Tab.get {} ti.pbuf (mqPbuf k.desc)
      let n := mqPanelK k.desc * mqPanelN k.desc
      let lines := (upTo n).map fun i => ({ data := freeLineAt (s.free + 8 * i) } : TLine)
      let p1 : PanelBuf := if k.done then p else {
        k := mqPanelK k.desc, n := mqPanelN k.desc, fmt := mqFmtB k.desc, scaled := mqBScaled k.desc, lines := lines }
      { (s.setTile c t { ti1 with pbuf := Tab.set {} ti1.pbuf (mqPbuf k.desc) p1 }) with free := s.free + 8 * n }
    | 3 => s.setTile c t ti1
    | _ =>
      let cb := CBuf.open_ s.free (Tab.get {} ti1.cbuf (mqCbuf k.desc)).colP
      { (s.setTile c t { ti1 with cbuf := Tab.set {} ti1.cbuf (mqCbuf k.desc) cb }) with free := s.free + 16384 }

/-! ### Commands -/

/-- The cluster's engines run: the main rails are on and the cluster is assigned (10 R329; 01 R37). -/
def State.clusterOn (s : State) (c : Nat) : Bool := s.power.main && (s.cluster c).part.isSome

def State.tileCmd (s : State) (c t cmd : Nat) : Out :=
  ifUnit s (decide (c < 48) && decide (t < 4) && s.tilePresent (tileNo c t))
    (when' (s.clusterOn c) s (s.startTile c t cmd))

/-- PANEL (07 R228): start loading a panel. -/
def execPanel (c tile : Nat) (s : State) : Out := s.tileCmd c tile 0
/-- MMA (07 R241): start multiplying. -/
def execMma (c tile : Nat) (s : State) : Out := s.tileCmd c tile 1
/-- CLOAD (07 R246): start loading accumulator rows. -/
def execCload (c tile : Nat) (s : State) : Out := s.tileCmd c tile 2
/-- STORE (07 R247): start converting and writing out. -/
def execStore (c tile : Nat) (s : State) : Out := s.tileCmd c tile 3

/-- The status a finished tile command completes with (10 R344). -/
def TileCmd.status (k : TileCmd) (wfail : Bool) : Nat := if k.wfail || wfail then 5 else if k.poison then 1 else 0

/-- The status with which a stopped entry will complete (10 R359). -/
def State.abortStatus (s : State) (c q ticket : Nat) : Option Nat := (s.entry c q ticket).bind QEntry.aborting

/-- Complete a tile command (07 R231, R255). The spec does not say whether a STORE with CLR_AFTER that is aborted clears
its buffer; it does not (DESIGN CHOICE, log entry 127). -/
def State.completeTile (s : State) (c t : Nat) (e : TileEngine) : State :=
  let s0 := s.pumpTile c t e
  let ti := s0.tile c t
  match ti.eng e with
  | none => s0
  | some k =>
    if !k.done || !(mqCmd k.desc != 3 || s0.settled (.tile c t 2)) then s0
    else
      let f := s0.takeFail (.tile c t 2)
      let st := k.status (mqCmd k.desc == 3 && f.2)
      let ab := s0.abortStatus c t k.ticket
      let ti1 := if mqCmd k.desc = 3 && mqClrAfter k.desc && ab.isNone then { ti with cbuf := Tab.set {} ti.cbuf (mqCbuf k.desc) {} } else ti
      let s1 := ((if mqCmd k.desc = 3 then f.1 else s0).setTile c t (ti1.setEng e none)).complete c t k.ticket (ab.getD st) 0
      if ab.getD st = 1 then s1.bump (0x5100 + tileNo c t) 5 1 32 else s1

/-- TILE_CMD_COMPLETE (07 R231). -/
def execTileCmdComplete (c tile : Nat) (eng : TileEngine) (s : State) : Out :=
  ifUnit s (decide (c < 48) && decide (tile < 4) && s.tilePresent (tileNo c tile))
    (when' (s.clusterOn c) s (s.completeTile c tile eng))

end Sys2Proof.Machine
end

