-- ==== Sys2Proof/Machine/Finish.lean ====
section
/-! DEFINITION. What the completion of a request does at its requester, requests of this module to a home here,
migration, and invalidation rounds that end (10 R354; 12 R427; 13 R450, R454, R461 to R470). -/

namespace Sys2Proof.Machine

/-- What a requester is answered: memory or fabric status (0 for COMPLETION), data, poison mask, old word, and
the position of a REDIRECT. -/
structure Reply where
  status : Nat := 0
  lines  : List Line := []
  mask   : Nat := 0
  old    : Word := 0
  redirect : Option Word := none
  deriving DecidableEq, Repr

/-! ### Owners of requests -/

/-- Whether a request may be sent again under a new entry: those that a placement entry translated. -/
def ReqSrc.translated : ReqSrc → Bool
  | .fq .. => true
  | .host .. => true
  | .line .. => true
  | .wline .. => true
  | .fill .. => true
  | _ => false

/-! ### FQ operations (10 R354) -/

def State.modFq (s : State) (c ticket : Nat) (f : FqOp → FqOp) : State :=
  s.modCluster c fun k => { k with fq := k.fq.map fun o => if o.ticket = ticket then f o else o }

/-- A part of an FQ operation is answered: its lines, its first error, its poison. -/
def FqOp.answer (o : FqOp) (first : Nat) (n : Nat) (free : Line) (r : Reply) : FqOp :=
  let op := Word.bits (jobWord o.desc 0) 55 52
  let st := if r.status = 0 && r.mask ≠ 0 then 4 else r.status
  let o1 := { o with
    out := o.out.filter (· != first)
    err := if st = 0 then o.err else some (o.err.getD st) }
  match op with
  | 0 => { o1 with
      poison := o.poison || st != 0
      got := o.got ++ (upTo n).map fun i =>
        if r.status = 0 && !r.mask.testBit i then (first + i, r.lines.getD i 0, false) else (first + i, free, true) }
  | 3 => { o1 with
      wfail := o.wfail || st != 0
      got := if st = 0 then [(0, BitVec.ofNat 512 r.old.toNat, false)] else [] }
  | _ => { o1 with wfail := o.wfail || st != 0 }

/-! ### Invalidation rounds (13 R462) -/

/-- A write of this module's own has its invalidations answered. -/
inductive Waiter where
  | frame (n : Nat) (f : Frame) (status : Nat) (old : Word)
  | host (n dpa status : Nat)
  | own (src : ReqSrc) (f : Frame) (status : Nat) (old : Word)
  deriving DecidableEq, Repr

def InvRound.waiters (r : InvRound) : List Waiter :=
  (r.writes.map fun w => .frame w.1 w.2.1 w.2.2.1 w.2.2.2) ++ (r.hosts.map fun h => .host h.1 h.2.1 h.2.2)
    ++ (r.owns.map fun o => .own o.1 o.2.1 o.2.2.1 o.2.2.2)

/-! ### Migration (13 R465 to R470) -/

def State.mig (s : State) (p : Nat) : Option Mig := Tab.find s.place.migs p
def State.setMig (s : State) (p : Nat) (m : Mig) : State :=
  { s with place := { s.place with migs := Tab.put s.place.migs p m } }
def State.endMig (s : State) (p st : Nat) : State :=
  ({ s with place := { s.place with migs := Tab.erase s.place.migs p } }).setCtr (0x2600 + p) 0xB st

/-- The migration is abandoned: the record returns to OWNED with its epoch (R470). Reasons: 1 claim refused,
2 copy failed, 3 freeze limit. -/
def State.abandonMig (s : State) (p reason : Nat) : State :=
  match s.mig p with
  | none => s
  | some m =>
    let s1 := s.setHomeRec m.loff { s.homeRec m.loff with st := 1 }
    (s1.endMig p 5).log [pack [(56, 0x92), (52, p), (48, reason)], BitVec.ofNat 64 (m.loaf * 2 ^ 21),
      s.odVal (0x2600 + p) 9]

/-- The domain member that receives CLAIM and PUBLISH at the new home. -/
def State.migReceiver (s : State) (p : Nat) (m : Mig) : Nat :=
  (((s.domainMembers p).find? fun x => x.2 == m.tpos).map Prod.fst).getD 0

/-- A PLACEMENT_UPDATE of a migration to a member (R467). -/
def State.updateFrame (s : State) (p : Nat) (m : Mig) (kind part pos : Nat) : Frame :=
  let r := s.homeRec m.loff
  let w := s.entryOf p m.loaf
  s.mkReq 9 0 0 pos 0x3F false 0 0 (fabAddr 1 m.tpos (m.tloff * 2 ^ 21))
    (pack [(60, kind), (56, part), (48, m.epoch % 256), (47, (entWr w).toNat), (46, r.replicable.toNat),
      (45, r.live.toNat), (0, m.loaf)]) 0 []

/-- Step 3: 512 WRITE frames of 64 lines at class 3, read on P7. -/
def State.migCopy (s : State) (p : Nat) (m : Mig) : State :=
  (upTo 512).foldl (fun s i =>
    let r := s.readLines .maint (some 3) (m.loff * 2 ^ 21 + 4096 * i) 64
    let f := r.1.mkReq 2 3 64 m.tpos 0x3F false (m.epoch % 256) 0 (fabAddr 0 m.tpos (m.tloff * 2 ^ 21 + 4096 * i)) 0
      (BitVec.ofNat 64 r.2.mask) r.2.lines
    r.1.sendReq (.copy p) none 0 m.tpos p 0 f) ((s.setMig p { m with step := 3 }).setCtr (0x2600 + p) 0xB 2)

/-- A partition's entry for a loaf points at a home (R466 step 5, R467); a mapped entry keeps its replica. -/
def State.pointLoaf (s : State) (p loaf pos loff epoch : Nat) (wr : Bool) : State :=
  let w := s.entryOf p loaf
  if entSt w = 0 then s
  else
    let repl := if entSt w = 2 then entRepl w else 0
    let v := mkEntry (entSt w) wr false epoch repl pos loff
    let s1 : State := { s with place := { s.place with leaves := Tab.put s.place.leaves (leafKey p loaf) v } }
    s1.pcacheDrop p loaf

/-- Step 5: the record forwards; members here and elsewhere point the loaf at the new home. -/
def State.migForward (s : State) (p : Nat) (m : Mig) : State :=
  let r := s.homeRec m.loff
  let wr := entWr (s.entryOf p m.loaf)
  let frames := ((s.domainMembers p).filter fun x =>
    some x.2 != s.position && !(x.2 == m.tpos && x.1 == s.migReceiver p m)).map fun x => (x.2, s.updateFrame p m 1 x.1 x.2)
  let s1 := s.setHomeRec m.loff { r with st := 4, fwd := true, epoch := m.epoch % 256, fpos := m.tpos, floff := m.tloff }
  let here := p :: ((s.domainMembers p).filter fun x => some x.2 == s.position && x.1 != p).map Prod.fst
  let s2 := here.foldl (fun s q => s.pointLoaf q m.loaf m.tpos m.tloff (m.epoch % 256) wr) s1
  let s3 := (s2.setMig p { m with step := 5 }).setCtr (0x2600 + p) 0xB 3
  frames.foldl (fun s x => s.sendReq (.publish p) none 0 x.1 p 0 x.2) s3

/-- MIG_STATE 4 once every PUBLISH has been answered. -/
def State.migPublished (s : State) (p : Nat) : State :=
  match s.mig p with
  | none => s
  | some m => if m.step = 5 && !s.anyReq (· == .publish p) then s.setCtr (0x2600 + p) 0xB 4 else s

/-- A step of the migration is answered. -/
def State.migReply (s : State) (p : Nat) (step : Nat) (ok : Bool) : State :=
  match s.mig p with
  | none => s
  | some m =>
    if m.step ≠ step then s
    else
      match step with
      | 2 => if ok then s.migCopy p m else s.abandonMig p 1
      | 3 =>
        if !ok then s.abandonMig p 2
        else if s.anyReq (· == .copy p) then s
        else
          (s.setMig p { m with step := 4 }).sendReq (.handover p) none 0 m.tpos p 0
            (s.updateFrame p m 1 (s.migReceiver p m) m.tpos)
      | 4 => if ok then (s.migForward p m).migPublished p else s
      | _ => s.migPublished p

/-! ### Replica fills (13 R461) -/

/-- Lines of a fill arrive. -/
def State.fillReply (s : State) (p loaf off : Nat) (r : Reply) : State :=
  match Tab.find s.place.replicas (leafKey p loaf) with
  | none => s
  | some x =>
    if x.broken || x.usable then s
    else if r.status ≠ 0 || r.mask ≠ 0 then s.dropReplica p loaf
    else
      let lin := s.odNat (0x2600 + p) 4 + 2 ^ 21 * x.slot + 4096 * off
      let w := s.writeLines .maint (some 3) 0 lin 0 r.lines 0
      { w.1 with place := { w.1.place with
          replicas := Tab.put w.1.place.replicas (leafKey p loaf) { x with arrived := x.arrived ++ [off] } } }

/-! ### Completion of a request -/

/-- Answer the requester of a forwarded request with the new home's response (13 R468). A timeout is not sent. -/
def State.forwardReply (s : State) (n : Nat) (f : Frame) (r : Reply) : State :=
  if r.status = 0xE0 then s
  else
    let s1 := if (f.op == 2 || f.op == 3) && f.fq then s.countLines f.srcPos f.cluster f.lines.length else s
    match r.redirect with
    | some a => s1.fabRespond n f 0x12 0 a 0 []
    | none =>
      if r.status = 0 then s1.fabRespond n f 0x10 0 r.old (BitVec.ofNat 64 r.mask) r.lines
      else s1.fabRespond n f 0x11 r.status 0 0 []

/-- A write of an engine has taken effect: the layout engine counts its bytes (09 R326). -/
def State.wroteBytes (s : State) (a : Agent) (n : Nat) : State :=
  match a with
  | .lay c => s.bump (0x5300 + c) 2 n
  | _ => s

/-- What the final answer of a request does, invalidations apart. -/
def State.finalReply (s : State) (src : ReqSrc) (r : Reply) : State :=
  match src with
  | .fq c t first n =>
    let fl := s.freeLine
    fl.1.modFq c t fun o => o.answer first n fl.2 r
  | .host n dpa read _ =>
    let k := (s.winOf n dpa).getD 0
    let st := if r.status = 0 && r.mask ≠ 0 then 4 else r.status
    s.hostDone n dpa k read st (r.lines.headD 0) false .uncached
  | .line a pva =>
    { s with fab := { s.fab with pool := s.fab.pool.map fun l =>
        if l.agent = a && l.pva == pva && !l.wr then
          { l with status := some (if r.status = 0 && r.mask ≠ 0 then 4 else r.status), data := r.lines.headD 0 }
        else l } }
  | .wline a _ n =>
    if r.status = 0 then s.wroteBytes a n
    else { s with fab := { s.fab with fails := s.fab.fails ++ [(a, r.status)] } }
  | .fill p loaf off => s.fillReply p loaf off r
  | .claim p => s.migReply p 2 (r.status == 0)
  | .copy p => s.migReply p 3 (r.status == 0)
  | .handover p => s.migReply p 4 (r.status == 0)
  | .publish p => s.migReply p 5 true
  | .inval _ => s
  | .forward n f => s.forwardReply n f r

/-- Count the lines of an FQ write that a home here answers (11 R383, R384). -/
def State.countOwn (s : State) (src : ReqSrc) (f : Frame) : State :=
  match src with
  | .fq c _ _ _ => if f.op == 2 || f.op == 3 then s.countLines s.pos c f.lines.length else s
  | _ => s

/-- Answer one waiter of a round that has ended. -/
def State.wakeWaiter (s : State) : Waiter → State
  | .frame n f st old => s.finishFrame n f st old
  | .host n dpa st => s.hostDone n dpa ((s.winOf n dpa).getD 0) false st 0 false .uncached
  | .own src f st old => (s.countOwn src f).finalReply src { status := st, old := old }

/-- End the rounds whose invalidations have all been answered (13 R462). -/
def State.endRounds (s : State) : State :=
  let done := s.place.rounds.filter fun r => !s.anyReq (· == .inval r.id)
  let s1 : State := { s with place := { s.place with
    rounds := s.place.rounds.filter fun r => s.anyReq (· == .inval r.id) } }
  done.foldl (fun s r => r.waiters.foldl (fun s w => s.wakeWaiter w) s) s1

/-! ### Requests of this module to a home here (10 R354; 13 R450) -/

/-- The same request towards another place. -/
def State.retarget (s : State) (f : Frame) (pos lin epoch : Nat) : Frame :=
  { s.mkReq f.op f.cls f.nlines pos f.cluster f.fq epoch f.opmod (fabAddr 0 pos lin) f.h5 f.h6 f.lines with
    h3 := f.h3 }

/-- An FQ has a counted signal of another operation to a module that is not acknowledged (11 R387). -/
def State.signalPending (s : State) (c ticket pos : Nat) : Bool :=
  (s.cluster c).fq.any fun o => o.ticket != ticket && fqOp o.desc == 5 && o.out != [] && fqTarget o.desc == pos

/-- A write of an FQ waits for a counted signal to its home. -/
def State.signalWait (s : State) (src : ReqSrc) (f : Frame) (pos : Nat) : Bool :=
  match src with
  | .fq c t _ _ => (f.op == 2 || f.op == 3) && s.signalPending c t pos
  | _ => false

/-- A fill that this module reads at its own home makes a replica too: REPLICA_LIVE is set as for another module's read
(13 R455, R462; log entry 134). -/
def State.fillRead (s : State) (src : ReqSrc) (lin : Nat) (r : HomeRes) : State :=
  let loff := nbits lin 40 21
  match src with
  | .fill .. => if r.status = 0 && (s.homeRec loff).replicable then s.setHomeRec loff { s.homeRec loff with live := true } else s
  | _ => s

/-- Translate a request of this module and send it, hold it, or carry it out here. -/
def State.runOwn (s : State) (src : ReqSrc) (hearth : Option Nat) (part pva : Nat) (f : Frame) : State :=
  let op := frameOp f
  let o := src.origin
  let answer (s : State) (r : Reply) : State := (s.countOwn src f).finalReply src r
  match s.xlate part pva op.isWrite with
  | .bad e => if s.homeAsked part pva op.isWrite then answer s { status := e } else s.finalReply src { status := e }
  | .hold => s.hold (.own src part pva f)
  | .there pos lin epoch =>
    if s.signalWait src f pos then s.hold (.own src part pva f)
    else s.sendReq src hearth 0 pos part pva (s.retarget f pos lin epoch)
  | .here lin =>
    if s.signalWait src f s.pos then s.hold (.own src part pva f)
    else if s.gateAll part o (some f.cls) lin op then (s.snoopAll o lin op).hold (.own src part pva f)
    else
      let r := s.homeRun o (some f.cls) lin op
      let r := (r.1.fillRead src lin r.2, r.2)
      let ok := op.isWrite && (r.2.status == 0 || r.2.status == 4)
      let v := if ok then r.1.invRound lin else (r.1, none)
      match v.2 with
      | some id => v.1.modRound id fun x => { x with owns := x.owns ++ [(src, f, r.2.status, r.2.old)] }
      | none => answer v.1 { status := r.2.status, lines := r.2.lines, mask := r.2.mask, old := r.2.old }

/-- The placement entry has changed since the request was translated (13 R450). -/
def State.entryMoved (s : State) (o : Outst) : Bool :=
  let w := s.entryOf o.part (loafOf o.pva)
  let home := if entLocal w then s.pos else entPos w
  entEpoch w != o.frame.epoch % 256 || home != o.frame.addrPos || entLoff w != o.frame.addrLin / 2 ^ 21

/-- Answer a transmitted request: a STALE answer or a REDIRECT of a translated request reads the entry again. -/
def State.replyTo (s : State) (o : Outst) (r : Reply) : State :=
  if (r.status == 6 || r.redirect.isSome) && o.src.translated then
    if s.entryMoved o then s.runOwn o.src o.hearth o.part o.pva o.frame
    else s.finalReply o.src { status := 6 }
  else s.finalReply o.src r

/-- Carry out what requests that completed at once give. -/
def State.settleN (s : State) : Nat → State
  | 0 => s
  | fuel + 1 =>
    match s.fab.dead with
    | [] => s.endRounds
    | ds =>
      State.settleN (ds.foldl (fun s d => s.finalReply d.1 { status := d.2 })
        { s with fab := { s.fab with dead := [] } }) fuel

def State.settle (s : State) : State := s.settleN 8

/-- A transmitted request leaves the table: its tag goes into quarantine, its credit returns. -/
def State.release (s : State) (o : Outst) : State :=
  let key := spaceKey o.die o.pos
  let t := (Tab.find s.fab.spaces key).getD {}
  { s with
    fab := { s.fab with
      outst := s.fab.outst.filter fun x => x.id != o.id
      spaces := Tab.put s.fab.spaces key { t with quar := t.quar ++ [o.ctr % 65536] } } }

/-- A transmitted request completes (12 R417, R427). -/
def State.completeReq (s : State) (o : Outst) (r : Reply) : State := (((s.release o).replyTo o r).pump).settle

end Sys2Proof.Machine
end

