-- ==== Sys2Proof/Machine/Receive.lean ====
section
/-! DEFINITION. Frames that arrive: acceptance, membership, streams, the replay window, requests at their home,
responses and control frames (12 R403 to R430; 13 R463, R467). -/

namespace Sys2Proof
namespace Frame

/-- A request frame: of SGRP 0 or 1. -/
def isRequest (f : Frame) : Bool := decide (f.sgrp ≤ 1)

/-- The opcodes of each stream group. -/
def opKnown (f : Frame) : Bool :=
  match f.sgrp with
  | 0 => [1, 2, 3, 4, 5, 6, 8, 9].contains f.op
  | 1 => [1, 2, 3, 4, 5, 6].contains f.op
  | 2 => [0x10, 0x11, 0x12].contains f.op
  | _ => f.op == 0x18 || f.op == 0x19 || (decide (0x20 ≤ f.op) && decide (f.op ≤ 0x25))

/-- The number of lines that the opcode allows. -/
def linesOk (f : Frame) : Bool :=
  decide (f.nlines ≤ 64) &&
    match f.op with
    | 1 => decide (1 ≤ f.nlines) && f.lines == []
    | 2 => decide (1 ≤ f.nlines) && f.lines.length == f.nlines
    | 3 => decide (1 ≤ f.nlines) && f.lines.length == f.nlines
    | 0x10 => f.lines.length == f.nlines
    | _ => if 0x20 ≤ f.op && f.op ≤ 0x25 then f.lines.length == f.nlines else f.nlines == 0 && f.lines == []

/-- The RSVD bits of the header that every frame has, and those of OPMOD (R404). -/
def headOk (f : Frame) : Bool :=
  f.ver == 1 && !Word.bit f.h0 48 && Word.bits f.h0 32 20 == 0 && Word.bits f.h1 6 0 == 0 && Word.bits f.h2 61 48 == 0
    && Word.bits f.h3 23 0 == 0 && (f.op == 0x11 || f.status == 0)
    && (match f.op with
      | 3 => f.opmod &&& 0xEC == 0 && f.opmod % 4 != 3
      | 4 => decide (f.opmod ≤ 9)
      | 5 => decide (f.opmod ≤ 1)
      | 6 => decide (f.opmod ≤ 1)
      | _ => f.opmod == 0)

/-- The mask's bits at or beyond LINES are zero (R406). -/
def maskOk (m : Word) (n : Nat) : Bool := decide (m.toNat < 2 ^ n)

/-- A response's ADDRESS, that of its request, has a class of R405. -/
def respAddr (f : Frame) : Bool := f.addrClass == 0 || f.addrClass == 1 || f.h4 == Machine.fabAddr 7 0 0

/-- A response's payload and arguments suit the request it answers (R406). -/
def answers (f q : Frame) : Bool :=
  (f.op == 0x12 || f.h5 == 0 || (f.op == 0x10 && q.op == 4))
    && (if f.op = 0x10 && q.op == 1 then f.lines.length == q.nlines else f.lines == [] && f.h6 == 0)

/-- The arguments keep R406, R463 and R467; the address class suits the opcode (R405). -/
def argsOk (f : Frame) : Bool :=
  match f.op with
  | 1 => f.h5 == 0 && f.h6 == 0 && f.addrClass == 0
  | 2 => f.h5 == 0 && maskOk f.h6 f.nlines && f.addrClass == 0
  | 3 => f.h5 == 0 && maskOk f.h6 f.nlines && f.addrClass == 0
  | 4 => (f.opmod == 2 || f.h6 == 0) && f.addrClass == 0
  | 5 => Word.bits f.h5 31 14 == 0 && Word.bits f.h5 7 6 == 0 && Word.bits f.h6 31 0 == 0 && f.h4 == Machine.fabAddr 7 0 0
  | 6 => Word.bits f.h5 31 14 == 0 && Word.bits f.h5 7 6 == 0 && f.h4 == Machine.fabAddr 7 0 0
  | 8 => Word.bits f.h5 63 60 == 0 && Word.bits f.h5 55 35 == 0 && f.h6 == 0 && f.addrClass == 0
  | 9 => decide (Word.bits f.h5 63 60 ≤ 1) && Word.bits f.h5 44 35 == 0 && f.h6 == 0 && f.addrClass == 1
      && Word.bits f.h4 20 0 == 0
  | 0x10 => maskOk f.h6 f.nlines && f.respAddr
  | 0x11 => f.h5 == 0 && f.h6 == 0 && f.respAddr
  | 0x12 => Word.bits f.h5 63 20 == 0 && f.h6 == 0 && f.respAddr
  | 0x18 => Word.bits f.h5 63 18 == 0 && f.h6 == 0 && f.h4 == Machine.fabAddr 7 0 0
  | 0x19 => Word.bits f.h5 31 0 == 0 && Word.bits f.h6 63 24 == 0 && f.h4 == Machine.fabAddr 7 0 0
  | _ => f.h4 == Machine.fabAddr 7 0 0


/-- The key of a receive stream. -/
def rxKey (pos die sgrp : Nat) : Nat := (pos * 8 + die) * 2 + sgrp
def rx (f : Frame) : Nat := rxKey f.srcPos (f.srcPort / 4) f.sgrp


/-- Bytes of a frame (12 R401). -/
def bytes (f : Frame) : Nat := 82 + 64 * f.lines.length

/-- The opcodes that have a command of their own. -/
def hasRow (f : Frame) : Bool := [1, 2, 3, 4, 5, 6, 8, 9, 0x10, 0x11, 0x12, 0x18, 0x19].contains f.op


end Frame

namespace Machine

/-! ### Acceptance (12 R403, R407) -/

/-- EtherTypes of MAC Control and LLDP, by IEEE 802 (PRESUMED, log entry 122). -/
def etherControl : List (BitVec 16) := [0x8808, 0x88CC]

/-- The port takes a Mizor frame with a correct address, tag and checks. -/
def State.frameOk (s : State) (n : Nat) (f : Frame) : Bool :=
  f.etype.toNat == s.odNat 0x6000 2 && f.dstMac == s.macOf s.pos n && f.tagged && f.vid == s.odNat 0x6000 3
    && f.mcrc == f.crc && f.fcsOk

/-- The frame is free of the faults of R407. -/
def State.frameGood (f : Frame) : Bool :=
  f.opKnown && f.headOk && f.level == levelOf f.srcPos f.dstPos && f.linesOk && f.argsOk

/-- The sender is a member under its own incarnation (R436). -/
def State.fromMember (s : State) (f : Frame) : Bool :=
  match s.member f.srcPos with
  | some w => Word.bits w 51 20 == f.incarnation
  | none => false

/-- NOT_MEMBER: at most once a second and position (R436, R441). -/
def State.notMember (s : State) (n : Nat) (f : Frame) : State :=
  (s.bump 0x6010 7).logLimited 1000000 (0x5300000000 + f.srcPos) fun _ =>
    [pack [(56, 0x53), (51, n), (31, f.srcPos)], pack [(32, f.incarnation)]]

/-! ### Control frames of this module -/

/-- A control frame to a peer position and port (R406): no tag, no stream. -/
def State.control (s : State) (op port pos dstPort : Nat) (a0 a1 : Word) (lines : List Line) : Frame :=
  s.mkFrame [(54, op), (41, lines.length)] port pos dstPort 0x3F false 3 0 0 0 (fabAddr 7 0 0) a0 a1 lines

/-- The path of a die to a peer for control frames. -/
def State.controlPath (s : State) (die pos : Nat) : Option (Nat × Nat) :=
  match (Tab.find s.fab.spaces (spaceKey die pos)).bind (fun t => if t.path0.isSome then t.path0 else t.path1) with
  | some p => some p
  | none => s.choosePath none die pos

/-- Send SEQ_NACK for a stream of a peer out of a port (R422). -/
def State.sendSeqNack (s : State) (n pos dstPort sgrp expect : Nat) : State :=
  if (s.port n).up then
    (s.emit n (s.control 0x18 n pos dstPort (pack [(16, sgrp), (0, expect)]) 0 [])).bump 0x6010 3
  else s

/-- This module's up ports as a mask. -/
def State.portsUp (s : State) : Nat :=
  packNat ((upTo 24).map fun n => (n, if s.ethFitted n && (s.port n).up then 1 else 0))

/-- Send KEEPALIVE from a die to a peer (R430). -/
def State.sendKeepalive (s : State) (die pos : Nat) : State :=
  match s.controlPath die pos with
  | none => s
  | some (port, dport) =>
    let t := (Tab.find s.fab.spaces (spaceKey die pos)).getD {}
    let last (q : Nat) : Nat := if levelOf s.pos pos = 3 then 0 else (q + 65535) % 65536
    s.emit port (s.control 0x19 port pos dport (pack [(48, last t.seq0), (32, last t.seq1)]) (BitVec.ofNat 64 s.portsUp) [])

/-! ### Sequence numbers -/

/-- A serial comparison of sequence numbers: `a` is `b` or ahead of it. -/
def seqFrom (a b : Nat) : Bool := decide ((a + 65536 - b) % 65536 < 32768)

/-- Every stream to a position chooses its path again. -/
def State.repathTo (s : State) (pos : Nat) : State :=
  (upTo s.build.ioDies).foldl (fun s d => (s.repath d pos 0).repath d pos 1) s

/-! ### Requests whose home, target or member this module is -/

/-- A request that is dropped leaves no trace in the replay window: a later copy of it is dropped and counted too. -/
def State.forget (s : State) (f : Frame) : State :=
  match Tab.find s.fab.replay (replayKey f) with
  | none => s
  | some w =>
    let v := { w with seen := w.seen.filter fun e => e.ctr != f.ctr }
    { s with fab := { s.fab with replay := Tab.put s.fab.replay (replayKey f) v } }

/-- Drop a placement update or invalidation of a module outside the domain (13 R452). -/
def State.domainDrop (s : State) (f : Frame) : State := (s.forget f).bump 0x6010 8

/-- REPLICA_INV (13 R462, R463). -/
def State.takeInv (s : State) (n : Nat) (f : Frame) : State :=
  let p := Word.bits f.h5 59 56
  if !s.inDomain p f.srcPos then s.domainDrop f
  else (s.dropReplica p (Word.bits f.h5 34 0)).fabAnswer n f 0

/-- The loaf lies in a region that the partition owns, on a stack that is there. -/
def State.ownsLoaf (s : State) (p loff : Nat) : Bool :=
  match s.regionAt (loff * 2 ^ 21) with
  | some r => r.owner == p && (s.place' false (loff * 2 ^ 21)).isSome
  | none => false

/-- CLAIM (13 R466, R467). -/
def State.takeClaim (s : State) (n : Nat) (f : Frame) : State :=
  let p := Word.bits f.h5 59 56
  let loff := f.addrLin / 2 ^ 21
  let r := s.homeRec loff
  if !s.inDomain p f.srcPos then s.domainDrop f
  else if r.st = 0 && s.ownsLoaf p loff && f.addrPos == s.pos then
    let s1 := s.setHomeRec loff { r with st := 3, epoch := Word.bits f.h5 55 48, fwd := false, fpos := 0, floff := 0 }
    ({ s1 with place := { s1.place with incoming := Tab.put s1.place.incoming loff f.srcPos } }).fabAnswer n f 0
  else s.fabAnswer n f 0xA

/-- The record of the new home becomes OWNED. -/
def State.ownIncoming (s : State) (f : Frame) : State :=
  let loff := f.addrLin / 2 ^ 21
  let s1 := s.setHomeRec loff { s.homeRec loff with
    st := 1, epoch := Word.bits f.h5 55 48, replicable := Word.bit f.h5 46, live := Word.bit f.h5 45 }
  { s1 with place := { s1.place with
      incoming := Tab.erase s1.place.incoming loff, owned := Tab.put s1.place.owned loff s1.crust.time } }

/-- PUBLISH (13 R466, R467): the receiver's table, caches and home record change. -/
def State.takePublish (s : State) (n : Nat) (f : Frame) : State :=
  let p := Word.bits f.h5 59 56
  let loff := f.addrLin / 2 ^ 21
  let r := s.homeRec loff
  let e := Word.bits f.h5 55 48
  if !s.inDomain p f.srcPos then s.domainDrop f
  else
    let here := f.addrPos == s.pos
    if here && !((r.st == 3 || r.st == 1) && r.epoch == e) then s.fabAnswer n f 0xA
    else
      let s1 := if here && r.st == 3 then s.ownIncoming f else s
      (s1.pointLoaf p (Word.bits f.h5 34 0) f.addrPos loff e (Word.bit f.h5 47)).fabAnswer n f 0

/-- The signal of a frame (12 R406). -/
def heldOf (n : Nat) (f : Frame) (time : Nat) : HeldSig where
  tcluster := Word.bits f.h5 13 8
  tflag := Word.bits f.h5 5 0
  set_ := f.opmod % 2 == 1
  value := BitVec.ofNat 32 (Word.bits f.h6 63 32)
  count := if f.op = 6 then Word.bits f.h6 31 0 else 0
  since := time
  reply := some (n, f)
  localFq := none

/-- SIGNAL or COUNTED_SIGNAL at its target (11 R379 to R386). A flag number above 47 names no flag word. -/
def State.takeSignal (s : State) (n : Nat) (f : Frame) : State :=
  let h := heldOf n f s.crust.time
  let k := if 48 ≤ h.tflag then 1 else s.signalCheck h.tcluster (Word.bits f.h5 63 32) none
  if k ≠ 0 then
    (s.signalReject h.tcluster (h.tflag % 64) h.value.toNat f.srcPos f.cluster k h.count
      (Tab.get {} s.arr (arrKey f.srcPos f.cluster)).a).fabAnswer n f 7
  else if f.op = 5 then (s.flagWrite h.tcluster 9 h.tflag h.set_ h.value).fabAnswer n f 0
  else s.takeCounted f.srcPos f.cluster h

/-- An earlier request of the same stream has not taken effect: it is held, or it is a counted signal in its hold slot
(11 R381). -/
def State.streamHeld (s : State) (f : Frame) : Bool :=
  (s.place.held.any fun h =>
    match h with
    | .frame _ g => f.sameStream g
    | _ => false)
  || s.arr.any fun kv =>
    match kv.2.held.bind HeldSig.reply with
    | some (_, g) => f.sameStream g && seqFrom f.seq g.seq
    | none => false

/-- A request frame, presented in its turn. -/
def State.serveAny (s : State) (n : Nat) (f : Frame) : State :=
  match f.op with
  | 5 => if s.streamHeld f then s.hold (.frame n f) else s.takeSignal n f
  | 6 => s.takeSignal n f
  | 8 => s.takeInv n f
  | 9 => if Word.bits f.h5 63 60 = 0 then s.takeClaim n f else s.takePublish n f
  | _ => s.serveFrame n f

/-! ### Held requests -/

/-- Put a held request to its home again. -/
def State.retryReq (s : State) : HeldReq → State
  | .frame n f => s.serveAny n f
  | .hostRead n dpa want => s.serveHostRead n dpa want
  | .hostWrite n dpa d m p => s.serveHostWrite n dpa d m p
  | .own src part pva f =>
    s.runOwn src (match src with | .fq c _ _ _ => some (c / 12) | _ => none) part pva f

/-- The freezing loaf that a held write was there before (13 R466 step 1). -/
def State.earlyOf (s : State) (h : HeldReq) : Option Nat :=
  (s.place.migs.find? fun kv => kv.2.step == 1 && kv.2.early.contains h).map fun kv => kv.2.loff

/-- The state of a home record changes, and nothing else of it. -/
def State.setHomeSt (s : State) (loff st : Nat) : State := s.setHomeRec loff { s.homeRec loff with st := st }

/-- Try a held request again. A write that came before its loaf froze finds the record as it was. -/
def State.retryOne (s : State) (h : HeldReq) : State :=
  match s.earlyOf h with
  | none => s.retryReq h
  | some loff => ((s.setHomeSt loff 1).retryReq h).setHomeSt loff 2

/-! ### The ingress buffer (12 R414) -/

/-- How a port's requests lie in its buffer: bytes in the shared pool by SGRP 0 and 1, and in the headroom of each. -/
structure Buffer where
  pool0 : Nat := 0
  pool1 : Nat := 0
  head0 : Nat := 0
  head1 : Nat := 0
  deriving DecidableEq, Repr

def Buffer.pool (b : Buffer) : Nat := b.pool0 + b.pool1
def Buffer.poolOf (b : Buffer) (g : Nat) : Nat := if g = 0 then b.pool0 else b.pool1
def Buffer.headOf (b : Buffer) (g : Nat) : Nat := if g = 0 then b.head0 else b.head1

/-- A frame of SGRP `g` lies in the shared pool of 768 KiB when it finds room there, else in its priority's headroom. -/
def Buffer.put (b : Buffer) (g n : Nat) : Buffer :=
  if b.pool + n ≤ 768 * 1024 then
    (if g = 0 then { b with pool0 := b.pool0 + n } else { b with pool1 := b.pool1 + n })
  else if g = 0 then { b with head0 := b.head0 + n } else { b with head1 := b.head1 + n }

/-- The buffer has room for a frame: in the pool, or in the headroom of 256 KiB. -/
def Buffer.room (b : Buffer) (g n : Nat) : Bool :=
  decide (b.pool + n ≤ 768 * 1024) || decide (b.headOf g + n ≤ 256 * 1024)

/-- The buffer of a port: its held requests in the order in which they came. A frame that leaves the pool makes room there
for the next of the headroom (DESIGN CHOICE, log entry 118). -/
def State.buffer12 (s : State) (n : Nat) : Buffer :=
  s.place.held.foldl (fun b h =>
    match h with
    | .frame m f => if m = n then b.put f.sgrp f.bytes else b
    | _ => b) {}

/-- Send a PFC frame for the priority of a stream group: XOFF with pause time 0xFFFF, or XON with 0. -/
def State.sendPfc (s : State) (n g : Nat) (on : Bool) : State :=
  let s1 : State := { s with fab := { s.fab with
    pfcSent := { port := n, prio := s.pcpOf g, quanta := if on then 0xFFFF else 0 } :: s.fab.pfcSent } }
  let s2 := s1.modPort n fun p => if g = 0 then { p with xoff0 := on } else { p with xoff1 := on }
  if on then s2.bump (0x6100 + n) 6 else s2

def EthPort.xoff (p : EthPort) (g : Nat) : Bool := if g = 0 then p.xoff0 else p.xoff1

/-- The buffer condition of a priority. -/
def State.bufferHigh (s : State) (n g : Nat) : Bool :=
  decide (256 * 1024 < (s.buffer12 n).poolOf g) || decide (640 * 1024 < (s.buffer12 n).pool)

/-- Send XOFF or XON when a condition of R414 arises or ends. -/
def State.flowOne (s : State) (n g : Nat) : State :=
  let p := s.port n
  if !p.xoff g && s.bufferHigh n g then s.sendPfc n g true
  else if p.xoff g && decide ((s.buffer12 n).poolOf g < 128 * 1024) && decide ((s.buffer12 n).pool < 512 * 1024) then
    s.sendPfc n g false
  else s

/-- The same for every port that is up. -/
def State.flow (s : State) : State :=
  (upTo (4 * s.build.ioDies)).foldl (fun s n => if (s.port n).up then (s.flowOne n 0).flowOne n 1 else s) s

/-- Try every held request again, oldest first; those that must still wait are held again. -/
def State.retryHeld (s : State) : State :=
  ((s.place.held.foldl State.retryOne { s with place := { s.place with held := [] } }).settle).flow

/-! ### The replay window (12 R428, R429) -/

/-- Send the recorded response of a request again; a READ is read again. -/
def State.replayDone (s : State) (n : Nat) (f : Frame) (e : Seen) (st : Nat) (old : Word) : State :=
  if f.op = 1 then s.serveAny n f
  else
    match e.redirect with
    | some a => s.sendResp n f 0x12 0 a 0 []
    | none => if st = 0 then s.sendResp n f 0x10 0 old 0 [] else s.sendResp n f 0x11 st 0 0 []

/-- Present a request: carry it out unless it is a duplicate. -/
def State.present (s : State) (n : Nat) (f : Frame) : State :=
  let key := replayKey f
  let known := (Tab.find s.fab.replay key).any fun w => w.seen.any fun e => e.ctr == f.ctr
  if s.therm.stopStep ≠ 0 && !known then s.sendResp n f 0x11 0xE1 0 0 []
  else match Tab.find s.fab.replay key with
  | none =>
    if 16384 ≤ (s.fab.replay.filter fun w => w.2.die == n / 4).length then s.sendResp n f 0x11 0xE1 0 0 []
    else
      let w : Replay := { die := n / 4, high := f.ctr, seen := [{ ctr := f.ctr, done := none }] }
      ({ s with fab := { s.fab with replay := Tab.put s.fab.replay key w } }).serveAny n f
  | some w =>
    let up := (f.ctr + 2 ^ 20 - w.high) % 2 ^ 20
    if up = 0 || decide (2 ^ 19 ≤ up) then
      if 4096 ≤ (w.high + 2 ^ 20 - f.ctr) % 2 ^ 20 then s.bump 0x6010 5
      else
        match w.seen.find? fun e => e.ctr == f.ctr with
        | some e =>
          let s1 := s.bump 0x6010 6
          match e.done with
          | some (st, old) => s1.replayDone n f e st old
          | none => s1.putSeen f { e with dups := e.dups ++ [(n, f)] }
        | none => (s.putSeen f { ctr := f.ctr, done := none }).serveAny n f
    else
      let w1 : Replay := { w with
        high := f.ctr
        seen := (w.seen.filter fun e => decide ((f.ctr + 2 ^ 20 - e.ctr) % 2 ^ 20 < 4096)) ++ [{ ctr := f.ctr, done := none }] }
      ({ s with fab := { s.fab with replay := Tab.put s.fab.replay key w1 } }).serveAny n f

/-! ### Streams (12 R412, R419, R422, R423) -/

def State.rxStream (s : State) (k : Nat) : RxStream := (Tab.find s.fab.rx k).getD {}
def State.setRx (s : State) (k : Nat) (v : RxStream) : State :=
  { s with fab := { s.fab with rx := Tab.put s.fab.rx k v } }

/-- Bytes in the reorder pool of an I/O die. -/
def State.reorderBytes (s : State) (die : Nat) : Nat :=
  (s.fab.rx.flatMap fun r => r.2.held.map fun x => if x.1 / 4 = die then x.2.bytes else 0).sum

/-- A gap is open: the expected SEQ lies behind what is known to have been sent. -/
def RxStream.gap (r : RxStream) : Bool := r.tail != r.expect && seqFrom r.tail r.expect

/-- The frame before SEQ `q` is known to have been sent. -/
def RxStream.note (r : RxStream) (q : Nat) : RxStream :=
  let t := if r.gap then r.tail else r.expect
  { r with tail := if seqFrom q t then q else t }

/-- The expected frame has been taken. -/
def RxStream.advance (r : RxStream) : RxStream :=
  let e := wrapAdd 16 r.expect 1
  { r with expect := e, tail := if r.gap then r.tail else e }

/-- Present the held frames that have become next. -/
def State.drainRx (s : State) (k : Nat) : Nat → State
  | 0 => s
  | fuel + 1 =>
    let r := s.rxStream k
    match r.held.find? fun x => x.2.seq == r.expect with
    | none => s
    | some x =>
      let s1 := s.setRx k { r.advance with held := r.held.filter fun y => y.2.seq != r.expect }
      (s1.present x.1 x.2).drainRx k fuel

/-- A request of a stream arrives. -/
def State.takeRequest (s : State) (n : Nat) (f : Frame) : State :=
  if f.level = 3 then s.present n f
  else
    let k := f.rx
    let r := s.rxStream k
    let d := (f.seq + 65536 - r.expect) % 65536
    let far := r.note ((f.seq + 1) % 65536)
    let nack (s : State) : State := (s.setRx k far).sendSeqNack n f.srcPos f.srcPort f.sgrp r.expect
    if d = 0 then ((s.setRx k r.advance).present n f).drainRx k 256
    else if 32768 ≤ d then s.present n f
    else if f.level = 1 then nack s
    else if 256 ≤ d then nack s
    else if r.held.any fun x => x.2.seq == f.seq then s
    else if 2 ^ 23 < s.reorderBytes (n / 4) + f.bytes then s.bump 0x6010 4
    else s.setRx k { far with held := r.held ++ [(n, f)] }

/-! ### Responses and control frames -/

/-- The outstanding request that a response answers (R427). -/
def State.matchResp (s : State) (f : Frame) : Option Outst :=
  if f.dstPos ≠ s.pos then none
  else s.fab.outst.find? fun o => o.die == f.dstPort / 4 && o.pos == f.srcPos && o.ctr == f.ctr

/-- A response: NACK BUSY leaves the request as undelivered (R408). -/
def State.takeResponse (s : State) (f : Frame) : State :=
  match s.matchResp f with
  | none => s.bump 0x6010 5
  | some o =>
    if !f.answers o.frame then s.bump 0x6010 8
    else match f.op with
    | 0x10 => s.completeReq o { lines := f.lines, mask := if o.frame.op = 1 then f.h6.toNat else 0, old := f.h5 }
    | 0x12 => s.completeReq o { redirect := some f.h5 }
    | _ => if f.status = 0xE1 then s else s.completeReq o { status := f.status }

/-- SEQ_NACK: send the unanswered requests from the expected SEQ on again (R422). -/
def State.takeSeqNack (s : State) (f : Frame) : State :=
  let g := Word.bits f.h5 17 16
  ((s.unanswered (f.dstPort / 4) f.srcPos g).filter fun o => seqFrom o.seq (Word.bits f.h5 15 0)).foldl State.resend s

/-- KEEPALIVE: the peer's up ports, and the tails of its streams (R411, R430). -/
def State.takeKeepalive (s : State) (n : Nat) (f : Frame) : State :=
  let m : BitVec 24 := BitVec.ofNat 24 f.h6.toNat
  let s1 : State := { s with fab := { s.fab with peers := Tab.put s.fab.peers f.srcPos m } }
  let s2 := if s.peerPorts f.srcPos = s1.peerPorts f.srcPos then s1 else s1.repathTo f.srcPos
  if f.level = 3 then s2
  else
    (upTo 2).foldl (fun s g =>
      let k := Frame.rxKey f.srcPos (f.srcPort / 4) g
      let r := s.rxStream k
      let next := (Word.bits f.h5 (63 - 16 * g) (48 - 16 * g) + 1) % 65536
      if r.expect ≠ next && seqFrom next r.expect then
        let s1 := s.setRx k (r.note next)
        if f.level = 1 then s1.sendSeqNack n f.srcPos f.srcPort g r.expect else s1
      else s) s2

/-! ### The whole of a frame's arrival -/

/-- What an arriving frame is. -/
inductive Arrival where
  | ignored           -- a MAC Control frame or an LLDPDU (R399)
  | dropped           -- fails acceptance, or a non-request with a fault
  | faulty            -- a request with a fault of R407
  | stranger          -- no member
  | request | response | seqNack | keepalive | join
  deriving DecidableEq, Repr

/-- Frames of the join authority are taken on SGRP 3 only (R435); it has no member record. -/
def State.fromAuthority (s : State) (f : Frame) : Bool :=
  s.odNat 0x6000 9 != 0 && f.srcMac.toNat == s.odNat 0x6000 9 % 2 ^ 48

def State.arrival (s : State) (n : Nat) (f : Frame) : Arrival :=
  if etherControl.contains f.etype && f.etype.toNat != s.odNat 0x6000 2 then .ignored
  else if !s.frameOk n f then .dropped
  else if s.fromAuthority f && f.sgrp == 3 && decide (0x20 ≤ f.op) then
    (if f.opKnown && f.headOk && f.linesOk then .join else .dropped)
  else if !s.fromMember f then .stranger
  else if s.fromAuthority f && f.sgrp != 3 then .dropped
  else if !State.frameGood f then (if f.isRequest then .faulty else .dropped)
  else if f.isRequest then .request
  else if f.sgrp == 2 then .response
  else if f.op == 0x18 then .seqNack
  else if f.op == 0x19 then .keepalive
  else .dropped

/-- The port is there, its PHY has link and the main domains run. -/
def State.portOn (s : State) (n : Nat) : Bool := s.power.main && (s.port n).up

/-- A frame arrives at a port: what R403 to R436 make of it. Join messages are handled in their own module. -/
def State.receive (s0 : State) (n : Nat) (f : Frame) : State :=
  let s := s0.retryHeld
  match s.arrival n f with
  | .ignored => s
  | .dropped => s.bump 0x6010 8
  | .stranger => (s.bump (0x6100 + n) 5).notMember n f
  | .faulty => ((s.bump (0x6100 + n) 5).bump 0x6010 8).sendResp n f 0x11 0xE2 0 0 []
  | .request =>
    if s.fab.left then s.bump (0x6100 + n) 5
    else if !(s.buffer12 n).room f.sgrp f.bytes then s
    else ((((s.bump (0x6100 + n) 5).noteActive (n / 4) f.srcPos).takeRequest n f).settle).flow
  | .response => (((s.bump (0x6100 + n) 5).noteActive (n / 4) f.srcPos).takeResponse f).retryHeld
  | .seqNack => (s.bump (0x6100 + n) 5).takeSeqNack f
  | .keepalive => (s.bump (0x6100 + n) 5).takeKeepalive n f
  | .join => s

/-- A frame of the row's kind arrives. A frame that is no member's is dropped by the row of its opcode. -/
def State.arrive (s : State) (n : Nat) (f : Frame) (mine : Bool) : Out :=
  ifUnit s (s.ethFitted n) <|
    when' (s.portOn n && mine && (match s.arrival n f with
      | .ignored => false
      | .dropped => false
      | .faulty => false
      | .join => false
      | _ => true)) s
      (s.receive n f)

def execRead (n : Nat) (f : Frame) (s : State) : Out := s.arrive n f (f.op == 1)
def execWrite (n : Nat) (f : Frame) (s : State) : Out := s.arrive n f (f.op == 2)
def execReduce (n : Nat) (f : Frame) (s : State) : Out := s.arrive n f (f.op == 3)
def execAtomic (n : Nat) (f : Frame) (s : State) : Out := s.arrive n f (f.op == 4)
/-- A signal frame, whose flag-word write falls into a hearth cycle of its target cluster (11 R374). -/
def State.arriveSig (s : State) (n : Nat) (f : Frame) (op : Nat) (more : Bool) : Out :=
  ifUnit s (s.ethFitted n) <|
    when' (s.portOn n && f.op == op && (match s.arrival n f with
      | .request => true
      | .stranger => true
      | _ => false)) s (s.inCycle (Word.bits f.h5 13 8) more fun s => s.receive n f)

/-- SIGNAL. -/
def execSignal (n : Nat) (f : Frame) (more : Bool) (s : State) : Out := s.arriveSig n f 5 more
/-- COUNTED_SIGNAL. -/
def execCountedSignal (n : Nat) (f : Frame) (more : Bool) (s : State) : Out := s.arriveSig n f 6 more
def execReplicaInv (n : Nat) (f : Frame) (s : State) : Out := s.arrive n f (f.op == 8)
def execPlacementClaim (n : Nat) (f : Frame) (s : State) : Out :=
  s.arrive n f (f.op == 9 && Word.bits f.h5 63 60 == 0)
def execPlacementPublish (n : Nat) (f : Frame) (s : State) : Out :=
  s.arrive n f (f.op == 9 && Word.bits f.h5 63 60 == 1)
def execCompletion (n : Nat) (f : Frame) (s : State) : Out := s.arrive n f (f.op == 0x10)
def execNack (n : Nat) (f : Frame) (s : State) : Out := s.arrive n f (f.op == 0x11)
def execRedirect (n : Nat) (f : Frame) (s : State) : Out := s.arrive n f (f.op == 0x12)
def execSeqNack (n : Nat) (f : Frame) (s : State) : Out := s.arrive n f (f.op == 0x18)
def execKeepalive (n : Nat) (f : Frame) (s : State) : Out := s.arrive n f (f.op == 0x19)

/-- BAD_FRAME: a frame that fails acceptance or breaks R407, that of no member whose opcode has no command of its own among
them (12 R403, R407, R436). -/
def execBadFrame (n : Nat) (f : Frame) (s : State) : Out :=
  ifUnit s (s.ethFitted n) <|
    when' (s.portOn n && (match s.arrival n f with
      | .dropped => true
      | .faulty => true
      | .ignored => true
      | .stranger => !f.hasRow
      | _ => false)) s (s.receive n f)

end Machine
end Sys2Proof
end

