-- ==== Sys2Proof/Machine/Ports.lean ====
section
/-! DEFINITION. Ports, pauses, timers of the fabric, and UCIe link loss (01 R24, R25; 12 R399, R400, R411, R414,
R415, R420 to R430). -/

namespace Sys2Proof.Machine

/-- A fabric log entry (12 R441). -/
def State.fabLog (s : State) (event port state : Nat) : State :=
  s.log [pack [(56, event), (51, port), (27, state)]]

/-- T and the tag quarantine of a level, in µs (R420). -/
def levelT (l : Nat) : Nat := if l = 1 then 100 else if l = 2 then 1000 else 20000
def levelQuar (l : Nat) : Nat := if l = 1 then 20 else if l = 2 then 200 else 5000

/-- A die has exchanged frames with a peer within the last T (R430). -/
def State.recent (s : State) (die pos : Nat) : Bool :=
  match Tab.find s.fab.active (spaceKey die pos) with
  | some t => decide (s.crust.time ≤ t + levelT (levelOf s.pos pos))
  | none => false

/-- Send KEEPALIVE to every active peer at once: PORTS_UP has changed (R430). -/
def State.keepaliveAll (s : State) : State :=
  s.fab.active.foldl (fun s kv =>
    let die := kv.1 / 2 ^ 20
    let pos := kv.1 % 2 ^ 20
    if s.recent die pos then s.sendKeepalive die pos else s) s

/-- PORT_UP (R400): link training begins in SERVICE (17 R578). -/
def execPortUp (n : Nat) (s : State) : Out :=
  ifUnit s (s.ethFitted n) <|
    when' (s.power.main && s.crust.svc == .service && !(s.port n).up) s
      ((((((s.modPort n fun p => { p with up := true }).fabLog 0x52 n 0).keepaliveAll).repathLost).pump).settle)

/-- The streams whose path uses a port choose a new one (R411). -/
def State.repathPort (s : State) (n : Nat) : State :=
  s.fab.spaces.foldl (fun s kv =>
    let uses (g : Nat) : Bool := match kv.2.path g with | some p => p.1 == n | none => false
    (upTo 2).foldl (fun s g => if uses g then s.repath (kv.1 / 2 ^ 20) (kv.1 % 2 ^ 20) g else s) s) s

/-- A port goes down: its pauses and the frames that wait in it are lost. -/
def State.portLost (s : State) (n : Nat) : State :=
  let s1 := s.modPort n fun p => { p with up := false, paused := 0, pauseEnd := [], xoff0 := false, xoff1 := false }
  let s2 : State := { s1 with fab := { s1.fab with txq := s1.fab.txq.filter fun x => x.1 != n } }
  (((((s2.fabLog 0x51 n 0).repathPort n).keepaliveAll).pump).settle)

/-- PORT_DOWN (R400, R411). -/
def execPortDown (n : Nat) (s : State) : Out :=
  ifUnit s (s.ethFitted n) (when' (s.portOn n) s (s.portLost n))

/-! ### Pauses -/

/-- The end of a pause of `q` quanta of 0.32 ns, counted in whole µs (R414, R415). -/
def pauseUs (q : BitVec 16) : Nat := (q.toNat * 32 + 99999) / 100000

/-- A PFC frame's effect on one priority. -/
def State.pfcOne (s : State) (n : Nat) (quanta : List (BitVec 16)) (i : Nat) : State :=
  let q := quanta.getD i 0
  s.modPort n fun p =>
    let ends := (upTo 8).map fun j => p.pauseEnd.getD j 0
    if q = 0 then { p with paused := p.paused &&& ~~~ BitVec.ofNat 8 (2 ^ i), pauseEnd := ends.set i 0 }
    else { p with paused := p.paused ||| BitVec.ofNat 8 (2 ^ i), pauseEnd := ends.set i (s.crust.time + pauseUs q) }

/-- PFC_FRAME (R415). -/
def execPfcFrame (n : Nat) (enable : BitVec 8) (quanta : List (BitVec 16)) (s : State) : Out :=
  ifUnit s (s.ethFitted n) <|
    when' (s.portOn n) s
      (((upTo 8).foldl (fun s i => if enable.getLsbD i then s.pfcOne n quanta i else s) s).flushTx)

/-- PAUSE_FRAME (R399): ignored and counted. -/
def execPauseFrame (n : Nat) (s : State) : Out :=
  ifUnit s (s.ethFitted n) (when' (s.portOn n) s (s.bump (0x6100 + n) 8 1 32))

/-- XOFF_REPEAT (R414). -/
def execXoffRepeat (n sgrp : Nat) (s : State) : Out :=
  ifUnit s (s.ethFitted n)
    (when' (s.portOn n && decide (sgrp ≤ 1) && (s.port n).xoff sgrp && s.bufferHigh n sgrp) s (s.sendPfc n sgrp true))

/-- LLDP_TIMER: an LLDPDU with the port's MAC address as port ID (R399). -/
def execLldpTimer (n : Nat) (s : State) : Out :=
  ifUnit s (s.ethFitted n)
    (when' (s.portOn n) s { s with fab := { s.fab with lldp := (n, s.macOf s.pos n) :: s.fab.lldp } })

/-! ### Timers of requests, streams and tags -/

def State.outstOf (s : State) (id : Nat) : Option Outst := s.fab.outst.find? fun o => o.id == id

/-- RETRANSMIT_TIMER (R421): at most three times more. -/
def State.retransmit (s : State) (id : Nat) : State :=
  match s.outstOf id with
  | none => s
  | some o =>
    if 3 ≤ o.retx then s
    else
      let s1 : State := { s with fab := { s.fab with
        outst := s.fab.outst.map fun x => if x.id = id then { x with retx := x.retx + 1 } else x } }
      s1.resend o

def execRetransmitTimer (id : Nat) (s : State) : Out := go s (s.retransmit id)

/-- REQUEST_TIMEOUT (R421). -/
def execRequestTimeout (id : Nat) (s : State) : Out :=
  match s.outstOf id with
  | none => .next s
  | some o => go s ((s.bump 0x6010 2).completeReq o { status := 0xE0 }).retryHeld

/-- The port by which SEQ_NACK of a stream leaves, and the sender's port it goes to: those of a frame held for
the stream whose port is up, else the lowest up ports of both sides (DESIGN CHOICE, log entry 125). -/
def State.nackPath (s : State) (pos die sgrp : Nat) : Option (Nat × Nat) :=
  match (s.rxStream (Frame.rxKey pos die sgrp)).held.find? fun x => (s.port x.1).up with
  | some x => some (x.1, x.2.srcPort)
  | none =>
    match (upTo (4 * s.build.ioDies)).find? fun n => (s.port n).up, (s.peerPorts pos).find? fun n => n / 4 == die with
    | some a, some b => some (a, b)
    | _, _ => none

/-- GAP_WAIT_EXPIRY (R422). -/
def State.gapNack (s : State) (pos die sgrp : Nat) : State :=
  match s.nackPath pos die sgrp with
  | none => s
  | some (n, d) =>
    s.sendSeqNack n pos d sgrp (s.rxStream (Frame.rxKey pos die sgrp)).expect

def execGapWaitExpiry (pos die sgrp : Nat) (s : State) : Out :=
  when' (s.power.main && decide (sgrp ≤ 1) && levelOf s.pos pos != 3 && (s.rxStream (Frame.rxKey pos die sgrp)).gap) s
    (s.gapNack pos die sgrp)

/-- KEEPALIVE_TIMER (R430). -/
def execKeepaliveTimer (die pos : Nat) (s : State) : Out :=
  ifUnit s (decide (die < s.build.ioDies)) (when' (s.power.main && s.recent die pos) s (s.sendKeepalive die pos))

def State.modSpace (s : State) (key : Nat) (f : TagSpace → TagSpace) : State :=
  match Tab.find s.fab.spaces key with
  | none => s
  | some t => { s with fab := { s.fab with spaces := Tab.put s.fab.spaces key (f t) } }

/-- TAG_QUARANTINE_EXPIRY (R426). -/
def execTagQuarantineExpiry (die pos tag : Nat) (s : State) : Out :=
  ifUnit s (decide (die < s.build.ioDies)) <|
    go s ((s.modSpace (spaceKey die pos) fun t => { t with quar := t.quar.filter (· != tag) }).pump.settle)

/-- A tag space and what its streams have chosen are freed. -/
def State.freeSpace (s : State) (die pos : Nat) : State :=
  { s with fab := { s.fab with
    spaces := Tab.erase s.fab.spaces (spaceKey die pos)
    routes := s.fab.routes.filter fun r => !(r.2 == die && r.1 / 2 % 2 ^ 20 == pos) } }

/-- TAG_SPACE_FREE (R426): no request is outstanding and no tag in quarantine. -/
def execTagSpaceFree (die pos : Nat) (s : State) : Out :=
  ifUnit s (decide (die < s.build.ioDies)) <|
    when' (!(s.fab.outst.any fun o => o.die == die && o.pos == pos)
        && ((Tab.find s.fab.spaces (spaceKey die pos)).getD {}).quar == []) s ((s.freeSpace die pos).pump.settle)

/-- A replay window is freed, and with it the receiver's place in the streams of that tag space. -/
def State.freeReplay (s : State) (pos die : Nat) : State :=
  { s with fab := { s.fab with
    replay := Tab.erase s.fab.replay (pos * 8 + die)
    rx := Tab.erase (Tab.erase s.fab.rx (Frame.rxKey pos die 0)) (Frame.rxKey pos die 1) } }

/-- REPLAY_WINDOW_FREE (R429). -/
def execReplayWindowFree (pos die : Nat) (s : State) : Out :=
  when' (decide (pos < 2 ^ 20) && decide (die < 6)) s (s.freeReplay pos die)

/-! ### UCIe links (01 R24, R25) -/

/-- The link is one of the build. -/
def State.linkFitted (s : State) (l : Nat) : Bool :=
  if l < 64 then decide (l / 4 < s.build.ioDies) && (linkedHearths (l / 4)).contains (l % 4)
  else decide (l < 80) && decide ((l - 64) / 4 < (l - 64) % 4)

/-- The way that a request of an origin to a linear offset takes leads over a link. -/
def State.crosses (s : State) (l : Nat) (o : Origin) (lin : Nat) : Bool :=
  match (s.place' o.priv lin).bind fun x => s.pathTo o x.1.stk with
  | some way => way.contains l
  | none => false

/-- A held request that waits at its stack was in flight on the link. -/
def State.heldOn (s : State) (l : Nat) (h : HeldReq) : Bool :=
  match s.heldOp h with
  | some q => ((upTo q.count).any fun i => s.crosses l q.o (q.lin + 64 * i)) && s.heldAtStack q
  | none => false

/-- A waiting request has crossed the link to its I/O die. -/
def State.waitingOn (s : State) (l : Nat) (w : Waiting) : Bool :=
  match s.egressDie w.via w.pos w.sgrp with
  | none => false
  | some die =>
    !s.switchWait (egressWay s.linkWas w.hearth die) && ((egressWay s.linkUp w.hearth die).any fun way => way.contains l)

/-- Complete a held request ROUTE_LOST; what it asked for is not done (log entry 126). -/
def State.loseHeld (s : State) : HeldReq → State
  | .frame n f => s.finishFrame n f 8
  | .hostRead n dpa _ => s.hostDone n dpa ((s.winOf n dpa).getD 0) true 8 0 true .uncached
  | .hostWrite n dpa _ _ _ => s.hostDone n dpa ((s.winOf n dpa).getD 0) false 8 0 false .uncached
  | .own src _ _ f => (s.countOwn src f).finalReply src { status := 8 }

/-- Complete a queued request of a stack ROUTE_LOST. Its outcome is unknown (13 R457): by a free value it stays queued and
is carried out with nobody to hear of it, or it is dropped. -/
def State.loseReq (s : State) (r : PortReq) : State :=
  let rs : Resp := { id := r.id, status := 8, data := 0, poison := false }
  let keep := Word.bit (Config.freeWord s.free) 0
  let s1 : State := { s.draw with mem := { s.mem with
    resps := rs :: s.mem.resps
    reqs := if keep then s.mem.reqs.map fun q => if q.id = r.id then { q with lost := true, route := [] } else q
      else s.mem.reqs.filter fun q => q.id != r.id } }
  s1

/-- A link is marked down and logged: requests in flight on it complete ROUTE_LOST. The spec gives the log entry
no code and no payload. -/
def State.linkLost (s : State) (l : Nat) : State :=
  let outs := s.fab.outst.filter fun o => o.way.contains l
  let waits := s.fab.waiting.filter fun w => s.waitingOn l w
  let reqs := s.mem.reqs.filter fun r => r.route.contains l
  let helds := s.place.held.filter fun h => s.heldOn l h
  let s1 : State := { s with
    links := { s.links with down := s.links.down ++ [l], switching := s.links.switching ++ [l] }
    place := { s.place with held := s.place.held.filter fun h => !helds.contains h }
    fab := { s.fab with
      waiting := s.fab.waiting.filter fun w => !waits.any fun x => x.id == w.id
      pool := s.fab.pool.map fun x => if x.way.contains l && x.status.isNone then { x with status := some 8 } else x } }
  let s2 := (s1.log ((upTo 6).map fun i => Config.freeWord (s.free + i)))
  let s3 : State := { s2 with free := s2.free + 6 }
  let s4 := waits.foldl (fun s w => s.deadReq w.src 8) s3
  let s5 := reqs.foldl State.loseReq s4
  let s6 := helds.foldl State.loseHeld s5
  ((outs.foldl (fun s o => match s.outstOf o.id with
    | some o => s.completeReq o { status := 8 }
    | none => s) s6).settle).retryHeld

/-- UCIE_LINK_DOWN (01 R24). -/
def execUcieLinkDown (link : Nat) (s : State) : Out :=
  ifUnit s (s.linkFitted link) (when' (s.power.main && s.linkUp link) s (s.linkLost link))

/-- ROUTE_SWITCH (01 R25): every request that was in flight on the lost link has completed. -/
def execRouteSwitch (link : Nat) (s : State) : Out :=
  ifUnit s (s.linkFitted link) <|
    when' (s.links.switching.contains link && !(s.fab.outst.any fun o => o.way.contains link)
        && !(s.mem.reqs.any fun r => r.route.contains link)) s
      (({ s with links := { s.links with switching := s.links.switching.filter (· != link) } } : State).pump.settle)

end Sys2Proof.Machine
end

