-- ==== Sys2Proof/Machine/Fq.lean ====
section
/-! DEFINITION. FQ operations: READ, WRITE, REDUCE, ATOMIC, SIGNAL, COUNTED_SIGNAL and their completion
(10 R353, R354; 11 R379 to R387). -/

namespace Sys2Proof.Machine

/-! ### Parts -/

/-- Lines of a part that begins at line `i`: at most 4 KiB, within one loaf of the remote side. -/
def fqPartLen (d : List Word) (i : Nat) : Nat :=
  min (min 64 (fqLength d / 64 - i)) (32768 - (fqRemote d / 64 + i) % 32768)

/-- First lines of the parts. -/
def fqPartsFrom (d : List Word) : Nat → Nat → List Nat
  | 0, _ => []
  | fuel + 1, i => if fqLength d / 64 ≤ i then [] else i :: fqPartsFrom d fuel (i + fqPartLen d i)

def fqParts (d : List Word) : List Nat := if fqData d then fqPartsFrom d 512 0 else [0]

/-- Who moves an FQ operation's local lines. 10 R354 puts an operation at its home on P4; the rule does not say by which port its
LOCAL lines of module memory go, and they take P4 too (DESIGN CHOICE, log entry 124). -/
def State.fqWho (s : State) (c ticket : Nat) (d : List Word) : Who where
  a := .fq c ticket
  o := .fq c
  c := c
  p := (s.cluster c).part.getD 31
  cls := some (fqClass d)

def State.fqOf (s : State) (c ticket : Nat) : Option FqOp := (s.cluster c).fq.find? fun o => o.ticket == ticket

/-- The module to which a part goes: none when it is answered at once with an error. -/
def State.partTo (s : State) (c : Nat) (d : List Word) (i : Nat) : Option Nat :=
  if fqSignal d then some (fqTarget d)
  else
    match s.xlate ((s.cluster c).part.getD 31) (fqRemote d + 64 * i) (fqOp d != 0) with
    | .bad _ => none
    | .there pos _ _ => some pos
    | _ => some (s.position.getD (2 ^ 20))

/-- A part waits for the acknowledgement of a counted signal to its module (11 R387). -/
def State.partSignal (s : State) (c ticket : Nat) (d : List Word) (i : Nat) : Bool :=
  (fqOp d == 1 || fqOp d == 2 || fqOp d == 5)
    && (match s.partTo c d i with
      | some pos => s.signalPending c ticket pos
      | none => false)

/-- A part of an operation keeps back a later one to `pos`: requests are issued in queue order, but those to other modules go
past one that waits for a counted signal (10 R354; 11 R387). -/
def State.keepsBack (s : State) (c ticket : Nat) (d : List Word) (i : Nat) (pos : Option Nat) : Bool :=
  !s.partSignal c ticket d i || s.partTo c d i == pos

/-- A part cannot be issued yet. -/
def State.partBlocked (s : State) (c ticket : Nat) (d : List Word) (i : Nat) : Bool :=
  let pos := s.partTo c d i
  s.partSignal c ticket d i
    || ((s.cluster c).fq.takeWhile fun o => o.ticket != ticket).any
        (fun o => o.todo.any fun j => s.keepsBack c o.ticket o.desc j pos)
    || match s.fqOf c ticket with
      | some o => (o.todo.takeWhile (· != i)).any fun j => s.keepsBack c ticket d j pos
      | none => false

/-- A write of this FQ to a home here has not taken effect (11 R381). -/
def State.fqWritesHeld (s : State) (c : Nat) : Bool :=
  s.place.held.any fun h =>
    match h with
    | .own (.fq k _ _ _) _ _ f => k == c && (f.op == 2 || f.op == 3)
    | _ => false

/-! ### Issue -/

/-- The frame of a part, before it has a place. -/
def State.fqFrame (s : State) (c : Nat) (d : List Word) (n : Nat) (mask : Nat) (lines : List Line) : Frame :=
  let cls := fqClass d
  match fqOp d with
  | 0 => s.mkReq 1 cls n 0 c true 0 0 0 0 0 []
  | 1 => s.mkReq 2 cls n 0 c true 0 0 0 0 (BitVec.ofNat 64 mask) lines
  | 2 => s.mkReq 3 cls n 0 c true 0 (16 * fqRfn d + fqRfmt d) 0 0 (BitVec.ofNat 64 mask) lines
  | _ => s.mkReq 4 cls 0 0 c true 0 (fqAop d) 0 (jobWord d 3) (jobWord d 4) []

/-- A signal's frame (12 R406). -/
def State.fqSigFrame (s : State) (c : Nat) (d : List Word) : Frame :=
  let p := (s.cluster c).part.getD 31
  s.mkReq (fqOp d + 1) (fqClass d) 0 (fqTarget d) c true 0 (fqSigop d) (fabAddr 7 0 0)
    (pack [(32, s.signalSpace p), (8, fqTcluster d), (0, fqTflag d)])
    (pack [(32, Word.bits (jobWord d 3) 31 0), (0, fqCount d)]) []

/-- A part is on its way. -/
def State.fqOut (s : State) (c ticket i : Nat) : State :=
  s.modFq c ticket fun o => { o with todo := o.todo.filter (· != i), out := o.out ++ [i] }

/-- A signal to a cluster of this module (11 R379 to R386). -/
def State.fqSigHere (s : State) (c ticket : Nat) (d : List Word) : State :=
  let p := (s.cluster c).part.getD 31
  let v : W32 := BitVec.ofNat 32 (Word.bits (jobWord d 3) 31 0)
  let h : HeldSig := {
    tcluster := fqTcluster d, tflag := fqTflag d, set_ := fqSigop d == 1, value := v, count := fqCount d
    since := s.crust.time, reply := none, localFq := some (c, ticket) }
  let k := s.signalCheck (fqTcluster d) (s.signalSpace p) (some p)
  if k ≠ 0 then
    (s.signalReject (fqTcluster d) (fqTflag d) v.toNat s.pos c k (fqCount d)
      (Tab.get {} s.arr (arrKey s.pos c)).a).signalAnswer h 7
  else if fqOp d = 4 then (s.flagWrite (fqTcluster d) 9 (fqTflag d) (fqSigop d == 1) v).signalAnswer h 0
  else s.takeCounted s.pos c h

/-- A part that moves data or an atomic. -/
def State.issueData (s : State) (c ticket : Nat) (d : List Word) (i : Nat) (src : ReqSrc) (p : Nat) : State :=
  let pva := fqRemote d + 64 * i
  let n := fqPartLen d i
  let run (s : State) (f : Frame) : State :=
    ((s.pcacheLook (s.xlateDie c) p pva).fqOut c ticket i).runOwn src (some (c / 12)) p pva f
  if fqOp d = 1 || fqOp d = 2 then
    let xs := (upTo n).map fun j => (⟨fqLspace d, fqLocal d + 64 * (i + j)⟩ : Place2)
    let g := s.fetchLines (s.fqWho c ticket d) xs
    match g.2 with
    | none => g.1
    | some rs =>
      let fl := g.1.freeLine
      let lines := rs.map fun r => if r.1 = 0 then r.2 else fl.2
      let mask := packNat (rs.zipIdx.map fun r => (r.2, if r.1.1 = 0 then 0 else 1))
      let s1 := if mask = 0 then g.1 else fl.1
      run (s1.modFq c ticket fun o => { o with poison := o.poison || mask != 0 }) (s1.fqFrame c d n mask lines)
  else run s (s.fqFrame c d n 0 [])

/-- Issue one part, when nothing keeps it back. -/
def State.issuePart (s : State) (c ticket : Nat) (d : List Word) (i : Nat) : State :=
  let p := (s.cluster c).part.getD 31
  let src : ReqSrc := .fq c ticket i (if fqData d then fqPartLen d i else 1)
  if s.partBlocked c ticket d i then s
  else if fqSignal d then
    if s.position = some (fqTarget d) then
      (if fqOp d = 4 && s.fqWritesHeld c then s else (s.fqOut c ticket i).fqSigHere c ticket d)
    else (s.fqOut c ticket i).sendReq src (some (c / 12)) 0 (fqTarget d) p 0 (s.fqSigFrame c d)
  else s.issueData c ticket d i src p

/-- Issue what can be issued of an operation, in order. -/
def State.issueFq (s : State) (c ticket : Nat) : State :=
  match s.fqOf c ticket with
  | none => s
  | some o => (o.todo.foldl (fun s i => s.issuePart c ticket o.desc i) s).settle

/-- Start an operation once every earlier one has started. -/
def State.startFq (s : State) (c : Nat) (e : QEntry) : State :=
  if !fqValid e.desc then s.complete c 7 e.ticket 3 0
  else
    let s1 := s.modEntry c 7 e.ticket fun x => { x with started := true }
    (s1.modCluster c fun k => { k with fq := k.fq ++ [{ ticket := e.ticket, desc := e.desc, todo := fqParts e.desc }] }).issueFq
      c e.ticket

/-- The entry may start: it is dispatched, and every earlier entry has started or completed. -/
def State.fqMayStart (s : State) (c : Nat) (e : QEntry) : Bool :=
  e.disp && !e.started && e.compl.isNone && e.aborting.isNone
    && (((s.cluster c).queue 7).entries.takeWhile fun x => x.ticket != e.ticket).all fun x => x.started || x.compl.isSome

/-- Start the entry's operation, or issue what can be issued of it. -/
def State.fqRun (s : State) (c : Nat) (e : QEntry) : State :=
  if s.fqMayStart c e then s.startFq c e else if e.aborting.isNone then s.issueFq c e.ticket else s

/-- A command that names an FQ operation. -/
def State.fqCmd (s : State) (c ticket op : Nat) : Out :=
  ifUnit s (decide (c < 48)) <|
    match s.entry c 7 ticket with
    | none => .next s
    | some e =>
      when' (s.clusterOn c && fqOp e.desc == op) s (s.fqRun c e)

def execFqRead (c ticket : Nat) (s : State) : Out := s.fqCmd c ticket 0
def execFqWrite (c ticket : Nat) (s : State) : Out := s.fqCmd c ticket 1
def execFqReduce (c ticket : Nat) (s : State) : Out := s.fqCmd c ticket 2
def execFqAtomic (c ticket : Nat) (s : State) : Out := s.fqCmd c ticket 3
/-- A signal's operation, whose flag-word write here falls into a hearth cycle of its target cluster (11 R374). -/
def State.fqSigCmd (s : State) (c ticket op : Nat) (more : Bool) : Out :=
  ifUnit s (decide (c < 48)) <|
    match s.entry c 7 ticket with
    | none => .next s
    | some e =>
      if s.position = some (fqTarget e.desc) && decide (fqTcluster e.desc < 48) then
        when' (s.clusterOn c && fqOp e.desc == op) s
          (s.inCycle (fqTcluster e.desc) more fun s => s.fqRun c e)
      else s.fqCmd c ticket op

def execFqSignal (c ticket : Nat) (more : Bool) (s : State) : Out := s.fqSigCmd c ticket 4 more
def execFqCountedSignal (c ticket : Nat) (more : Bool) (s : State) : Out := s.fqSigCmd c ticket 5 more

/-! ### Completion (10 R344, R354) -/

/-- The lines that an operation brings to LOCAL. -/
def FqOp.results (o : FqOp) : List LineW :=
  let d := o.desc
  match fqOp d with
  | 0 => o.got.map fun g => { x := ⟨fqLspace d, fqLocal d + 64 * g.1⟩, data := g.2.1, poison := g.2.2 && fqLspace d == 1 }
  | 3 => o.got.map fun g =>
      { x := ⟨fqLspace d, fqLocal d / 64 * 64⟩, data := BitVec.ofNat 512 (g.2.1.toNat * 2 ^ (8 * (fqLocal d % 64)))
        mask := BitVec.ofNat 64 (0xFF * 2 ^ (fqLocal d % 64)) }
  | _ => []

/-- Complete an operation and forget it. -/
def State.endFq (s : State) (c ticket status detail : Nat) : State :=
  ((s.complete c 7 ticket status detail).modCluster c fun k => { k with fq := k.fq.filter fun o => o.ticket != ticket }).clearPool
    (.fq c ticket) fun _ => true

/-- The operation's writes have taken effect: it completes, with the status of a stop when it was stopped. -/
def State.closeFq (s : State) (c ticket : Nat) (aborting : Option Nat) : State :=
  let a : Agent := .fq c ticket
  match s.fqOf c ticket with
  | none => s
  | some o =>
    if !s.settled a then s
    else
      let f := s.takeFail a
      f.1.endFq c ticket (aborting.getD (if o.wfail || f.2 then 5 else if o.poison then 1 else 0)) (o.err.getD 0)

/-- Every request is answered: write the results, those of a stopped operation too, and complete once they have taken
effect. -/
def State.finishFq (s : State) (c : Nat) (o : FqOp) (aborting : Option Nat) : State :=
  if o.wrote || o.results = [] then s.closeFq c o.ticket aborting
  else
    let g := s.storeLines (s.fqWho c o.ticket o.desc) o.results
    match g.2 with
    | none => g.1
    | some sts =>
      (g.1.modFq c o.ticket fun x => { x with
        wrote := true, wfail := x.wfail || sts.any (· != 0), err := match sts.find? (· != 0) with
          | some e => some (x.err.getD e)
          | none => x.err }).closeFq c o.ticket aborting

/-- FQ_OP_COMPLETE (R354). -/
def execFqOpComplete (c ticket : Nat) (s : State) : Out :=
  ifUnit s (decide (c < 48)) <|
    match s.fqOf c ticket, s.entry c 7 ticket with
    | some o, some e => when' (s.clusterOn c && o.todo == [] && o.out == []) s (s.finishFq c o e.aborting)
    | _, _ => .next s

end Sys2Proof.Machine
end

