-- ==== Sys2Proof/Machine/Join.lean ====
section
/-! DEFINITION. Joining and leaving the fabric (12 R431 to R437). -/

namespace Sys2Proof.Machine

/-- A byte string of exactly `n` bytes, padded with zeros. -/
def fixLen (n : Nat) (b : Bytes) : Bytes := (b ++ List.replicate n 0).take n

/-- The device identity public key, of 64 bytes (17 R588). -/
def deviceKeyBytes : Bytes := fixLen 64 Config.deviceKey

/-! ### Messages to the authority (R434) -/

def authMac (s : State) : BitVec 48 := BitVec.ofNat 48 (s.odNat 0x6000 9)

/-- Bytes as payload lines, the last one padded with zeros. -/
def linesOfBytes (b : Bytes) : List Line := (chunks 64 ((b.length + 63) / 64) b).map lineOfBytes

/-- One fragment of a message. -/
def State.fragFrame (s : State) (op port id frag fragsM1 : Nat) (b : Bytes) : Frame :=
  { s.control op port (Config.authorityPos % 2 ^ 20) (Config.authorityPort % 32)
      (pack [(32, id), (16, frag), (0, fragsM1)]) (BitVec.ofNat 64 b.length) (linesOfBytes b) with dstMac := authMac s }

/-- Send a message out of a port, in fragments of at most 4,096 bytes, under a message number that the spec leaves
open. -/
def State.sendMsg (s : State) (op port : Nat) (b : Bytes) : State :=
  let n := max 1 ((b.length + 4095) / 4096)
  let id := (Config.freeWord s.free).toNat % 2 ^ 32
  (chunks 4096 n b).zipIdx.foldl (fun s x => s.emit port (s.fragFrame op port id x.2 (n - 1) x.1)) s.draw

/-- JOIN_STATE changes (R438, R441). -/
def State.setJoin (s : State) (st : Nat) : State :=
  if s.ctr 0x6000 0xB = st then s else (s.setCtr 0x6000 0xB st).fabLog 0x54 0 st

/-- The up ports of the module. -/
def State.allUp (s : State) : List Nat := (upTo (4 * s.build.ioDies)).filter fun n => (s.port n).up

/-- POSITION, AUTH_MAC and AUTH_KEY are set (R433). -/
def State.joinSet (s : State) : Bool :=
  s.position.isSome && s.odNat 0x6000 9 != 0 && (Tab.find s.mgmt.blobs (odKey 0x6000 0xA)).isSome

/-- The module takes part in the fabric: it is in service (17 R577, R594). -/
def State.fabricOn (s : State) : Bool := s.power.main && s.crust.svc == .service

/-- Announce on every up port. -/
def State.announce (s : State) : State :=
  let b := fixLen 64 (Config.shake256 deviceKeyBytes 64) ++ [BitVec.ofNat 8 (4 * s.build.ioDies)]
  (s.allUp.foldl (fun s n => s.sendMsg 0x20 n b) s).setJoin 2

/-- JOIN_START (R433). -/
def execJoinStart (s : State) : Out :=
  when' (s.fabricOn && s.joinSet && s.allUp != [] && s.ctr 0x6000 0xB == 0) s s.announce

/-- JOIN_ANNOUNCE_TIMER (R433): again, also 100 ms after a refusal. -/
def execJoinAnnounceTimer (s : State) : Out :=
  when' (s.fabricOn && (s.ctr 0x6000 0xB == 2 || s.ctr 0x6000 0xB == 5)) s s.announce

/-! ### Messages from the authority -/

def Frame.msgId (f : Frame) : Nat := Word.bits f.h5 63 32
def Frame.frag (f : Frame) : Nat := Word.bits f.h5 31 16
def Frame.fragsM1 (f : Frame) : Nat := Word.bits f.h5 15 0
def Frame.msgBytes (f : Frame) : Nat := Word.bits f.h6 12 0

/-- The fragment is well formed: BYTES and LINES agree, and its number is one of the message's. -/
def fragOk (f : Frame) : Bool :=
  (Frame.msgBytes f + 63) / 64 == f.lines.length && decide (Frame.msgBytes f ≤ 4096) && decide (Frame.frag f ≤ Frame.fragsM1 f)
    && Word.bits f.h6 63 (if f.op = 0x23 then 21 else 13) == 0 && f.addrClass == 7

/-- Take a fragment: the whole message once every fragment has come. -/
def State.gather (s : State) (f : Frame) : State × Option Bytes :=
  let b := (f.lines.flatMap bytesOfLine).take (Frame.msgBytes f)
  let mine (x : Frag) : Bool := x.msgId == Frame.msgId f && x.op == f.op
  let g : Frag := (s.fab.frags.find? mine).getD {
    msgId := Frame.msgId f, op := f.op, total := Frame.fragsM1 f + 1, parts := [], since := s.crust.time }
  let g1 := { g with parts := if Frame.frag f < g.total then Tab.put g.parts (Frame.frag f) b else g.parts }
  let rest := s.fab.frags.filter fun x => !mine x
  if g1.parts.length = g1.total then
    ({ s with fab := { s.fab with frags := rest } }, some (g1.parts.flatMap Prod.snd))
  else ({ s with fab := { s.fab with frags := rest ++ [g1] } }, none)

/-- A join message's fragment arrives. -/
def State.joinMsg (s : State) (n op : Nat) (f : Frame) (k : State → Bytes → State) : Out :=
  ifUnit s (s.ethFitted n) <|
    when' (s.portOn n && f.op == op && s.arrival n f == .join) s
      (if !fragOk f then s.bump 0x6010 8
      else
        let g := (s.bump (0x6100 + n) 5).gather f
        match g.2 with
        | none => g.1
        | some b => k g.1 b)

/-- JOIN_CHALLENGE (R433): a report for the newest nonce is signed. -/
def State.challenge (s : State) (b : Bytes) : State :=
  let st := s.ctr 0x6000 0xB
  if b.length = 32 && decide (2 ≤ st) && st != 6 && s.fabricOn then
    ({ s with trust := { s.trust with joinNonce := some b } }).setJoin 3
  else s

def execJoinChallenge (n : Nat) (f : Frame) (s : State) : Out := s.joinMsg n 0x21 f State.challenge

/-- JOIN_RESULT (R433). -/
def execJoinResult (n : Nat) (f : Frame) (s : State) : Out :=
  s.joinMsg n 0x23 f fun s _ =>
    if Word.bits f.h6 20 13 != 0 && (s.ctr 0x6000 0xB == 2 || s.ctr 0x6000 0xB == 3) then s.setJoin 5 else s

/-! ### The member table (R432, R434 to R436) -/

/-- A big-endian number. -/
def ofBeBytes (b : Bytes) : Nat := ofLeBytes b.reverse

/-- A MEMBER_UPDATE that has the form of R434. -/
structure Update where
  full   : Bool
  serial : Nat
  recs   : List Word
  signed : Bytes
  sig    : Bytes

def Update.ofBytes (b : Bytes) : Option Update :=
  let h := b.take 64
  let n := ofBeBytes ((h.drop 16).take 4)
  let recs := (chunks 8 n (b.drop 64)).map fun x => (BitVec.ofNat 64 (ofBeBytes x) : Word)
  if b.length = 64 + 8 * n + 49856 && h.take 1 == [1] && decide ((h.getD 1 0).toNat ≤ 1)
      && ((h.drop 2).take 6 ++ h.drop 20).all (· == 0)
      && recs.all (fun w => Word.bits w 63 62 != 3 && Word.bits w 56 52 == 0) then
    some {
      full := (h.getD 1 0).toNat == 1, serial := ofBeBytes ((h.drop 8).take 8)
      recs := recs
      signed := b.take (64 + 8 * n), sig := b.drop (64 + 8 * n) }
  else none

def recPos (w : Word) : Nat := Word.bits w 19 0

/-- What a changed record does at once: outstanding requests to the position complete, also those that wait when it is no
member any more, and its tag spaces and replay windows are freed (R436). -/
def State.recordChanged (s : State) (pos : Nat) : State :=
  let os := s.fab.outst.filter fun o => o.pos == pos
  let gone := if (s.member pos).isNone then s.fab.waiting.filter fun w => w.pos == pos else []
  let s1 : State := { s with fab := { s.fab with waiting := s.fab.waiting.filter fun w => !gone.any fun g => g.id == w.id } }
  let s2 := os.foldl State.release s1
  let s2 : State := { s2 with fab := { s2.fab with
    spaces := s2.fab.spaces.filter fun kv => kv.1 % 2 ^ 20 != pos
    routes := s2.fab.routes.filter fun kv => kv.1 / 2 % 2 ^ 20 != pos
    active := s2.fab.active.filter fun kv => kv.1 % 2 ^ 20 != pos
    replay := s2.fab.replay.filter fun kv => kv.1 / 8 != pos
    rx := s2.fab.rx.filter fun kv => kv.1 / 16 != pos
    peers := Tab.erase s2.fab.peers pos } }
  let s3 := os.foldl (fun s o => s.replyTo o { status := 5 }) s2
  (gone.foldl (fun s w => s.deadReq w.src 5) s3).settle

/-- Apply an update. -/
def State.applyUpdate (s : State) (u : Update) : State :=
  let old := s.fab.members
  let new := u.recs.foldl (fun t w => Tab.set 0 t (recPos w) w) (if u.full then [] else old)
  let keys := (old.map Prod.fst ++ (new.map Prod.fst).filter fun k => (Tab.find old k).isNone).filter fun k =>
    Tab.get 0 old k != Tab.get 0 new k
  let s1 := ({ s with fab := { s.fab with members := new } } : State).setCtr 0x6000 0xD u.serial
  let s2 := (keys.foldl State.recordChanged s1).pump
  match s2.position.bind fun p => Tab.find new p with
  | none => s2
  | some w =>
    if s2.ctr 0x6000 0xB = 6 then
      (if Word.bits w 63 62 = 2 then { s2 with fab := { s2.fab with left := true } } else s2)
    else if Word.bits w 63 62 = 1 && Word.bits w 51 20 == s2.fab.incarnation.toNat then s2.setJoin 4 else s2

/-- MEMBER_UPDATE (R435). -/
def State.memberUpdate (s : State) (b : Bytes) : State :=
  let key := Tab.get [] s.mgmt.blobs (odKey 0x6000 0xA)
  match Update.ofBytes b with
  | none => s.fabLog 0x55 0 0
  | some u =>
    if Config.slhVerify key u.signed u.sig && decide (s.ctr 0x6000 0xD < u.serial) then s.applyUpdate u
    else s.fabLog 0x55 0 0

def execMemberUpdate (n : Nat) (f : Frame) (s : State) : Out := s.joinMsg n 0x24 f State.memberUpdate

/-- JOIN_FRAGMENT_TIMEOUT (R434). -/
def execJoinFragmentTimeout (msgId : Nat) (s : State) : Out :=
  go s { s with fab := { s.fab with frags := s.fab.frags.filter fun x => x.msgId != msgId } }

/-- Send LEAVE out of the lowest up port (R437). -/
def State.sendLeave (s : State) : State :=
  match s.allUp.head? with
  | none => s
  | some n => (s.sendMsg 0x25 n []).setJoin 6

/-- LEAVE_SEND (R437): every outstanding request has completed. -/
def execLeaveSend (s : State) : Out :=
  when' (s.power.main && s.fab.leaving && s.ctr 0x6000 0xB != 6 && s.fab.outst == [] && s.fab.waiting == []
    && s.fab.dead == []) s s.sendLeave

end Sys2Proof.Machine
end

