-- ==== Sys2Proof/Machine/Placement.lean ====
section
/-! DEFINITION. Placement: commits, cache fills, replica fills, and the steps and timers of a migration
(13 R443 to R448, R461, R465 to R470). The commands that are dictionary writes call these from Mgmt.lean. -/

namespace Sys2Proof.Machine

/-! ### Commit (13 R446, R448) -/

/-- The directory key of a loaf: bits [55:39] of its address. -/
def dirKey (p loaf : Nat) : Nat := p * 2 ^ 17 + loaf / 2 ^ 18

/-- Leaf frames that no directory entry names. -/
def State.freeLeaves (s : State) : List Nat :=
  (upTo (s.odNat 0x6020 1)).filter fun f => decide (12 ≤ f) && !s.place.dirs.any fun d => d.2 == f

/-- RSVD bits of an entry, the address's upper byte and HOME_POS of a LOCAL entry are zero. -/
def recordForm (pva e : Word) : Bool :=
  entSt e != 3 && Word.bits pva 63 56 == 0
    && (if entLocal e then entRepl e % 2048 == 0 && entPos e == 0 else entSt e == 2 || entRepl e == 0)

/-- The home record that an entry names, when it is one of this module. -/
def State.entryHome (s : State) (e : Word) : Option HomeRec :=
  if entLocal e || s.position == some (entPos e) then some (s.homeRec (entLoff e)) else none

/-- Why a staged record is invalid, leaves apart; 0 for a valid one. An UNMAPPED entry maps nothing, so only its
form is checked. -/
def State.recordFault (s : State) (p : Nat) (pva e : Word) : Nat :=
  if !recordForm pva e then 1
  else if entSt e = 0 then 0
  else if entLocal e && s.localReach p (entLoff e * 2 ^ 21) != 0 then 2
  else if !entLocal e && s.odNat (0x2600 + p) 1 == 0 then 3
  else if entSt e == 2 && (entLocal e || decide (s.odNat (0x2600 + p) 5 ≤ entRepl e)) then 4
  else
    match s.entryHome e with
    | some r => if 2 ≤ r.st && decide (r.st ≤ 5) then 5 else 0
    | none => 0

/-- The first bad record: ordinal, reason and record. `new` are the directory entries that earlier records need. -/
def State.firstBad (s : State) (p free : Nat) : List (Word × Word) → Nat → List Nat → Option (Nat × Nat × Word × Word)
  | [], _, _ => none
  | (pva, e) :: rs, i, new =>
    let k := s.recordFault p pva e
    let d := dirKey p (loafOf pva.toNat)
    let fresh := entSt e != 0 && (Tab.find s.place.dirs d).isNone && !new.contains d
    if k ≠ 0 then some (i, k, pva, e)
    else if fresh && decide (free ≤ new.length) then some (i, 6, pva, e)
    else s.firstBad p free rs (i + 1) (if fresh then new ++ [d] else new)

/-- Put one record into the table, allocating its leaf. -/
def State.putRecord (s : State) (p : Nat) (pva e : Word) : State :=
  let loaf := loafOf pva.toNat
  let d := dirKey p loaf
  let dirs := if entSt e = 0 || (Tab.find s.place.dirs d).isSome then s.place.dirs
    else match s.freeLeaves.head? with
      | some f => Tab.put s.place.dirs d f
      | none => s.place.dirs
  { s with place := { s.place with
      dirs := dirs
      leaves := Tab.set 0 s.place.leaves (leafKey p loaf) e
      replicas := Tab.erase s.place.replicas (leafKey p loaf) } }

/-- Leaves that hold no mapped entry are freed. -/
def State.freeEmpty (s : State) : State :=
  { s with place := { s.place with
      dirs := s.place.dirs.filter fun d =>
        s.place.leaves.any fun l => dirKey (l.1 / 2 ^ 35) (l.1 % 2 ^ 35) == d.1 && entSt l.2 != 0 } }

/-- Some partition's LOCAL entry places a loaf at `loff`. -/
def State.hasLocal (s : State) (loff : Nat) : Bool :=
  s.place.leaves.any fun l => entSt l.2 != 0 && entLocal l.2 && entLoff l.2 == loff

/-- A loaf gains a LOCAL entry: its record becomes OWNED. -/
def State.ownLoaf (s : State) (e : Word) : State :=
  let loff := entLoff e
  let r := s.homeRec loff
  let s1 := s.setHomeRec loff { r with
    st := 1, epoch := entEpoch e, replicable := entReplicable e, live := r.st == 1 && r.live, fwd := false, fpos := 0, floff := 0 }
  if r.st = 1 then s1
  else { s1 with place := { s1.place with owned := Tab.put s1.place.owned loff s1.crust.time } }

/-- Start the fill of a replica: 512 reads of 4 KiB at class 3 (13 R461). -/
def State.startFill (s : State) (p : Nat) (pva e : Word) : State :=
  let loaf := loafOf pva.toNat
  let s1 : State := { s with place := { s.place with
    replicas := Tab.put s.place.replicas (leafKey p loaf) { slot := entRepl e } } }
  if (Tab.find s.place.replicas (leafKey p loaf)).isSome then s
  else (upTo 512).foldl (fun s i =>
    s.runOwn (.fill p loaf i) none p (loaf * 2 ^ 21 + 4096 * i) (s.mkReq 1 3 64 0 0x3F false 0 0 0 0 0 [])) s1

/-- Apply every record at one instant; of two records of one loaf the later stands. -/
def State.applyRecords (s : State) (p : Nat) (rs : List (Word × Word)) : State :=
  let olds := rs.map fun r => s.entryOf p (loafOf r.1.toNat)
  let s1 := (rs.foldl (fun s r => s.putRecord p r.1 r.2) s).freeEmpty
  let last := rs.filter fun r => s1.entryOf p (loafOf r.1.toNat) == r.2
  let gained := last.filter fun r => entSt r.2 != 0 && entLocal r.2
  let s2 := gained.foldl (fun s r => s.ownLoaf r.2) s1
  let lost := (olds.filter fun e => entSt e != 0 && entLocal e && !s2.hasLocal (entLoff e)).map entLoff
  let s3 := lost.foldl (fun s l => s.vacate l false) s2
  let s4 := ({ s3 with place := { s3.place with pcache := [] } } : State).bump (0x2600 + p) 8 1 32
  (last.foldl (fun s r => if entSt r.2 = 2 then s.startFill p r.1 r.2 else s) s4).settle

/-- Writing 1 to PLACE_COMMIT. -/
def State.placeCommit (s : State) (p : Nat) : State :=
  let rs := Tab.get [] s.place.stage p
  let s1 : State := { s with place := { s.place with stage := Tab.erase s.place.stage p } }
  match s.firstBad p s.freeLeaves.length rs 0 [] with
  | some (i, k, pva, e) =>
    s1.log [pack [(56, 0x91), (52, p), (48, k), (0, i)], BitVec.ofNat 64 (pva.toNat % 2 ^ 56), e]
  | none => s1.applyRecords p rs

/-! ### Caches and replicas -/

/-- PCACHE_MISS_FILL (R447). -/
def execPcacheMissFill (die p loaf : Nat) (s : State) : Out :=
  ifUnit s (decide (die < s.build.ioDies) && decide (p < 16)) <|
    when' (s.power.main && entSt (s.entryOf p loaf) != 0) s (s.pcacheFill die p loaf)

/-- REPLICA_FILL_COMPLETE (R461): every line has arrived and no invalidation has. -/
def execReplicaFillComplete (p loaf : Nat) (s : State) : Out :=
  ifUnit s (decide (p < 16)) <|
    match Tab.find s.place.replicas (leafKey p loaf) with
    | none => .next s
    | some r =>
      when' (!r.broken && r.arrived.length == 512) s
        { s with place := { s.place with
            replicas := Tab.put s.place.replicas (leafKey p loaf) { r with usable := true } } }

/-! ### Migration (R465 to R470) -/

/-- The forward time of a partition's loafs in µs (R469). -/
def State.forwardTime (s : State) (p : Nat) : Nat :=
  let l := (s.domainMembers p).foldl (fun m x => max m (levelOf s.pos x.2)) 1
  if l = 1 then 120 else if l = 2 then 1200 else 25000

def State.migTarget (s : State) (p : Nat) : Nat × Nat :=
  let v := s.odNat (0x2600 + p) 9
  (nbits v 39 20, nbits v 19 0)

/-- MIG_START is refused (R465). -/
def State.migRefused (s : State) (p : Nat) (pva : Word) : Bool :=
  let e := s.entryOf p (loafOf pva.toNat)
  let t := (s.migTarget p).1
  (s.mig p).isSome || Word.bits pva 63 56 != 0
    || !(entSt e != 0 && entLocal e && s.ownsLoaf p (entLoff e) && (s.homeRec (entLoff e)).st == 1)
    || (match Tab.find s.place.owned (entLoff e) with
      | some at_ => decide (s.crust.time < at_ + s.forwardTime p)
      | none => false)
    || s.position == some t || !s.inDomain p t

/-- The lines of a loaf that hosts hold: port and line. -/
def State.trackedIn (s : State) (loff : Nat) : List (Nat × Nat) :=
  s.cxl.flatMap fun kv => (kv.2.tracked.filter fun t => t.lin / 2 ^ 21 == loff).map fun t => (kv.1, t.lin)

/-- The held request writes to the loaf. -/
def State.writesLoaf (s : State) (loff : Nat) (h : HeldReq) : Bool :=
  match s.heldOp h with
  | some q => q.write && q.lin / 2 ^ 21 == loff
  | none => false

/-- Step 1: the record freezes and host-cached lines are invalidated. Writes that came before and wait are kept in mind. -/
def State.migStart (s : State) (p : Nat) (pva : Word) : State :=
  let loaf := loafOf pva.toNat
  let loff := entLoff (s.entryOf p loaf)
  let r := s.homeRec loff
  let t := s.migTarget p
  let s1 := (s.setHomeRec loff { r with st := 2 }).setMig p {
    loaf := loaf, loff := loff, tpos := t.1, tloff := t.2, epoch := (r.epoch + 1) % 256, since := s.crust.time
    early := s.place.held.filter (s.writesLoaf loff) }
  (s.trackedIn loff).foldl (fun s x => s.sendSnoop x.1 x.2 true) (s1.setCtr (0x2600 + p) 0xB 1)

/-- A Sprig job holds a bank of the loaf. -/
def State.loafHeld (s : State) (loff : Nat) : Bool :=
  (s.mem.banks.any fun b => b.2.hold.isSome) &&
    (upTo 32768).any fun i =>
      match s.place' false (loff * 2 ^ 21 + 64 * i) with
      | some (l, _) => (s.bank l.mbn).hold.isSome
      | none => false

/-- The freeze has drained: no job, no earlier write that waits, no line that a host still holds. -/
def State.migDrained (s : State) (m : Mig) : Bool :=
  !s.loafHeld m.loff && s.trackedIn m.loff == [] && !(m.early.any fun h => s.place.held.contains h)
    && !s.mem.reqs.any fun r => r.lin / 2 ^ 21 == m.loff && r.kind != .read

/-- MIG_CLAIM (R466 step 2). -/
def execMigClaim (p : Nat) (s : State) : Out :=
  ifUnit s (decide (p < 16)) <|
    match s.mig p with
    | none => .next s
    | some m =>
      when' (s.power.main && m.step == 1 && s.migDrained m) s
        ((s.setMig p { m with step := 2 }).sendReq (.claim p) none 0 m.tpos p 0
          (s.updateFrame p m 0 (s.migReceiver p m) m.tpos)).settle

/-- MIG_FREEZE_TIMEOUT (R470). -/
def execMigFreezeTimeout (p : Nat) (s : State) : Out :=
  ifUnit s (decide (p < 16)) <|
    match s.mig p with
    | none => .next s
    | some m => when' (decide (m.step ≤ 4)) s (s.abandonMig p 3).retryHeld

/-- MIG_VACATE (R466 step 6). -/
def execMigVacate (p : Nat) (s : State) : Out :=
  ifUnit s (decide (p < 16)) <|
    match s.mig p with
    | none => .next s
    | some m => when' (m.step == 5) s ((s.vacate m.loff true).endMig p 0).retryHeld

/-- INCOMING_TIMEOUT (R470). -/
def execIncomingTimeout (loff : Nat) (s : State) : Out :=
  when' ((s.homeRec loff).st == 3) s
    (let s1 := s.vacate loff false
     ({ s1 with place := { s1.place with incoming := Tab.erase s1.place.incoming loff } } : State).retryHeld)

end Sys2Proof.Machine
end

