-- ==== Sys2Proof/Machine/Od.lean ====
section
/-! DEFINITION. What a read of a dictionary entry gives: the slot's content, those of computed entries among them,
and the contents of STRING and DOMAIN entries (15 R496 to R498, R533; the entry tables of the chapters). -/

namespace Sys2Proof.Machine

/-! ### Identity -/

/-- A number below 100 in decimal digits. -/
def decBytes (n : Nat) : Bytes :=
  (if n < 10 then [] else [BitVec.ofNat 8 (48 + n / 10 % 10)]) ++ [BitVec.ofNat 8 (48 + n % 10)]

/-- ORDER_CODE (00 R2): "UB-s", stacks, "-i", I/O dies, "-", grade. -/
def State.orderCode (s : State) : Bytes :=
  [85, 66, 45, 115] ++ decBytes s.stackCount ++ [45, 105] ++ decBytes s.build.ioDies ++ [45, if s.build.gradeB then 66 else 65]

/-! ### Sensors (16 R551 to R554) -/

/-- The group of a sensor: 0-3 hearth dies, 16-31 stacks, 32-37 I/O dies, 48 and 49 coolant, 50 the board's. -/
def sensorGroup (n : Nat) : Nat :=
  if n < 0x20 then n / 8
  else if n < 0x200 then 16 + (n - 0x100) / 16
  else if n < 0x300 then 32 + (n - 0x200) / 4
  else if n = 0x300 then 48 else if n = 0x301 then 49 else 50

/-- The sensors of a group, first number and count. -/
def groupSensors (g : Nat) : Nat × Nat :=
  if g < 4 then (8 * g, 8) else if g < 32 then (0x100 + 16 * (g - 16), 16) else if g < 48 then (0x200 + 4 * (g - 32), 4)
  else if g = 48 then (0x300, 1) else if g = 49 then (0x301, 1) else (0x310, 16)

def State.sensor (s : State) (n : Nat) : Sensor := Tab.get {} s.therm.sensors n
def State.group (s : State) (g : Nat) : Group := Tab.get {} s.therm.groups g

/-- The throttle threshold of a group in m°C (16 R555). -/
def State.throttleAt (s : State) (g : Nat) : Int :=
  1000 * (s.odNat 0x7030 (if g < 4 then 1 else if g < 32 then 2 else 3) : Int)

/-- SENSOR_FORCE of a sensor, when it forces a reading (17 R595). -/
def State.forcedTemp (s : State) (n : Nat) : Option Int :=
  let v := s.odNat (0xF400 + n) 1 % 2 ^ 32
  if v = 0x80000000 then none else some ((BitVec.ofNat 32 v).toInt)

/-- What a sensor returned, or, where the real reading is not asked for, the reading forced in its place. -/
def State.sensorRaw (s : State) (real : Bool) (n : Nat) : Int :=
  if real then (s.sensor n).mC else (s.forcedTemp n).getD (s.sensor n).mC

/-- The hottest of the valid readings among some sensors. -/
def State.hottestValid (s : State) (real : Bool) (ns : List Nat) : Option Int :=
  (ns.filter fun n => (s.sensor n).st == 1).foldl
    (fun m n => match m with | none => some (s.sensorRaw real n) | some v => some (max v (s.sensorRaw real n))) none

/-- The neighbours of a sensor (16 R553). -/
def State.sensorNeighbours (s : State) (n : Nat) : List Nat :=
  let r := groupSensors (sensorGroup n)
  let all := ((upTo r.2).map fun i => r.1 + i).filter (· != n)
  if 0x100 ≤ n && decide (n < 0x200) then
    let near := all.filter fun m => m + 1 == n || n + 1 == m
    if near.any fun m => (s.sensor m).st == 1 then near else all
  else all

/-- The reading that the module uses for a sensor: its own, a forced one, a neighbour's plus 2 °C, or the throttle
threshold (16 R553, R554; 17 R595). -/
def State.sensorUse (s : State) (real : Bool) (n : Nat) : Int :=
  let x := s.sensor n
  if x.st ≤ 1 || (!real && (s.forcedTemp n).isSome) then s.sensorRaw real n
  else
    match s.hottestValid real (s.sensorNeighbours n) with
    | some v => v + 2000
    | none => s.throttleAt (sensorGroup n)

/-- TEMP of a sensor (16 R566). -/
def State.sensorReading (s : State) (n : Nat) : Int := s.sensorUse false n

/-- The sensor's die is powered (17 R572; 16 R563). -/
def State.sensorPowered (s : State) (n : Nat) : Bool :=
  0x300 ≤ n ||
    (if 0x100 ≤ n && decide (n < 0x200) then
      (s.power.main || s.therm.stopStep == 5) && !(s.stk ((n - 0x100) / 16)).unpowered
    else s.power.main)

/-- A life-used figure in percent (16 R566): the highest of some groups. -/
def State.lifeUsed (s : State) (g0 n : Nat) : Nat :=
  ((upTo n).map fun i => min 100 ((Tab.get (0, 0) s.therm.life (g0 + i)).2 * 100 / (50000 * 3600000000 * 1000000))).foldl max 0

/-! ### States that entries report -/

def CfgSt.code : CfgSt → Nat
  | .idle => 0 | .pending => 1 | .applying => 2 | .failed => 3

def CoreState.code : CoreState → Nat
  | .unassigned => 0 | .halted => 1 | .running => 2 | .waiting => 3 | .faulted => 4

/-- RING_CTRL of a ring and its fields (10 R360). -/
def ringKey (p r : Nat) : Nat := 16 * p + r
def State.ringCtrl (s : State) (k : Nat) : Nat := s.odNat (0x2400 + k) 2
def State.ringOn (s : State) (k : Nat) : Bool := (s.ringCtrl k).testBit 0
def State.ringSize (s : State) (k : Nat) : Nat := 2 ^ nbits (s.ringCtrl k) 11 8
def State.ringCluster (s : State) (k : Nat) : Nat := nbits (s.ringCtrl k) 21 16

/-- RING_STATE (10 R366). -/
def State.ringState (s : State) (k : Nat) : Nat :=
  let r := s.ring k
  if !s.ringOn k then 0 else if r.stopped then 2 else if r.tail = r.head then 0 else 1

/-- CXL_LINK (14 R494): a port trains while it has its clock and PERST_N is released. -/
def State.cxlLink (s : State) (n : Nat) : Nat :=
  let p := s.cport n
  if !s.power.main then 0 else if 2 ≤ p.link then p.link
  else if p.refclk && !p.perst && s.crust.svc == .service then 1 else 0

/-- LINK of an Ethernet port (12 R439). -/
def State.ethLink (s : State) (n : Nat) : Nat :=
  if !s.power.main then 0 else if (s.port n).up then 2 else if s.crust.svc == .service then 1 else 0

/-- JOIN_STATE (12 R438): while nothing has been announced, 1 when only a port is missing. -/
def State.joinCode (s : State) : Nat :=
  let v := s.ctr 0x6000 0xB
  if v = 0 && s.joinSet && s.allUp == [] then 1 else v

/-- THROTTLE_CAUSES (16 R565). -/
def State.throttleCauses (s : State) : Nat :=
  packNat ((upTo 32).map fun i =>
    let g := if i < 4 then i else if i < 16 then 32 + (i - 4) else i
    (i, if (i < 10 || 16 ≤ i) && (s.group g).throttle then 1 else 0))

/-- SIDEBAND_STATE (18 R621). -/
def State.sideband (s : State) : Nat :=
  packNat [bitIf 0 s.crust.modReset, bitIf 1 (s.power.jmState != 0 && s.odNat 0x7001 1 == 1), bitIf 2 s.therm.alert,
    bitIf 3 s.power.good]

def State.runningSlot (s : State) : FwSlot := s.trust.slots.getD s.trust.running {}

/-- SEQ of the oldest entry that a log ring holds. -/
def State.logOldest (s : State) : Nat := s.crust.logSeq - s.crust.log.length
def State.plogOldest (s : State) : Nat := s.crust.plogNext - s.crust.plog.length

/-- Up to 64 entries of a ring from a cursor (17 R601). -/
def logBlock (l : List LogEnt) (oldest cursor : Nat) : Bytes :=
  ((l.drop (cursor - oldest)).take 64).flatMap fun e => bytesOfWords e.words

/-- The spare map of a stack (02 R63). -/
def State.spareMap (s : State) (stk : Nat) : Bytes :=
  (s.mem.spares.filter fun x => x.mbn / 1024 == stk).flatMap fun x =>
    leBytes 8 (packNat [bitIf 49 x.fused, (45, x.idx), (30, x.row), (16, x.mbn)])

/-! ### Contents of STRING and DOMAIN entries -/

/-- A number as `n` bytes in network byte order. -/
def beBytes (n v : Nat) : Bytes := (leBytes n v).reverse

/-- The body of DEVICE_CERT (17 R586). -/
def State.certBody (s : State) : Bytes :=
  [1, 0, 0, 0] ++ deviceKeyBytes ++ fixLen 32 s.build.serial ++ fixLen 16 s.orderCode ++ beBytes 8 Config.certDate
    ++ beBytes 8 Config.certKey ++ List.replicate 28 0

/-- DEVICE_CERT: the body and the signature over it (17 R586). -/
def State.deviceCert (s : State) : Bytes := s.certBody ++ fixLen 29792 (Config.certSign s.certBody)

def State.odBlob (s : State) (index sub : Nat) : Bytes :=
  if index = 0x1000 then
    match sub with
    | 1 => [83, 105, 103, 101, 105, 99, 97]
    | 2 => [85, 97, 98, 111, 110, 111, 114]
    | 3 => s.orderCode
    | _ => s.build.serial
  else if 0x3010 ≤ index && decide (index < 0x3020) then s.spareMap (index - 0x3010)
  else if index = 0x8020 then
    match sub with
    | 1 => deviceKeyBytes
    | 2 => fixLen 64 (Config.shake256 deviceKeyBytes 64)
    | 3 => s.deviceCert
    | _ => s.trust.report
  else if index = 0x8070 then s.trust.meas.getD (sub - 1) []
  else if index = 0x9000 then
    if sub = 4 then logBlock s.crust.log s.logOldest (s.odNat 0x9000 3)
    else logBlock s.crust.plog s.plogOldest (s.odNat 0x9000 6)
  else if 0xA200 ≤ index && decide (index < 0xA210) then Tab.get [] s.dumps (index - 0xA200)
  else Tab.get [] s.mgmt.blobs (odKey index sub)

/-- The target that a window names (15 R525). -/
def Win.index (w : Win) : Nat := Word.bits w.addr 63 48
def Win.sub (w : Win) : Nat := Word.bits w.addr 47 40
def Win.slots (w : Win) : Bool := Word.bit w.addr 39

def State.win (s : State) (k : Nat) : Win := Tab.get {} s.mgmt.wins k

/-- The type code of an entry; sub-index 0 is a U8. -/
def State.odType (s : State) (index sub : Nat) : Nat :=
  if sub = 0 then (if s.odHighest index = 0 then 0 else 2)
  else match s.odRow index sub with
    | some r => r.ty
    | none => 0

def isBlob (ty : Nat) : Bool := ty == 8 || ty == 9

/-- Snapshot mode (15 R528). -/
def State.snapshot (s : State) : Bool := s.crust.svc != .service

/-- The age of a copy read in snapshot mode is left open; otherwise it is 0 (15 R528). -/
def State.age (s : State) : Nat := if s.snapshot then Config.freeNat s.free % 2 ^ 24 else 0

def State.winLen (s : State) (w : Win) : Nat :=
  if isBlob (s.odType w.index w.sub) then (s.odBlob w.index w.sub).length else 0

/-- WIN_STATUS (15 R525). -/
def State.winStatus (s : State) (w : Win) : Word :=
  pack [(60, s.odType w.index w.sub), (59, s.snapshot.toNat), (48, w.status), (0, s.age)]

/-! ### Computed entries -/

def State.liveIdent (s : State) (index sub : Nat) : Option Nat :=
  if index = 0x1000 then
    match sub with
    | 4 => some s.stackCount
    | 5 => some s.build.ioDies
    | 6 => some s.build.gradeB.toNat
    | 8 => some s.build.hwRev
    | 0xA => some s.crust.svc.code
    | 0xB => some s.build.fieldMac.toNat
    | _ => none
  else if index = 0x1100 then
    match sub with
    | 1 => some (nbits s.build.tiles.toNat 63 0)
    | 2 => some (nbits s.build.tiles.toNat 127 64)
    | 3 => some (nbits s.build.tiles.toNat 191 128)
    | 4 => some (bitCount s.build.tiles.toNat 192)
    | _ => none
  else none

def State.livePart (s : State) (index sub : Nat) : Option Nat :=
  if index = 0x2000 then
    let g := s.cfgSet 16
    match sub with
    | 2 => some g.st.code
    | 3 => some g.version
    | 4 => some (g.prevVer.getD 0xFFFFFFFF)
    | 7 => some g.fail
    | _ => none
  else if 0x2010 ≤ index && decide (index < 0x2020) then
    let g := s.cfgSet (index - 0x2010)
    match sub with
    | 5 => some (s.part (index - 0x2010)).st
    | 7 => some g.st.code
    | 8 => some g.version
    | 9 => some (g.prevVer.getD 0xFFFFFFFF)
    | 0xC => some g.fail
    | _ => none
  else if 0x2400 ≤ index && decide (index < 0x2500) then
    match sub with
    | 3 => some (s.ring (index - 0x2400)).head
    | 4 => some (s.ringState (index - 0x2400))
    | _ => none
  else none

def State.liveStack (s : State) (index sub : Nat) : Option Nat :=
  if index = 0x3000 && sub == 1 then some (s.build.fitted &&& ~~~s.mem.fenced).toNat
  else if 0x3010 ≤ index && decide (index < 0x3020) && sub == 1 then
    some (s.mem.spares.filter fun x => x.mbn / 1024 == index - 0x3010).length
  else if 0x3030 ≤ index && decide (index < 0x3040) then
    let k := index - 0x3030
    match sub with
    | 1 => some (s.stk k).band
    | 7 => some (s.poolSize k)
    | 8 => some (packNat ((upTo 64).map fun c => bitIf c (s.chan (chanKey k c)).sr))
    | 9 => some (s.stk k).nap.toNat
    | 0xB => some (((upTo 64).map fun c => s.scrubLag k c).foldl max 0)
    | _ => none
  else none

def State.liveFab (s : State) (index sub : Nat) : Option Nat :=
  if index = 0x6000 then
    match sub with
    | 0xB => some s.joinCode
    | 0xC => some s.fab.incarnation.toNat
    | _ => none
  else if 0x6030 ≤ index && decide (index < 0x6036) then
    let n := index - 0x6030
    match sub with
    | 1 => some (s.cxlLink n)
    | 3 => some (s.cport n).noTrack.toNat
    | 5 => some (s.cport n).tracked.length
    | _ => none
  else if 0x6100 ≤ index && decide (index < 0x6118) && sub == 1 then some (s.ethLink (index - 0x6100))
  else if 0x5400 ≤ index && decide (index < 0x5430) then
    match sub with
    | 1 => some (s.cluster (index - 0x5400)).core.st.code
    | 2 => some (s.cluster (index - 0x5400)).core.pc
    | _ => none
  else none

def State.livePower (s : State) (index sub : Nat) : Option Nat :=
  let p := s.power
  if index = 0x7000 then
    match sub with
    | 2 => some p.plim
    | 5 => some p.watts
    | 6 => some p.mV
    | 7 => some p.mA
    | 8 => some (packNat (p.freqs.zipIdx.map fun f => (8 * f.2, f.1)))
    | 9 => some s.duty
    | 0xA => some s.throttleCauses
    | _ => none
  else if index = 0x7001 then
    match sub with
    | 3 => some p.jmState
    | 4 => some p.jmTarget
    | _ => none
  else if 0x7020 ≤ index && decide (index < 0x7030) && sub == 1 then some (s.tokenGrant (index - 0x7020))
  else if index = 0x7040 then
    match sub with
    | 1 => some (s.lifeUsed 16 16)
    | 2 => some (s.lifeUsed 0 4)
    | _ => none
  else if index = 0x7100 then
    match sub with
    | 1 => some s.crust.straps.toNat
    | 2 => some s.sideband
    | 3 => some (packNat ((upTo s.build.ioDies).map fun n => bitIf n (s.cport n).refclk))
    | 4 => some (packNat ((upTo s.build.ioDies).map fun n => bitIf n (s.cport n).perst))
    | _ => none
  else if 0x7400 ≤ index && decide (index < 0x7800) && sub == 2 then
    some (if s.sensorPowered (index - 0x7400) then (s.sensor (index - 0x7400)).st else 0)
  else none

def State.liveCrust (s : State) (index sub : Nat) : Option Nat :=
  let t := s.trust
  if index = 0x8020 && sub == 5 then some t.attSt
  else if 0x8030 ≤ index && decide (index < 0x8033) && sub == 2 then
    some (Tab.find s.mgmt.secrets (index - 0x8030)).isSome.toNat
  else if index = 0x8040 && sub == 1 then some s.mgmt.sessions.length
  else if index = 0x8050 then
    match sub with
    | 1 => some (packNat [(0, (t.slots.getD 0 {}).st), (8, (t.slots.getD 1 {}).st)])
    | 2 => some t.running
    | 3 => some s.runningSlot.svn
    | 4 => some t.fuseSvn
    | 5 => some s.runningSlot.build.toNat
    | 9 => some t.upd
    | _ => none
  else if index = 0x8060 then
    match sub with
    | 4 => some s.crust.boot
    | 5 => some s.crust.resets
    | 6 => some s.crust.lastReset
    | _ => none
  else if index = 0x9000 then
    match sub with
    | 1 => some (s.crust.logSeq % 2 ^ 32)
    | 2 => some (s.logOldest % 2 ^ 32)
    | 5 => some (s.crust.plogNext % 2 ^ 32)
    | _ => none
  else none

def State.liveDebug (s : State) (index sub : Nat) : Option Nat :=
  if 0xA100 ≤ index && decide (index < 0xA130) then
    (if 1 ≤ sub && decide (sub ≤ 48) then some (s.flag (index - 0xA100) (sub - 1)).toNat else none)
  else if 0xA300 ≤ index && decide (index < 0xA30B) then
    let w := s.win (index - 0xA300)
    match sub with
    | 1 => some (w.addr.setBits 31 0 w.off).toNat
    | 3 => some (s.winLen w)
    | 4 => some (s.winStatus w).toNat
    | 6 => some w.lastErr.toNat
    | _ => none
  else if index = 0xF000 && sub == 2 then some s.test.step
  else if 0xF010 ≤ index && decide (index < 0xF020) && sub == 2 then some (Tab.get 0 s.test.mtest (index - 0xF010))
  else if index = 0xF100 && sub == 2 then some s.test.bist
  else none

/-- The state whose tables of the main domains are the crust's copies of them, while those domains are stopped. -/
def State.copied (s : State) : State :=
  match (if s.power.main then none else s.copies) with
  | none => s
  | some c => { s with
      crust := { s.crust with svc := c.svc }
      mem := { s.mem with stkc := c.mem.1, chans := c.mem.2 }
      clusters := c.clusters
      rings := c.rings
      fab := { s.fab with ports := c.ports }
      cxl := c.cxl
      mgmt := { s.mgmt with parts := c.parts }
      power := { s.power with main := true } }

/-- The value of an entry that is computed from the state. One that lives in the main domains keeps its last copy when they
stop (15 R528). -/
def State.odLive (s : State) (index sub : Nat) : Option Nat :=
  if index < 0x2000 then s.liveIdent index sub
  else if index < 0x3000 then s.copied.livePart index sub
  else if index < 0x5000 then s.copied.liveStack index sub
  else if index < 0x7000 then s.copied.liveFab index sub
  else if index < 0x8000 then s.livePower index sub
  else if index < 0xA000 then s.liveCrust index sub
  else if index < 0xA200 then s.copied.liveDebug index sub
  else s.liveDebug index sub

/-- A 32-bit value sign-extended (15 R497). -/
def sext32 (v : Nat) : Word := (BitVec.ofNat 32 v).signExtend 64

/-- The slot content that a permitted read gives (15 R496 to R498). -/
def State.odSlot (s : State) (index sub : Nat) : Word :=
  if sub = 0 then BitVec.ofNat 64 (s.odHighest index)
  else
    match s.odRow index sub with
    | none => 0
    | some r =>
      if r.acc = .wo then 0
      else if isBlob r.ty then BitVec.ofNat 64 (s.odBlob index sub).length
      else if r.base = 0x7400 then
        BitVec.ofInt 64 (if sub = 1 then s.sensorReading (index - 0x7400) else (s.sensor (index - 0x7400)).peak)
          |> fun v => if sub = 2 then BitVec.ofNat 64 ((s.odLive index sub).getD 0) else v
      else
        match s.odLive index sub with
        | some v => BitVec.ofNat 64 v
        | none => if r.ty = 6 then sext32 (s.odNat index sub) else s.odVal index sub

end Sys2Proof.Machine
end

