-- ==== Sys2Proof/Machine/VecMath.lean ====
section
/-! DEFINITION. The functions of the vector engine that the spec bounds and does not fix (08 R269): the exact value to more
than sixty bits, and the fixed function of the module held within the bound about it (log entry 128). -/

namespace Sys2Proof.Machine

/-- ±n·2^q. -/
structure Ref where
  neg : Bool
  n   : Nat
  q   : Int
  deriving DecidableEq, Repr

/-- ln 2 and 1/√(2π) in units of 2^-128 and 2^-384. -/
def ln2Fx : Int := 235865763225513294137944142764154484399
def phiFx : Int := 15719126204380994179984188269779838873652526976050301462122532572838204570607606209427755253647131857225359943854221

/-- m·2^e in units of 2^-p, cut off. -/
def fxOf (p : Nat) (neg : Bool) (m : Nat) (e : Int) : Int :=
  let v : Nat := if 0 ≤ e + p then m * 2 ^ (e + p).toNat else m >>> (-(e + p)).toNat
  if neg then -(v : Int) else v

/-- e^(t·2^-128). -/
def expRef (t : Int) : Ref :=
  let n := t / ln2Fx
  let r := (t - n * ln2Fx).toNat
  { neg := false, n := (upTo 40).foldl (fun a i => 2 ^ 128 + r * a / ((40 - i) * 2 ^ 128)) (2 ^ 128), q := n - 128 }

/-- ln (m·2^e) in units of 2^-128, `m` not 0: by the series of artanh about 1. -/
def lnFx (m : Nat) (e : Int) : Int :=
  let k := if 3 * m < 4 * 2 ^ Nat.log2 m then Nat.log2 m else Nat.log2 m + 1
  let w : Int := ((m : Int) - 2 ^ k) * 2 ^ 128 / ((m : Int) + 2 ^ k)
  let z := (upTo 40).foldl (fun (a : Int × Int) i => (a.1 * w / 2 ^ 128 * w / 2 ^ 128, a.2 + a.1 / (2 * (i : Int) + 1))) (w, 0)
  2 * z.2 + ((k : Int) + e) * ln2Fx

/-- |m·2^e| is at least 2^b. -/
def atLeastPow (m : Nat) (e b : Int) : Bool := m != 0 && decide (b ≤ (Nat.log2 m : Int) + e)

/-- A value far below every FP32 number. -/
def tinyRef : Ref := { neg := false, n := 1, q := -10000 }

/-- 1/(1 + e^-x) of x = ±m·2^e. -/
def sigmoidRef (neg : Bool) (m : Nat) (e : Int) : Ref :=
  if atLeastPow m e 8 then (if neg then tinyRef else { neg := false, n := 1, q := 0 })
  else
    let u := expRef (fxOf 128 true m e)
    let d := 2 ^ 128 + u.n >>> (-(u.q + 128)).toNat
    if neg then { neg := false, n := u.n * 2 ^ 128 / d, q := u.q } else { neg := false, n := 2 ^ 256 / d, q := -128 }

/-- (1 + erf (x/√2))/2 of x = ±m·2^e. -/
def phiRef (neg : Bool) (m : Nat) (e : Int) : Ref :=
  let x := fxOf 384 neg m e
  if x ≥ 15 * 2 ^ 384 then { neg := false, n := 1, q := 0 }
  else if x ≤ -15 * 2 ^ 384 then tinyRef
  else
    let y := x * x / 2 ^ 385
    let z := (upTo 600).foldl
      (fun (a : Int × Int) i => (-(a.1 * y / ((i + 1 : Nat) * 2 ^ 384)), a.2 + a.1 / (2 * (i : Int) + 1))) (x, 0)
    { neg := false, n := (2 ^ 383 + z.2 * phiFx / 2 ^ 384).toNat, q := -384 }

/-- tanh of x = ±m·2^e. -/
def tanhRef (neg : Bool) (m : Nat) (e : Int) : Ref :=
  if !atLeastPow m e (-30) then { neg := neg, n := m, q := e }
  else if atLeastPow m e 6 then { neg := neg, n := 1, q := 0 }
  else
    let u := expRef (2 * fxOf 128 true m e)
    let d := u.n >>> (-(u.q + 128)).toNat
    { neg := neg, n := (2 ^ 128 - d) * 2 ^ 128 / (2 ^ 128 + d), q := -128 }

def refOfInt (v q : Int) : Ref := { neg := decide (v < 0), n := v.natAbs, q := q }

/-- The exact value of a function of R269 at a finite operand, to more than sixty bits. -/
def vecRef (fn : Nat) (neg : Bool) (m : Nat) (e : Int) : Ref :=
  match fn with
  | 0 => expRef (fxOf 128 neg m e)
  | 1 => expRef (fxOf 128 neg m e * ln2Fx / 2 ^ 128)
  | 2 => refOfInt (lnFx m e) (-128)
  | 3 => refOfInt (lnFx m e * 2 ^ 128 / ln2Fx) (-128)
  | 7 => tanhRef neg m e
  | 8 => sigmoidRef neg m e
  | 9 => let s := sigmoidRef neg m e; { neg := neg, n := m * s.n, q := e + s.q }
  | _ => let s := phiRef neg m e; { neg := neg, n := m * s.n, q := e + s.q }

/-- The exponent of a value's leading bit. -/
def Ref.top (v : Ref) : Int := (Nat.log2 v.n : Int) + v.q

/-- Units in the last place that a function may be off (08 R269). -/
def vecUlps (fn : Nat) : Nat := if fn ≤ 3 then 1 else 2

/-- |y - v| is at most `k` units in the last place of `v`; the millionth of a unit beyond covers the bits that `v` lacks. -/
def Ref.near (v : Ref) (k : Nat) (y : W32) : Bool :=
  match f32 y with
  | .fin sy my ey =>
    let u := v.top - 43
    let c := min u (min v.q ey)
    let a : Int := (if sy then -1 else 1) * (my * 2 ^ (ey - c).toNat : Nat)
    let b : Int := (if v.neg then -1 else 1) * (v.n * 2 ^ (v.q - c).toNat : Nat)
    decide ((a - b).natAbs ≤ (k * 2 ^ 20 + 1) * 2 ^ (u - c).toNat)
  | _ => false

/-- `y` is a result that R269 allows for the exact value `v`: within the bound on normal results; an infinity beyond them; a
subnormal, zero or the least normal number below them, and not zero for a subnormal. -/
def Ref.allows (v : Ref) (k : Nat) (y : W32) : Bool :=
  let mag := y.toNat % 2 ^ 31
  if v.n = 0 || decide (v.top < -149) then decide (mag ≤ 0x00800000)
  else if v.top < -126 then decide (1 ≤ mag) && decide (mag ≤ 0x00800000)
  else if v.top ≥ 128 then mag == 0x7F800000 && y.getLsbD 31 == v.neg
  else v.near k y

/-- The value itself, rounded. -/
def Ref.round (v : Ref) : W32 :=
  if v.n = 0 || decide (v.top < -149) then 0
  else if v.top ≥ 128 then (if v.neg then 0xFF800000 else 0x7F800000)
  else toF32 (.fin v.neg v.n v.q)

/-- A function that R269 bounds: the module's fixed function where it keeps the bound. -/
def vecBounded (fn : Nat) (x : W32) : W32 :=
  match f32 x with
  | .fin neg m e =>
    let v := vecRef fn neg m e
    if v.allows (vecUlps fn) (Config.vecMath fn x) then Config.vecMath fn x else v.round
  | _ => nan32

end Sys2Proof.Machine
end

