-- ==== Sys2Proof/Machine/Vector.lean ====
section
/-! DEFINITION. The vector engine: the chain block, its stages, reductions, masks, output and completion (08). -/

namespace Sys2Proof.Machine

/-! ### The descriptor and the chain block (10 R352; 08 R259 to R263) -/

def vqClass (d : List Word) : Nat := Word.bits (mqW d 0) 55 54
def vqChain (d : List Word) : Nat := Word.bits (mqW d 0) 30 14 * 64
def vqN (d : List Word) : Nat := Word.bits (mqW d 0) 13 0
/-- The place that address word `n` names. -/
def vqPlace (d : List Word) (n : Nat) : Place2 := ⟨Word.bits (mqW d n) 63 63, Word.bits (mqW d n) 55 0⟩
/-- An address word keeps its layout. -/
def vqAddrOk (w : Word) : Bool :=
  Word.bits w 62 56 == 0 && Word.bits w 5 0 == 0 && (Word.bit w 63 || Word.bits w 55 23 == 0)

/-- A chain block. -/
structure Chain where
  h0 : Word
  h1 : Word
  cs : List W32
  st : List Word
  pad : Bool
  deriving DecidableEq, Repr

def Chain.ofBytes (b : Bytes) : Chain where
  h0 := BitVec.ofNat 64 (ofLeBytes (b.take 8))
  h1 := BitVec.ofNat 64 (ofLeBytes ((b.drop 8).take 8))
  cs := (upTo 8).map fun i => BitVec.ofNat 32 (ofLeBytes ((b.drop (16 + 4 * i)).take 4))
  st := (upTo 8).map fun i => BitVec.ofNat 64 (ofLeBytes ((b.drop (48 + 8 * i)).take 8))
  pad := ((b.drop 112).take 16).all (· == 0)

namespace Chain

def n (k : Chain) : Nat := Word.bits k.h0 55 52
def fmt (k : Chain) (i : Nat) : Nat := Word.bits k.h0 (51 - 3 * i) (49 - 3 * i)
def scaled (k : Chain) (i : Nat) : Bool := Word.bit k.h0 (42 - i)
def outFmt (k : Chain) : Nat := Word.bits k.h0 39 37
def outScaled (k : Chain) : Bool := Word.bit k.h0 36
def rnd (k : Chain) : Nat := Word.bits k.h0 35 34
def outSrc (k : Chain) : Nat := Word.bits k.h0 33 32
def vFmt (k : Chain) : Nat := if Word.bit k.h0 31 then 5 else 7
def maskMode (k : Chain) : Nat := Word.bits k.h0 30 29
def statsEn (k : Chain) : Bool := Word.bit k.h0 28
def rowLen (k : Chain) : Nat := Word.bits k.h0 27 14
def permAddr (k : Chain) : Nat := Word.bits k.h1 63 47 * 64
def vAddr (k : Chain) : Nat := Word.bits k.h1 46 30 * 64
def causal (k : Chain) : Nat := Word.bits k.h1 29 16
def topk (k : Chain) : Nat := Word.bits k.h1 15 12 + 1
def stages (k : Chain) : List Word := k.st.take k.n

end Chain

def vsOp (w : Word) : Nat := Word.bits w 63 58
def vsDst (w : Word) : Nat := Word.bits w 57 56
def vsSrc (w : Word) (i : Nat) : Nat := Word.bits w (55 - 5 * i) (51 - 5 * i)
def vsNeg (w : Word) (i : Nat) : Bool := Word.bit w (40 - i)
def vsCmp (w : Word) : Nat := Word.bits w 37 35
def vsFn (w : Word) : Nat := Word.bits w 34 31
def vsQ (w : Word) : Nat := Word.bits w 30 30

/-- Row stages (08 R264). -/
def isRowOp (op : Nat) : Bool := decide (0x10 ≤ op) && decide (op ≤ 0x15)
/-- Sources that a stage reads. -/
def opReads (op : Nat) : Nat :=
  match op with
  | 0 => 0
  | 4 => 3
  | 7 => 3
  | 2 => 2 | 3 => 2 | 5 => 2 | 6 => 2 | 9 => 2 | 0x13 => 2 | 0x14 => 2
  | _ => 1
def vsReads (w : Word) : List Nat := (upTo (opReads (vsOp w))).map (vsSrc w)
/-- Row registers that a row stage writes. -/
def vsQs (w : Word) : List Nat :=
  match vsOp w with
  | 0x12 => [0, 1]
  | 0x14 => [0, 1]
  | op => if isRowOp op then [vsQ w] else []

/-- A stage word is well formed in itself (08 R262 to R264, R267). -/
def stageOk (w : Word) : Bool :=
  let op := vsOp w
  (decide (op ≤ 0xA) || isRowOp op) && Word.bits w 29 0 == 0
    && (upTo 3).all (fun i => decide (vsSrc w i ≤ 19))
    && decide (vsCmp w ≤ 5) && (!(op == 8 || op == 9) || decide (vsFn w ≤ 10))

/-- What stages may read as the chain goes on: `rows` a row stage has run, the temporaries and row registers
at hand (08 R266). -/
def readsOk : List Word → Bool → List Nat → List Nat → Bool
  | [], _, _, _ => true
  | w :: ws, rowed, ts, qs =>
    let ok := (vsReads w).all fun c =>
      if c ≤ 3 then !rowed || ts.contains c
      else if c ≤ 6 then !rowed
      else if c = 16 || c = 17 then qs.contains (c - 16)
      else true
    let op := vsOp w
    let qs1 := qs ++ vsQs w
    ok && (if isRowOp op then readsOk ws true [vsDst w] qs1
      else readsOk ws rowed (if op = 0 then ts else vsDst w :: ts) qs1)

/-- Some stage reads source code `c`. -/
def Chain.uses (k : Chain) (c : Nat) : Bool := k.stages.any fun w => (vsReads w).contains c

/-- The descriptor and its chain block are valid (10 R352; 08 R267). -/
def chainOk (d : List Word) (k : Chain) : Bool :=
  let used := [k.uses 4, k.uses 5, k.uses 6, k.maskMode % 2 == 1, true, k.statsEn]
  let n := vqN d
  Word.bits (mqW d 0) 63 56 == 1 && Word.bits (mqW d 0) 53 31 == 0 && mqW d 7 == 0
    && decide (1 ≤ n) && decide (n ≤ 8192)
    && (upTo 6).all (fun i => vqAddrOk (mqW d (i + 1)) && (used.getD i false || mqW d (i + 1) == 0))
    && Word.bits k.h0 63 56 == 1 && decide (1 ≤ k.n) && decide (k.n ≤ 8)
    && (upTo 3).all (fun i => scaleOk (k.fmt i) (k.scaled i) && (used.getD i false || k.fmt i == 0)
      && (!k.scaled i || (vqPlace d (i + 1)).addr % 4096 == 0))
    && scaleOk k.outFmt k.outScaled && (!k.outScaled || (vqPlace d 5).addr % 4096 == 0)
    && decide (k.rnd ≤ 2) && decide (1 ≤ k.rowLen) && decide (k.rowLen ≤ 8192) && n % k.rowLen == 0
    && Word.bits k.h0 13 0 == 0 && Word.bits k.h1 11 0 == 0 && decide (k.causal ≤ 8191) && k.pad
    && decide (k.topk ≤ k.rowLen) && k.stages.all stageOk && readsOk k.stages false [] []
    && decide ((k.stages.filter fun w => isRowOp (vsOp w)).length ≤ 2)
    && decide ((k.stages.filter fun w => vsOp w == 0x12 || vsOp w == 0x15).length ≤ 1)

/-! ### Values -/

/-- A value of a lane with its poison. -/
structure VE where
  v : W32 := 0
  p : Bool := false
  deriving DecidableEq, Repr

/-- The FN functions (08 R269): exact or at their special inputs, else the fixed function of the module within its bound. -/
def vecFn (fn : Nat) (x : W32) : W32 :=
  let v := f32 x
  match v with
  | .nan => nan32
  | .inf neg =>
    match fn with
    | 0 => if neg then 0 else x
    | 1 => if neg then 0 else x
    | 2 => if neg then nan32 else x
    | 3 => if neg then nan32 else x
    | 4 => toF32 (fvRecip v)
    | 5 => toF32 (fvRsqrt v)
    | 6 => toF32 (fvSqrt v)
    | 7 => if neg then 0xBF800000 else 0x3F800000
    | 8 => if neg then 0 else 0x3F800000
    | _ => if neg then 0x80000000 else x
  | .fin neg m _ =>
    match fn with
    | 2 => if m = 0 then 0xFF800000 else if neg then nan32 else vecBounded fn x
    | 3 => if m = 0 then 0xFF800000 else if neg then nan32 else vecBounded fn x
    | 4 => toF32 (fvRecip v)
    | 5 => toF32 (fvRsqrt v)
    | 6 => toF32 (fvSqrt v)
    | _ => vecBounded fn x

/-- The smaller value: NaN when either is NaN, −0.0 below +0.0 (08 R268). -/
def min32 (a b : W32) : W32 := neg32 (max32 (neg32 a) (neg32 b))
def div32 (a b : W32) : W32 := toF32 (fvDiv (f32 a) (f32 b))
def nat32 (n : Nat) : W32 := toF32 (.fin false n 0)

/-! ### Reductions (08 R270, R271) -/

/-- One level of the tree. -/
def treeLevel (f : W32 → W32 → W32) : List (Option W32) → List (Option W32)
  | a :: b :: xs =>
    (match a, b with
      | some x, some y => some (f x y)
      | some x, none => some x
      | none, y => y) :: treeLevel f xs
  | xs => xs

/-- The beat partial of 256 lanes. -/
def beatPartial (f : W32 → W32 → W32) (l : List (Option W32)) : Option W32 :=
  (Nat.repeat (treeLevel f) 8 l).headD none

/-- A row's result: its elements start at element `e0`; absent elements are `none`. -/
def rowReduce (f : W32 → W32 → W32) (e0 : Nat) (xs : List (Option W32)) : Option W32 :=
  let b0 := e0 / 256
  let b1 := (e0 + xs.length - 1) / 256
  ((upTo (b1 + 1 - b0)).map fun b =>
    beatPartial f ((upTo 256).map fun j =>
      let e := 256 * (b0 + b) + j
      if e0 ≤ e then (xs[e - e0]?).getD none else none)).foldl (fun acc x =>
        match acc, x with
        | some a, some y => some (f a y)
        | some a, none => some a
        | none, y => y) none

/-! ### Machine state of a chain -/

/-- Temporaries by element, row registers by row, stats bytes, EMPTY rows, free values used. -/
structure VState where
  t : List (List VE)
  q : List (List VE)
  stats : Bytes := []
  empty : Nat := 0
  free : Nat
  deriving DecidableEq, Repr

/-- The inputs of a chain: elements of X, Y, Z; V; the mask bit of each element (and whether it is known). -/
structure VIn where
  n : Nat
  x : List (List VE)
  v : List W32
  mask : List Bool
  perm : List Nat
  deriving DecidableEq, Repr

/-- The value of a source for element `e` (08 R263). -/
def srcVal (k : Chain) (i : VIn) (s : VState) (c e : Nat) : VE :=
  let row := e / k.rowLen
  if c ≤ 3 then (s.t.getD c []).getD e {}
  else if c ≤ 6 then (i.x.getD (c - 4) []).getD e {}
  else if c = 7 then { v := i.v.getD (e % k.rowLen) 0 }
  else if c ≤ 15 then { v := toF32 (f32 (k.cs.getD (c - 8) 0)) }
  else if c ≤ 17 then (s.q.getD (c - 16) []).getD row {}
  else if c = 18 then { v := nat32 (e % k.rowLen) }
  else {}

/-- Source `j` of a stage, negated as it says. -/
def stageSrc (k : Chain) (i : VIn) (s : VState) (w : Word) (j e : Nat) : VE :=
  let x := srcVal k i s (vsSrc w j) e
  if vsNeg w j then { x with v := neg32 x.v } else x

/-- A position is masked (08 R273). -/
def masked (k : Chain) (i : VIn) (e : Nat) : Bool :=
  (k.maskMode % 2 == 1 && !i.mask.getD e true)
    || (decide (2 ≤ k.maskMode) && decide (e % k.rowLen > k.causal + e / k.rowLen))

/-- Elementwise stages (08 R264, R268, R272). -/
def elemStage (k : Chain) (i : VIn) (s : VState) (w : Word) (e : Nat) : VE :=
  let a := stageSrc k i s w 0 e
  let b := stageSrc k i s w 1 e
  let c := stageSrc k i s w 2 e
  let two (f : W32 → W32 → W32) : VE := ⟨f a.v b.v, a.p || b.p⟩
  match vsOp w with
  | 1 => a
  | 2 => two add32
  | 3 => two mul32
  | 4 => ⟨fma32 a.v b.v c.v, a.p || b.p || c.p⟩
  | 5 => two max32
  | 6 => two min32
  | 7 =>
    let old := (s.t.getD (vsDst w) []).getD e {}
    let r := if fvRel (vsCmp w) (f32 a.v) (f32 b.v) then c else old
    { r with p := r.p || a.p || b.p }
  | 8 => { a with v := vecFn (vsFn w) a.v }
  | 9 => two div32
  | _ =>
    let src := i.perm.getD (e % 256) 0
    let vl := min 256 (i.n - e / 256 * 256)
    if src < vl then stageSrc k i s w 0 (e / 256 * 256 + src) else {}

/-- The result of a row stage on one row: the elements, the row registers' new values, stats, EMPTY. -/
structure RowRes where
  out : List VE
  q   : List (Nat × VE)
  stats : Bytes := []
  empty : Bool := false
  free : Nat
  deriving DecidableEq, Repr

/-- SOFTMAX of a row (08 R274, R275). -/
def softmaxRow (e0 : Nat) (xs : List VE) (mk : List Bool) (free : Nat) : RowRes :=
  let on := mk.map not
  let vals := (xs.zip on).map fun x => if x.2 then some x.1.v else none
  let live := vals.filterMap id
  let u := live.length
  let poison := (xs.zip on).any fun x => x.2 && x.1.p
  let m := (rowReduce max32 e0 vals).getD 0xFF800000
  let nanc := live.any isNan32
  let inf := !nanc && m == 0x7F800000
  let emp := u == 0 || (!nanc && m == 0xFF800000)
  let kinf := (live.filter (· == 0x7F800000)).length
  let ex := vals.map fun x => x.map fun v => vecFn 0 (add32 v (neg32 m))
  let sum := (rowReduce add32 e0 ex).getD 0
  let s := if emp then 0 else if nanc then Config.freeW32 free else if inf then nat32 kinf else sum
  let outs := (vals.zip ex).map fun x =>
    match x.1, x.2 with
    | some v, some y =>
      if u = 0 then (0 : W32) else if nanc then nan32
      else if inf then (if v = 0x7F800000 then div32 0x3F800000 (nat32 kinf) else 0)
      else if emp then 0 else div32 y s
    | _, _ => if nanc then nan32 else 0
  let mm := if emp then 0xFF800000 else m
  let flags := [(0, emp), (1, nanc), (2, inf), (3, poison)].map fun f => (f.1, f.2.toNat)
  { out := outs.map fun v => ⟨v, poison⟩
    q := [(0, ⟨mm, poison⟩), (1, ⟨s, poison⟩)]
    stats := leBytes 4 mm.toNat ++ leBytes 4 s.toNat ++ leBytes 4 (packNat flags) ++ leBytes 4 u
    empty := emp
    free := free + 1 }

/-- `a` ranks above `b` (08 R278): values and row indexes. -/
def ranksAbove (a b : W32 × Nat) : Bool :=
  let x := f32 a.1
  let y := f32 b.1
  match fvCmp x y with
  | some c =>
    if c > 0 then true else if c < 0 then false
    else if fvIsNeg x != fvIsNeg y then !fvIsNeg x
    else decide (a.2 < b.2)
  | none => if isNan32 a.1 && isNan32 b.1 then decide (a.2 < b.2) else isNan32 b.1

/-- Insert in rank order. -/
def insRank (a : W32 × Nat) : List (W32 × Nat) → List (W32 × Nat)
  | [] => [a]
  | b :: bs => if ranksAbove a b then a :: b :: bs else b :: insRank a bs

/-- TOPK of a row (08 R278). -/
def topkRow (n qd : Nat) (xs : List VE) (mk : List Bool) (free : Nat) : RowRes :=
  let live := ((xs.zip mk).zipIdx).filterMap fun x => if x.1.2 then none else some (x.1.1.v, x.2)
  let poison := (xs.zip mk).any fun x => !x.2 && x.1.p
  let sel := (live.foldl (fun l a => insRank a l) []).take n
  let recs : List (W32 × Nat) := sel ++ List.replicate (n - sel.length) (0, 0xFFFFFFFF)
  { out := xs.zipIdx.map fun x => ⟨if sel.any (fun y => y.2 == x.2) then x.1.v else 0, poison⟩
    q := [(qd, ⟨(recs.getLastD (0, 0)).1, poison⟩)]
    stats := recs.flatMap fun r => leBytes 4 r.1.toNat ++ leBytes 4 r.2
    free := free }

/-- The epsilon of a row: one value for the whole row, else a value that the spec does not state. -/
def rowEps (bs : List VE) (free : Nat) : W32 :=
  match bs with
  | [] => 0
  | b :: rest => if rest.all (fun x => x.v == b.v) then b.v else Config.freeW32 free

/-- A row stage on one row whose first element is `e0`. -/
def rowStage (k : Chain) (i : VIn) (s : VState) (w : Word) (row : Nat) (free : Nat) : RowRes :=
  let l := k.rowLen
  let e0 := row * l
  let xs := (upTo l).map fun j => stageSrc k i s w 0 (e0 + j)
  let bs := (upTo l).map fun j => stageSrc k i s w 1 (e0 + j)
  let mk := (upTo l).map fun j => masked k i (e0 + j)
  let pz := xs.any VE.p
  let sum (v : List W32) : W32 := (rowReduce add32 e0 (v.map some)).getD 0
  match vsOp w with
  | 0x10 => { out := xs, q := [(vsQ w, ⟨sum (xs.map VE.v), pz⟩)], free := free }
  | 0x11 => { out := xs, q := [(vsQ w, ⟨(rowReduce max32 e0 (xs.map fun x => some x.v)).getD 0, pz⟩)], free := free }
  | 0x12 => softmaxRow e0 xs mk free
  | 0x13 =>
    let q := div32 (sum (xs.map fun x => mul32 x.v x.v)) (nat32 l)
    let f := vecFn 5 (add32 q (rowEps bs free))
    let p := pz || bs.any VE.p
    { out := xs.map fun x => ⟨mul32 x.v f, p⟩, q := [(vsQ w, ⟨f, p⟩)], free := free + 1 }
  | 0x14 =>
    let mu := div32 (sum (xs.map VE.v)) (nat32 l)
    let ds := xs.map fun x => add32 x.v (neg32 mu)
    let v := div32 (sum (ds.map fun d => mul32 d d)) (nat32 l)
    let f := vecFn 5 (add32 v (rowEps bs free))
    let p := pz || bs.any VE.p
    { out := ds.map fun d => ⟨mul32 d f, p⟩, q := [(0, ⟨mu, p⟩), (1, ⟨f, p⟩)], free := free + 1 }
  | _ => topkRow k.topk (vsQ w) xs mk free

/-- One stage over all elements. -/
def runStage (k : Chain) (i : VIn) (s : VState) (w : Word) : VState :=
  let op := vsOp w
  if op = 0 then s
  else if isRowOp op then
    (upTo (i.n / k.rowLen)).foldl (fun (acc : VState) row =>
      let r := rowStage k i s w row acc.free
      { t := setAt acc.t (vsDst w) ((if row = 0 then [] else acc.t.getD (vsDst w) []) ++ r.out)
        q := r.q.foldl (fun q x => setAt q x.1 ((if row = 0 then [] else q.getD x.1 []) ++ [x.2])) acc.q
        stats := acc.stats ++ r.stats
        empty := acc.empty + r.empty.toNat
        free := r.free }) s
  else { s with t := setAt s.t (vsDst w) ((upTo i.n).map (elemStage k i s w)) }

/-- Run the whole chain. -/
def runChain (k : Chain) (i : VIn) (free : Nat) : VState :=
  k.stages.foldl (runStage k i)
    { t := List.replicate 4 (List.replicate i.n {}), q := [[], []], free := free }

/-! ### Lines in and out (08 R258, R279; 06 R207 to R209) -/

/-- The place of element `e` of a sequence: its line, its position there, and its scale byte's address. -/
def elemPlace (base : Place2) (fmt : Nat) (scaled : Bool) (e : Nat) : Place2 × Nat × Option Nat :=
  let n := fmtElems fmt
  if scaled then
    let dn := pageD fmt
    let page := base.addr + 4096 * (e / (dn * n))
    let d := e % (dn * n) / n
    (⟨base.space, page + 64 * d⟩, e % n, some (page + 64 * dn + scaleB fmt * d + e % n / 32))
  else (⟨base.space, base.addr + 64 * (e / n)⟩, e % n, none)

/-- The lines that `n` elements of a sequence lie in. -/
def seqLines (base : Place2) (fmt : Nat) (scaled : Bool) (n : Nat) : List Place2 :=
  let per := fmtElems fmt
  let data := (upTo ((n + per - 1) / per)).map fun i => (elemPlace base fmt scaled (i * per)).1
  let sc := if scaled then ((upTo ((n + 31) / 32)).filterMap fun b =>
      ((elemPlace base fmt true (32 * b)).2.2).map fun a => (⟨base.space, a / 64 * 64⟩ : Place2)).dedup else []
  data ++ sc

/-- A table of lines that were read. -/
abbrev Lines := List (Place2 × Nat × Line)

def Lines.get (l : Lines) (x : Place2) : Nat × Line := ((l.find? fun r => r.1 == x).map fun r => r.2).getD (0, 0)

/-- Element `e` of an input. -/
def inElem (l : Lines) (base : Place2) (fmt : Nat) (scaled : Bool) (e : Nat) : VE :=
  let p := elemPlace base fmt scaled e
  let d := l.get p.1
  let c := elemCode fmt d.2 p.2.1
  match p.2.2 with
  | none => ⟨widen fmt c, d.1 != 0⟩
  | some a =>
    let sl := l.get ⟨base.space, a / 64 * 64⟩
    ⟨widenScaled fmt c (lineByte sl.2 (a % 64)), d.1 != 0 || sl.1 != 0⟩

/-- Bytes written from an aligned place on. -/
def byteWrites (base : Place2) (bs : Bytes) : List LineW :=
  (chunks 64 ((bs.length + 63) / 64) bs).zipIdx.map fun c =>
    { x := ⟨base.space, base.addr + 64 * c.2⟩, data := lineOfBytes c.1, mask := BitVec.ofNat 64 (2 ^ c.1.length - 1) }

/-- The code of an element as it goes out: in cluster SRAM a poisoned one becomes NaN or 0 (08 R280). -/
def outCode (k : Nat) (sram : Bool) (p : Bool) (c : Nat) : Nat := if sram && p then nanCode k else c

/-- The writes of a chain's output, in lines or in whole pages. -/
def outWrites (k : Chain) (base : Place2) (n : Nat) (vs : List VE) (draws : List Nat) : List LineW :=
  let f := k.outFmt
  let per := fmtElems f
  let sram := base.space == 0
  let r (e : Nat) : Rnd := rndOf k.rnd (draws.getD e 0)
  if k.outScaled then
    let dn := pageD f
    let per_page := dn * per
    (upTo ((n + per_page - 1) / per_page)).flatMap fun pg =>
      let el (e : Nat) : VE := if pg * per_page + e < n then vs.getD (pg * per_page + e) {} else {}
      let sb (b : Nat) : Nat := chooseScale f ((upTo 32).map fun j => (el (32 * b + j)).v)
      let data := (upTo dn).map fun d =>
        let es := (upTo per).map fun j => d * per + j
        let codes := es.map fun e => outCode f sram (el e).p (encodeScaled f (sb (e / 32)) (r (pg * per_page + e)) (el e).v)
        ({ x := ⟨base.space, base.addr + 4096 * pg + 64 * d⟩, data := lineOfElems f codes,
           poison := !sram && es.any fun e => (el e).p } : LineW)
      let sc := ((upTo (dn * per / 32)).map sb) ++ List.replicate ((64 - dn) * 64 - dn * per / 32) 0
      data ++ (upTo (64 - dn)).map fun i =>
        { x := ⟨base.space, base.addr + 4096 * pg + 64 * (dn + i)⟩, data := (bytesAt 0 ((sc.drop (64 * i)).take 64)).1 }
  else
    (upTo ((n + per - 1) / per)).map fun i =>
      let es := (upTo (min per (n - i * per))).map fun j => i * per + j
      let codes := es.map fun e => let v := vs.getD e {}; outCode f sram v.p (encodeElem f (r e) (f32 v.v))
      let bytes := (es.length * fmtBits f + 7) / 8
      let mask := if es.length = per then 2 ^ 64 - 1 else if f = 1 then (2 ^ bytes - 1) ||| 0xFFFF000000000000 else 2 ^ bytes - 1
      { x := ⟨base.space, base.addr + 64 * i⟩, data := lineOfElems f codes, mask := BitVec.ofNat 64 mask,
        poison := !sram && es.any fun e => (vs.getD e {}).p }

/-- Lane cycles of the sweeps (08 R264, R265, R285). -/
def laneCost (op : Nat) : Nat :=
  match op with
  | 0 => 0 | 8 => 2 | 9 => 4 | 0x10 => 0 | 0x11 => 0 | 0x12 => 4 | 0x13 => 2 | 0x14 => 4 | _ => 1

/-! ### The commands -/

def State.vecWho (s : State) (c : Nat) (d : List Word) : Who where
  a := .vec c
  o := .cluster c
  c := c
  p := (s.cluster c).part.getD 31
  cls := some (vqClass d)

/-- The lines a chain reads. -/
def chainReads (d : List Word) (k : Chain) : List Place2 :=
  ((upTo 3).flatMap fun i => if k.uses (4 + i) then seqLines (vqPlace d (i + 1)) (k.fmt i) (k.scaled i) (vqN d) else [])
    ++ (if k.maskMode % 2 = 1 then
      (upTo ((vqN d + 511) / 512)).map fun i => ⟨(vqPlace d 4).space, (vqPlace d 4).addr + 64 * i⟩ else [])

/-- The inputs of a chain from the lines read. A mask line that failed leaves its elements unmasked and
poisoned (log entry 17). -/
def chainIn (s : State) (c : Nat) (d : List Word) (k : Chain) (l : Lines) : VIn :=
  let n := vqN d
  let m := vqPlace d 4
  let mline (e : Nat) : Nat × Line := l.get ⟨m.space, m.addr + e / 512 * 64⟩
  let mbad (e : Nat) : Bool := k.maskMode % 2 == 1 && (mline e).1 != 0
  { n := n
    x := (upTo 3).map fun i => if k.uses (4 + i) then
        (upTo n).map fun e =>
          let v := inElem l (vqPlace d (i + 1)) (k.fmt i) (k.scaled i) e
          { v with p := v.p || mbad e } else []
    v := if k.uses 7 then (upTo k.rowLen).map fun e =>
        let w := fmtBits k.vFmt / 8
        widen k.vFmt (ofLeBytes (sramGet (s.cluster c).csram (k.vAddr + w * e) w)) else []
    mask := if k.maskMode % 2 = 1 then
        (upTo n).map fun e => mbad e || (mline e).2.getLsbD (e % 512) else []
    perm := (upTo 256).map fun j => ofLeBytes (sramGet (s.cluster c).csram (k.permAddr + 2 * j) 2) }

/-- The chain's PERM tables keep their layout (08 R272): bits [15:9] are reserved. -/
def permOk (k : Chain) (i : VIn) : Bool :=
  !k.stages.any (fun w => vsOp w == 0xA) || i.perm.all fun v => decide (v < 512)

/-- The cluster's vector rounding source, seeded at its first use (06 R215, R216). -/
def State.vecSource (s : State) (c : Nat) : State × Word :=
  match (s.cluster c).vecRnd with
  | some v => (s, v)
  | none => s.sourceSeed 0x5000 (0x4100 + c)

/-- The chain block of an instruction, which the engine reads once, at the start (08 R259). -/
def State.readBlock (s : State) (c : Nat) (e : QEntry) : State × Bytes :=
  match (s.cluster c).vecBlk with
  | some b => if b.1 = e.ticket then (s, b.2) else fresh
  | none => fresh
where
  fresh : State × Bytes :=
    let b := sramGet (s.cluster c).csram (vqChain e.desc) 128
    (s.modCluster c fun k => { k with vecBlk := some (e.ticket, b) }, b)

/-- The instruction no longer waits. -/
def State.endWait (s : State) (c : Nat) : State := s.modCluster c fun k => { k with vecBlk := none }

/-- An instruction completes with the invalid-descriptor status (08 R267, R285). -/
def State.refuseChain (s : State) (c : Nat) (e : QEntry) : State :=
  (((s.endWait c).clearPool (.vec c) fun _ => true).complete c 4 e.ticket 3 0).bump (0x5200 + c) 1

/-- Start a chain instruction: all of it takes effect at once, or it waits for lines (08 R265; log entry 13). -/
def State.startChain (s : State) (c : Nat) (e : QEntry) : State :=
  let b := s.readBlock c e
  let s := b.1
  let d := e.desc
  let k := Chain.ofBytes b.2
  if !chainOk d k then s.refuseChain c e
  else
    let w := s.vecWho c d
    let xs := chainReads d k
    let f := s.fetchLines w xs
    match f.2 with
    | none => f.1
    | some rs =>
      let i := chainIn s c d k (xs.zip rs)
      if !permOk k i then s.refuseChain c e
      else
        let v := runChain k i f.1.free
        let s1 : State := { f.1 with free := v.free }
        let src := if k.rnd = 1 then s1.vecSource c else (s1, 0)
        let dr := if k.rnd = 1 then drawsFor i.n src.2 else ([], src.2)
        let out := v.t.getD k.outSrc []
        let ws := outWrites k (vqPlace d 5) i.n out dr.1 ++ (if k.statsEn then byteWrites (vqPlace d 6) v.stats else [])
        let s2 := if k.rnd = 1 then src.1.modCluster c fun x => { x with vecRnd := some dr.2 } else src.1
        let g := s2.storeLines w ws
        match g.2 with
        | none => ws.foldl (fun s l => if s.writeReady w l then s else s.writeAsk w l) s
        | some sts =>
          let poison := out.any VE.p
          let st := if sts.any (· != 0) then 5 else if poison then 1 else 0
          let cost := (k.stages.map fun w => laneCost (vsOp w)).sum * ((i.n + 255) / 256)
          let s3 := g.1.modEntry c 4 e.ticket fun x => { x with started := true }
          let s4 := s3.modCluster c fun x => { x with vec := some { ticket := e.ticket, status := st }, vecBlk := none }
          (s4.bump (0x5200 + c) 2 cost).bump (0x5200 + c) 4 v.empty

/-- CHAIN_INSTRUCTION (08 R265). -/
def execChainInstruction (c : Nat) (s : State) : Out :=
  ifUnit s (decide (c < 48)) <|
    match ((s.cluster c).queue 4).entries.find? fun e => e.disp && !e.started && e.compl.isNone with
    | none => .next s
    | some e => when' (s.clusterOn c && (s.cluster c).vec.isNone) s (s.startChain c e)

/-- CHAIN_COMPLETE (08 R281): every line written has taken effect. -/
def execChainComplete (c : Nat) (s : State) : Out :=
  ifUnit s (decide (c < 48)) <|
    match (s.cluster c).vec with
    | none => .next s
    | some v =>
      if !s.settled (.vec c) then .next s
      else
        let f := s.takeFail (.vec c)
        let ab := s.abortStatus c 4 v.ticket
        let st := ab.getD (if f.2 then 5 else v.status)
        let s1 := (f.1.modCluster c fun x => { x with vec := none }).complete c 4 v.ticket st 0
        let s2 := if st = 1 then s1.bump (0x5200 + c) 5 1 32 else s1
        go s (if ab.isSome then s2 else s2.bump (0x5200 + c) 1)

end Sys2Proof.Machine
end

