-- ==== Sys2Proof/Machine/Layout.lean ====
section
/-! DEFINITION. The layout engine: descriptors, views, owner tables, granules, completion (09). -/

namespace Sys2Proof.Machine

/-! ### The descriptor (09 R286) -/

def lqClass (d : List Word) : Nat := Word.bits (mqW d 0) 55 54
def lqMode (d : List Word) : Nat := Word.bits (mqW d 0) 53 52
def lqRed (d : List Word) : Nat := Word.bits (mqW d 0) 51 50
def lqPerm (d : List Word) : List Nat := (upTo 5).map fun i => Word.bits (mqW d 0) (37 + 3 * i) (35 + 3 * i)
def lqListDim (d : List Word) : Nat := Word.bits (mqW d 0) 34 32
def lqListSpace (d : List Word) : Nat := Word.bits (mqW d 0) 31 31
def lqCount (d : List Word) : Nat := Word.bits (mqW d 0) 12 0
def lqSrcView (d : List Word) : Nat := Word.bits (mqW d 1) 63 47 * 64
def lqDstView (d : List Word) : Nat := Word.bits (mqW d 1) 46 30 * 64
def lqBox (d : List Word) : List Nat :=
  [Word.bits (mqW d 2) 63 48, Word.bits (mqW d 2) 47 32, Word.bits (mqW d 2) 31 16, Word.bits (mqW d 2) 15 0,
    Word.bits (mqW d 3) 63 48]
def lqListAddr (d : List Word) : Nat := Word.bits (mqW d 4) 55 0
/-- The source dimension that a destination dimension comes from. -/
def lqInv (d : List Word) (k : Nat) : Nat := (lqPerm d).findIdx (· == k)
/-- Class T: the innermost dimension moves (09 R303). -/
def classT (d : List Word) : Bool := (lqPerm d).getD 0 0 != 0

/-- A field as a two's complement number of `n` bits. -/
def sext (n v : Nat) : Int := if v < 2 ^ (n - 1) then v else (v : Int) - 2 ^ n

/-! ### Views (09 R287, R288) -/

def LView.ofBytes (b : Bytes) : LView :=
  let w (i : Nat) : Word := BitVec.ofNat 64 (ofLeBytes ((b.drop (8 * i)).take 8))
  { space := Word.bits (w 0) 63 62
    scaled := Word.bit (w 0) 61
    fmt := Word.bits (w 0) 59 56
    base := Word.bits (w 0) 55 0
    ext := Word.bits (w 1) 46 24 :: (upTo 4).map fun i => Word.bits (w (i + 2)) 22 0
    org := [sext 24 (Word.bits (w 1) 23 0), sext 24 (Word.bits (w 6) 63 40), sext 24 (Word.bits (w 6) 39 16),
      sext 24 (Word.bits (w 7) 63 40), sext 24 (Word.bits (w 7) 39 16)]
    stride := 0 :: (upTo 4).map fun i => sext 40 (Word.bits (w (i + 2)) 63 24) }

/-- The view's reserved fields are zero. V2 to V5 carry dimensions 1 to 4. -/
def viewRsvd (b : Bytes) : Bool :=
  let w (i : Nat) : Word := BitVec.ofNat 64 (ofLeBytes ((b.drop (8 * i)).take 8))
  !Word.bit (w 0) 60 && Word.bits (w 1) 63 47 == 0 && (upTo 4).all (fun i => !Word.bit (w (i + 2)) 23)
    && Word.bits (w 6) 15 0 == 0 && Word.bits (w 7) 15 0 == 0

/-- Elements of an unscaled granule (09 R288). -/
def lElems (fmt : Nat) : Nat := if fmt = 8 then 8 else fmtElems fmt
/-- *L* of a view. -/
def LView.l (v : LView) : Nat := if v.scaled then 1 else lElems v.fmt
/-- Bits of an element. -/
def lBits (fmt : Nat) : Nat := if fmt = 8 then 64 else fmtBits fmt

/-- A view keeps R287, R289 and R293; `box0` is the box extent along its dimension 0. -/
def viewOk (v : LView) (box0 : Nat) : Bool :=
  let l := v.l
  decide (v.space ≤ 2) && decide (v.fmt ≤ 8) && scaleOk v.fmt v.scaled && v.ext.all (fun e => decide (1 ≤ e))
    && (v.org.getD 0 0) % (l : Int) == 0 && (v.scaled || v.ext.getD 0 0 % l == 0) && box0 % l == 0
    && (if v.space = 2 then v.base / 256 == 0 && v.stride.all (· == 0)
      else v.base % (if v.scaled then 4096 else 64) == 0 && (v.scaled || v.stride.all fun x => x % 64 == 0))
    && (v.space != 0 || v.base / 2 ^ 23 == 0)

/-- The descriptor and its views are valid, owner tables apart (09 R324). -/
def lqOk (d : List Word) (bs bd : Bytes) : Bool :=
  let vs := LView.ofBytes bs
  let vd := LView.ofBytes bd
  let box := lqBox d
  let red := lqRed d
  Word.bits (mqW d 0) 63 56 == 1 && decide (lqMode d ≤ 2) && decide (red ≤ 2) && Word.bits (mqW d 0) 30 13 == 0
    && Word.bits (mqW d 1) 29 0 == 0 && Word.bits (mqW d 3) 47 0 == 0 && Word.bits (mqW d 4) 63 56 == 0
    && mqW d 6 == 0 && mqW d 7 == 0
    && (upTo 5).all (fun k => (lqPerm d).contains k) && decide (lqListDim d ≤ 4) && box.all (fun e => decide (1 ≤ e))
    && viewRsvd bs && viewRsvd bd && viewOk vs (box.getD 0 0) && viewOk vd (box.getD (lqInv d 0) 0)
    && vs.fmt == vd.fmt && vs.scaled == vd.scaled
    && (!classT d || (decide (2 ≤ vs.fmt) && !vs.scaled))
    && (red == 0 || (decide (5 ≤ vs.fmt) && decide (vs.fmt ≤ 7) && !vs.scaled && vd.space != 0))
    && (if lqMode d = 0 then lqCount d == 0 && lqListAddr d == 0
      else decide (1 ≤ lqCount d) && decide (lqCount d ≤ 4096) && lqListAddr d % 64 == 0)

/-! ### Owner tables (09 R312 to R315) -/

/-- A table header as it is read, when it is valid for its view. -/
def ownTab (v : LView) (head : Nat) (b : Bytes) : Option OwnTab :=
  let w (i : Nat) : Word := BitVec.ofNat 64 (ofLeBytes ((b.drop (8 * i)).take 8))
  let blk := [Word.bits (w 1) 63 48, Word.bits (w 1) 47 32, Word.bits (w 1) 31 16, Word.bits (w 1) 15 0, Word.bits (w 2) 63 48]
  let grid := [Word.bits (w 2) 47 32, Word.bits (w 2) 31 16, Word.bits (w 2) 15 0, Word.bits (w 3) 63 48, Word.bits (w 3) 47 32]
  let bs : List Int := 0 :: (upTo 4).map fun i => sext 40 (Word.bits (w (i + 4)) 63 24)
  let n := Word.bits (w 0) 16 0
  if Word.bits (w 0) 63 56 == 1 && Word.bits (w 0) 55 52 == v.fmt && Word.bit (w 0) 51 == v.scaled
      && Word.bits (w 0) 50 17 == 0 && decide (1 ≤ n) && decide (n ≤ 65536) && n == grid.prod
      && blk.all (fun e => decide (1 ≤ e)) && grid.all (fun e => decide (1 ≤ e)) && blk.getD 0 0 % v.l == 0
      && Word.bits (w 3) 31 0 == 0 && (upTo 4).all (fun i => Word.bits (w (i + 4)) 23 0 == 0)
      && (v.scaled || bs.all fun x => x % 64 == 0)
      && (upTo 5).all (fun i => decide (v.ext.getD i 0 ≤ blk.getD i 0 * grid.getD i 0)) then
    some { head := head, no := v.base % 256, blk := blk, grid := grid, bstride := bs }
  else none

/-- The block that holds an in-bounds coordinate (09 R315). -/
def OwnTab.block (t : OwnTab) (x : List Int) : Nat :=
  let g (i : Nat) : Nat := (x.getD i 0).toNat / t.blk.getD i 1
  let n (i : Nat) : Nat := t.grid.getD i 1
  g 0 + n 0 * (g 1 + n 1 * (g 2 + n 2 * (g 3 + n 3 * g 4)))

/-- The key of an owner entry of a transfer. -/
def blkKey (t : OwnTab) (b : Nat) : Nat := t.no * 65536 + b
/-- The line of an owner entry. -/
def OwnTab.entLine (t : OwnTab) (b : Nat) : Place2 := ⟨1, (t.head + 64 + 16 * b) / 64 * 64⟩

/-! ### Granules (09 R291 to R297) -/

/-- Where the granule at a coordinate lies: out of bounds or absent, an owner entry that is still to be read,
an entry whose read failed, or a byte address (in a scaled view: the page and the group in it). -/
inductive GranLoc where
  | off
  | absent
  | need (line : Place2) (block : Nat)
  | bad
  | at_ (space : Nat) (addr : Int) (group : Nat)
  deriving DecidableEq, Repr

/-- In bounds of the view; a source dimension of stride 0 always is (09 R295). -/
def LView.inside (v : LView) (src : Bool) (x : List Int) : Bool :=
  (upTo 5).all fun i =>
    (src && decide (i ≠ 0) && v.space != 2 && v.stride.getD i 0 == 0)
      || (decide (0 ≤ x.getD i 0) && decide (x.getD i 0 < (v.ext.getD i 0 : Int)))

/-- The address of a granule over a base and strides. -/
def granAddr (v : LView) (space : Nat) (base : Int) (stride x : List Int) : GranLoc :=
  let outer := ((upTo 4).map fun i => stride.getD (i + 1) 0 * x.getD (i + 1) 0).sum
  if v.scaled then
    let g := x.getD 0 0 + outer
    let gp : Int := if v.fmt = 0 then 15 else 31
    .at_ space (base + 4096 * (g / gp)) (g % gp).toNat
  else .at_ space (base + 64 * (x.getD 0 0 / (v.l : Int)) + outer) 0

def LView.gran (v : LView) (src : Bool) (blocks : Tab BlkEnt) (x : List Int) : GranLoc :=
  if !v.inside src x then .off
  else
    match v.own with
    | none => granAddr v (min v.space 1) v.base v.stride x
    | some t =>
      let b := t.block x
      match Tab.find blocks (blkKey t b) with
      | none => .need (t.entLine b) b
      | some e =>
        if e.bad then .bad
        else
          match e.addr with
          | none => .absent
          | some a =>
            granAddr v 1 a t.bstride ((upTo 5).map fun i => (x.getD i 0) % (t.blk.getD i 1 : Int))

/-- A byte address as a place; none beyond cluster SRAM (09 R320, R321). -/
def granPlace (space : Nat) (a : Int) : Option Place2 :=
  if space = 0 then (if 0 ≤ a ∧ a < 2 ^ 23 then some ⟨0, a.toNat⟩ else none)
  else some ⟨1, (a % 2 ^ 56).toNat⟩

/-- Data columns of a group and its scale bytes: first page byte and count (06 R207). -/
def groupCols (fmt : Nat) : Nat := if fmt = 0 then 4 else 2
def groupScale (fmt g : Nat) : Nat × Nat := if fmt = 0 then (3840 + 16 * g, 16) else (3968 + 4 * g, 4)

/-- The lines of a granule: its data lines, then the line of its scale bytes. -/
def granLines (v : LView) (space : Nat) (a : Int) (g : Nat) : List (Option Place2) :=
  if v.scaled then
    ((upTo (groupCols v.fmt)).map fun i => granPlace space (a + 64 * (groupCols v.fmt * g + i : Nat)))
      ++ [granPlace space (a + ((groupScale v.fmt g).1 / 64 * 64 : Nat))]
  else [granPlace space a]

/-! ### Data -/

/-- A line of one element value. -/
def lineOf (fmt v : Nat) : Line :=
  let w := lBits fmt
  BitVec.ofNat 512 (packNat ((upTo (lElems fmt)).map fun i => (w * i, v % 2 ^ w)))

/-- A fill line (09 R296). -/
def fillLine (fmt : Nat) (fill : Word) : Line := lineOf fmt fill.toNat
/-- A line of the canonical NaN, or of zero (09 R320). -/
def nanLine (fmt : Nat) : Line := lineOf fmt (if fmt = 8 then 0 else nanCode fmt)

/-- The data of one granule: lines, scale bytes, poison. -/
structure GranData where
  lines  : List Line
  scales : List Nat
  poison : Bool
  deriving DecidableEq, Repr

def fillGran (v : LView) (fill : Word) : GranData :=
  if v.scaled then
    { lines := List.replicate (groupCols v.fmt) (fillLine v.fmt (BitVec.ofNat 64 (Word.bits fill 7 0)))
      scales := List.replicate (groupScale v.fmt 0).2 (Word.bits fill 63 56), poison := false }
  else { lines := [fillLine v.fmt fill], scales := [], poison := false }

/-- A granule from the lines that were read. -/
def granOf (v : LView) (g : Nat) (ps : List (Option Place2)) (ls : Lines) : GranData :=
  let rs := ps.map fun p => match p with | some x => ls.get x | none => (4, 0)
  let bad := rs.any fun r => r.1 != 0
  if v.scaled then
    let n := groupCols v.fmt
    let s := groupScale v.fmt g
    { lines := (rs.take n).map Prod.snd
      scales := (upTo s.2).map fun i => lineByte (rs.getD n (0, 0)).2 (s.1 % 64 + i), poison := bad }
  else { lines := rs.map Prod.snd, scales := [], poison := bad }

/-- The writes of a granule. None when a place lies beyond cluster SRAM: nothing is stored (09 R321). -/
def granWrites (v : LView) (space : Nat) (a : Int) (g : Nat) (d : GranData) (red : Option (Nat × Nat)) :
    Option (List LineW) :=
  let ps := granLines v space a g
  if ps.any Option.isNone then none
  else
    let xs := ps.filterMap id
    let sram := space == 0
    let pz := d.poison && !sram
    if v.scaled then
      let n := groupCols v.fmt
      let s := groupScale v.fmt g
      let b := bytesAt (s.1 % 64) (if d.poison && sram then List.replicate s.2 255 else d.scales)
      some (((xs.take n).zip d.lines).map (fun x => { x := x.1, data := if d.poison && sram then 0 else x.2, poison := pz })
        ++ (xs.drop n).map fun x => { x := x, data := b.1, mask := b.2, poison := pz })
    else
      some ((xs.zip d.lines).map fun x =>
        { x := x.1, data := if d.poison && sram then nanLine v.fmt else x.2, poison := pz, red := red })

/-! ### The walk (09 R290, R309, R310) -/

/-- Split an index over extents, dimension 0 fastest. -/
def unrank : List Nat → Nat → List Nat
  | [], _ => []
  | e :: es, i => i % e :: unrank es (i / e)

/-- The extents of the walk in granules: the destination's innermost dimension is cut into lines. -/
def walkExt (d : List Word) (l : Nat) : List Nat :=
  let k := lqInv d 0
  (lqBox d).zipIdx.map fun x => if x.2 = k then x.1 / l else x.1

/-- Granules of one block. -/
def blockGrans (d : List Word) (l : Nat) : Nat := (walkExt d l).prod
def LayRun.blocks_ (r : LayRun) : Nat := if lqMode r.desc = 0 then 1 else r.list.length
def LayRun.total (r : LayRun) : Nat := r.blocks_ * blockGrans r.desc r.dst.l

/-- Origins of source and destination for list entry `j`. -/
def origins (r : LayRun) (j : Nat) : List Int × List Int :=
  let d := r.desc
  let c := (r.list.getD j none).getD []
  let k := lqListDim d
  let step (o : List Int) (n : Nat) : List Int := o.zipIdx.map fun x => if x.2 = k then x.1 + (j * n : Nat) else x.1
  let plus (o : List Int) : List Int := o.zipIdx.map fun x => x.1 + c.getD x.2 0
  match lqMode d with
  | 0 => (r.src.org, r.dst.org)
  | 1 => (plus r.src.org, step r.dst.org ((lqBox d).getD (lqInv d k) 0))
  | _ => (step r.src.org ((lqBox d).getD k 0), plus r.dst.org)

/-- Source and destination coordinates of position `i` of entry `j`. -/
def coords (r : LayRun) (j : Nat) (i : List Nat) : List Int × List Int :=
  let o := origins r j
  ((upTo 5).map fun k => o.1.getD k 0 + (i.getD k 0 : Nat),
    (upTo 5).map fun k => o.2.getD k 0 + (i.getD (lqInv r.desc k) 0 : Nat))

/-- What one destination granule takes: its coordinate, and the source granules with the element positions
(class F: one granule, whole; class T: one element of a granule for each element of the line). -/
def unitOf (r : LayRun) (u : Nat) : Option (List Int × List (List Int × Nat)) :=
  let d := r.desc
  let n := blockGrans d r.dst.l
  let j := u / n
  if lqMode d != 0 && (r.list.getD j none).isNone then none
  else
    let l := r.dst.l
    let k := lqInv d 0
    let base := (unrank (walkExt d l) (u % n)).zipIdx.map fun x => if x.2 = k then x.1 * l else x.1
    let dst := (coords r j base).2
    if classT d then
      some (dst, (upTo l).map fun e =>
        let s := (coords r j (base.zipIdx.map fun x => if x.2 = k then x.1 + e else x.1)).1
        let x0 := s.getD 0 0
        let p := (x0 % (r.src.l : Int)).toNat
        (setAt s 0 (x0 - p), p))
    else some (dst, [((coords r j base).1, 0)])

/-! ### Commands -/

def State.layWho (s : State) (c : Nat) (d : List Word) : Who where
  a := .lay c
  o := .layout c
  c := c
  p := (s.cluster c).part.getD 31
  cls := some (lqClass d)

/-- Coordinates of a list entry; none when it is skipped, with whether it is a bad entry, be its SKIP set or not
(09 R308, R311). -/
def listEntry (l : Nat) (scaled : Bool) (v : Nat) : Option (List Int) × Bool :=
  let cs := (upTo 5).map fun i => sext 24 (nbits v (24 * i + 23) (24 * i))
  if nbits v 126 120 ≠ 0 || (!scaled && decide (cs.getD 0 0 % (l : Int) ≠ 0)) then (none, true)
  else if v.testBit 127 then (none, false)
  else (some cs, false)

/-- Lines of a coordinate list. -/
def listLines (d : List Word) : List Place2 :=
  (upTo ((lqCount d + 3) / 4)).map fun i => ⟨lqListSpace d, lqListAddr d + 64 * i⟩

/-- The pointer line of an owner view's directory (09 R312). -/
def State.dirLine (s : State) (p : Nat) (v : LView) : Place2 :=
  ⟨1, (s.odNat (0x2300 + p) 1 + 8 * v.base) / 64 * 64⟩

/-- The line requests that the engine keeps in flight to the source: 16 to cluster SRAM, 2,048 to module memory
(09 R306). -/
def LayRun.lim (r : LayRun) : Nat := if r.src.space = 0 then 16 else 2048
/-- The source lines that a granule of the destination may need. -/
def LayRun.cost (r : LayRun) : Nat :=
  if classT r.desc then min r.dst.l r.lim else if r.src.scaled then groupCols r.src.fmt + 1 else 1

/-- Issue granules up to the engine's limits (09 R306). -/
def LayRun.fill (r : LayRun) : Nat → LayRun
  | 0 => r
  | n + 1 =>
    if r.total ≤ r.next || decide (r.lim < (r.out.length + 1) * r.cost) then r
    else LayRun.fill { r with out := r.out ++ [r.next], next := r.next + 1 } n

/-- Read the owner tables of the views that have one, keeping what has been read: `none` while lines are missing, and
inside it whether every table is valid. -/
def State.readOwners (s : State) (w : Who) (vs : List LView) (got : Held) :
    State × Held × Option (Option (List (Option OwnTab))) :=
  let owners := vs.filter fun v => v.space == 2
  if owners = [] then (s, got, some (some (vs.map fun _ => none)))
  else if s.odNat (0x2300 + w.p) 1 = 0 then (s, got, some none)
  else
    let ps := owners.map (s.dirLine w.p)
    let f := s.holdLines w 2048 ps got
    if !f.2.all ps then (f.1, f.2, none)
    else
      let ptr (v : LView) : Nat × Nat :=
        let l := (f.2.find (s.dirLine w.p v)).getD (0, 0)
        let i := (s.odNat (0x2300 + w.p) 1 + 8 * v.base) % 64 / 8
        (l.1, nbits l.2.toNat (64 * i + 63) (64 * i))
      let good (v : LView) : Bool := (ptr v).1 == 0 && (ptr v).2 != 0 && decide ((ptr v).2 < 2 ^ 56) && (ptr v).2 % 64 == 0
      if !owners.all good then (f.1, f.2, some none)
      else
        let hs := owners.map fun v => (⟨1, (ptr v).2⟩ : Place2)
        let g := f.1.holdLines w 2048 hs f.2
        if !g.2.all hs then (g.1, g.2, none)
        else
          let one (v : LView) : Option OwnTab :=
            let l := (g.2.find ⟨1, (ptr v).2⟩).getD (0, 0)
            if l.1 ≠ 0 then none else ownTab v (ptr v).2 (bytesOfLine l.2)
          if owners.all fun v => (one v).isSome then
            (g.1, g.2, some (some (vs.map fun v => if v.space = 2 then one v else none)))
          else (g.1, g.2, some none)

/-- What the engine has read of a transfer that it has started; the views are read once, at the start (09 R287). -/
def State.layBegin (s : State) (c : Nat) (e : QEntry) : LayStart :=
  let fresh : LayStart := {
    ticket := e.ticket
    src := sramGet (s.cluster c).csram (lqSrcView e.desc) 64
    dst := sramGet (s.cluster c).csram (lqDstView e.desc) 64 }
  match (s.cluster c).layStart with
  | some b => if b.ticket = e.ticket then b else fresh
  | none => fresh

def State.setLayStart (s : State) (c : Nat) (b : Option LayStart) : State := s.modCluster c fun k => { k with layStart := b }

/-- A transfer completes with the invalid-descriptor status (09 R324, R326). -/
def State.refuseLayout (s : State) (c : Nat) (e : QEntry) : State :=
  (((s.setLayStart c none).clearPool (.lay c) fun _ => true).complete c 5 e.ticket 3 0).bump (0x5300 + c) 1

/-- Start a transfer (09 R286 to R324). -/
def State.startLayout (s : State) (c : Nat) (e : QEntry) : State :=
  let d := e.desc
  let b := s.layBegin c e
  if !lqOk d b.src b.dst then s.refuseLayout c e
  else
    let w := s.layWho c d
    let vs := LView.ofBytes b.src
    let vd := LView.ofBytes b.dst
    let o := s.readOwners w [vs, vd] b.got
    match o.2.2 with
    | none => o.1.setLayStart c (some { b with got := o.2.1 })
    | some none => o.1.refuseLayout c e
    | some (some ts) =>
      let xs := if lqMode d = 0 then [] else listLines d
      let ok := xs.filter fun x => x.space == 1 || decide (x.addr < 2 ^ 23)
      let f := o.1.holdLines w (if lqListSpace d = 0 then 16 else 2048) ok o.2.1
      if !f.2.all ok then f.1.setLayStart c (some { b with got := f.2 })
      else
        let ents := (upTo (lqCount d)).map fun j =>
          let x : Place2 := ⟨lqListSpace d, lqListAddr d + 64 * (j / 4)⟩
          let l := (f.2.find x).getD (0, 0)
          if l.1 ≠ 0 || !ok.contains x then (none, true)
          else listEntry vs.l vs.scaled (nbits l.2.toNat (128 * (j % 4) + 127) (128 * (j % 4)))
        let bad := (ents.filter fun x => x.2).length
        let run : LayRun := {
          ticket := e.ticket, desc := d, src := { vs with own := ts.getD 0 none }, dst := { vd with own := ts.getD 1 none }
          list := ents.map Prod.fst, poison := decide (0 < bad) }
        let s1 := f.1.modEntry c 5 e.ticket fun x => { x with started := true }
        (s1.modCluster c fun k => { k with lay := some (run.fill 2048), layStart := none }).bump (0x5300 + c) 8 bad 32

/-- The next transfer of the LQ, if it is of the given mode. -/
def State.layoutCmd (s : State) (c mode : Nat) : Out :=
  ifUnit s (decide (c < 48)) <|
    match ((s.cluster c).queue 5).entries.find? fun e => e.disp && !e.started && e.compl.isNone with
    | none => .next s
    | some e => when' (s.clusterOn c && (s.cluster c).lay.isNone && (lqMode e.desc == mode || (lqMode e.desc == 3 && mode == 0)))
        s (s.startLayout c e)

/-- LAYOUT_COPY (09 R290). A descriptor with the reserved mode 3 is refused here. -/
def execLayoutCopy (c : Nat) (s : State) : Out := s.layoutCmd c 0
/-- LAYOUT_GATHER (09 R309). -/
def execLayoutGather (c : Nat) (s : State) : Out := s.layoutCmd c 1
/-- LAYOUT_SCATTER (09 R310). -/
def execLayoutScatter (c : Nat) (s : State) : Out := s.layoutCmd c 2

/-- Record an owner entry that has been read: with VALID 0 the block is absent, whatever else the entry holds, and
ABSENT_BLOCKS counts it (09 R314, R316). -/
def State.noteBlock (s : State) (c : Nat) (scaled : Bool) (t : OwnTab) (b : Nat) (st : Nat) (l : Line) : State :=
  let i := (t.head + 64 + 16 * b) % 64 / 8
  let w0 := BitVec.ofNat 64 (nbits l.toNat (64 * i + 63) (64 * i))
  let w1 := BitVec.ofNat 64 (nbits l.toNat (64 * i + 127) (64 * i + 64))
  let a := Word.bits w0 55 0
  let valid := Word.bit w0 63
  let bad := st != 0
    || (valid && (Word.bits w0 62 56 != 0 || Word.bits w1 63 20 != 0 || a % (if scaled then 4096 else 64) != 0))
  let ent : BlkEnt := { addr := if valid then some a else none, owner := Word.bits w1 19 0, bad := bad }
  let s1 := s.modCluster c fun k => { k with
    lay := k.lay.map fun r => { r with blocks := Tab.put r.blocks (blkKey t b) ent } }
  if bad || valid then s1 else s1.bump (0x5300 + c) 6

/-- The home of a line that a placement entry names; a LOCAL entry's is this module. -/
def State.homeOf (s : State) (p pva : Nat) : Option Nat :=
  let w := s.entryOf p (loafOf pva)
  if entSt w = 0 then none else if entLocal w then s.position else some (entPos w)

/-- A request goes to a granule of an owner view: OWNER_MOVED counts its block, once a transfer, when the home of a line
differs from OWNER (09 R317). -/
def State.noteMoved (s : State) (c p : Nat) (src : Bool) (x : List Int) (loc : GranLoc) : State :=
  match (s.cluster c).lay with
  | none => s
  | some r =>
    let v := if src then r.src else r.dst
    match v.own, loc with
    | some t, .at_ sp a g =>
      let key := blkKey t (t.block x)
      match Tab.find r.blocks key with
      | none => s
      | some e =>
        let homes := ((granLines v sp a g).filterMap id).filterMap fun q => s.homeOf p q.addr
        if e.moved || homes.all (· == e.owner) then s
        else
          (s.modCluster c fun k => { k with
            lay := k.lay.map fun r => { r with blocks := Tab.put r.blocks key { e with moved := true } } }).bump (0x5300 + c) 7
    | _, _ => s

/-- The granule of one of the sources: fill, poisoned, or read. -/
def srcGran (r : LayRun) (ls : Lines) (loc : GranLoc) : GranData :=
  match loc with
  | .at_ sp a g => granOf r.src g (granLines r.src sp a g) ls
  | .bad => { fillGran r.src 0 with poison := true }
  | _ => fillGran r.src (mqW r.desc 5)

/-- One element of a line. -/
def lElem (fmt : Nat) (d : Line) (p : Nat) : Nat := nbits d.toNat (lBits fmt * p + lBits fmt - 1) (lBits fmt * p)

/-- The fill granules that a destination granule of list entry `j` is the first to take (09 R296, R326). -/
def LayRun.newFills (r : LayRun) (j : Nat) (sl : List (List Int × GranLoc)) : List (Nat × List Int) :=
  let fs := ((sl.filter fun x => x.2 == .off || x.2 == .absent).map fun x => (j, x.1)).dedup
  if classT r.desc then fs.filter fun x => !r.fills.contains x else fs

/-- The bytes of the writes that have taken effect here; the others count when their homes acknowledge them (09 R321,
R326). -/
def State.hereBytes (s : State) (w : Who) (ws : List LineW) (sts : List Nat) : Nat :=
  ((ws.zip sts).map fun x =>
    let here := x.1.x.space == 0 || (match s.xlate w.p x.1.x.addr true with | .here _ => true | _ => false)
    if here && x.2 == 0 then x.1.bytes else 0).sum

/-- Move granule number `k` of those outstanding: all of it, or it waits for what is missing. A source line that several
destination lines of class T take is read once (09 R304). -/
def State.moveGran (s : State) (c : Nat) (k : Nat) : State :=
  match (s.cluster c).lay with
  | none => s
  | some r =>
    match r.out[k]? with
    | none => s
    | some u =>
      let w := s.layWho c r.desc
      let done (s : State) (f : LayRun → LayRun) : State := s.modCluster c fun x => { x with
        lay := x.lay.map fun r => LayRun.fill (f { r with out := r.out.filter (· != u) }) 1 }
      match unitOf r u with
      | none => done s id
      | some (dx, srcs) =>
        let dl := r.dst.gran false r.blocks dx
        let sl := srcs.map fun x => (r.src.gran true r.blocks x.1, x.2)
        let dropped := dl == .off || dl == .absent
        let needs := (match dl, r.dst.own with | .need p b, some t => [(p, t, b)] | _, _ => [])
          ++ (if dropped then [] else sl.filterMap fun x => match x.1, r.src.own with | .need p b, some t => some (p, t, b) | _, _ => none)
        match needs with
        | (p, t, b) :: _ =>
          let f := s.fetchLines w [p]
          match f.2 with
          | some (v :: _) => f.1.noteBlock c r.src.scaled t b v.1 v.2
          | _ => f.1
        | [] =>
          if dropped then (done s id).bump (0x5300 + c) 5
          else
            let xs := (sl.flatMap fun x => match x.1 with
              | .at_ sp a g => (granLines r.src sp a g).filterMap id
              | _ => []).dedup
            let h := s.holdLines w 2048 ((xs.filter fun x => (r.got.find x).isNone).take r.lim) r.got
            let f0 := h.1.modCluster c fun x => { x with lay := x.lay.map fun r => { r with got := h.2 } }
            let f := (srcs.zip sl).foldl (fun s x => s.noteMoved c w.p true x.1.1 x.2.1) f0
            if !h.2.all xs then f
            else
              let ls : Lines := xs.map fun x => (x, (h.2.find x).getD (0, 0))
              let gs := sl.map fun x => (srcGran r ls x.1, x.2)
              let data : GranData := if classT r.desc then
                  { lines := [BitVec.ofNat 512 (packNat (gs.zipIdx.map fun g =>
                      (lBits r.src.fmt * g.2, lElem r.src.fmt (g.1.1.lines.headD 0) g.1.2)))]
                    scales := [], poison := gs.any fun g => g.1.poison }
                else (gs.headD (fillGran r.src 0, 0)).1
              let red := if lqRed r.desc = 0 then none
                else some (lqRed r.desc - 1, if r.dst.fmt = 7 then 0 else if r.dst.fmt = 5 then 1 else 2)
              let fills := r.newFills (u / blockGrans r.desc r.dst.l) ((srcs.zip sl).map fun x => (x.1.1, x.2.1))
              let moved (s : State) (f : LayRun → LayRun) : State :=
                (done s fun r => f { r with
                  got := if classT r.desc then r.got else r.got.filter fun l => !xs.any fun x => l.1 == (x.space, x.addr)
                  fills := if classT r.desc then r.fills ++ fills else r.fills
                  poison := r.poison || data.poison }).bump (0x5300 + c) 4 fills.length
              let ws := match dl with
                | .at_ sp a g => granWrites r.dst sp a g data red
                | _ => none
              match ws with
              | none => moved f fun r => { r with wfail := true }
              | some ws =>
                let f1 := f.noteMoved c w.p false dx dl
                if r.dst.space != 0 && decide (2048 < f1.inFlight w.a + ws.length) then f1
                else
                  let g := f1.storeLines w ws
                  match g.2 with
                  | none => g.1
                  | some sts =>
                    let s1 := g.1.bump (0x5300 + c) 2 (f1.hereBytes w ws sts)
                    let s2 := if classT r.desc then s1.bump (0x5300 + c) 3 64 else s1
                    moved s2 fun r => { r with wfail := r.wfail || sts.any (· != 0) }

/-- LINE_RESPONSE (07 R236; 09 R306): the k-th outstanding line of an engine port, or granule of the layout
engine, returns. -/
def execLineResponse (c : Nat) (port : EnginePort) (k : Nat) (s : State) : Out :=
  ifUnit s (decide (c < 48)) <|
    when' (s.clusterOn c) s <|
      match port with
      | .tileA t => (s.tileLine c t .array k).pumpTile c t .array
      | .tileB t => (s.tileLine c t .panelLoader k).pumpTile c t .panelLoader
      | .tileC t => (s.tileLine c t .cEngine k).pumpTile c t .cEngine
      | .layout => s.moveGran c k

/-- TRANSFER_COMPLETE (09 R322): every granule has moved and every write has taken effect. -/
def execTransferComplete (c : Nat) (s : State) : Out :=
  ifUnit s (decide (c < 48)) <|
    match (s.cluster c).lay with
    | none => .next s
    | some r =>
      if r.next < r.total || r.out != [] || !s.settled (.lay c) then .next s
      else
        let f := s.takeFail (.lay c)
        let st := if r.wfail || f.2 then 5 else if r.poison then 1 else 0
        let ab := s.abortStatus c 5 r.ticket
        let st := ab.getD st
        let s1 := (f.1.modCluster c fun x => { x with lay := none }).complete c 5 r.ticket st 0
        let s2 := if ab.isSome then s1 else s1.bump (0x5300 + c) 1
        go s (if st = 1 then s2.bump (0x5300 + c) 9 1 32 else s2)

end Sys2Proof.Machine
end

