-- ==== Sys2Proof/Machine/Sprig.lean ====
section
/-! DEFINITION. The extended Sprig commands and the recipe steps as commands of the block (04; 05 R172 to
R178, R180, R184, R187). -/

namespace Sys2Proof.Machine

/-- The command has the column slot: a job whose next command it is ranks as high as any candidate; a command to banks
that no job holds takes an idle slot (03 R93; log entry 115). -/
def State.extTurn (s : State) (stk ch : Nat) (w : BitVec 48) (t : Nat) : Bool :=
  (s.reqCols stk ch t == [] && s.jobCols stk ch t == [])
    || (extBanks stk ch w).any fun b => match s.holder b with
      | some j => s.colTop stk ch t j.rank
      | none => false

/-- The command may issue on the channel at cycle `t` (03 R78, R82, R83, R93; 05 R177, R178). -/
def State.extOk (s : State) (stk ch : Nat) (w : BitVec 48) (burst : Column) (t : Nat) : Bool :=
  s.chanReady stk ch t && (s.chan (chanKey stk ch)).takesExt w t && s.extTurn stk ch w t
    && (extBanks stk ch w).all fun b => extTiming (s.bank b) (s.bandOf b) w t && s.extExpected w burst b

/-- The channel's command and data slots are used. -/
def State.useExt (s : State) (stk ch : Nat) (w : BitVec 48) (t : Nat) : State :=
  s.modChan (chanKey stk ch) fun c =>
    match extBurst w with
    | none => { c with colSlot := some t }
    | some rd =>
      { c with
        colSlot := some t
        bursts := (c.bursts.filter fun a => decide (t < a + 4)) ++ [t]
        rdAt := if rd then some t else c.rdAt
        wrAt := if rd then c.wrAt else some t }

def State.setJob (s : State) (id : Nat) (j : Job) : State :=
  { s with mem := { s.mem with jobs := Tab.put s.mem.jobs id j } }

/-- Count the corrected and uncorrectable columns that a status word with CLEAR reports: every uncorrectable column for
its row (04 R155; 05 R193). -/
def State.countStatus (s : State) (k : Bank) (mbn : Nat) : State :=
  let q := k.unit.status
  let ev (l : Nat) : EvAt := s.jobEv mbn (k.latch l).logRow 0
  let s1 := (s.countCe q.ce0 (ev 0)).countCe q.ce1 (ev 1)
  q.ues.foldl (fun s u => s.countUe none (s.jobEv mbn u.2.2 u.2.1) (eccRead blankCol)) s1

/-- What the job takes from a status word. -/
def JobRes.status (r : JobRes) (q : UnitStatus) (mbn : Nat) : JobRes :=
  let r1 := { r with ceTotal := r.ceTotal + q.ce0 + q.ce1 }
  if q.ue && !r.ueSeen then
    { r1 with ueSeen := true, ueBank := mbn, ueLatch := q.ueLatch, ueCol := q.ueCol, ueRow := q.ueRow }
  else r1

/-- The job goes on after one of its loads: when the last recipe block is loaded the bank's tag is the job's (05 R171). -/
def State.jobLoaded (s : State) (mbn : Nat) : State :=
  match s.holder mbn with
  | none => s
  | some j =>
    match j.bankRec mbn with
    | none => s
    | some b =>
      let n := b.loaded + 1
      let s1 := if n = (j.recipeLoads mbn).length then s.modBank mbn fun k => { k with tag := some j.tag } else s
      s1.onHolder mbn fun j => j.setBank mbn fun b => j.settled (s.bank mbn) (j.loadOn { b with loaded := n })

/-- What the controller keeps of a command that a bank has taken, given the bank as it was before: a load, the start of a
run, a drained slot, a status word, a leave. -/
def State.jobNote (s : State) (w : BitVec 48) (kb : Bank) (mbn t : Nat) : State :=
  let s0 := s.onHolder mbn fun j => j.spanned (mbn / 16) t
  match extCmd w with
  | 0x11 => s0.jobLoaded mbn
  | 0x12 => s0.jobLoaded mbn
  | 0x13 => s0.onHolder mbn fun j => j.setBank mbn fun b => { b with ran := true }
  | 0x14 =>
    let x := Word.bits w 26 23
    s0.onHolder mbn fun j => { j with drains := Tab.put j.drains (16 * j.index mbn + x) ((forwarded kb.unit).drain.getD x {}) }
  | 0x15 =>
    let q := kb.unit.status
    if !Word.bit w 26 then s0
    else (s0.countStatus kb mbn).onHolder mbn fun j =>
      { j with res := j.res.status q mbn }.setBank mbn fun b => { b with stat := false, outPoison := q.outPoison, ue := q.ue }
  | 0x10 => s0.onHolder mbn fun j => j.setBank mbn fun b => { b with phase := .leaving }
  | _ => s0

/-- A load outside a job's own clears the tag of a bank whose recipe memory it writes; so does the first block of a job's
load, whose last sets it again (05 R171). -/
def State.loadTag (s : State) (w : BitVec 48) (mbn : Nat) : State :=
  if extCmd w = 0x11 then s.modBank mbn fun k => { k with tag := none } else s

/-- One addressed bank takes the command, or treats it as a protocol error, which has no other effect (05 R173). -/
def State.extOne (s : State) (w : BitVec 48) (burst : Column) (t mbn : Nat) : State :=
  let kb := s.bank mbn
  let s1 := extOnBank s w burst t mbn
  if extTaken kb.unit w burst then (s1.loadTag w mbn).jobNote w kb mbn t else s1

/-- The command word is the row's, or a reserved CMD, and the channel takes it (05 R172). -/
def State.extTakes (s : State) (cmd : Nat) (enter : Option Bool) (stk ch : Nat) (w : BitVec 48) (burst : Column)
    (t : Nat) : Bool :=
  let rsvd := decide (0x16 ≤ extCmd w) && decide (extCmd w ≤ 0x1F)
  let mine := extCmd w == cmd && (match enter with | some e => Word.bit w 26 == e | none => true)
  (mine || rsvd) && s.extOk stk ch w burst t

/-- What an extended command does to the banks of its mask (05 R172, R173). A reserved CMD from 0x16 to 0x1F is
taken by every addressed bank as a protocol error. -/
def State.extDone (s : State) (stk ch : Nat) (w : BitVec 48) (burst : Column) (t : Nat) : State :=
  (extBanks stk ch w).foldl (fun s' b => s'.extOne w burst t b) (s.useExt stk ch w t)

/-- Issue an extended command. -/
def State.extIssue (s : State) (cmd : Nat) (enter : Option Bool) (stk ch : Nat) (w : BitVec 48) (burst : Column)
    (t : Nat) : Out :=
  ifUnit s (s.fitted stk && decide (ch < 64)) <|
    when' (s.extTakes cmd enter stk ch w burst t) s (s.extDone stk ch w burst t)

/-- SPRIG_MODE with ENTER 1: the banks enter recipe mode (04 R116, R117). -/
def execSprigModeEnter (stk ch : Nat) (w : BitVec 48) (t : Nat) (s : State) : Out :=
  s.extIssue 0x10 (some true) stk ch w blankCol t

/-- SPRIG_MODE with ENTER 0: the banks leave recipe mode (04 R117). -/
def execSprigModeLeave (stk ch : Nat) (w : BitVec 48) (t : Nat) (s : State) : Out :=
  s.extIssue 0x10 (some false) stk ch w blankCol t

/-- RECIPE_WRITE: up to eight steps into the recipe memory (05 R171). -/
def execRecipeWrite (stk ch : Nat) (w : BitVec 48) (burst : Column) (t : Nat) (s : State) : Out :=
  s.extIssue 0x11 none stk ch w burst t

/-- OPERAND_BCAST: 64 bytes for an operand register (05 R174). -/
def execOperandBcast (stk ch : Nat) (w : BitVec 48) (burst : Column) (t : Nat) (s : State) : Out :=
  s.extIssue 0x12 none stk ch w burst t

/-- SPRIG_RUN: start a run (04 R125, R126). -/
def execSprigRun (stk ch : Nat) (w : BitVec 48) (burst : Column) (t : Nat) (s : State) : Out :=
  s.extIssue 0x13 none stk ch w burst t

/-- SPRIG_DRAIN: read one drain slot (04 R151). -/
def execSprigDrain (stk ch : Nat) (w : BitVec 48) (t : Nat) (s : State) : Out :=
  s.extIssue 0x14 none stk ch w blankCol t

/-- SPRIG_STATUS: read the status word (04 R159). -/
def execSprigStatus (stk ch : Nat) (w : BitVec 48) (t : Nat) (s : State) : Out :=
  s.extIssue 0x15 none stk ch w blankCol t

/-! ### Recipe steps (04 R132) -/

def execStepNop (mbn t : Nat) (s : State) : Out := stepIssue 0x00 mbn t s
def execStepUnpack (mbn t : Nat) (s : State) : Out := stepIssue 0x01 mbn t s
def execStepFma (mbn t : Nat) (s : State) : Out := stepIssue 0x02 mbn t s
def execStepAdd (mbn t : Nat) (s : State) : Out := stepIssue 0x03 mbn t s
def execStepMul (mbn t : Nat) (s : State) : Out := stepIssue 0x04 mbn t s
def execStepMax (mbn t : Nat) (s : State) : Out := stepIssue 0x05 mbn t s
def execStepCsel (mbn t : Nat) (s : State) : Out := stepIssue 0x06 mbn t s
def execStepDot (mbn t : Nat) (s : State) : Out := stepIssue 0x08 mbn t s
def execStepFold (mbn t : Nat) (s : State) : Out := stepIssue 0x09 mbn t s
def execStepLoad (mbn t : Nat) (s : State) : Out := stepIssue 0x0C mbn t s
def execStepStore (mbn t : Nat) (s : State) : Out := stepIssue 0x0D mbn t s
def execStepWb (mbn t : Nat) (s : State) : Out := stepIssue 0x0E mbn t s
def execStepDrain (mbn t : Nat) (s : State) : Out := stepIssue 0x10 mbn t s
def execStepSets (mbn t : Nat) (s : State) : Out := stepIssue 0x18 mbn t s
def execStepSetp (mbn t : Nat) (s : State) : Out := stepIssue 0x19 mbn t s

/-- STEP_RETIRE: the `k`-th issued step reaches its retire time (04 R153). -/
def execStepRetire (mbn k t : Nat) (s : State) : Out := stepRetireAt mbn k t s

/-- A paused run goes on: every time that a readiness rule counts from is moved on by the length of the pause, as if no time
had passed (04 R130). -/
def unitResume (u : SprigUnit) (t : Nat) : SprigUnit :=
  let d := t - u.run.pauseAt.getD t
  { u with
    status := { u.status with st := .running }
    run := { u.run with
      reopen := []
      resumeAt := some t
      issueAt := u.run.issueAt.map (· + d)
      pathAt := u.run.pathAt.map (· + d)
      runAt := u.run.runAt.map (· + d)
      ghosts := u.run.ghosts.map fun f => f.shift d } }

/-- RUN_RESUME: the rows that the paused run needs are open again, tRCD has passed; the run resumes (04 R130;
05 R187). -/
def execRunResume (mbn t : Nat) (s : State) : Out :=
  let k := s.bank mbn
  let r := k.unit.run
  ifUnit s (decide (mbn < 16384) && s.fitted (mbn / 1024)) <|
    when' (s.stackOn (mbn / 1024) && k.unit.status.st == .paused
        && r.reopen.all fun x => !runNames k.unit r.first r.last x.1 ||
          (k.isOpen x.1 && (k.latch x.1).logRow == x.2 && since (k.latch x.1).actAt (tRCD (s.bandOf mbn)) t)) s
      (s.modUnit mbn fun u => unitResume u t)

end Sys2Proof.Machine
end

