-- ==== Sys2Proof/Machine/SprigJob.lean ====
section
/-! DEFINITION. Sprig jobs: checking a descriptor and its image, beginning on a bank, done reports, and the
drains, the result record and the completion (05). -/

namespace Sys2Proof.Machine

/-! ### The descriptor (05 R160 to R163) -/

def jobGroup (d : List Word) : Nat := 2 ^ Word.bits (jobWord d 0) 47 44
def jobStride (d : List Word) : Nat := 2 ^ Word.bits (jobWord d 0) 43 40
def jobDrainBf16 (d : List Word) : Bool := Word.bit (jobWord d 0) 48
def jobOperSpace (d : List Word) : Nat := Word.bits (jobWord d 0) 36 36
def jobRecipeSpace (d : List Word) : Nat := Word.bits (jobWord d 0) 35 35
def jobDrainSpace (d : List Word) : Nat := Word.bits (jobWord d 0) 34 34
def jobAddr (d : List Word) (n : Nat) : Nat := Word.bits (jobWord d n) 55 0

/-- The image can be looked for: the layout is version 1 and its address is well formed. -/
def jobImageUsable (d : List Word) : Bool :=
  Word.bits (jobWord d 0) 63 56 == 1 && Word.bits (jobWord d 3) 63 56 == 0 && jobAddr d 3 % 64 == 0

/-- The descriptor alone is in order (05 R160, R163). -/
def jobDescOk (d : List Word) : Bool :=
  let d0 := jobWord d 0
  let n := jobBankCount d
  Word.bits d0 63 56 == 1 && jobWalk d != 3 && jobDrainMode d != 3 && decide (Word.bits d0 47 44 ≤ 10)
    && decide (Word.bits d0 43 40 ≤ 9) && jobOperRegs d != 3 && Word.bits d0 33 16 == 0
    && ((upTo 6).all fun i => Word.bits (jobWord d (i + 1)) 63 56 == 0 || i == 1)
    && Word.bits (jobWord d 2) 21 0 == 0 && Word.bits (jobWord d 7) 31 0 == 0
    && jobAddr d 1 % 4096 == 0 && decide (1 ≤ n) && decide (n ≤ 1024) && decide (1 ≤ jobRows d) && decide (jobRows d ≤ 32768)
    && jobAddr d 3 % 64 == 0 && (jobOperRegs d == 0 || jobAddr d 4 % 64 == 0)
    && (jobDrainMode d == 0 || jobAddr d 5 % 64 == 0) && jobAddr d 6 % 64 == 0
    && (jobWalk d != 0 || jobRows d == 1) && !(jobPaired d && jobWalk d == 2)
    && (jobDrainMode d != 2 || n % (jobGroup d * jobStride d) == 0)

/-! ### The image (05 R168 to R170) -/

/-- The header: SEG_COUNT, STEP_COUNT, LOAD_AT, RECIPE_ID, ALT_OFFSET, when it is valid. -/
def imageHead (h0 h1 : Word) : Option (Nat × Nat × Nat × Nat × Nat) :=
  let sc := Word.bits h0 21 16
  let gc := Word.bits h0 11 8
  let la := Word.bits h0 28 24
  if Word.bits h0 63 56 == 1 && Word.bits h0 55 48 == 0 && Word.bits h0 31 29 == 0 && Word.bits h0 23 22 == 0
      && Word.bits h0 15 12 == 0 && Word.bits h0 7 5 == 0 && h1 == 0 && decide (1 ≤ sc) && decide (sc ≤ 32)
      && decide (la + sc ≤ 32) && decide (1 ≤ gc) && decide (gc ≤ 8) then
    some (gc, sc, la, Word.bits h0 47 32, Word.bits h0 4 0)
  else none

/-- A segment is valid under the image's steps, with the offset of odd walk steps where it applies. -/
def segOk (img : Image) (altWalk : Bool) (sg : Word × Word) : Bool :=
  let f := Word.bits sg.1 63 59
  let l := Word.bits sg.1 58 54
  let inside (o : Nat) := decide (img.loadAt ≤ f + o) && decide (l + o < img.loadAt + img.steps.length)
  decide (1 ≤ Word.bits sg.1 53 42) && Word.bits sg.1 17 0 == 0 && Word.bits sg.2 5 0 == 0 && decide (f ≤ l)
    && inside 0 && (!(Word.bit sg.1 27 && altWalk) || inside img.altOff)

/-- The image from its words, when it is valid. -/
def imageOf (d : List Word) (ws : List Word) : Option Image :=
  match imageHead (ws.getD 0 0) (ws.getD 1 0) with
  | none => none
  | some (gc, sc, la, rid, alt) =>
    let img : Image := {
      id := rid, loadAt := la, altOff := alt
      segs := (upTo gc).map fun i => (ws.getD (2 + 2 * i) 0, ws.getD (3 + 2 * i) 0)
      steps := (upTo sc).map fun i => ws.getD (2 + 2 * gc + i) 0 }
    if img.segs.all (segOk img (jobWalk d == 2 && decide (2 ≤ jobRows d))) then some img else none

/-- Lines that the image takes. -/
def imageLines (h0 : Word) : Nat := (16 + 16 * Word.bits h0 11 8 + 8 * Word.bits h0 21 16 + 63) / 64

/-! ### The rows (05 R161 to R163) -/

/-- The bounds of the walk and of the paired rows. -/
def jobBoundsOk (d : List Word) (r0 : Nat) : Bool :=
  let n := jobRows d
  let o := r0 % 16384
  let pr := jobPairRow d
  (match jobWalk d with
    | 1 => decide (o + n ≤ 16384)
    | 2 => decide (o + (n + 1) / 2 ≤ 16384)
    | _ => true)
    && (!jobPaired d || (pr / 16384 != r0 / 16384 && decide (pr % 16384 + n ≤ 16384)))

/-- The rows that the job opens in a bank. -/
def jobRowList (d : List Word) (r0 : Nat) : List Nat :=
  (upTo (jobRows d)).flatMap fun k => jobPrimary r0 (jobWalk d) k :: (if jobPaired d then [jobPairRow d + k] else [])

/-- How a row of a bank may be used by a job of partition `p`: RESULT 2 in a spread region, 3 where the
partition may not reach it, 0 otherwise. -/
def State.jobRowCheck (s : State) (p mbn row : Nat) : Nat :=
  let ph := mbn * 2 ^ 27 + row * 4096
  match s.regions.find? fun r => r.holds ph with
  | none => 3
  | some r => if s.localReach p ph ≠ 0 || s.inSystem ph then 3 else if r.pinned then 0 else 2

/-- First bank and row of BASE, or the refusing result (05 R161, R163). -/
def State.jobPlace (s : State) (p : Nat) (d : List Word) (writes : Bool) : Except Nat (Nat × Nat) :=
  match s.xlate p (jobAddr d 1) writes with
  | .here lin =>
    match s.place' false lin with
    | none => .error 3
    | some (l, _) =>
      if !(s.stackOn l.stk) || !jobBoundsOk d l.row || decide (1024 < l.mbn % 1024 + jobBankCount d) then .error 3
      else
        let rs := (upTo (jobBankCount d)).flatMap fun i =>
          (jobRowList d l.row).map fun r => s.jobRowCheck p (l.mbn + i) r
        if rs.contains 3 then .error 3 else if rs.contains 2 then .error 2 else .ok (l.mbn, l.row)
  | _ => .error 3

/-- The loaf of BASE is FROZEN and the job writes: the job waits at its home record (13 R449, R453). -/
def State.jobFrozen (s : State) (p : Nat) (d : List Word) (im : Image) : Bool :=
  s.xlate p (jobAddr d 1) (imageWrites d im) == .hold

/-! ### SPRIG_JOB -/

/-- A job's number: its cluster and its KQ ticket. -/
def jobNo (c ticket : Nat) : Nat := c * 2 ^ 32 + ticket

def State.jobWho (s : State) (c : Nat) (ticket : Nat) (d : List Word) : Who where
  a := .job (jobNo c ticket)
  o := .sprig c
  c := c
  p := (s.cluster c).part.getD 31
  cls := some (Word.bits (jobWord d 0) 55 54)

/-- The operand lines of a job: key, place. Under OPER_TABLE the channels are those that may hold job banks. -/
def operLines (d : List Word) : List (Nat × Place2) :=
  let n := jobOperRegs d
  if jobOperTable d then
    (upTo 64).flatMap fun c => (upTo n).map fun r => (2 * c + r, ⟨jobOperSpace d, jobAddr d 4 + 64 * (n * c + r)⟩)
  else (upTo n).map fun r => (r, ⟨jobOperSpace d, jobAddr d 4 + 64 * r⟩)

/-- A refused job waits only for its record and its completion. -/
def refusedJob (c ticket p arrived code cyc : Nat) (d : List Word) : Job where
  c := c
  ticket := ticket
  part := p
  cls := Word.bits (jobWord d 0) 55 54
  desc := d
  first := 0
  row0 := 0
  img := {}
  oper := []
  banks := []
  drains := []
  res := { code := code }
  arrived := arrived
  cyc := cyc

/-- Queue a job at its controller; the KQ entry counts as taken. Its channels are called out of self-refresh (03 R104,
R105). -/
def State.acceptJob (s : State) (j : Job) : State :=
  let s1 := s.modEntry j.c 6 j.ticket fun x => { x with started := true }
  let s2 : State := { s1 with mem := { s1.mem with
      jobs := Tab.put s1.mem.jobs (jobNo j.c j.ticket) j, nextId := s1.mem.nextId + 1 } }
  ((j.banks.map fun b => b.mbn / 16).dedup).foldl (fun s k => s.callChan (k / 64) (k % 64)) s2

/-- Check a job whose image and operands have been read: the lowest row of R191 that applies wins. A job waits while its
cluster's route to the stack is being switched (01 R25); without a route it is refused, for which R191 has no code of its own:
it takes REFUSED_RANGE (DESIGN CHOICE, log entry 130). -/
def State.checkJob (s : State) (c : Nat) (e : QEntry) (img : Option Image) (oper : Tab PReg) (t : Nat) : State :=
  let d := e.desc
  let p := (s.cluster c).part.getD 31
  let refuse (code : Nat) := s.acceptJob (refusedJob c e.ticket p s.mem.nextId code t d)
  match img with
  | none => refuse (if jobImageUsable d then 5 else 4)
  | some im =>
    if !jobDescOk d then refuse 4
    else if s.jobFrozen p d im then s
    else
      match s.jobPlace p d (imageWrites d im) with
      | .error k => refuse k
      | .ok (b, r) =>
        if (s.pathTo (.sprig c) (b / 1024)).isNone then refuse 3
        else if s.switchWait (wayTo s.linkWas (.sprig c) (b / 1024)) then s
        else s.acceptJob { refusedJob c e.ticket p s.mem.nextId 0 t d with
          cls := s.servedClass (b / 1024) 5 (some (Word.bits (jobWord d 0) 55 54))
          first := b, row0 := r, img := im, oper := oper
          banks := (upTo (jobBankCount d)).map fun i => { mbn := b + i } }

/-- Read what the job needs, then check it. -/
def State.startJob (s : State) (c : Nat) (e : QEntry) (t : Nat) : State :=
  let d := e.desc
  let w := s.jobWho c e.ticket d
  if !jobImageUsable d then s.checkJob c e none [] t
  else
    let hd : Place2 := ⟨jobRecipeSpace d, jobAddr d 3⟩
    if !s.readReady w hd then s.readAsk w hd
    else
      let h := (s.readOne w hd).2
      let h0 := BitVec.ofNat 64 (nbits h.2.toNat 63 0)
      let good := h.1 == 0 && (imageHead h0 (BitVec.ofNat 64 (nbits h.2.toNat 127 64))).isSome
      let ils := (upTo (if good then imageLines h0 else 1)).map fun i => (⟨jobRecipeSpace d, jobAddr d 3 + 64 * i⟩ : Place2)
      let ops := if good && jobDescOk d then operLines d else []
      let f := s.fetchLines w (ils ++ ops.map (·.2))
      match f.2 with
      | none => f.1
      | some rs =>
        let im := rs.take ils.length
        let ws := im.flatMap fun x => wordsOfBytes (bytesOfLine x.2)
        let img := if im.all (fun x => x.1 == 0) then imageOf d ws else none
        let oper := (ops.zip (rs.drop ils.length)).foldl
          (fun t x => Tab.put t x.1.1 { data := x.2.2, poison := x.2.1 != 0 }) []
        f.1.checkJob c e img oper t

/-- SPRIG_JOB: a dispatched KQ entry reaches its stack controller in Sprig cycle `t` and is checked, refused or queued
(05 R163). -/
def execSprigJob (c ticket t : Nat) (s : State) : Out :=
  ifUnit s (decide (c < 48)) <|
    match s.entry c 6 ticket with
    | none => .next s
    | some e =>
      when' (s.clusterOn c && e.disp && !e.started && e.compl.isNone && e.aborting.isNone) s (s.startJob c e t)

/-! ### JOB_BANK_BEGIN (05 R171, R179, R180) -/

/-- The channel takes the enter at `t`, and nothing that outranks the job wants the column slot (03 R93). -/
def State.enterOk (s : State) (j : Job) (mbn t : Nat) : Bool :=
  let stk := mbn / 1024
  let ch := mbn / 16 % 64
  s.chanReady stk ch t && (s.chan (chanKey stk ch)).takesExt (enterWord mbn) t && since (s.bank mbn).refAt 99 t
    && s.colTop stk ch t j.rank

/-- The job begins on a bank: SPRIG_MODE enter. Its next commands load the recipe, unless the tag matches, and the
operands. -/
def State.beginBank (s : State) (id : Nat) (j : Job) (mbn t : Nat) : State :=
  let w := enterWord mbn
  let n := j.skips (s.bank mbn)
  let s1 := (extOnBank s w blankCol t mbn).useExt (mbn / 1024) (mbn / 16 % 64) w t
  let s2 := (s1.modBank mbn fun k => { k with hold := some id }).modChan (mbn / 16) fun c => { c with srPend := false }
  s2.setJob id ((j.spanned (mbn / 16) t).setBank mbn fun b =>
    j.settled (s2.bank mbn) (j.loadOn { b with phase := .loading, loaded := n }))

/-- JOB_BANK_BEGIN: a job bank becomes free, and the job begins on it (05 R179). -/
def execJobBankBegin (job mbn t : Nat) (s : State) : Out :=
  ifUnit s (decide (mbn < 16384) && s.fitted (mbn / 1024)) <|
    match Tab.find s.mem.jobs job with
    | none => .next s
    | some j => when' (s.jobMayBegin job j mbn && s.enterOk j mbn t) s (s.beginBank job j mbn t)

/-! ### RUN_DONE_REPORT (05 R176, R194) -/

/-- The controller takes a bank's done report at cycle `t`. -/
def State.takeReport (s : State) (id : Nat) (j : Job) (mbn t : Nat) : State :=
  let s := s.modUnit mbn fun u => { u with run := { u.run with reportAt := some t } }
  let kb := s.bank mbn
  let q := kb.unit.status
  let stopped := q.st == .stopped
  let res := if stopped && !j.res.stopped then
      { j.res with stopped := true, endc := q.endc, step := q.step, stopBank := mbn } else j.res
  s.setJob id ({ j with res := res }.setBank mbn fun b =>
    let b1 := { b with ran := false, stopped := stopped, stat := stopped || q.poison || q.ue || q.ce0 != 0 || q.ce1 != 0 }
    if stopped || j.stop.isSome then { b1 with phase := .draining } else j.settled kb { b1 with seg := b.seg + 1 })

/-- RUN_DONE_REPORT: two cycles after the run's last retirement or its stop (05 R176, R178). -/
def execRunDoneReport (mbn t : Nat) (s : State) : Out :=
  ifUnit s (decide (mbn < 16384) && s.fitted (mbn / 1024)) <|
    let u := (s.bank mbn).unit
    match (s.bank mbn).hold.bind fun id => (Tab.find s.mem.jobs id).map fun j => (id, j) with
    | none => .next s
    | some (id, j) =>
      when' (s.stackOn (mbn / 1024) && (match j.bankRec mbn with | some b => b.ran | none => false)
          && !u.busy && u.fly.isEmpty && decide (max u.run.retireAt u.run.stopAt + 2 = t)) s
        (s.takeReport id j mbn t)

/-! ### Drains and the result record (05 R165 to R167, R191 to R193) -/

/-- Values of a drained slot, widened to FP32. -/
def slotValues (bf16 : Bool) (x : PReg) : List W32 :=
  (upTo (if bf16 then 32 else 16)).map fun i => widen (if bf16 then 5 else 7) (elemCode (if bf16 then 5 else 7) x.data i)

/-- One level of a pairwise tree over lists of values, `n` levels in all. -/
def addTree : Nat → List (List W32) → List W32
  | 0, vs => vs.headD []
  | n + 1, vs =>
    let rec pairs : List (List W32) → List (List W32)
      | a :: b :: r => List.zipWith add32 a b :: pairs r
      | r => r
    addTree n (pairs vs)

/-- A 64-byte unit of a drain at a place: poisoned in module memory, canonical NaNs in cluster SRAM (R167). -/
def drainUnit (space addr : Nat) (fmt : Nat) (d : Line) (poison : Bool) : LineW :=
  if space = 0 then
    { x := ⟨0, addr⟩
      data := if poison then lineOfElems fmt (List.replicate (fmtElems fmt) (nanCode fmt)) else d }
  else { x := ⟨1, addr⟩, data := d, poison := poison }

def Job.slotList (j : Job) : List Nat := (upTo 16).filter fun x => (jobSlots j.desc).testBit x
def Job.drained (j : Job) (i slot : Nat) : PReg := Tab.get {} j.drains (16 * i + slot)
/-- Every slot of a bank has been read out. -/
def Job.wasDrained (j : Job) (i : Nat) : Bool := (j.slotsLeft (j.first + i)).isEmpty
/-- Every bank that the job works on has had its slots read out: its drains can be written (05 R183). -/
def Job.drainedAll (j : Job) : Bool :=
  j.banks.all fun b => !j.live b || b.phase == .leaving || (b.phase == .draining && (j.slotsLeft b.mbn).isEmpty)

/-- The units under DRAIN_MODE 1. -/
def Job.drainBanks (j : Job) : List LineW :=
  let d := j.desc
  let n := j.slotList.length
  (upTo j.banks.length).flatMap fun i =>
    if j.wasDrained i then
      j.slotList.zipIdx.map fun x =>
        let v := j.drained i x.1
        drainUnit (jobDrainSpace d) (jobAddr d 5 + 64 * (n * i + x.2)) (if jobDrainBf16 d then 5 else 7) v.data v.poison
    else []

/-- The units under DRAIN_MODE 2: one FP32 unit of one or two lines for each group and slot. A group with a bank that was
never drained, because the job stopped before it began there, writes nothing (DESIGN CHOICE, log entry 116). -/
def Job.drainGroups (j : Job) : List LineW :=
  let d := j.desc
  let n := j.slotList.length
  let g := jobGroup d
  let st := jobStride d
  let lines := if jobDrainBf16 d then 2 else 1
  (upTo (j.banks.length / g)).flatMap fun gi =>
    let mem := (upTo g).map fun m => gi / st * (g * st) + m * st + gi % st
    if mem.all j.wasDrained then
      j.slotList.zipIdx.flatMap fun x =>
        let vs := mem.map fun i => slotValues (jobDrainBf16 d) (j.drained i x.1)
        let sum := addTree (Word.bits (jobWord d 0) 47 44) vs
        let bad := mem.any fun i => (j.drained i x.1).poison
        (upTo lines).map fun h =>
          drainUnit (jobDrainSpace d) (jobAddr d 5 + 64 * lines * (n * gi + x.2) + 64 * h) 7
            (lineOfElems 7 ((upTo 16).map fun i => (sum.getD (16 * h + i) 0).toNat)) bad
    else []

def Job.drainLines (j : Job) : List LineW :=
  if j.res.code ≠ 0 then []
  else match jobDrainMode j.desc with
    | 1 => j.drainBanks
    | 2 => j.drainGroups
    | _ => []

/-- Banks whose stored or drained output carries poison. -/
def Job.poisonedBanks (j : Job) : Nat :=
  (j.banks.zipIdx.filter fun b => b.1.outPoison || j.slotList.any fun x => (j.drained b.2 x).poison).length

/-- The result code (05 R191). -/
def Job.code (j : Job) : Nat :=
  match j.stop with
  | some 9 => 7
  | some _ => 8
  | none =>
    if j.res.code ≠ 0 then j.res.code else if j.res.stopped then 6
    else if j.poisonedBanks ≠ 0 then 1 else 0

/-- The result record (05 R192). -/
def Job.record (j : Job) : Line :=
  let r := j.res
  let ue := (j.banks.filter fun b => b.ue).length
  let w0 := packNat [(56, j.code), (53, r.endc), (48, r.step), (34, r.stopBank), (0, Word.bits (jobWord j.desc 7) 63 32)]
  let w1 := packNat [(48, sat 16 j.poisonedBanks), (32, sat 16 ue), (0, sat 32 r.ceTotal)]
  let w2 := packNat [(32, sat 32 j.cycles), (0, sat 32 r.tokenWait)]
  let w3 := packNat [(32, sat 32 r.pauses), (0, sat 32 r.interleaved)]
  let w4 := packNat [(50, r.ueBank), (49, r.ueLatch), (43, r.ueCol), (28, r.ueRow)]
  BitVec.ofNat 512 (packNat [(0, w0), (64, w1), (128, w2), (192, w3), (256, w4)])

/-- The queue status of a result code (10 R345). -/
def jobStatus (code : Nat) : Nat :=
  match code with
  | 0 => 0 | 1 => 1 | 2 => 4 | 3 => 4 | 4 => 3 | 5 => 3 | 6 => 7 | 7 => 9 | _ => 8

/-- RESULT_ADDR asks for a record (05 R192). -/
def Job.wantsRecord (j : Job) : Bool := jobAddr j.desc 6 != 0 && jobAddr j.desc 6 % 64 == 0

/-- Write the drains; those of remote memory are on their way. -/
def State.jobDrains (s : State) (id : Nat) (j : Job) : State :=
  if j.stage ≠ 0 || !j.drainedAll then s
  else
    let r := s.storeLines (s.jobWho j.c j.ticket j.desc) j.drainLines
    match r.2 with
    | none => r.1
    | some _ => r.1.onJob id fun j => { j with stage := 1 }

/-- The drains count as written once every write has taken effect (05 R183). -/
def State.jobWritten (s : State) (id : Nat) (j : Job) : State :=
  if j.stage ≠ 1 || !s.settled (.job id) then s else s.onJob id fun j => { j with stage := 2 }

/-- Write the result record once every bank has left recipe mode. -/
def State.jobRecord (s : State) (id : Nat) (j : Job) : State :=
  if j.stage ≠ 2 || !j.over' then s
  else if !j.wantsRecord then s.onJob id fun j => { j with stage := 3 }
  else
    let r := s.storeLines (s.jobWho j.c j.ticket j.desc) [{ x := ⟨1, jobAddr j.desc 6⟩, data := j.record }]
    match r.2 with
    | none => r.1
    | some _ => r.1.onJob id fun j => { j with stage := 3 }

/-- A job that its controller accepted has completed on P5: it counts there, as late when its first command issued at
urgency step 3 (03 R89, R91). A refused job reached no stack. -/
def State.jobCount (s : State) (j : Job) : State :=
  if j.banks = [] then s
  else
    let e := 0x3100 + 8 * (j.first / 1024) + 5
    let s1 := s.bump e 3
    if j.step = 3 then s1.bump e 4 else s1

/-- The KQ completion follows the record; the controller forgets the job. -/
def State.jobFinish (s : State) (id : Nat) (j : Job) : State :=
  if j.stage ≠ 3 || !s.settled (.job id) then s
  else
    let s1 := ((s.takeFail (.job id)).1).jobCount j
    { s1.complete j.c 6 j.ticket (jobStatus j.code) j.code with
      mem := { s1.mem with jobs := Tab.erase s1.mem.jobs id } }

/-- The job as the table holds it. -/
def State.withJob (s : State) (id : Nat) (f : State → Job → State) : State :=
  match Tab.find s.mem.jobs id with
  | none => s
  | some j => f s j

/-- JOB_COMPLETE: the job takes what it can of the steps of its completion, in their order: the drains are written, every
bank leaves recipe mode, the record is written, the KQ completion follows (05 R183). -/
def execJobComplete (job : Nat) (s : State) : Out :=
  match Tab.find s.mem.jobs job with
  | none => .next s
  | some j =>
    when' (s.clusterOn j.c) s <|
      let s1 := s.withJob job fun s j => s.jobDrains job j
      let s2 := s1.withJob job fun s j => s.jobWritten job j
      let s3 := s2.withJob job fun s j => s.jobRecord job j
      s3.withJob job fun s j => s.jobFinish job j

end Sys2Proof.Machine
end

