-- ==== Sys2Proof/Machine/Stop.lean ====
section
/-! DEFINITION. Stopping a queue entry: an abort, a drain limit, an orderly stop (10 R346, R351, R357 to R359;
05 R194; 07 R232; 08 R281; 09 R323). -/

namespace Sys2Proof.Machine

/-- The status of an entry that is stopped twice: DISCARDED stands above ABORTED (10 R344; 05 R191). -/
def worseStop (old : Option Nat) (status : Nat) : Nat := if old = some 9 then 9 else status

/-- The entry will complete with this status once its engine has stopped. -/
def State.markStop (s : State) (c q ticket status : Nat) : State :=
  s.modEntry c q ticket fun e => { e with aborting := some (worseStop e.aborting status) }

/-- Stop an entry of a tile queue that has dispatched. A STORE's issued writes take effect before it completes. -/
def State.stopMq (s : State) (c t : Nat) (x : QEntry) (status : Nat) : State :=
  let e := engineOf (mqCmd x.desc)
  match (s.tile c t).eng e with
  | none => (s.complete c t x.ticket status 0).noteHeads c
  | some k =>
    if k.ticket ≠ x.ticket then (s.complete c t x.ticket status 0).noteHeads c
    else if mqCmd k.desc = 3 then
      let s1 := s.modTile c t fun ti =>
        (ti.setEng e (some { k with sbuf := [], done := true, need := k.asked })).setStr 2
          ((ti.str 2).addDrop (k.need - k.asked))
      ((s1.markStop c t x.ticket status).completeTile c t e).freeStreams c t
    else (((s.stopTile c t e).complete c t x.ticket status 0).clearPool (.tile c t (streamOf e)) fun _ => true).freeStreams c t

/-- Stop the vector engine's instruction: what it has issued takes effect. -/
def State.stopVq (s : State) (c : Nat) (x : QEntry) (status : Nat) : State :=
  match (s.cluster c).vec with
  | none => ((s.endWait c).complete c 4 x.ticket status 0).clearPool (.vec c) fun _ => true
  | some v =>
    if v.ticket ≠ x.ticket then s.complete c 4 x.ticket status 0
    else if s.settled (.vec c) then
      ((s.takeFail (.vec c)).1.modCluster c fun k => { k with vec := none }).complete c 4 x.ticket status 0
    else s.markStop c 4 x.ticket status

/-- Stop the layout engine's transfer. -/
def State.stopLq (s : State) (c : Nat) (x : QEntry) (status : Nat) : State :=
  match (s.cluster c).lay with
  | none => ((s.setLayStart c none).complete c 5 x.ticket status 0).clearPool (.lay c) fun _ => true
  | some r =>
    if r.ticket ≠ x.ticket then s.complete c 5 x.ticket status 0
    else
      let s1 := (s.modCluster c fun k => { k with lay := some { r with next := r.total, out := [] } }).clearPool
        (.lay c) fun _ => true
      if s1.settled (.lay c) then
        ((s1.takeFail (.lay c)).1.modCluster c fun k => { k with lay := none }).complete c 5 x.ticket status 0
      else s1.markStop c 5 x.ticket status

/-- A job is past stopping: its last bank has completed, or it was refused (05 R194). -/
def Job.past (j : Job) : Bool := j.banks.all fun b => b.phase == .left

/-- Stop a Sprig job: no further run; issued runs finish, and every bank drains and leaves. -/
def State.stopKq (s : State) (c : Nat) (x : QEntry) (status : Nat) : State :=
  let id := jobNo c x.ticket
  match Tab.find s.mem.jobs id with
  | none => (s.complete c 6 x.ticket status 0).clearPool (.job id) fun _ => true
  | some j =>
    if j.past then s
    else
      (s.markStop c 6 x.ticket status).setJob id { j with
        stop := some (worseStop j.stop status)
        banks := j.banks.map fun b => if (b.phase == .running && !b.ran) || b.phase == .loading then { b with phase := .draining } else b }

/-- Stop an FQ operation: it issues no further request. -/
def State.stopFq (s : State) (c : Nat) (x : QEntry) (status : Nat) : State :=
  match s.fqOf c x.ticket with
  | none => s.complete c 7 x.ticket status 0
  | some _ => (s.markStop c 7 x.ticket status).modFq c x.ticket fun o => { o with todo := [] }

/-- An entry of a queue has been stopped: a tile goes on to discard its lines, and the heads are looked at. -/
def State.afterStop (s : State) (c q : Nat) : State := (if q < 4 then s.settleTile c q else s).noteHeads c

/-- Stop an entry that has not completed: 8 ABORTED or 9 DISCARDED. -/
def State.stopEntry (s : State) (c q : Nat) (x : QEntry) (status : Nat) : State :=
  (if !x.disp then s.complete c q x.ticket (if e0Ok x.e0 && e1Ok x.e1 then status else 3) 0
  else
    match q with
    | 4 => s.stopVq c x status
    | 5 => s.stopLq c x status
    | 6 => s.stopKq c x status
    | 7 => s.stopFq c x status
    | _ => s.stopMq c q x status).afterStop c q

/-- Stop every dispatched entry of a cluster that has not completed. -/
def State.stopDispatched (s : State) (c status : Nat) : State :=
  (upTo 8).foldl (fun s q =>
    (((s.cluster c).queue q).entries.filter fun x => x.disp && x.compl.isNone).foldl
      (fun s x =>
        if x.aborting.isNone then s.stopEntry c q x status
        else if q = 6 then s.stopKq c x status
        else s.markStop c q x.ticket status) s) s

/-- Whether a dispatched entry of the cluster is still at work. -/
def State.working (s : State) (c : Nat) : Bool :=
  (s.cluster c).queues.any fun kq => kq.2.entries.any fun x => x.disp && x.compl.isNone

/-- The queues of a cluster close: the entries at their heads complete DISCARDED (10 R346). -/
def State.closeQueues (s : State) (c : Nat) : State :=
  let s1 := s.modCluster c fun k => { k with closed := true }
  ((upTo 8).foldl (fun s q =>
    (((s.cluster c).queue q).entries.filter fun x => !x.disp && x.compl.isNone).foldl
      (fun s x => s.closeHead c q x) s |>.afterStop c q) s1)

/-- The abort of one entry and its outcome: 0 TAKEN, 1 TOO_LATE, 2 NOT_FOUND (10 R357, R359). -/
def State.abortOne (s : State) (c q ticket : Nat) : State × Nat :=
  match s.entry c q ticket with
  | none =>
    let d := (ticket + 2 ^ 32 - ((s.cluster c).queue q).next) % 2 ^ 32
    (s, if d < 2 ^ 31 then 2 else 1)
  | some x =>
    let s1 := s.modEntry c q ticket fun e => { e with abortReq := true }
    let late := x.compl.isSome || (q == 6 && (match Tab.find s.mem.jobs (jobNo c ticket) with
      | some j => j.past
      | none => false))
    if late then (s1, 1)
    else ((s1.stopEntry c q x 8).bump (0x5400 + c) 6 1 32, 0)

/-- The abort of every undelivered entry of a queue, and how many were taken. -/
def State.abortAll (s : State) (c q : Nat) : State × Nat :=
  ((s.cluster c).queue q).entries.foldl
    (fun r x => let o := r.1.abortOne c q x.ticket; (o.1, if o.2 = 0 then r.2 + 1 else r.2)) (s, 0)

end Sys2Proof.Machine
end

