-- ==== Sys2Proof/Machine/Seq.lean ====
section
/-! DEFINITION. The sequencer core: fetch, legality of a word, faults, and the instructions (10 R327 to R335, R337,
R355, R357; 11 R371 to R377). -/

namespace Sys2Proof.Machine

/-! ### Words (10 R331 to R334) -/

def iOp (w : Nat) : Nat := nbits w 31 26
def iRd (w : Nat) : Nat := nbits w 25 21
def iRa (w : Nat) : Nat := nbits w 20 16
def iRb (w : Nat) : Nat := nbits w 15 11
def iFn (w : Nat) : Nat := nbits w 10 0
def iImm (w : Nat) : Nat := nbits w 15 0
/-- IMM16 or OFF16 sign-extended. -/
def iSimm (w : Nat) : Int := (BitVec.ofNat 16 w).toInt
def iOff26 (w : Nat) : Int := (BitVec.ofNat 26 w).toInt
/-- Format B. -/
def bRa (w : Nat) : Nat := nbits w 25 21
def bRb (w : Nat) : Nat := nbits w 20 16
/-- Format Q. -/
def qQ (w : Nat) : Nat := nbits w 25 23
def qRa (w : Nat) : Nat := nbits w 22 18
def qRb (w : Nat) : Nat := nbits w 17 13
def qRc (w : Nat) : Nat := nbits w 12 8
def qRd (w : Nat) : Nat := nbits w 7 3
/-- Format T. -/
def tTile (w : Nat) : Nat := nbits w 25 24
def tStr (w : Nat) : Nat := nbits w 23 22
def tRa (w : Nat) : Nat := nbits w 20 16
def tRd (w : Nat) : Nat := nbits w 4 0
/-- Format F. -/
def fForm (w : Nat) : Nat := nbits w 15 13
def fFlag (w : Nat) : Nat := nbits w 5 0

/-- Format T without reserved bits; stream 3 is reserved. -/
def tOk (w : Nat) : Bool := nbits w 21 21 == 0 && nbits w 15 5 == 0 && tStr w != 3
/-- Format F without reserved bits, naming a flag word. -/
def fOk (w : Nat) : Bool := nbits w 12 6 == 0 && decide (fFlag w ≤ 47)

/-- The word is an instruction: no reserved code, and zero in every bit that it does not use (10 R331 to R335). -/
def seqLegal (w : Nat) : Bool :=
  match iOp w with
  | 0x00 => w % 2 ^ 26 == 0
  | 0x01 => decide (iFn w ≤ 15)
  | 0x02 | 0x03 | 0x04 | 0x05 | 0x09 => true
  | 0x06 | 0x07 | 0x08 => nbits w 15 6 == 0
  | 0x0A => iRa w == 0
  | 0x10 | 0x11 | 0x12 | 0x13 | 0x14 | 0x15 | 0x16 | 0x17 => true
  | 0x20 | 0x21 | 0x22 | 0x23 | 0x24 | 0x25 | 0x26 | 0x27 | 0x28 => true
  | 0x30 => nbits w 2 0 == 0
  | 0x31 => nbits w 2 0 == 0 && decide (qRb w ≤ 1) && qRc w == 0
  | 0x32 => nbits w 2 0 == 0 && qRa w == 0 && qRb w == 0 && qRc w == 0
  | 0x34 => tOk w && tRd w == 0
  | 0x35 => tOk w && tRd w == 0 && tRa w == 0
  | 0x36 => tOk w && tRa w == 0
  | 0x38 => fOk w && iRa w == 0 && fForm w == 0
  | 0x39 => fOk w && iRd w == 0 && fForm w == 0
  | 0x3A => fOk w && fForm w == 0
  | 0x3B => fOk w && iRd w == 0 && decide (1 ≤ fForm w) && decide (fForm w ≤ 3)
  | 0x3C =>
    match iFn w with
    | 0 => iRa w == 0 && iRb w == 0
    | 1 => iRb w == 0
    | 2 => iRb w == 0
    | 3 => iRd w == 0 && iRa w == 0 && iRb w == 0
    | 4 => iRa w == 0 && iRb w == 0
    | _ => false
  | _ => false

/-! ### Fetch, faults, register results -/

/-- A byte that fetch sees. After IFENCE it is the stored one; before, the spec leaves open whether fetch sees the
store or the byte that was there (10 R328, R334; log entry 60). -/
def Cluster.fetchByte (k : Cluster) (n a : Nat) : Byte :=
  match k.core.unfenced.find? fun x => x.1 == a with
  | some x => if Config.fetchSees n k.core.cyc a then Tab.get 0 k.isram a else x.2
  | none => Tab.get 0 k.isram a

/-- The word at a byte offset of instruction SRAM. -/
def Cluster.fetch (k : Cluster) (n pc : Nat) : Nat := ofLeBytes ((upTo 4).map fun i => k.fetchByte n (pc + i))

/-- The core fetches and issues (10 R329; 15 R511; 16 R563). -/
def State.seqOn (s : State) (c : Nat) : Bool :=
  s.clusterOn c && s.crust.svc == .service && s.therm.stopStep == 0 && !(s.cluster c).closed
    && (s.cluster c).core.st == .running

/-- A fault: the core stops on the instruction, and the crust logs it (10 R335, R368, R369). -/
def State.seqFault (s : State) (c code w : Nat) : State :=
  let k := s.cluster c
  let pc := k.core.pc
  ((s.modCore c fun x => { x with st := .faulted, wait := none }).setCtr (0x5400 + c) 3
    (packNat [(56, code), (32, pc), (0, w)])).log
    [pack [(56, 0x31), (50, c), (45, k.part.getD 31), (36, code), (0, pc)], BitVec.ofNat 64 w]

/-- The core goes on at the next instruction, or faults when that lies outside instruction SRAM. -/
def State.seqNext (s : State) (c w : Nat) (f : State → State) : State :=
  if 0xFFFC ≤ (s.cluster c).core.pc then s.seqFault c 4 w
  else (f s).modCore c fun k => { k with pc := k.pc + 4 }

/-- The core goes on at a target, or faults. -/
def State.seqJump (s : State) (c w : Nat) (target : Int) (f : Core → Core) : State :=
  if target < 0 || 0xFFFC < target then s.seqFault c 4 w
  else s.modCore c fun k => { f k with pc := target.toNat }

def State.reg (s : State) (c n : Nat) : Word := (s.cluster c).core.reg n
def State.putReg (s : State) (c n : Nat) (v : Word) : State := s.modCore c fun k => k.setReg n v

/-- The core issues again: the hearth cycle that is open ends, unless the core's own flag-word write joins it. -/
def State.coreTurn (s : State) (c : Nat) (join : Bool) : State :=
  let open_ := match (s.cluster c).cycle with
    | some fc => join && fc.writes.all fun w => w.rank != 0
    | none => true
  (if open_ then s else s.closeCycle c).modCore c fun k => { k with pushed := none }

/-- Issue the instruction at the PC if it is legal, of opcode `op` and, for SYS, function `fn`. -/
def State.issue (s0 : State) (c op : Nat) (fn : Option Nat) (f : State → Nat → State) (join : Bool := false) : Out :=
  ifUnit s0 (decide (c < 48)) <|
    let s := s0.coreTurn c join
    let w := (s.cluster c).fetch s.free (s.cluster c).core.pc
    when' (s.seqOn c && iOp w == op && seqLegal w && (match fn with | some n => iFn w == n | none => true)) s0 (f s w)

/-- ILLEGAL_INSTRUCTION (10 R335). -/
def execIllegalInstruction (c : Nat) (s0 : State) : Out :=
  ifUnit s0 (decide (c < 48)) <|
    let s := s0.coreTurn c false
    let w := (s.cluster c).fetch s.free (s.cluster c).core.pc
    when' (s.seqOn c && !seqLegal w) s0 (s.seqFault c 1 w)

/-! ### Arithmetic (10 R332, R333) -/

/-- The ALU functions. -/
def aluOp (fn : Nat) (a b : Word) : Word :=
  let sh := b.toNat % 64
  match fn with
  | 0 => a + b
  | 1 => a - b
  | 2 => a &&& b
  | 3 => a ||| b
  | 4 => a ^^^ b
  | 5 => a <<< sh
  | 6 => a >>> sh
  | 7 => a.sshiftRight sh
  | 8 => if BitVec.slt a b then 1 else 0
  | 9 => if a < b then 1 else 0
  | 10 => a * b
  | 11 => BitVec.ofNat 64 (a.toNat * b.toNat / 2 ^ 64)
  | 12 => if b = 0 then BitVec.allOnes 64 else BitVec.ofNat 64 (a.toNat / b.toNat)
  | 13 => if b = 0 then a else BitVec.ofNat 64 (a.toNat % b.toNat)
  | 14 => if BitVec.slt a b then a else b
  | _ => if BitVec.slt a b then b else a

/-- An instruction whose only effect is a register result. -/
def State.seqAlu (s : State) (c w : Nat) (v : Word) : State := s.seqNext c w fun s => s.putReg c (iRd w) v

/-- IMM16 as a word, sign-extended or zero-extended. -/
def immS (w : Nat) : Word := BitVec.ofInt 64 (iSimm w)
def immZ (w : Nat) : Word := BitVec.ofNat 64 (iImm w)

/-- ALU. -/
def execAlu (c : Nat) (s : State) : Out :=
  s.issue c 0x01 none fun s w => s.seqAlu c w (aluOp (iFn w) (s.reg c (iRa w)) (s.reg c (iRb w)))
/-- ADDI. -/
def execAddi (c : Nat) (s : State) : Out :=
  s.issue c 0x02 none fun s w => s.seqAlu c w (s.reg c (iRa w) + immS w)
/-- ANDI. -/
def execAndi (c : Nat) (s : State) : Out :=
  s.issue c 0x03 none fun s w => s.seqAlu c w (s.reg c (iRa w) &&& immZ w)
/-- ORI. -/
def execOri (c : Nat) (s : State) : Out :=
  s.issue c 0x04 none fun s w => s.seqAlu c w (s.reg c (iRa w) ||| immZ w)
/-- XORI. -/
def execXori (c : Nat) (s : State) : Out :=
  s.issue c 0x05 none fun s w => s.seqAlu c w (s.reg c (iRa w) ^^^ immZ w)
/-- SHLI. -/
def execShli (c : Nat) (s : State) : Out :=
  s.issue c 0x06 none fun s w => s.seqAlu c w (aluOp 5 (s.reg c (iRa w)) (immZ w))
/-- SHRI. -/
def execShri (c : Nat) (s : State) : Out :=
  s.issue c 0x07 none fun s w => s.seqAlu c w (aluOp 6 (s.reg c (iRa w)) (immZ w))
/-- SARI. -/
def execSari (c : Nat) (s : State) : Out :=
  s.issue c 0x08 none fun s w => s.seqAlu c w (aluOp 7 (s.reg c (iRa w)) (immZ w))
/-- SLTI. -/
def execSlti (c : Nat) (s : State) : Out :=
  s.issue c 0x09 none fun s w => s.seqAlu c w (aluOp 8 (s.reg c (iRa w)) (immS w))
/-- LUI: the immediate shifted left by 16, sign-extended from bit 31. -/
def execLui (c : Nat) (s : State) : Out :=
  s.issue c 0x0A none fun s w => s.seqAlu c w (BitVec.ofInt 64 (iSimm w * 65536))
/-- HALT: the PC stays on it. -/
def execHalt (c : Nat) (s : State) : Out :=
  s.issue c 0x00 none fun s _ => s.modCore c fun k => { k with st := .halted }

/-! ### Loads and stores (10 R328) -/

/-- Where an address lies. -/
inductive SeqMem where
  | data (a : Nat)
  | inst (a : Nat)
  | flag (n : Nat)
  | clus (a : Nat)
  | none
  deriving DecidableEq, Repr

def seqMap (a : Nat) : SeqMem :=
  if a < 0x10000 then .data a
  else if a < 0x20000 then .inst (a - 0x10000)
  else if a < 0x200C0 then .flag ((a - 0x20000) / 4)
  else if 0x800000 ≤ a && decide (a < 0x1000000) then .clus (a - 0x800000)
  else .none

/-- The fault of an access of `n` bytes, 0 for none. -/
def seqAccess (a n : Nat) (load : Bool) : Nat :=
  if a % n ≠ 0 then 2
  else
    match seqMap a with
    | .none => 3
    | .flag _ => if load && n == 4 then 0 else 3
    | _ => 0

/-- Bytes read. -/
def State.seqRead (s : State) (c a n : Nat) : Nat :=
  match seqMap a with
  | .data x => ofLeBytes (sramGet (s.cluster c).dsram x n)
  | .inst x => ofLeBytes (sramGet (s.cluster c).isram x n)
  | .flag k => (s.flag c k).toNat
  | .clus x => ofLeBytes (sramGet (s.cluster c).csram x n)
  | .none => 0

/-- Bytes written. A store to instruction SRAM keeps the byte that fetch may still see until IFENCE. -/
def State.seqWrite (s : State) (c a n v : Nat) : State :=
  let b := leBytes n v
  match seqMap a with
  | .data x => s.modCluster c fun k => { k with dsram := sramPut k.dsram x b }
  | .inst x => s.modCluster c fun k => { k with
      isram := sramPut k.isram x b
      core := { k.core with unfenced := k.core.unfenced ++
        ((upTo n).filter fun i => !k.core.unfenced.any fun u => u.1 == x + i).map fun i => (x + i, Tab.get 0 k.isram (x + i)) } }
  | .clus x => s.modCluster c fun k => { k with csram := sramPut k.csram x b }
  | _ => s

def State.seqAddr (s : State) (c w : Nat) : Nat := (s.reg c (iRa w) + immS w).toNat

/-- A load of `n` bytes. -/
def State.seqLoad (s : State) (c w n : Nat) : State :=
  let a := s.seqAddr c w
  let k := seqAccess a n true
  if k ≠ 0 then s.seqFault c k w else s.seqAlu c w (BitVec.ofNat 64 (s.seqRead c a n))

/-- A store of `n` bytes of RS. -/
def State.seqStore (s : State) (c w n : Nat) : State :=
  let a := s.seqAddr c w
  let k := seqAccess a n false
  if k ≠ 0 then s.seqFault c k w
  else s.seqNext c w fun s => s.seqWrite c a n ((s.reg c (iRd w)).toNat % 2 ^ (8 * n))

/-- LBU. -/
def execLbu (c : Nat) (s : State) : Out := s.issue c 0x10 none fun s w => s.seqLoad c w 1
/-- LHU. -/
def execLhu (c : Nat) (s : State) : Out := s.issue c 0x11 none fun s w => s.seqLoad c w 2
/-- LWU. -/
def execLwu (c : Nat) (s : State) : Out := s.issue c 0x12 none fun s w => s.seqLoad c w 4
/-- LD. -/
def execLd (c : Nat) (s : State) : Out := s.issue c 0x13 none fun s w => s.seqLoad c w 8
/-- SB. -/
def execSb (c : Nat) (s : State) : Out := s.issue c 0x14 none fun s w => s.seqStore c w 1
/-- SH. -/
def execSh (c : Nat) (s : State) : Out := s.issue c 0x15 none fun s w => s.seqStore c w 2
/-- SW. -/
def execSw (c : Nat) (s : State) : Out := s.issue c 0x16 none fun s w => s.seqStore c w 4
/-- SD. -/
def execSd (c : Nat) (s : State) : Out := s.issue c 0x17 none fun s w => s.seqStore c w 8

/-! ### Branches and jumps -/

def State.pcOf (s : State) (c : Nat) : Int := (s.cluster c).core.pc

/-- A branch. -/
def State.seqBranch (s : State) (c w : Nat) (taken : Word → Word → Bool) : State :=
  if taken (s.reg c (bRa w)) (s.reg c (bRb w)) then s.seqJump c w (s.pcOf c + 4 * iSimm w) id
  else s.seqNext c w id

/-- BEQ. -/
def execBeq (c : Nat) (s : State) : Out := s.issue c 0x20 none fun s w => s.seqBranch c w (· == ·)
/-- BNE. -/
def execBne (c : Nat) (s : State) : Out := s.issue c 0x21 none fun s w => s.seqBranch c w (· != ·)
/-- BLT. -/
def execBlt (c : Nat) (s : State) : Out := s.issue c 0x22 none fun s w => s.seqBranch c w BitVec.slt
/-- BGE. -/
def execBge (c : Nat) (s : State) : Out := s.issue c 0x23 none fun s w => s.seqBranch c w fun a b => !BitVec.slt a b
/-- BLTU. -/
def execBltu (c : Nat) (s : State) : Out := s.issue c 0x24 none fun s w => s.seqBranch c w BitVec.ult
/-- BGEU. -/
def execBgeu (c : Nat) (s : State) : Out := s.issue c 0x25 none fun s w => s.seqBranch c w fun a b => !BitVec.ult a b
/-- JMP. -/
def execJmp (c : Nat) (s : State) : Out := s.issue c 0x26 none fun s w => s.seqJump c w (s.pcOf c + 4 * iOff26 w) id
/-- The return address of an instruction. -/
def State.returnPc (s : State) (c : Nat) : Word := BitVec.ofNat 64 ((s.cluster c).core.pc + 4)
/-- CALL. -/
def execCall (c : Nat) (s : State) : Out :=
  s.issue c 0x27 none fun s w => s.seqJump c w (s.pcOf c + 4 * iOff26 w) fun k => k.setReg 31 (s.returnPc c)
/-- JR: the target is read before RD is written. -/
def execJr (c : Nat) (s : State) : Out :=
  s.issue c 0x28 none fun s w =>
    let t := s.reg c (iRa w) + immS w
    if t.toNat % 4 ≠ 0 then s.seqFault c 2 w
    else s.seqJump c w t.toNat fun k => k.setReg (iRd w) (s.returnPc c)

/-! ### Queues and streams (10 R337, R355, R357) -/

/-- The core waits; its PC stays on the instruction. -/
def State.seqWait (s : State) (c : Nat) (v : CoreWait) : State :=
  s.modCore c fun k => { k with st := .waiting, wait := some v, waitSince := s.crust.time, stalled := false }

/-- The descriptor in data SRAM at an address. -/
def State.descAt (s : State) (c a : Nat) : List Word := wordsOfBytes (sramGet (s.cluster c).dsram a 64)

/-- QPUSH. -/
def execQpush (c : Nat) (s : State) : Out :=
  s.issue c 0x30 none fun s w =>
    let a := (s.reg c (qRa w)).toNat
    if a % 64 ≠ 0 then s.seqFault c 2 w
    else if 0x10000 ≤ a then s.seqFault c 3 w
    else if 0xFFFC ≤ (s.cluster c).core.pc then s.seqFault c 4 w
    else if s.queueFree c (qQ w) = 0 then s.seqWait c (.fullQueue (qQ w))
    else
      let t := ((s.cluster c).queue (qQ w)).next
      let old := s.reg c (qRd w)
      s.seqNext c w fun s =>
        ((s.pushEntry c (qQ w) (s.descAt c a) (s.reg c (qRb w)) (s.reg c (qRc w)) none).putReg c (qRd w)
          (BitVec.ofNat 64 t)).modCore c fun k => { k with pushed := some (qQ w, qRd w, old) }

/-- QABORT. -/
def execQabort (c : Nat) (s : State) : Out :=
  s.issue c 0x31 none fun s w =>
    s.seqNext c w fun s =>
      let r := if qRb w = 0 then s.abortOne c (qQ w) ((s.reg c (qRa w)).toNat % 2 ^ 32) else s.abortAll c (qQ w)
      r.1.putReg c (qRd w) (BitVec.ofNat 64 r.2)

/-- QINFO. -/
def execQinfo (c : Nat) (s : State) : Out :=
  s.issue c 0x32 none fun s w =>
    s.seqNext c w fun s =>
      s.putReg c (qRd w) (pack [(32, ((s.cluster c).queue (qQ w)).next), (0, s.queueFree c (qQ w))])

/-- The engine that takes a stream's lines: A the array, B the panel loader, C the accumulator engine. -/
def streamEngine (str : Nat) : TileEngine := if str = 0 then .array else if str = 1 then .panelLoader else .cEngine

/-- Append an entry to a stream that has room; the tile goes on. -/
def State.pushStream (s : State) (c t str : Nat) (v : Word) : State :=
  (s.modTile c t fun ti =>
    let q := ti.str str
    ti.setStr str ({ q with ents := q.ents ++ [v] }.addDrop 0)).pumpTile c t (streamEngine str)

/-- SPUSH. An absent tile takes the entry and discards it (07 R224). -/
def execSpush (c : Nat) (s : State) : Out :=
  s.issue c 0x34 none fun s w =>
    let t := tTile w
    if !s.tilePresent (tileNo c t) then s.seqNext c w id
    else if 0xFFFC ≤ (s.cluster c).core.pc then s.seqFault c 4 w
    else if 32 ≤ ((s.tile c t).str (tStr w)).ents.length then s.seqWait c (.fullStream t (tStr w))
    else s.seqNext c w fun s => s.pushStream c t (tStr w) (s.reg c (tRa w))

/-- Empty a stream: its entries, the one partly consumed, and what was still to be discarded (10 R355, R356). -/
def State.flushStream (s : State) (c t str : Nat) : State :=
  let s1 := s.modTile c t fun ti => ti.setStr str {}
  let gone (x : QEntry) : Bool := streamOf (engineOf (mqCmd x.desc)) == str && !x.started && x.compl.isSome
  (s1.modQueue c t fun q => { q with entries := q.entries.map fun x => if gone x then { x with dropped := true } else x }).freeStreams
    c t

/-- SFLUSH. -/
def execSflush (c : Nat) (s : State) : Out :=
  s.issue c 0x35 none fun s w => s.seqNext c w fun s => s.flushStream c (tTile w) (tStr w)

/-- SINFO. -/
def execSinfo (c : Nat) (s : State) : Out :=
  s.issue c 0x36 none fun s w =>
    s.seqNext c w fun s => s.putReg c (tRd w) (BitVec.ofNat 64 (32 - ((s.tile c (tTile w)).str (tStr w)).ents.length))

/-! ### Flag words (11 R371 to R376) -/

/-- FRD. -/
def execFrd (c : Nat) (s : State) : Out :=
  s.issue c 0x38 none fun s w => s.seqAlu c w (BitVec.ofNat 64 (s.flag c (fFlag w)).toNat)

/-- The low 32 bits of RA. -/
def State.reg32 (s : State) (c w : Nat) : W32 := (s.reg c (iRa w)).setWidth 32

/-- The core's write of a flag word, which joins the open hearth cycle or begins one; RD takes `rd`. -/
def State.seqFlag (s : State) (c w : Nat) (set_ more : Bool) (rd : Option W32) : State :=
  if 0xFFFC ≤ (s.cluster c).core.pc then s.seqFault c 4 w
  else
    (s.seqNext c w fun s =>
      let s1 := (s.openCycle c).flagWrite c 0 (fFlag w) set_ (s.reg32 c w)
      match rd with
      | some v => s1.putReg c (iRd w) (BitVec.ofNat 64 v.toNat)
      | none => s1).cycleEnd c more

/-- FWR. -/
def execFwr (c : Nat) (more : Bool) (s : State) : Out :=
  s.issue c 0x39 none (join := true) fun s w => s.seqFlag c w true more none

/-- FADD: RD takes the value at the start of the hearth cycle (11 R374). -/
def execFadd (c : Nat) (more : Bool) (s : State) : Out :=
  s.issue c 0x3A none (join := true) fun s w => s.seqFlag c w false more (some (s.flagStart c (fFlag w)))

/-- FWAIT. -/
def execFwait (c : Nat) (s : State) : Out :=
  s.issue c 0x3B none fun s w =>
    let v := s.reg32 c w
    if 0xFFFC ≤ (s.cluster c).core.pc then s.seqFault c 4 w
    else if waitHolds (fForm w) (s.flag c (fFlag w)) v then
      s.seqNext c w fun s =>
        if fForm w = 3 then (s.setFlag c (fFlag w) (s.flag c (fFlag w) - v)).noteHeads c else s
    else s.seqWait c (.flag (fForm w) (fFlag w) v)

/-! ### SYS (10 R334) -/

/-- CYC. -/
def execCyc (c : Nat) (s : State) : Out :=
  s.issue c 0x3C (some 0) fun s w => s.seqAlu c w (BitVec.ofNat 64 (s.cluster c).core.cyc)

/-- ODRD may read the entry: an identity or feature entry of a value type. -/
def State.odrdOk (s : State) (index sub : Nat) : Bool :=
  decide (0x1000 ≤ index) && decide (index < 0x2000) && decide (1 ≤ s.odType index sub) && decide (s.odType index sub ≤ 7)

/-- ODRD. -/
def execOdrd (c : Nat) (s : State) : Out :=
  s.issue c 0x3C (some 1) fun s w =>
    let a := s.reg c (iRa w)
    let index := Word.bits a 23 8
    let sub := Word.bits a 7 0
    if !s.odrdOk index sub then s.seqFault c 5 w else s.seqAlu c w (s.odSlot index sub)

/-- WFE. -/
def execWfe (c : Nat) (s : State) : Out :=
  s.issue c 0x3C (some 2) fun s w =>
    let mask := (s.reg c (iRa w)).toNat % 512
    let e := (s.cluster c).core.events.toNat &&& mask
    if 0xFFFC ≤ (s.cluster c).core.pc then s.seqFault c 4 w
    else if e = 0 then s.seqWait c (.wfe (iRd w) mask)
    else
      s.seqNext c w fun s =>
        (s.putReg c (iRd w) (BitVec.ofNat 64 e)).modCore c fun k => { k with events := k.events &&& ~~~BitVec.ofNat 9 mask }

/-- IFENCE. -/
def execIfence (c : Nat) (s : State) : Out :=
  s.issue c 0x3C (some 3) fun s w => s.seqNext c w fun s => s.modCore c fun k => { k with unfenced := [] }

/-- WHOAMI. -/
def execWhoami (c : Nat) (s : State) : Out :=
  s.issue c 0x3C (some 4) fun s w =>
    s.seqAlu c w (pack [(0, c), (8, (s.cluster c).part.getD 31)])

end Sys2Proof.Machine
end

