-- ==== Sys2Proof/Machine/Rings.lean ====
section
/-! DEFINITION. Queue dispatch and delivery, submission rings and doorbells (10 R340 to R343, R360 to R366; 14 R492). -/

namespace Sys2Proof.Machine

/-! ### Ring records (10 R363) -/

/-- The first error status of a ring's remote write. -/
def State.failStatus (s : State) (a : Agent) : Option Nat := (s.fab.fails.find? fun f => f.1 == a).map Prod.snd

def State.ringWho (s : State) (p r : Nat) : Who where
  a := .ring (s.ringCluster (ringKey p r)) p r
  o := .cluster (s.ringCluster (ringKey p r))
  c := s.ringCluster (ringKey p r)
  p := p
  cls := none

def State.modRing (s : State) (p r : Nat) (f : Ring → Ring) : State := s.setRing (ringKey p r) (f (s.ring (ringKey p r)))

/-- A ring's log entry (10 R369). -/
def State.ringLog (s : State) (event p r code index : Nat) (w1 : Nat := 0) : State :=
  s.log [pack [(56, event), (50, s.ringCluster (ringKey p r)), (45, p), (41, r), (36, code), (0, index % 2 ^ 32)],
    BitVec.ofNat 64 w1]

/-- The first record is done with; a failure is logged. -/
def State.recDone (s : State) (p r : Nat) (w : Word) (st : Nat) : State :=
  let s1 := s.modRing p r fun k => { k with recs := k.recs.drop 1, wrote := false }
  if st = 0 then s1 else s1.ringLog 0x34 p r (if st = 0xE0 then 2 else 1) (Word.bits w 31 0) st

/-- Write the records of a ring, one at a time and in order. -/
def State.ringRecords (s : State) (p r : Nat) : Nat → State
  | 0 => s
  | fuel + 1 =>
    let k := s.ring (ringKey p r)
    match k.recs with
    | [] => s
    | (a, w) :: _ =>
      let who := s.ringWho p r
      if k.wrote then
        if s.settled who.a then
          let st := (s.failStatus who.a).getD 0
          (((s.takeFail who.a).1).recDone p r w st).ringRecords p r fuel
        else s
      else
        let g := s.storeLines who [{
          x := ⟨1, a / 64 * 64⟩, data := BitVec.ofNat 512 (w.toNat * 2 ^ (8 * (a % 64)))
          mask := BitVec.ofNat 64 (0xFF * 2 ^ (a % 64)) }]
        match g.2 with
        | none => g.1
        | some sts =>
          match sts.find? (· != 0) with
          | some st => (g.1.recDone p r w st).ringRecords p r fuel
          | none => (g.1.modRing p r fun k => { k with wrote := true }).ringRecords p r fuel

/-- Add a record where the entry asks for one. -/
def State.addRecord (s : State) (p r cpl : Nat) (w : Word) : State :=
  if cpl = 0 then s
  else (s.modRing p r fun k => { k with recs := k.recs ++ [(cpl, w)] }).ringRecords p r 64

/-! ### Dispatch and delivery -/

/-- QUEUE_DISPATCH (R340). -/
def execQueueDispatch (c q : Nat) (s : State) : Out :=
  ifUnit s (decide (c < 48) && decide (q < 8)) (when' (s.clusterOn c) s (let s1 := (s.closeCycle c).dispatchNow c q; if q < 4 then s1.settleTile c q else s1))

/-- The oldest entry of a queue is delivered: lines it never took are discarded, and a ring's record follows. -/
def State.deliverHead (s : State) (c q : Nat) : State :=
  match ((s.cluster c).queue q).entries.head? with
  | none => s
  | some e =>
    match e.compl with
    | none => s
    | some (st, d) =>
      let s1 := if q < 4 then (s.dropEntry c q e).freeStreams c q else s
      let s2 := s1.deliver c q e st d
      match e.ring with
      | none => s2
      | some x => s2.addRecord x.p x.r x.cpl (recordOf st d e.abortReq x.seq)

/-- ENTRY_DELIVERY (R342). -/
def execEntryDelivery (c q : Nat) (more : Bool) (s : State) : Out :=
  ifUnit s (decide (c < 48) && decide (q < 8))
    (when' (s.clusterOn c) s (s.inCycle c more fun s => s.deliverHead c q).settle)

/-! ### Doorbells (10 R365; 14 R492) -/

/-- Some enabled window of the port serves the partition. -/
def State.portServes (s : State) (n p : Nat) : Bool :=
  (upTo 16).any fun k => s.winEnabled n k && nbits (s.winCtrl n k) 11 8 == p

/-- A doorbell value reaches a ring. -/
def State.doorbell (s : State) (p r v : Nat) : State :=
  let k := ringKey p r
  let g := s.ring k
  if !s.ringOn k || g.stopped || (s.part p).st == 0 then s
  else
    let d := (v + 2 ^ 32 - g.head) % 2 ^ 32
    let t := (g.tail + 2 ^ 32 - g.head) % 2 ^ 32
    if d ≤ s.ringSize k && t ≤ d then s.setRing k { g with tail := v } else s.ringLog 0x33 p r 0 v

/-- What a read of a doorbell page gives at an offset: RING_HEAD and RING_STATE of the slot's ring, and zero in a page that the
port does not serve (14 R492). No command of the table reads a page. -/
def State.doorbellRead (s : State) (port offset : Nat) : Word :=
  let p := offset / 4096
  let r := offset % 4096 / 8
  if p < 16 && r < 16 && s.portServes port p then
    pack [(0, (s.ring (ringKey p r)).head), (32, s.ringState (ringKey p r))]
  else 0

/-- DOORBELL_WRITE (R365, R492): 32 or 64 bits to a slot of a page that the port serves. -/
def execDoorbellWrite (port offset size : Nat) (v : BitVec 64) (s : State) : Out :=
  ifUnit s (s.cxlFitted port) <|
    let p := offset / 4096
    let r := offset % 4096 / 8
    when' (s.cxlUp port && (size == 4 || size == 8) && offset % 8 == 0 && decide (p < 16) && decide (r < 16)
      && s.portServes port p) s (s.doorbell p r (v.toNat % 2 ^ 32))

/-- RING_RESTART's effect (R360). -/
def State.restartRing (s : State) (p r : Nat) : State :=
  s.modRing p r fun k => if k.stopped then { k with stopped := false, tail := k.head } else k

/-! ### Ring entries (R361, R362, R364) -/

/-- The ring takes entries. -/
def State.ringRuns (s : State) (p r : Nat) : Bool :=
  let k := ringKey p r
  let c := s.ringCluster k
  s.power.main && s.crust.svc == .service && s.therm.stopStep == 0 && s.ringOn k && !(s.ring k).stopped
    && (s.ring k).head != (s.ring k).tail && (s.part p).st == 2 && decide (c < 48) && (s.cluster c).part == some p
    && !(s.cluster c).closed

def reW (ws : List Word) (n : Nat) : Word := ws.getD n 0
def reKind (ws : List Word) : Nat := Word.bits (reW ws 0) 63 60
def reQueue (ws : List Word) : Nat := Word.bits (reW ws 0) 59 57
def reSeq (ws : List Word) : Nat := Word.bits (reW ws 0) 31 0
def reCpl (ws : List Word) : Nat := Word.bits (reW ws 1) 55 0
def reOffset (ws : List Word) : Nat := Word.bits (reW ws 5) 31 16
def reLines (ws : List Word) : Nat := Word.bits (reW ws 5) 10 0

/-- No reserved KIND, no RSVD bit, and the fields in their ranges. -/
def ringEntryOk (ws : List Word) : Bool :=
  let zero (a n : Nat) : Bool := (upTo n).all fun i => reW ws (a + i) == 0
  Word.bits (reW ws 0) 56 32 == 0 && Word.bits (reW ws 1) 63 56 == 0 && reCpl ws % 8 == 0
    && (reKind ws == 1 || reQueue ws == 0)
    && match reKind ws with
      | 0 => zero 2 14
      | 1 => zero 4 4
      | 2 => zero 2 2 && Word.bits (reW ws 4) 63 16 == 0 && Word.bits (reW ws 4) 1 0 == 0 && zero 6 10
      | 3 => zero 2 2 && Word.bits (reW ws 4) 63 56 == 0 && Word.bits (reW ws 4) 5 0 == 0
          && Word.bits (reW ws 5) 62 32 == 0 && Word.bits (reW ws 5) 15 11 == 0 && reOffset ws % 64 == 0
          && decide (1 ≤ reLines ws) && decide (reLines ws ≤ 1024) && decide (reOffset ws + 64 * reLines ws ≤ 65536)
          && zero 6 10
      | 4 => zero 2 2 && Word.bits (reW ws 4) 63 32 == 0 && zero 5 11
      | _ => false

/-- A ring stops (R364). -/
def State.ringStop (s : State) (p r code : Nat) : State :=
  (s.modRing p r fun k => { k with stopped := true }).ringLog 0x32 p r code (s.ring (ringKey p r)).head

/-- An entry is taken, with a record of the given status. -/
def State.ringTaken (s : State) (p r : Nat) (ws : List Word) (st detail : Nat) : State :=
  (s.modRing p r fun k => { k with head := wrapAdd 32 k.head 1 }).addRecord p r (reCpl ws)
    (recordOf st detail false (reSeq ws))

/-- The core may be started or loaded. -/
def Core.idle (k : Core) : Bool := k.st == .halted || k.st == .faulted

/-- The core's last instruction was a QPUSH to the queue, whose entry is its last and has not been acted on. -/
def State.pushedLast (s : State) (c q : Nat) : Bool :=
  ((s.cluster c).core.pushed.any fun x => x.1 == q)
    && ((s.cluster c).queue q).entries.getLast?.any fun e => e.ring.isNone && !e.disp && e.compl.isNone

/-- A PUSH entry is placed in the hearth cycle of the core's QPUSH to the same queue and takes the lower ticket: the core's
entry follows it, or, when no slot is left, the core waits for one (10 R348). -/
def State.pushBefore (s : State) (p r : Nat) (ws : List Word) : State :=
  let c := s.ringCluster (ringKey p r)
  let q := reQueue ws
  match (s.cluster c).core.pushed, ((s.cluster c).queue q).entries.getLast? with
  | some (_, rd, old), some e =>
    let s1 := s.modQueue c q fun k => { k with entries := k.entries.dropLast, next := e.ticket }
    let s2 := ((s1.pushEntry c q (ws.drop 8) (reW ws 2) (reW ws 3)
      (some { p := p, r := r, seq := reSeq ws, cpl := reCpl ws })).modRing p r fun k =>
        { k with head := wrapAdd 32 k.head 1 }).modCore c fun k => { k with pushed := none }
    let t := wrapAdd 32 e.ticket 1
    if s2.queueFree c q = 0 then
      (s2.bump (0x5400 + c) 4 (2 ^ 64 - 1)).modCore c fun k =>
        { (k.setReg rd old) with
          pc := k.pc - 4, st := .waiting, wait := some (.fullQueue q), waitSince := s.crust.time, stalled := false }
    else
      (s2.modQueue c q fun k => { k with entries := k.entries ++ [{ e with ticket := t }], next := wrapAdd 32 t 1 }).modCore c
        fun k => k.setReg rd (BitVec.ofNat 64 t)
  | _, _ => s

/-- PUSH: placed into its queue, or the ring waits. `same`: in the hearth cycle of the core's last QPUSH. -/
def State.takePush (s : State) (p r : Nat) (same : Bool) (ws : List Word) : State :=
  let c := s.ringCluster (ringKey p r)
  if same && s.pushedLast c (reQueue ws) then s.pushBefore p r ws
  else if s.queueFree c (reQueue ws) = 0 then s
  else
    (s.pushEntry c (reQueue ws) (ws.drop 8) (reW ws 2) (reW ws 3)
      (some { p := p, r := r, seq := reSeq ws, cpl := reCpl ws })).modRing p r fun k => { k with head := wrapAdd 32 k.head 1 }

/-- START. -/
def State.takeStart (s : State) (p r : Nat) (ws : List Word) : State :=
  let c := s.ringCluster (ringKey p r)
  if (s.cluster c).core.idle then
    (s.modCore c fun k => { (k.setReg 1 (reW ws 5)) with st := .running, pc := Word.bits (reW ws 4) 15 0, wait := none }).ringTaken
      p r ws 0 0
  else s.ringTaken p r ws 4 0

/-- Bytes placed by LOAD; fetch sees them. -/
def Cluster.place (k : Cluster) (data : Bool) (a : Nat) (b : Bytes) : Cluster :=
  if data then { k with dsram := sramPut k.dsram a b }
  else { k with
    isram := sramPut k.isram a b
    core := { k.core with unfenced := k.core.unfenced.filter fun u => !(decide (a ≤ u.1) && decide (u.1 < a + b.length)) } }

/-- LOAD: a line whose read fails is written as zero. -/
def State.takeLoad (s : State) (p r : Nat) (ws : List Word) : State :=
  let c := s.ringCluster (ringKey p r)
  if !(s.cluster c).core.idle then s.ringTaken p r ws 4 0
  else
    let xs := (upTo (reLines ws)).map fun i => (⟨1, Word.bits (reW ws 4) 55 0 + 64 * i⟩ : Place2)
    let g := s.fetchLines (s.ringWho p r) xs
    match g.2 with
    | none => g.1
    | some rs =>
      let b := rs.flatMap fun x => bytesOfLine (if x.1 = 0 then x.2 else 0)
      (g.1.modCluster c fun k => k.place (Word.bit (reW ws 5) 63) (reOffset ws) b).ringTaken p r ws
        (if rs.any (fun x => x.1 != 0) then 1 else 0) 0

/-- The queue and ticket of the ring's PUSH entry with a SEQ. -/
def State.findPush (s : State) (c p r seq : Nat) : Option (Nat × Nat) :=
  (upTo 8).findSome? fun q =>
    (((s.cluster c).queue q).entries.find? fun e =>
      match e.ring with
      | some x => x.p == p && x.r == r && x.seq == seq
      | none => false).map fun e => (q, e.ticket)

/-- ABORT. -/
def State.takeAbort (s : State) (p r : Nat) (ws : List Word) : State :=
  let c := s.ringCluster (ringKey p r)
  let seq := Word.bits (reW ws 4) 31 0
  let o : State × Nat := match s.findPush c p r seq with
    | some (q, t) => s.abortOne c q t
    | none => (s, if (seq + 2 ^ 32 - (s.ring (ringKey p r)).head) % 2 ^ 32 < 2 ^ 31 then 2 else 1)
  o.1.ringTaken p r ws 0 o.2

/-- A ring entry of the row's kind; an entry that cannot be taken stops the ring. -/
def State.ringCmd (s : State) (p r kind : Nat) (f : State → List Word → State) : Out :=
  ifUnit s (decide (p < 16) && decide (r < 16)) <|
    let s0 := s.ringRecords p r 64
    go s <|
      if !s0.ringRuns p r then s0
      else
        let k := ringKey p r
        let g := s0.ring k
        let base := s0.odNat (0x2400 + k) 1 + 128 * (g.head % s0.ringSize k)
        let x := s0.fetchLines (s0.ringWho p r) [⟨1, base⟩, ⟨1, base + 64⟩]
        (match x.2 with
        | none => x.1
        | some rs =>
          if rs.any (fun (l : Nat × Line) => l.1 != 0) then x.1.ringStop p r 3
          else
            let ws := rs.flatMap fun (l : Nat × Line) => wordsOfBytes (bytesOfLine l.2)
            if reSeq ws ≠ g.head then x.1.ringStop p r 1
            else if !ringEntryOk ws then x.1.ringStop p r 2
            else if reKind ws ≠ kind then s0
            else f x.1 ws).settle

/-- RING_PUSH (R348, R362). -/
def execRingPush (p r : Nat) (same : Bool) (s : State) : Out := s.ringCmd p r 1 fun s ws => s.takePush p r same ws
/-- RING_START (R362). -/
def execRingStart (p r : Nat) (s : State) : Out := s.ringCmd p r 2 fun s ws => s.takeStart p r ws
/-- RING_LOAD (R362). -/
def execRingLoad (p r : Nat) (s : State) : Out := s.ringCmd p r 3 fun s ws => s.takeLoad p r ws
/-- RING_ABORT (R362). -/
def execRingAbort (p r : Nat) (s : State) : Out := s.ringCmd p r 4 fun s ws => s.takeAbort p r ws
/-- RING_NOP (R362). -/
def execRingNop (p r : Nat) (s : State) : Out := s.ringCmd p r 0 fun s ws => s.ringTaken p r ws 0 0

end Sys2Proof.Machine
end

