-- ==== Sys2Proof/Machine/FlagCmd.lean ====
section
/-! DEFINITION. Management writes of flag words, the watchdog, dumps, and the timers of counted signals
(11 R384, R386, R391 to R398). -/

namespace Sys2Proof.Machine

/-! ### Management writes (R398) -/

/-- FLAG_n: a SET; a flag word of an UNASSIGNED cluster is not written. -/
def State.flagSet (s : State) (c n : Nat) (v : W32) : State :=
  if (s.cluster c).part.isNone then s else s.flagWrite c 10 n true v

/-- FLAG_ADD. -/
def State.flagAdd' (s : State) (c : Nat) (v : Word) : State :=
  if (s.cluster c).part.isNone then s
  else s.flagWrite c 10 (Word.bits v 37 32) false (BitVec.ofNat 32 (Word.bits v 31 0))

/-! ### The dump (R395 to R397) -/

/-- Milliseconds since a time, saturating at 24 bits. -/
def State.msSince (s : State) (t : Nat) : Nat := sat 24 ((s.crust.time - t) / 1000)

/-- Q0 and Q1 of a queue. -/
def State.queueRec (s : State) (q : Queue) : List Word :=
  match q.head with
  | none => [0, pack [(25, q.entries.length)]]
  | some h => [h.e0, pack [(32, h.ticket), (25, q.entries.length), bitIf 24 h.blockedSince.isSome,
      (0, match h.blockedSince with | some t => s.msSince t | none => 0)]]

/-- C0 and C1 of a core. -/
def State.coreRec (s : State) (k : Core) : List Word :=
  let c0 := match k.wait with
    | none => 0
    | some (.flag form f v) => pack [(61, 1), (58, form), (52, f), (0, v.toNat)]
    | some (.wfe _ mask) => pack [(61, 2), (0, mask)]
    | some (.fullQueue _) => pack [(61, 3)]
    | some (.fullStream _ _) => pack [(61, 4)]
  [c0, BitVec.ofNat 64 (if k.wait.isSome then s.msSince k.waitSince else 0)]

/-- A cluster record: 48 words. -/
def State.clusterRec (s : State) (c : Nat) : List Word :=
  let k := s.cluster c
  let flags := (upTo 24).map fun i => pack [(0, (s.flag c (2 * i)).toNat), (32, (s.flag c (2 * i + 1)).toNat)]
  [pack [(58, c), (53, k.part.getD 31), (50, k.core.st.code), (0, k.core.pc)],
    pack [(55, k.core.events.toNat), (0, s.crust.time % 2 ^ 32)]]
    ++ flags ++ ((upTo 8).flatMap fun q => s.queueRec (k.queue q)) ++ s.coreRec k.core ++ List.replicate 4 0

/-- The held counted signals for clusters of a partition, with their key and counter. -/
def State.holdsOf (s : State) (p : Nat) : List (Nat × Nat × HeldSig) :=
  s.arr.filterMap fun kv =>
    match kv.2.held with
    | some h => if (s.cluster h.tcluster).part = some p then some (kv.1, kv.2.a, h) else none
    | none => none

def State.holdRec (s : State) (x : Nat × Nat × HeldSig) : List Word :=
  let h := x.2.2
  [pack [(44, x.1 / 64), (38, x.1 % 64), (32, h.tcluster), (26, h.tflag), bitIf 25 h.set_],
    pack [(32, h.value.toNat), (0, h.count)], pack [(32, x.2.1), (0, (s.crust.time - h.since) % 2 ^ 32)], 0]

/-- The clusters of a partition. -/
def State.clustersOf (s : State) (p : Nat) : List Nat := (upTo 48).filter fun c => (s.cluster c).part == some p

/-- Take a dump of a partition: reason 1 stall event, 2 DUMP_NOW. -/
def State.takeDump (s : State) (p reason cl q : Nat) : State :=
  let cs := s.clustersOf p
  let hs := s.holdsOf p
  let head := [pack [(56, 1), (48, reason), (40, cs.length), (24, min 256 hs.length), (18, cl), (14, q), (9, p)],
    BitVec.ofNat 64 s.crust.time, pack [(32, hs.length)], 0, 0, 0, 0, 0]
  let ws := head ++ cs.flatMap s.clusterRec ++ (hs.take 256).flatMap s.holdRec
  ({ s with dumps := Tab.put s.dumps p (bytesOfWords ws) } : State).bump (0xA200 + p) 2 1 32

/-! ### The watchdog (R391, R392) -/

/-- What a stall event does. -/
def State.stallEvent (s : State) (c q form f : Nat) (v : Nat) (flagval : Nat) (ticket : Nat) : State :=
  let p := (s.cluster c).part.getD 31
  let s1 := (s.log [pack [(56, 0x41), (50, c), (45, p), (41, q), (38, form), (32, f), (0, v)],
    pack [(32, flagval), (0, ticket)]]).bump 0xA000 2
  let due := match (s1.part p).dumpAt with
    | some t => decide (t + 1000000 ≤ s1.crust.time)
    | none => true
  if due then (s1.takeDump p 1 c q).modPart p fun x => { x with dumpAt := some s.crust.time } else s1

/-- A wait blocked since `t` has lasted WATCHDOG_MS. -/
def State.overdue (s : State) (t : Nat) : Bool :=
  let w := s.odNat 0xA000 1
  w != 0 && decide (t + 1000 * w ≤ s.crust.time)

/-- Test a queue's head. -/
def State.testHead (s : State) (c q : Nat) : State :=
  match ((s.cluster c).queue q).head with
  | none => s
  | some h =>
    match h.blockedSince with
    | none => s
    | some t =>
      if h.stalled || !s.overdue t then s
      else
        (s.modEntry c q h.ticket fun e => { e with stalled := true }).stallEvent c q (e0Form h.e0) (e0Flag h.e0)
          (e0Value h.e0).toNat (s.flag c (e0Flag h.e0)).toNat h.ticket

/-- Test the core in FWAIT or WFE. -/
def State.testCore (s : State) (c : Nat) : State :=
  let k := (s.cluster c).core
  if k.stalled || !s.overdue k.waitSince then s
  else
    let mark := s.modCore c fun x => { x with stalled := true }
    match k.wait with
    | some (.flag form f v) => mark.stallEvent c 8 form f v.toNat (s.flag c f).toNat 0
    | some (.wfe _ mask) => mark.stallEvent c 8 0 0 mask 0 0
    | _ => s

/-- WATCHDOG_TEST (R391). -/
def execWatchdogTest (c : Nat) (s : State) : Out :=
  ifUnit s (decide (c < 48)) (when' (s.clusterOn c) s (((upTo 8).foldl (fun s q => s.testHead c q) s).testCore c))

/-! ### Counted signals (R384, R386) -/

/-- COUNT_TIMEOUT (R386). -/
def execCountTimeout (pos cl : Nat) (s : State) : Out :=
  let key := arrKey pos cl
  match Tab.find s.arr key with
  | none => .next s
  | some k =>
    match k.held with
    | none => .next s
    | some h =>
      let s1 : State := { s with arr := Tab.put s.arr key { a := 0, held := none } }
      let s2 := (s1.log [pack [(56, 0x43), (50, h.tcluster), (45, (s.cluster h.tcluster).part.getD 0), (32, h.tflag),
        (0, h.value.toNat)], pack [(32, (s.flag h.tcluster h.tflag).toNat)], pack [(44, pos), (38, cl)],
        pack [(32, h.count), (0, k.a)]]).bump 0xA000 3
      go s (s2.signalAnswer h 7)

/-- ARRIVAL_COUNTER_FREE (R384). -/
def execArrivalCounterFree (pos cl : Nat) (s : State) : Out :=
  match Tab.find s.arr (arrKey pos cl) with
  | none => .next s
  | some k => when' k.held.isNone s { s with arr := Tab.erase s.arr (arrKey pos cl) }

end Sys2Proof.Machine
end

