-- ==== Sys2Proof/Machine/Down.lean ====
section
/-! DEFINITION. The main rails: what goes with them when they switch off, and a thermal cut (16 R538, R563, R564;
17 R572, R574). -/

namespace Sys2Proof.Machine

/-- The stack side without power: no contents, every segment lost; spares stay recorded in the crust. -/
def Mem.off (m : Mem) : Mem :=
  { m with
    dram := []
    stkc := []
    chans := []
    banks := []
    reqs := []
    bursts := []
    rowCe := []
    spareReq := []
    failed := []
    jobs := [] }

/-- A CXL port whose die has lost power or is reset: its pins stay as the host drives them. -/
def CxlPort.off (p : CxlPort) : CxlPort :=
  { fn := p.fn, perst := p.perst, refclk := p.refclk, msix := p.msix, resps := p.resps, mbox := p.mbox, snoops := p.snoops, ur := p.ur }

/-- The loafs that stay RETIRED: those that were, and those whose record had RETIRE_PENDING and becomes VACANT with the home
records (13 R473; log entry 135). -/
def State.keptRetired (s : State) : List Nat :=
  s.place.retired ++ (s.place.home.filterMap fun kv =>
    if (HomeRec.ofWord kv.2).retire && !s.place.retired.contains kv.1 then some kv.1 else none)

/-- The home records of retired loafs alone. -/
def retiredHome (ls : List Nat) : Tab Word :=
  ls.foldl (fun t l => Tab.set 0 t l (HomeRec.word { st := 5, retire := true })) []

/-- The copies that the crust keeps of the values of the main domains, which stop (15 R528). -/
def State.keptCopies (s : State) : Option Copies :=
  if s.power.main then
    some {
      svc := s.crust.svc, mem := (s.mem.stkc, s.mem.chans), clusters := s.clusters, rings := s.rings, ports := s.fab.ports
      cxl := s.cxl, parts := s.mgmt.parts }
  else s.copies

/-- Everything the main domains hold goes: tiles, Sprig units, sequencers, queues, rings, requests, the fabric and
placement state, the CXL ports' state; every partition is UNUSED (log entry 21). A port that was up goes down and is logged
(12 R400). -/
def State.clearMain (s : State) (m : Mem) : State :=
  let c := s.keptCopies
  let s := s.allUp.foldl (fun s n => s.fabLog 0x51 n 0) s
  { s with
    copies := c
    links := {}
    mem := m
    clusters := []
    rings := []
    arr := []
    fab := {
      incarnation := s.fab.incarnation, sent := s.fab.sent, lldp := s.fab.lldp, pfcSent := s.fab.pfcSent
      nextReq := s.fab.nextReq }
    place := { retired := s.keptRetired, home := retiredHome s.keptRetired }
    cxl := Tab.mapV CxlPort.off s.cxl
    mgmt := { s.mgmt with parts := [] } }

/-- The governors stop with the rails. -/
def Power.off (p : Power) : Power := { p with main := false, pendStep := [], reds := [], low := 0, jmOnset := [] }

/-- No reading is on its way while a die has no power. -/
def Thermal.off (t : Thermal) : Thermal :=
  { t with stopStep := 0, tp := none, life := t.life.map fun e => (e.1, (0, e.2.2)) }

/-- The main rails switch off and the contents of the stacks are lost. -/
def State.railsOff (s : State) : State :=
  { s.clearMain s.mem.off with
    power := s.power.off
    therm := s.therm.off }

/-- A log entry of chapter 16 (16 R567). -/
def State.powLog (s : State) (event domain inst sensor : Nat) (temp : Int) (limit : Option Nat := none) (w2 : Nat := 0) :
    State :=
  s.log [pack [(56, event), (52, domain), (44, inst), (32, sensor), (0, (BitVec.ofInt 32 temp).toNat)],
    pack [(32, s.power.watts % 2 ^ 32), (0, (limit.getD s.power.plim) % 2 ^ 32)], BitVec.ofNat 64 w2]

/-- TPRED: the predicted time in µs, saturating; an unbounded one reads as the largest value. -/
def tpred (t : Option Nat) : Nat := (match t with | none => 2 ^ 32 - 1 | some u => sat 32 u) * 2 ^ 32

/-- The crossing that the stop was for, as the payload's W0 without its event. -/
def State.crossLog (s : State) (event w2 : Nat) : State :=
  s.log [s.therm.cross.setBits 63 56 event, pack [(32, s.power.watts % 2 ^ 32), (0, s.power.plim % 2 ^ 32)],
    BitVec.ofNat 64 w2]

/-- A thermal cut (16 R564). -/
def State.thermalCut (s : State) (reason : Nat) : State :=
  let s1 := s.crossLog 0x78 (tpred s.therm.tp + reason)
  ({ s1.railsOff with therm := { s1.therm.off with alert := true } }).setSvc .recovery

end Sys2Proof.Machine
end

