-- ==== Sys2Proof/Machine/Thermal.lean ====
section
/-! DEFINITION. Sensors, throttles, temperature bands, critical crossings and the orderly stop (16 R551 to R566;
03 R95, R96). -/

namespace Sys2Proof.Machine

/-! ### Groups -/

/-- DOMAIN and INSTANCE of a group in the log (16 R567); the board's sensors are of no domain. -/
def groupDomain (g : Nat) : Nat :=
  if g < 4 then 1 else if g < 32 then 2 else if g < 48 then 3 else if g < 50 then 4 else 0
def groupInst (g : Nat) : Nat :=
  if g < 4 then g else if g < 32 then g - 16 else if g < 48 then g - 32 else if g < 50 then g - 48 else 0

/-- Groups whose hottest reading is judged: hearth dies, stacks, I/O dies. -/
def judged (g : Nat) : Bool := decide (g < 48)

/-- Critical threshold and shutdown limit in m°C (16 R555). -/
def criticalAt (g : Nat) : Int := if g < 4 then 110000 else if g < 32 then 108000 else 115000
def shutdownAt (g : Nat) : Int := if g < 4 then 115000 else if g < 32 then 113000 else 120000

def groupList (g : Nat) : List Nat := (upTo (groupSensors g).2).map fun i => (groupSensors g).1 + i

def State.setSensor (s : State) (n : Nat) (x : Sensor) : State :=
  { s with therm := { s.therm with sensors := Tab.set {} s.therm.sensors n x } }
def State.setGroup (s : State) (g : Nat) (x : Group) : State :=
  { s with therm := { s.therm with groups := Tab.set {} s.therm.groups g x } }

/-- The hottest reading of a group, stand-ins included, and the sensor that gives it (the lowest of equals). -/
def State.hottest (s : State) (real : Bool) (g : Nat) : Int × Nat :=
  (groupList g).tail.foldl
    (fun m n => if m.1 < s.sensorUse real n then (s.sensorUse real n, n) else m)
    (s.sensorUse real (groupSensors g).1, (groupSensors g).1)

def State.anyValid (s : State) (g : Nat) : Bool := (groupList g).any fun n => (s.sensor n).st == 1

/-! ### Readings and faults (16 R552 to R554) -/

/-- A raw reading is out of range or a conversion error. -/
def rawBad (r : SensorRaw) : Bool := r.err || decide (r.mC < -40000) || decide (150000 < r.mC)

/-- Take one raw reading of a sensor that is not faulty. -/
def State.takeReading (s : State) (n : Nat) (r : SensorRaw) : State :=
  let x := s.sensor n
  if 2 ≤ x.st then s
  else
    let same := if r.code = x.code then x.same + 1 else 1
    if rawBad r then s.setSensor n { x with st := 2, code := r.code, same := same }
    else s.setSensor n { x with mC := r.mC, code := r.code, same := same, hist := (r.mC :: x.hist).take 16 }

/-- How far the hottest valid sensor moved over the readings kept. -/
def moved (hots : List Int) : Int :=
  match hots with
  | [] => 0
  | h :: t => t.foldl max h - t.foldl min h

/-- A sensor that has returned one code for 2,000 readings while its group moved is stuck. -/
def State.findStuck (s : State) (g n : Nat) : State :=
  let x := s.sensor n
  let hots := (s.group g).hots
  if x.st = 1 && decide (2000 ≤ x.same) && decide (2000 ≤ hots.length) && decide (4000 ≤ moved hots) then
    s.setSensor n { x with st := 3 }
  else s

/-- Log the sensors that have become faulty since `s0`, and the loss of the group's last valid one. -/
def State.logFaults (s s0 : State) (g : Nat) : State :=
  let bad := (groupList g).filter fun n => decide (2 ≤ (s.sensor n).st) && decide ((s0.sensor n).st < 2)
  let s1 := bad.foldl (fun s n =>
    s.powLog 0x73 (groupDomain g) (groupInst g) n (s.sensorUse false n) none (s.sensor n).st) s
  match bad.getLast? with
  | some n =>
    if judged g && !s1.anyValid g && !(s1.group g).noSensor then
      (s1.setGroup g { s1.group g with noSensor := true }).powLog 0x7C (groupDomain g) (groupInst g) n
        (s1.sensorUse false n)
    else s1
  | none => s1

/-- TEMP_PEAK. -/
def State.notePeak (s : State) (n : Nat) : State :=
  s.setSensor n { s.sensor n with peak := max (s.sensor n).peak (s.sensorReading n) }

/-! ### Hysteresis and dwell (16 R556) -/

/-- Whether a state that was entered at `at_` or above ends at this reading: it and every reading of at least 10 ms
have been at or below the boundary less 2 °C. `last` is the time of the last reading above that. -/
def fallen (now last : Nat) (hot at_ : Int) : Bool := decide (hot ≤ at_ - 2000) && decide (last + 10000 ≤ now)

def bandEdges : List Int := [85000, 95000, 105000]

/-- The band of a stack after a reading (03 R95; 16 R556). -/
def bandAfter (now old : Nat) (aboveB : List Nat) (hot : Int) : Nat :=
  (bandEdges.zip aboveB).zipIdx.foldl (fun m e =>
    if hot > e.1.1 || (decide (e.2 < old) && !fallen now e.1.2 hot e.1.1) then max m (e.2 + 1) else m) 0

/-- A stack changes band (03 R96). -/
def State.changeBand (s : State) (stk new : Nat) : State :=
  let old := (s.stk stk).band
  if new = old then s
  else
    let s1 := (upTo 1024).foldl (fun s b => s.rebank stk old new b) s
    (s1.modStk stk fun k => { k with band := new }).log
      [pack [(56, 0x07), (52, stk)], BitVec.ofNat 64 new, 0, 0, BitVec.ofNat 64 (s1.ctr (0x3030 + stk) 3)]

def State.judgeBand (s : State) (g : Nat) (hot : Int) : State :=
  let stk := g - 16
  let x := s.group g
  let now := s.crust.time
  let new := if s.anyValid g then bandAfter now (s.stk stk).band x.aboveB hot else 2
  let aboveB := (bandEdges.zip x.aboveB).map fun e => if hot > e.1 - 2000 then now else e.2
  (s.setGroup g { x with aboveB := aboveB }).changeBand stk new

/-- The throttle of a group after a reading. A reading that crosses the critical threshold too raises none. -/
def State.judgeThrottle (s : State) (g : Nat) (hot : Int) (sensor : Nat) (crossing : Bool) : State :=
  let x := s.group g
  let now := s.crust.time
  let t := s.throttleAt g
  let band3 := decide (16 ≤ g) && decide (g < 32) && (s.stk (g - 16)).band == 3
  let above := if hot > t - 2000 then now else x.aboveT
  let on := if x.throttle then band3 || !fallen now x.aboveT hot t else (decide (t ≤ hot) || band3) && !crossing
  let jm := s.odNat 0x7001 1 == 1
  let s1 := s.setGroup g { x with
    throttle := on
    aboveT := above
    fresh := on && (x.fresh || !x.throttle)
    jm := on && (x.jm || (!x.throttle && jm)) }
  if on && !x.throttle then
    ({ s1 with power := { s1.power with
        jmOnset := if jm then s1.power.jmOnset ++ [s.power.watts] else s1.power.jmOnset } }).powLog 0x71 (groupDomain g) (groupInst g) sensor hot
  else if !on && x.throttle then s1.powLog 0x72 (groupDomain g) (groupInst g) sensor hot
  else s1

/-- The cadence of a group (16 R552). -/
def State.judgeCadence (s : State) (g : Nat) (hot : Int) : State :=
  let x := s.group g
  let now := s.crust.time
  let t := s.throttleAt g
  let cond := decide (t - 5000 ≤ hot) || x.throttle || s.therm.stopStep != 0
  let warm := if hot > t - 7000 then now else x.warmAt
  s.setGroup g { x with
    warmAt := warm
    hot := hot
    fast := cond || (x.fast && (decide (hot > t - 7000) || decide (now < x.warmAt + 10000))) }

/-- The largest number below `v + 2^k` whose 10,000th power is at most `b`, when `v` is such a number. -/
def rootBelow (b : Nat) : Nat → Nat → Nat
  | 0, v => v
  | k + 1, v => rootBelow b k (if (v + 2 ^ k) ^ 10000 ≤ b then v + 2 ^ k else v)

/-- 2^((T − 85)/10) in millionths, rounded down, for a reading of `m` m°C above 85 °C (16 R566; log entry 138). -/
def lifeRate (m : Nat) : Nat := 2 ^ (m / 10000) * rootBelow (1000000 ^ 10000 * 2 ^ (m % 10000)) 20 1000000

/-- Life used since the group's last reading (16 R566): rate 1 up to 85 °C. -/
def State.useLife (s : State) (g : Nat) (hot : Int) : State :=
  let e := Tab.get (0, 0) s.therm.life g
  let dt := if e.1 = 0 then 0 else s.crust.time - e.1
  let rate := if hot ≤ 85000 then 1000000 else lifeRate (hot - 85000).toNat
  { s with therm := { s.therm with life := Tab.set (0, 0) s.therm.life g (s.crust.time, e.2 + dt * rate) } }

/-! ### The orderly stop (16 R562, R563) -/

/-- Steps 1 and 2: clocks, grants and duty at their floors, queues closed, dispatched work stopped. -/
def State.beginStop (s : State) (cross : Word) (tp : Option Nat) : State :=
  let s0 : State := { s with
    power := { s.power with freqs := [16, 16, 16, 16], pendStep := [], govD := 4 }
    therm := { s.therm with stopStep := 2, stopAt := s.crust.time, tp := tp, cross := cross, alert := true } }
  let s1 := (upTo 16).foldl (fun s k => if s.fitted k then s.modStk k fun c => { c with grant := 32 } else s) s0
  let busy := s1.clusters.map Prod.fst
  busy.foldl (fun s c => s.stopDispatched c 9) (busy.foldl (fun s c => s.closeQueues c) s1)

/-- A critical crossing (16 R562): a thermal cut when the shutdown limit is less than 20 ms away, otherwise an
orderly stop; during an orderly stop it changes nothing. -/
def State.crossing (s : State) (g sensor : Nat) (hot : Int) (tp : Option Nat) (mayCut : Bool) : State :=
  if s.therm.stopStep ≠ 0 then s
  else
    let w := pack [(52, groupDomain g), (44, groupInst g), (32, sensor), (0, (BitVec.ofInt 32 hot).toNat)]
    match mayCut, tp with
    | true, some t =>
      if t < 20000 then
        ({ s with therm := { s.therm with cross := w, tp := tp } }).thermalCut 1
      else s.beginStop w tp
    | _, _ => s.beginStop w (if mayCut then tp else none)

/-- The sensor's last 16 readings rise (16 R562). -/
def Sensor.rising (x : Sensor) : Bool :=
  match x.hist with
  | [] => false
  | h :: t => decide (t.getLastD h < h)

/-- The predicted time is bounded only while the crossing sensor rises (16 R562). -/
def State.predicted (s : State) (n : Nat) (tp : Option Nat) : Option Nat := if (s.sensor n).rising then tp else none

/-- Critical threshold and shutdown limit, judged on the real reading (17 R595). -/
def State.judgeCritical (s : State) (g : Nat) (tp : Option Nat) : State :=
  let h := s.hottest true g
  let x := s.group g
  let crit := decide (criticalAt g ≤ h.1) && s.anyValid g
  let s1 := s.setGroup g { x with critical := crit }
  if s1.therm.stopStep = 2 && decide (shutdownAt g ≤ h.1) && s.anyValid g then s1.thermalCut 2
  else if crit && !x.critical then s1.crossing g h.2 h.1 (s.predicted h.2 tp) true
  else s1

/-- JM throttle mode: within 3 °C of the critical threshold enforcement begins at once (16 R550). -/
def State.enforceNear (s : State) (g : Nat) (hot : Int) : State :=
  let x := s.group g
  if s.power.jmState = 1 && x.jm && x.throttle && decide (criticalAt g - 3000 ≤ hot) then
    ({ s with power := { s.power with jmState := 2 } }).powLog 0x75 (groupDomain g) (groupInst g) 0 hot (some s.power.jmTarget)
  else s

/-- The coolant cap and the inlet's own rules (16 R560). -/
def State.judgeCoolant (s : State) (g : Nat) : State :=
  if g ≠ 48 then s
  else
    let v := s.sensorUse false 0x300
    if (s.sensor 0x300).st ≠ 1 && (s.forcedTemp 0x300).isNone then s
    else
      let s1 : State := { s with therm := { s.therm with coolCut := ((v - 40000).toNat * 150) / 1000 } }
      let s2 := if v < 15000 then s1.powLog 0x7B 4 0 0x300 v else s1
      let x := s2.group 48
      let crit := s2.power.main && decide (45000 ≤ (s2.sensor 0x300).mC) && (s2.sensor 0x300).st == 1
      let s3 := s2.setGroup 48 { x with critical := crit }
      if crit && !x.critical then s3.crossing 48 0x300 (s3.sensor 0x300).mC none false else s3

/-- A hearth, DRAM or I/O-die group is judged. -/
def State.judgeGroup (s : State) (g : Nat) (tp : Option Nat) : State :=
  let h := s.hottest false g
  let crossing := !(s.group g).critical && decide (criticalAt g ≤ (s.hottest true g).1) && s.anyValid g
  let s1 := if decide (16 ≤ g) && decide (g < 32) then s.judgeBand g h.1 else s
  let s2 := ((s1.judgeThrottle g h.1 h.2 crossing).judgeCadence g h.1).enforceNear g h.1
  let s3 := if g < 32 then s2.useLife g h.1 else s2
  s3.judgeCritical g tp

/-- SENSOR_READ (16 R552): a group is read. `tPredUs` is the module's prediction of the time to the shutdown limit,
none when it is unbounded. -/
def execSensorRead (grp : Nat) (readings : List SensorRaw) (tPredUs : Option Nat) (s : State) : Out :=
  ifUnit s (decide (grp ≤ 50) && s.sensorFitted (groupSensors grp).1 && sensorGroup (groupSensors grp).1 == grp) <|
    when' (s.power.aux && s.sensorPowered (groupSensors grp).1 && readings.length == (groupSensors grp).2) s <|
      let s1 := ((groupList grp).zip readings).foldl (fun s x => s.takeReading x.1 x.2) s
      let s2 := match s1.hottestValid true (groupList grp) with
        | some v => s1.setGroup grp { s1.group grp with hots := (v :: (s1.group grp).hots).take 2000 }
        | none => s1
      let s3 := (groupList grp).foldl (fun s n => s.findStuck grp n) s2
      let s4 := (groupList grp).foldl (fun s n => s.notePeak n) (s3.logFaults s grp)
      if judged grp then s4.judgeGroup grp tPredUs else s4.judgeCoolant grp

/-- Everything the module's own fabric requests wait for is abandoned (16 R563 step 3). -/
def State.abandon (s : State) : State :=
  { s with fab := { s.fab with outst := [], waiting := [], dead := [], pool := [], leaving := true } }

/-- What stays when every fitted channel is put into self-refresh (03 R103, R107) and the hearth and I/O dies are then
without power or reset: contents, lost segments and the channels' self-refresh. -/
def State.keepStacks (s : State) : Mem :=
  let m := s.mem.off
  { m with
    dram := s.mem.dram
    stkc := (upTo 16).foldl (fun t k =>
      if s.fitted k then
        Tab.set {} t k { lost := if (s.stk k).unpowered then 0xFF else (s.stk k).lost, unpowered := (s.stk k).unpowered }
      else t) []
    chans := (upTo 1024).foldl (fun t k =>
      if s.fitted (k / 64) && !(s.stk (k / 64)).unpowered then
        let c := s.chan k
        let drop := if !c.sr && s.stackUnused (k / 64) then ~~~BitVec.ofNat 8 (s.odNat (0x3030 + k / 64) 10) else 0
        Tab.set {} t k { sr := true, lost := c.lost ||| drop, scrubPos := c.scrubPos } else t) [] }

/-- A request at a stack controller completes; a write that waits for a fill of its segment goes (03 R108). -/
def State.finishReq (s : State) (r : PortReq) : State :=
  if r.scrub || s.heldByFill r then s
  else
    match r.kind, r.merge with
    | .read, _ =>
      let x := s.readCol r.at'
      x.1.respond r x.2.1 x.2.2 false
    | .write _ _ p, some c => (s.locPut r.loc (storeCol c.data (r.mergeBad || p))).respond r (if r.mergeBad then 4 else 0) 0 false
    | .write d m p, none =>
      let x := s.writeCol r.at' d m p
      x.1.respond r x.2 0 false

/-- Requests already at stack controllers complete, in the order in which they came (16 R563 step 2). -/
def State.finishReqs (s : State) : State := (s.mem.reqs.foldl State.finishReq s).retryHeld

/-- DRAIN_WINDOW_EXPIRY (16 R563): what is at the stack controllers has completed, outstanding work is abandoned, LEAVE is sent, the stacks enter self-refresh, the
hearth and I/O dies lose power and the module is in RECOVERY. -/
def execDrainWindowExpiry (s : State) : Out :=
  when' (s.therm.stopStep == 2 && s.power.main) s <|
    let s1 := s.finishReqs.abandon
    let s2 := if s1.joinSet then s1.sendLeave else s1
    let s4 := s2.crossLog 0x77 (tpred s2.therm.tp)
    let s5 : State := { s4.clearMain s4.keepStacks with
      power := s4.power.off
      therm := { s4.therm.off with stopStep := 5 } }
    s5.setSvc .recovery

/-- TP_ELAPSED (16 R563): the predicted time has passed before step 5; the stop becomes a thermal cut. -/
def execTpElapsed (s : State) : Out :=
  when' (s.therm.stopStep == 2 && s.therm.tp.isSome) s (s.thermalCut 3)

/-- STACK_CRITICAL_HOLD_EXPIRY (16 R563): 1 s after step 5 a stack still at its critical threshold loses power. -/
def execStackCriticalHoldExpiry (stk : Nat) (s : State) : Out :=
  ifUnit s (s.fitted stk) <|
    when' (s.therm.stopStep == 5 && !(s.stk stk).unpowered && decide (criticalAt 16 ≤ (s.hottest true (16 + stk)).1)
        && s.anyValid (16 + stk)) s <|
      let s1 : State := { s with mem := { s.mem with
        dram := s.mem.dram.filter fun e => e.1 / 64 / 32784 / 1024 != stk
        chans := s.mem.chans.filter fun e => e.1 / 64 != stk } }
      s1.modStk stk fun k => { k with unpowered := true, lost := 0xFF }

/-- How far an I/O die's SerDes reference is off its nominal frequency, in 0.01 ppm. -/
def State.osc (s : State) (die : Nat) : Int := Tab.get 0 s.therm.osc die

/-- A trim step of one I/O die: at most 0.05 ppm, within 20 ppm of nominal (16 R561; log entry 149). -/
def State.trimDie (s : State) (die : Nat) : State :=
  let x := s.osc die - 5 + (Config.freeNat s.free % 11 : Nat)
  ({ s with therm := { s.therm with osc := Tab.set 0 s.therm.osc die (max (-2000) (min 2000 x)) } } : State).draw

/-- OSC_TRIM (16 R561): a trim step of every I/O die's oscillator. -/
def execOscTrim (s : State) : Out :=
  when' s.power.main s <|
    let t := (upTo s.build.ioDies).foldl State.trimDie s
    { t with therm := { t.therm with trims := t.therm.trims + 1 } }

end Sys2Proof.Machine
end

