-- ==== Sys2Proof/Machine/Power.lean ====
section
/-! DEFINITION. Inputs, the slew governor, the power governor and JM throttle mode, and the start that POWER_GOOD
begins (16 R535 to R550; 17 R576, R578). -/

namespace Sys2Proof.Machine

/-! ### A start (17 R578) -/

/-- Extend measurement register `i` with an event's data (17 R587). -/
def State.extend (s : State) (i : Nat) (data : Bytes) : State :=
  { s with trust := { s.trust with
      meas := s.trust.meas.set i (Config.shake256 (s.trust.meas.getD i [] ++ Config.shake256 data 64) 64) } }

/-- The limit target L (16 R543) and its coolant cap (16 R554, R560). -/
def State.coolCap (s : State) : Nat :=
  if 2 ≤ (s.sensor 0x300).st || 2 ≤ (s.sensor 0x301).st then s.odNat 0x7000 1 - 500 else s.maxPower - s.therm.coolCut
def State.limitL (s : State) : Nat := min (s.odNat 0x7000 1) s.coolCap

/-- The main rails switch on: the governors begin at full clocks, grants and duty, with PLIM_EFF at L (log entry 22),
and the stack controllers take the REF values in force. -/
def State.railsOn (s : State) : State :=
  let s1 : State := { s with
    mem := { s.mem with fenced := 0, scrubBase := s.crust.time }
    power := { s.power with
      main := true
      slewD := 16
      govD := 16
      freqs := [33, 33, 33, 33]
      pendStep := []
      reds := []
      low := 0
      plim := s.limitL
      lSeen := s.limitL
      jmState := 0
      jmTarget := 0
      jmLim := none
      jmOnset := [] } }
  (upTo 16).foldl (fun s k =>
    if s.fitted k then
      s.modStk k fun c => { c with
        k := s.odNat 0x3020 4, tokens := s.odNat 0x3020 5, reserve := s.odNat 0x3020 6, postpone := s.odNat 0x3020 7 }
    else s) s1

/-- Recorded soft spares are fused (02 R59). -/
def State.fuseSpares (s : State) : State :=
  { s with mem := { s.mem with spares := s.mem.spares.map fun x => { x with fused := true } } }

/-- What a start does first; its service state is STARTING (17 R578). -/
def State.startUp (s : State) : State :=
  let s1 := s.railsOn.fuseSpares.extend 2 Config.ioFirmware
  { s1 with crust := { s1.crust with svc := .starting } }

/-- A start can begin: POWER_GOOD is reported and MOD_RESET_N does not hold the main domains in reset (18 R610). -/
def State.mayStart (s : State) : Bool := s.power.good && !s.crust.modReset

/-- The service state has changed from `old` (17 R598). -/
def State.svcFrom (s : State) (old : Svc) : State := if s.crust.svc = old then s else s.crustEvent 0x83 0 old.code 0

/-- Begin a start in STANDBY. -/
def State.beginStart (s : State) : State :=
  if s.crust.svc = .standby && s.mayStart then s.startUp.svcFrom .standby else s

/-- The start that follows by itself when START_POLICY is 0 and the last start did not fail. -/
def State.autoStart (s : State) : State := if s.odNat 0x8060 2 = 0 && !s.crust.startHeld then s.beginStart else s

/-! ### Inputs (16 R536 to R538) -/

/-- HOTSWAP_CONDUCT. -/
def execHotswapConduct (s : State) : Out := go s { s with power := { s.power with conduct := true } }

/-- POWER_GOOD (16 R537). -/
def execPowerGood (s : State) : Out :=
  when' (s.power.conduct && !s.power.good) s
    (let s1 : State := { s with power := { s.power with good := true } }
     if s.power.aux then s1.autoStart else s1)

/-- The main input is lost: the rails switch off and the crust logs it. During an orderly stop it is a thermal cut;
the service state becomes STANDBY, except that RECOVERY stays (17 R572, R576; log entry 23). -/
def State.inputLost (s : State) (event : Nat) : State :=
  let s1 : State := { s with power := { s.power with conduct := false, good := false } }
  if !s.power.aux then { s1 with power := s1.power.off }
  else
    let s2 := s1.powLog event 5 0 0 0
    if s2.therm.stopStep = 2 then s2.thermalCut 4
    else
      let off := s2.railsOff
      let s3 : State := { off with crust := { off.crust with resetting := 0 } }
      if s3.crust.svc = .recovery then s3
      else if s3.crust.svc = .test then { s3 with test := { s3.test with step := 0 } }
      else s3.setSvc .standby

/-- INPUT_LOSS (16 R538). -/
def execInputLoss (s : State) : Out := when' s.power.conduct s (s.inputLost 0x79)
/-- INPUT_OV (16 R536). -/
def execInputOv (s : State) : Out := when' s.power.conduct s (s.inputLost 0x7A)

/-! ### The slew governor (16 R539 to R541) -/

/-- SLEW_INTERVAL: `fit` is the largest duty at which the governor's model keeps the next interval within R539, and
`ballastMj` the energy that the ballast took. -/
def execSlewInterval (mA mV fit ballastMj : Nat) (s : State) : Out :=
  when' s.power.main s <|
    let f := max 1 (min 16 fit)
    let d := s.power.slewD
    let new := if d < f then d + 1 else if f < d then d - 1 else d
    let s1 : State := { s with power := { s.power with slewD := new, mA := mA, mV := mV } }
    let s2 := s1.bump 0x7000 0xC ballastMj
    if new < 16 then s2.bump 0x7000 0xB else s2

/-! ### JM throttle mode (16 R549, R550) -/

/-- The record that tells the host of a throttle request. -/
def jmRecord : Nat := 0x100

/-- Groups with an active throttle, lowest number first. -/
def State.throttled (s : State) : List Nat := (upTo 38).filter fun g => (s.group g).throttle

/-- Change every listed group. -/
def State.mapGroups (s : State) (f : Group → Group) : State :=
  { s with therm := { s.therm with groups := Tab.mapV f s.therm.groups } }

/-- DOMAIN, INSTANCE and reading that a JM entry names: the hottest throttle that is its reason, or the power limit. -/
def State.jmLog (s : State) (event : Nat) (target : Nat) : State :=
  match s.throttled.find? fun g => (s.group g).jm with
  | some g => s.powLog event (groupDomain g) (groupInst g) (s.hottest false g).2 (s.hottest false g).1 (some target)
  | none => s.powLog event 6 0 0 0 (some target)

/-- Tell the hosts whose links are up. -/
def State.jmTell (s : State) : State :=
  (upTo s.build.ioDies).foldl (fun s n =>
    if s.cxlUp n then
      s.modCport n fun p => { p with
        vendor := push256 p.vendor { status := jmRecord, dpa := 0, window := 0, stamp := p.stamp }
        msix := 1 :: p.msix }
    else s) s

/-- A request ends: the records and the sideband signal are cleared. -/
def State.jmEnd (s : State) : State :=
  let s1 := s.jmLog 0x76 s.power.jmTarget
  let s2 := s1.mapGroups fun x => { x with jm := false }
  { s2 with
    cxl := Tab.mapV (fun p => { p with vendor := p.vendor.filter fun e => e.status != jmRecord }) s2.cxl
    power := { s2.power with jmState := 0, jmLim := none, jmOnset := [] } }

/-- Reasons that have arisen since the last tick raise a request, or join the one there is; the lowest target counts. -/
def State.jmRaise (s : State) (p10 l : Nat) : State :=
  let fell := decide (l < s.power.lSeen) && (decide (l < p10) || s.coolCap == l)
  let new := s.power.jmOnset
  if s.odNat 0x7001 1 = 0 || !(fell || new != []) then s
  else
    let tgt := (if fell then [l] else []) ++ new.map (· - 250)
    let lim := if fell then some (max s.power.lSeen (s.power.jmLim.getD 0)) else s.power.jmLim
    let joins := s.power.jmState != 0
    let target := ((if joins then [s.power.jmTarget] else []) ++ tgt).foldl min (tgt.headD 0)
    let s1 : State := { s with power := { s.power with jmTarget := target, jmLim := lim, jmOnset := [] } }
    if joins then s1
    else
      (({ s1 with power := { s1.power with jmState := 1, jmSince := s1.crust.time } }).bump 0x7001 5 1 32).jmTell.jmLog
        0x74 target

/-- The state of JM throttle mode at a tick: a mode that is off ends its request, and a request is met. -/
def State.jmTick (s : State) (p10 l : Nat) : State :=
  if s.power.jmState ≠ 0 && s.odNat 0x7001 1 = 0 then s.jmEnd
  else
    let s1 := s.jmRaise p10 l
    if s.power.jmState = 1 && s1.power.jmState = 1 && decide (p10 ≤ s1.power.jmTarget) then
      let s2 := s1.mapGroups fun x => { x with fresh := x.fresh && !x.jm }
      ({ s2 with power := { s2.power with plim := l } }).jmEnd
    else s1

/-- JM_GRACE_EXPIRY. -/
def execJmGraceExpiry (s : State) : Out :=
  when' (s.power.jmState == 1) s
    ({ (s.jmLog 0x75 s.power.jmTarget) with power := { s.power with jmState := 2 } })

/-! ### PLIM_EFF (16 R543) -/

/-- The throttle waits for the grace time. -/
def State.gated (s : State) (g : Nat) : Bool := s.power.jmState == 1 && (s.group g).jm

/-- PLIM_EFF at a tick. A fall for L ends at L, a fall for a throttle at THROTTLE_FLOOR. -/
def State.plimTick (s : State) (p10 l : Nat) : State :=
  let floor := s.odNat 0x7000 3
  let act := s.throttled
  let free := act.filter fun g => !s.gated g
  let fresh := free.any fun g => (s.group g).fresh
  let lg := if s.power.jmState = 1 then max l (s.power.jmLim.getD 0) else l
  let p0 := s.power.plim
  let p1 := if fresh then min p0 (max floor (min p0 p10)) else p0
  let fallL := decide (lg < p1)
  let fallT := free.any fun g => decide (s.throttleAt g ≤ (s.hottest false g).1)
  let bound := if fallL && fallT then min lg floor else if fallL then lg else floor
  let p2 :=
    if fallL || fallT then max (min p1 bound) (p1 - 25)
    else if act ≠ [] then p1
    else if p1 < l then min l (p1 + 10) else p1
  let s1 := s.mapGroups fun x => { x with fresh := x.fresh && x.jm && s.power.jmState == 1 }
  { s1 with power := { s1.power with plim := p2 } }

/-! ### Reductions (16 R544 to R548) -/

/-- The frequency that has been decided for a die. -/
def State.decided (s : State) (die : Nat) : Nat :=
  match (s.power.pendStep.filter fun x => x.1 == die).getLast? with
  | some x => x.2
  | none => s.power.freqs.getD die 33

/-- What a reduction takes away or an undo gives back. -/
def State.step' (s : State) (r : Red) (up : Bool) : State :=
  match r with
  | .clock d => { s with power := { s.power with
      pendStep := s.power.pendStep ++ [(d, if up then s.decided d + 1 else s.decided d - 1)] } }
  | .grant k => s.modStk k fun c => { c with grant := if up then c.grant + 16 else c.grant - 16 }
  | .duty => { s with power := { s.power with govD := if up then s.power.govD + 1 else s.power.govD - 1 } }

def State.mayClock (s : State) (d : Nat) : Bool := decide (16 < s.decided d)
def State.mayGrant (s : State) (k : Nat) : Bool := s.fitted k && decide (32 < (s.stk k).grant)

/-- The one of some units with the highest power, the lowest number among equals. -/
def highest (pow : List Nat) (ns : List Nat) : Option Nat :=
  ns.foldl (fun b n => match b with
    | none => some n
    | some m => if pow.getD m 0 < pow.getD n 0 then some n else some m) none

/-- The reductions of a throttle's domain, first choice first (R545). -/
def State.domainRed (s : State) (m : GovMeas) (g : Nat) : Option Red :=
  if g < 4 then (if s.mayClock g then some (.clock g) else none)
  else if g < 32 then
    if s.mayGrant (g - 16) then some (.grant (g - 16))
    else if s.mayClock ((g - 16) / 4) then some (.clock ((g - 16) / 4)) else none
  else (highest m.diePower (((linkedHearths (g - 32)).mergeSort fun a b => decide (a ≤ b)).filter s.mayClock)).map .clock

/-- The next reduction (R545): a throttle's domain, lowest group first; then GOV_POLICY; then the duty. -/
def State.nextRed (s : State) (m : GovMeas) : Option Red :=
  match (s.throttled.filterMap (s.domainRed m)).head? with
  | some r => some r
  | none =>
    let d := (highest m.diePower ((upTo 4).filter s.mayClock)).map Red.clock
    let k := (highest m.stackPower ((upTo 16).filter s.mayGrant)).map Red.grant
    let pick (a b : Option Red) : Option Red := a.or b
    let pol := s.odNat 0x7000 4
    match (if pol = 1 then pick d k else if pol = 2 then pick k d
      else if m.grantSave ≤ m.clockSave then pick d k else pick k d) with
    | some r => some r
    | none => if 4 < s.power.govD then some .duty else none

/-- What the governor's model credits a reduction with, and the rail powers after it. -/
def redSave (m : GovMeas) : Red → Nat
  | .clock _ => m.clockSave
  | .grant _ => m.grantSave
  | .duty => m.dutySave
def redAfter (m : GovMeas) : Red → GovMeas
  | .clock d => { m with diePower := m.diePower.set d (m.diePower.getD d 0 - m.clockSave) }
  | .grant k => { m with stackPower := m.stackPower.set k (m.stackPower.getD k 0 - m.grantSave) }
  | .duty => m

/-- Apply reductions one at a time until they cover the excess, at most `n` of them. -/
def State.reduce (s : State) (m : GovMeas) (excess : Nat) : Nat → State
  | 0 => s
  | n + 1 =>
    if excess = 0 then s
    else
      match s.nextRed m with
      | none => s
      | some r =>
        let s1 := s.step' r false
        ({ s1 with power := { s1.power with reds := r :: s1.power.reds } }).reduce (redAfter m r) (excess - redSave m r) n

/-- Undo the most recent reduction (R546). -/
def State.undo (s : State) : State :=
  match s.power.reds with
  | [] => s
  | r :: t => ({ s with power := { s.power with reds := t } }).step' r true

/-- Reductions of a tick (R544, R546). -/
def State.governTick (s : State) (m : GovMeas) : State :=
  let p := s.power.plim
  let low := if m.avg1ms + 50 ≤ p then min 10 (s.power.low + 1) else 0
  let s1 : State := { s with power := { s.power with low := low } }
  if p < m.avg1ms then s1.reduce m (m.avg1ms - p) 8
  else if low = 10 && m.admits then s1.undo
  else s1

/-- GOVERNOR_TICK (16 R542 to R550). -/
def execGovernorTick (m : GovMeas) (s : State) : Out :=
  when' (s.power.main && s.therm.stopStep == 0) s <|
    let s0 : State := { s with power := { s.power with watts := m.avg10ms } }
    let s1 := (upTo 16).foldl (fun s k => if s.fitted k then s.setCtr (0x7020 + k) 2 (m.stackPower.getD k 0) else s) s0
    let l := s1.limitL
    let s2 := ((s1.jmTick m.avg10ms l).plimTick m.avg10ms l).governTick m
    let s3 : State := { s2 with power := { s2.power with lSeen := l } }
    if s3.power.jmState = 2 && decide (s3.power.plim ≤ l) && s3.throttled == [] then s3.jmEnd else s3

/-- CLOCK_STEP_EFFECT (16 R547): the oldest decided step of the die takes effect. -/
def execClockStepEffect (die : Nat) (s : State) : Out :=
  ifUnit s (decide (die < 4)) <|
    go s (match s.power.pendStep.find? fun x => x.1 == die with
    | none => s
    | some x => { s with power := { s.power with
        freqs := s.power.freqs.set die x.2, pendStep := s.power.pendStep.erase x } })

end Sys2Proof.Machine
end

