-- ==== Sys2Proof/Machine/Cxl.lean ====
section
/-! DEFINITION. The commands of a CXL host port: CXL.mem, back-invalidation responses, decoders, link and pins, the
mailbox (14 R477 to R491; 18 R613, R619). -/

namespace Sys2Proof.Machine

/-! ### CXL.mem (14 R482) -/

/-- The status that an access gets during an orderly stop: the spec names the answer of 14 R484 and no status. -/
def State.stopStatus (s : State) : Nat := 1 + Config.freeNat s.free % 255

/-- HOST_MEM_READ: a host reads the line at a device address. -/
def execHostMemRead (n dpa : Nat) (want : HostWant) (s : State) : Out :=
  ifUnit s (s.cxlFitted n) <| when' (s.cxlUp n) s <|
    if s.therm.stopStep ≠ 0 then
      s.draw.hostDone n dpa ((s.winOf n dpa).getD 0) true s.stopStatus 0 true .uncached
    else (s.serveHostRead n dpa want).settle

/-- HOST_MEM_WRITE: a host writes a line, or bytes of it, at a device address. -/
def execHostMemWrite (n dpa : Nat) (data : BitVec 512) (mask : BitVec 64) (poison : Bool) (s : State) : Out :=
  ifUnit s (s.cxlFitted n) <| when' (s.cxlUp n) s <|
    if s.therm.stopStep ≠ 0 then
      s.draw.hostDone n dpa ((s.winOf n dpa).getD 0) false s.stopStatus 0 false .uncached
    else (s.serveHostWrite n dpa data mask poison).settle

/-! ### Back-invalidation (14 R487, R488) -/

/-- The back-invalidation of a line that waits for its response. -/
def State.pendingSnoop (s : State) (n lin : Nat) : Option Tracked :=
  (s.cport n).tracked.find? fun t => t.lin == lin && t.pend.isSome

/-- BIRSP: the host gives the line up, or keeps it read only. -/
def execBirsp (n lin : Nat) (s : State) : Out :=
  ifUnit s (s.cxlFitted n) <|
    match s.pendingSnoop n lin with
    | none => .next s
    | some t =>
      go s (s.modCport n fun p => { p with
        tracked :=
          if t.pend = some true then p.tracked.filter fun x => x.lin != lin
          else p.tracked.map fun x => if x.lin = lin then { x with excl := false, pend := none } else x }).retryHeld

/-- The port drops all of its tracking. -/
def State.dropTracking (s : State) (n : Nat) : State := s.modCport n fun p => { p with tracked := [] }

/-- The device address at which a tracked line stands in a window of the port; 0 when no window shows it now. -/
def State.lineDpa (s : State) (n : Nat) (t : Tracked) : Nat :=
  let at_ := (upTo 16).flatMap fun k =>
    let c := s.winCtrl n k
    if c.testBit 0 && nbits c 11 8 == t.part then
      ((s.localLoafs t.part (t.lin / 2 ^ 21)).map fun l => l * 2 ^ 21 + t.lin % 2 ^ 21).filterMap fun a =>
        let b := s.odNat (winIndex n k) 2
        if b ≤ a && decide (a < b + s.winSize n k) then some (s.winBase n k + (a - b)) else none
    else []
  at_.headD 0

/-- BI_TIMEOUT: no BIRsp in time. -/
def execBiTimeout (n lin : Nat) (s : State) : Out :=
  ifUnit s (s.cxlFitted n) <|
    match s.pendingSnoop n lin with
    | none => .next s
    | some t =>
      let s1 := s.log [pack [(56, 0x56), (51, n), (43, t.part), (0, (s.cport n).tracked.length)],
        BitVec.ofNat 64 (s.lineDpa n t)]
      go s (((s1.modCport n fun p => { p with noTrack := true }).dropTracking n).retryHeld)

/-! ### Decoders, link and pins (14 R481, R488, R491; 18 R613, R619) -/

/-- HDM_DECODER_COMMIT: `size` in units of 256 MiB, as WIN_SIZE. -/
def execHdmDecoderCommit (n k size ways : Nat) (s : State) : Out :=
  ifUnit s (s.cxlFitted n && decide (k < 16)) <| when' (s.cxlUp n) s <|
    let ok := s.winEnabled n k && size == s.odNat (winIndex n k) 3 && ways == 1
    s.modCport n fun p => { p with
      decoders := if ok then p.decoders ||| BitVec.ofNat 16 (2 ^ k) else p.decoders &&& ~~~BitVec.ofNat 16 (2 ^ k)
      decErr := if ok then p.decErr &&& ~~~BitVec.ofNat 16 (2 ^ k) else p.decErr ||| BitVec.ofNat 16 (2 ^ k) }

/-- A port's link is down: its BAR2 path is gone and held requests proceed. -/
def State.linkOff (s : State) (n : Nat) (reset : Bool) : State :=
  let s1 := s.modCport n fun p => { p with link := 0, tracked := [], noTrack := p.noTrack && !reset }
  ({ s1 with mgmt := { s1.mgmt with latch4 := Tab.erase s1.mgmt.latch4 n } }).retryHeld

/-- CXL_LINK_DOWN: link down, a conventional reset or an FLR. -/
def execCxlLinkDown (n : Nat) (conventionalReset : Bool) (s : State) : Out :=
  ifUnit s (s.cxlFitted n) <| go s (s.linkOff n conventionalReset)

/-- PERST_N_ASSERT. -/
def execPerstNAssert (n : Nat) (s : State) : Out :=
  ifUnit s (s.cxlFitted n) <| go s ((s.modCport n fun p => { p with perst := true }).linkOff n true)

/-- PERST_N_RELEASE: the port may train again. -/
def execPerstNRelease (n : Nat) (s : State) : Out :=
  ifUnit s (s.cxlFitted n) <| go s (s.modCport n fun p => { p with perst := false })

/-- CXL_LINK_UP: training ends, at ×16 and 64 GT/s (`full`) or at a lower width or rate. -/
def execCxlLinkUp (n : Nat) (full : Bool) (s : State) : Out :=
  ifUnit s (s.cxlFitted n) <|
    when' (s.cxlLink n == 1) s (s.modCport n fun p => { p with link := if full then 2 else 3 })

/-- REFCLK_CHANGE: a port without its clock has no link. -/
def execRefclkChange (n : Nat) (present : Bool) (s : State) : Out :=
  ifUnit s (s.cxlFitted n) <|
    let s1 := s.modCport n fun p => { p with refclk := present }
    go s (if present then s1 else s1.linkOff n false)

/-! ### The mailbox (14 R491) -/

/-- A mailbox command completes with a return code: 0 success, 1 unsupported, 2 invalid input. -/
def State.mailbox (s : State) (n code : Nat) (data : List Nat) : Out :=
  ifUnit s (s.cxlFitted n) <| when' (s.cxlUp n) s <|
    s.modCport n fun p => { p with mbox := { code := code, data := data } :: p.mbox, msix := 0 :: p.msix }

/-- An event log of a port: 0 informational, 1 failure, 2 vendor. -/
def CxlPort.events (p : CxlPort) (log : Nat) : List EvRec :=
  match log with
  | 0 => p.info
  | 1 => p.failure
  | _ => p.vendor

def evWords (e : EvRec) : List Nat := [e.status, e.dpa, e.window, e.stamp.toNat]

def execGetEventRecords (n log : Nat) (s : State) : Out :=
  if log < 3 then s.mailbox n 0 (((s.cport n).events log).flatMap evWords) else s.mailbox n 2 []

/-- Clear Event Records empties a log; the poison list starts anew (14 R491). -/
def execClearEventRecords (n log : Nat) (s : State) : Out :=
  if log < 3 then
    ifUnit s (s.cxlFitted n) <| when' (s.cxlUp n) s <|
      s.modCport n fun p => { p with
        info := if log = 0 then [] else p.info
        failure := if log = 1 then [] else p.failure
        vendor := if log = 2 then [] else p.vendor
        poisonList := []
        mbox := { code := 0, data := [] } :: p.mbox
        msix := 0 :: p.msix }
  else s.mailbox n 2 []

/-- The crust slots: how many, the running one, and each one's state and SVN. -/
def execGetFwInfo (n : Nat) (s : State) : Out :=
  s.mailbox n 0 ([2, s.trust.running] ++ s.trust.slots.flatMap fun x => [x.st, x.svn])

def execGetTimestamp (n : Nat) (s : State) : Out := s.mailbox n 0 [(s.cport n).stamp.toNat]

def execSetTimestamp (n : Nat) (v : BitVec 64) (s : State) : Out :=
  ifUnit s (s.cxlFitted n) <| when' (s.cxlUp n) s <|
    s.modCport n fun p => { p with stamp := v, mbox := { code := 0, data := [] } :: p.mbox, msix := 0 :: p.msix }

/-- The opcodes that the mailbox accepts. -/
def mailboxOpcodes : List Nat :=
  [0x0100, 0x0101, 0x0200, 0x0300, 0x0301, 0x0400, 0x0401, 0x4000, 0x4100, 0x4200, 0x4300]

/-- One log: the Command Effects Log, which this model numbers 0. -/
def execGetSupportedLogs (n : Nat) (s : State) : Out := s.mailbox n 0 [0]
def execGetLog (n log : Nat) (s : State) : Out := if log = 0 then s.mailbox n 0 mailboxOpcodes else s.mailbox n 2 []

/-- The capacity of a port (14 R481). -/
def State.capacity (s : State) (n : Nat) : Nat := ((upTo 16).map (s.winSize n)).sum

/-- Volatile capacity, persistent capacity, LSA size, poison list maximum. -/
def execIdentifyMemoryDevice (n : Nat) (s : State) : Out := s.mailbox n 0 [s.capacity n, 0, 0, 256]
def execGetPartitionInfo (n : Nat) (s : State) : Out := s.mailbox n 0 [s.capacity n, 0]

/-- The hottest DRAM reading in m°C as S32, and the life-used figures. -/
def execGetHealthInfo (n : Nat) (s : State) : Out :=
  let hot := ((upTo 16).filter s.fitted).map fun k => (s.hottest false (16 + k)).1
  s.mailbox n 0 [(BitVec.ofInt 32 (hot.tail.foldl max (hot.headD 0))).toNat, s.lifeUsed 16 16, s.lifeUsed 0 4]

def execGetPoisonList (n : Nat) (s : State) : Out := s.mailbox n 0 (s.cport n).poisonList

/-- An opcode outside the table returns Unsupported. -/
def execUnsupportedMailboxCommand (n opcode : Nat) (s : State) : Out :=
  if mailboxOpcodes.contains opcode then .next s else s.mailbox n 1 []

end Sys2Proof.Machine
end

