-- ==== Sys2Proof/Machine/Quiesce.lean ====
section
/-! DEFINITION. Configuration sets, versions and the quiesce of a partition; REF writes at refresh windows (15 R501 to
R513; 02 R73 to R75; 03 R107, R108, R629; 10 R330, R366; 14 R479, R480). -/

namespace Sys2Proof.Machine

/-! ### Sets and pending writes (R501, R503, R504) -/

/-- The set that an entry belongs to: a partition's, or 16 for the module set. -/
def setOf (index : Nat) : Nat :=
  if 0x2010 ≤ index && decide (index < 0x2020) then index - 0x2010
  else if 0x2100 ≤ index && decide (index < 0x2200) then (index - 0x2100) / 16
  else if 0x2300 ≤ index && decide (index < 0x2310) then index - 0x2300
  else if 0x2400 ≤ index && decide (index < 0x2500) then (index - 0x2400) / 16
  else if 0x2500 ≤ index && decide (index < 0x2510) then index - 0x2500
  else if 0x2600 ≤ index && decide (index < 0x2610) then index - 0x2600
  else 16

/-- SET of R532. -/
def setCode (p : Nat) : Nat := if p = 16 then 0x1F else p

/-- A versioned entry: RW or RWL, of class REF, QSC or RST. -/
def OdRow.versioned (r : OdRow) : Bool := (r.acc == .rw || r.acc == .rwl) && (r.cls == 1 || r.cls == 2 || r.cls == 4)

def State.versionedKey (s : State) (p key : Nat) : Bool :=
  setOf (key / 256) == p && (match s.odRow (key / 256) (key % 256) with
    | some r => r.versioned
    | none => false)

def State.setPend (s : State) (l : List Pend) : State := { s with mgmt := { s.mgmt with pend := l } }

/-- Change a set's record. -/
def State.modSet (s : State) (p : Nat) (f : CfgSet → CfgSet) : State := s.setCfgSet p (f (s.cfgSet p))

/-- IDLE, or PENDING while writes wait. -/
def State.restSet (s : State) (p : Nat) : State :=
  s.modSet p fun g => { g with st := if s.mgmt.pend.any fun e => e.set_ == p then .pending else .idle }

/-- Drop a set's pending writes (R504). -/
def State.dropPend (s : State) (p : Nat) : State :=
  (s.setPend (s.mgmt.pend.filter fun e => e.set_ != p)).modSet p fun g => { g with st := .idle }

/-- Buffer a write until its boundary; the last one counts. A REF value has every stack in use still to come. -/
def State.buffer (s : State) (cls key : Nat) (v : Word) (blob : Option Bytes) : State :=
  let p := setOf (key / 256)
  let e : Pend := { set_ := p, cls := cls, key := key, val := v, blob := blob, todo := s.build.fitted &&& ~~~s.mem.fenced }
  (s.setPend ((s.mgmt.pend.filter fun x => x.key != key) ++ [e])).modSet p fun g => { g with st := .pending }

/-- Put values into force. -/
def State.applyPends (s : State) (ps : List Pend) : State :=
  ps.foldl (fun s e =>
    match e.blob with
    | some b => { s with mgmt := { s.mgmt with blobs := Tab.put s.mgmt.blobs e.key b } }
    | none => s.odPut (e.key / 256) (e.key % 256) e.val) s

/-- A boundary of a set: its due writes take effect, and the values they replace become those of the previous
version. -/
def State.commitSet (s : State) (p : Nat) (ps : List Pend) : State :=
  if ps = [] then s.modSet p fun g => { g with st := .applying }
  else
    let s1 := s.modSet p fun g => { g with
      st := .applying
      prev := s.mgmt.od.filter fun kv => s.versionedKey p kv.1
      prevBlob := s.mgmt.blobs.filter fun kv => s.versionedKey p kv.1 }
    (s1.setPend (s1.mgmt.pend.filter fun e => !ps.any fun x => x.key == e.key)).applyPends ps

/-- The next version is in force (R504, R532). -/
def State.endCommit (s : State) (p : Nat) (changed : Bool) : State :=
  let s1 := if changed then
      let s2 := s.modSet p fun g => { g with prevVer := some g.version, version := wrapAdd 32 g.version 1 }
      s2.log [pack [(56, 0x63), (52, 15), (47, setCode p)], BitVec.ofNat 64 (s2.cfgSet p).version]
    else s
  s1.restSet p

/-- A validation fails (R504, R506). -/
def State.failSet (s : State) (p : Nat) (f : Nat × Nat × Nat) : State :=
  (s.modSet p fun g => { g with st := .failed, fail := packNat [(16, f.1), (8, f.2.1), (0, f.2.2)] }).log
    [pack [(56, 0x62), (52, 15), (47, setCode p), (24, f.1), (16, f.2.1), (8, f.2.2)]]

/-- CFG_ROLLBACK (R505): the pending writes become writes of the previous version's values. -/
def State.rollback (s : State) (p : Nat) : State :=
  let g := s.cfgSet p
  let keys := ((s.mgmt.od.map Prod.fst).filter (s.versionedKey p) ++ g.prev.map Prod.fst).eraseDups
  let blobs := ((s.mgmt.blobs.map Prod.fst).filter (s.versionedKey p) ++ g.prevBlob.map Prod.fst).eraseDups
  let old (k : Nat) : Word := match Tab.find g.prev k with
    | some v => v
    | none => match s.odRow (k / 256) (k % 256) with
      | some r => s.odDefault r (k / 256) (k % 256)
      | none => 0
  let cls (k : Nat) : Nat := match s.odRow (k / 256) (k % 256) with
    | some r => r.cls
    | none => 0
  let s0 := s.setPend (s.mgmt.pend.filter fun e => e.set_ != p)
  let s1 := (keys.filter fun k => old k != s.odVal (k / 256) (k % 256)).foldl (fun s k => s.buffer (cls k) k (old k) none) s0
  let s2 := (blobs.filter fun k => Tab.get [] g.prevBlob k != Tab.get [] s.mgmt.blobs k).foldl
    (fun s k => s.buffer (cls k) k 0 (some (Tab.get [] g.prevBlob k))) s1
  s2.modSet p fun g => { g with st := .pending }

/-! ### Validation (R506; 02 R73; 10 R360; 13 R461; 14 R480) -/

/-- Two regions share a byte. -/
def Region.meets (a b : Region) : Bool := decide (a.base < b.base + 2 ^ b.size) && decide (b.base < a.base + 2 ^ a.size)

/-- The stack positions that a region covers. -/
def Region.stacks (r : Region) : List Nat :=
  (upTo ((r.base + 2 ^ r.size - 1) / 2 ^ 37 + 1)).filter fun k => decide (r.base / 2 ^ 37 ≤ k)

def State.clustersOd (s : State) (p : Nat) : Nat := s.odNat (0x2010 + p) 2 % 2 ^ 48
def State.partEnable (s : State) (p : Nat) : Bool := (s.odNat (0x2010 + p) 1).testBit 0

/-- The entries of partition `p`'s set that fail for a reason; the values to be validated are in force in `s`. -/
def State.failures (s : State) (p reason : Nat) : List (Nat × Nat) :=
  let all := s.regions
  let mine := all.filter fun r => r.owner == p
  let slots (sub : Nat) (bad : Region → Bool) : List (Nat × Nat) := (mine.filter bad).map fun r => (0x2100 + r.slot, sub)
  let rings := (upTo 16).filter fun r => s.ringOn (ringKey p r)
  let base := s.odNat (0x2600 + p) 4
  let n := s.odNat (0x2600 + p) 5
  let own (k : Nat) : Bool := mine.any fun r => r.holds (base + 2 ^ 21 * k)
  match reason with
  | 1 => slots 2 fun r => all.any fun q => q.meets r && (q.owner != p || decide (q.slot < r.slot))
  | 2 => slots 2 fun r => r.base % 2 ^ r.size != 0
  | 3 => ((upTo 16).filter fun r =>
      let c := s.odNat (0x2100 + 16 * p + r) 1
      c.testBit 0 && (decide (nbits c 13 8 < 21) || decide (41 < nbits c 13 8))).map fun r => (0x2100 + 16 * p + r, 1)
  | 4 => slots 2 fun r => r.stacks.any fun k => !s.fitted k || s.fenced k
  | 5 => if (upTo 16).any fun q => q != p && (s.clustersOd p &&& s.clustersOd q) != 0 then [(0x2010 + p, 2)] else []
  | 6 => (rings.filter fun r => !(s.clustersOd p).testBit (s.ringCluster (ringKey p r))).map fun r => (0x2400 + ringKey p r, 2)
  | 8 =>
    if n = 0 then [] else if base % 2 ^ 21 ≠ 0 || !own 0 then [(0x2600 + p, 4)]
    else if (upTo n).any fun k => !own k then [(0x2600 + p, 5)] else []
  | 9 => if s.partEnable p && s.clustersOd p == 0 then [(0x2010 + p, 1)] else []
  | 10 => slots 2 fun r => decide (r.base < s.systemArea.1 + s.systemArea.2) && decide (s.systemArea.1 < r.base + 2 ^ r.size)
  | 11 => rings.flatMap fun r =>
      let k := ringKey p r
      (if s.odNat (0x2400 + k) 1 % 4096 ≠ 0 then [(0x2400 + k, 1)] else [])
        ++ (let z := nbits (s.ringCtrl k) 11 8
            if z < 4 || 12 < z then [(0x2400 + k, 2)] else [])
  | _ => []

/-- The lowest of some entries. -/
def lowest (l : List (Nat × Nat)) : Option (Nat × Nat) :=
  l.foldl (fun b e => match b with
    | none => some e
    | some a => if odKey e.1 e.2 < odKey a.1 a.2 then some e else some a) none

/-- The first reason that applies and the entry that CFG_FAIL names. -/
def State.validate (s : State) (p : Nat) : Option (Nat × Nat × Nat) :=
  (upTo 12).findSome? fun reason => (lowest (s.failures p reason)).map fun e => (e.1, e.2, reason)

/-- Windows of the module set that break R480, the pending values being in force in `s`. -/
def State.winFailures (s : State) : List (Nat × Nat) :=
  (upTo s.build.ioDies).flatMap fun n =>
    let on := (upTo 16).filter fun k => s.winEnabled n k
    let pva (k : Nat) := s.odNat (winIndex n k) 2
    on.flatMap fun k =>
      if s.odNat (winIndex n k) 3 = 0 then [(winIndex n k, 3)]
      else if 2 ^ 56 < pva k + s.winSize n k
          || ((s.winCtrl n k).testBit 1 && on.any fun j => j != k && (s.winCtrl n j).testBit 1
            && decide (pva k < pva j + s.winSize n j) && decide (pva j < pva k + s.winSize n k)) then [(winIndex n k, 2)]
      else []

/-! ### The module set's QSC writes (14 R479; R501) -/

/-- The partition whose quiesce applies a window's writes. -/
def State.winBoundary (s : State) (index : Nat) : Nat :=
  match s.mgmt.pend.find? fun e => e.key == odKey index 1 with
  | some e => Word.bits e.val 11 8
  | none => nbits (s.odNat index 1) 11 8

def isWindow (index : Nat) : Bool := decide (0x6040 ≤ index) && decide (index < 0x60A0)

/-- The module set at the quiesce of partition `p`. -/
def State.moduleBoundary (s : State) (p : Nat) : State :=
  let due := s.mgmt.pend.filter fun e => e.set_ == 16 && e.cls == 2
    && (!isWindow (e.key / 256) || s.winBoundary (e.key / 256) == p)
  if due = [] then s
  else
    match lowest (s.applyPends due).winFailures with
    | some e => s.failSet 16 (e.1, e.2, 7)
    | none => (s.commitSet 16 due).endCommit 16 true

/-! ### The quiesce (R511, R512) -/

/-- Entries of the partition's clusters that have completed or will complete DISCARDED. -/
def State.discarded (s : State) (p : Nat) : Nat :=
  ((s.clustersOf p).map fun c =>
    (((s.cluster c).queues.map fun kq => (kq.2.entries.filter fun e =>
      (match e.compl with
        | some x => x.1 == 9
        | none => false) || e.aborting == some 9).length).sum)).sum

/-- Count what a step of the quiesce discards. -/
def State.counting (s : State) (p : Nat) (f : State → State) : State :=
  let s1 := f s
  s1.modPart p fun x => { x with discards := x.discards + (s1.discarded p - s.discarded p) }

/-- Step 1: a write of 1 to QUIESCE. -/
def State.startQuiesce (s : State) (p : Nat) : State :=
  if (s.part p).st = 1 then s
  else
    let s1 := s.modPart p fun x => { x with
      st := 1, fromUnused := x.st == 0, limited := false, discards := 0, filling := false, changed := false }
    s1.counting p fun s => (s.clustersOf p).foldl (fun s c => s.closeQueues c) s

/-- QUIESCE_DRAIN_LIMIT: what still runs is stopped. -/
def execQuiesceDrainLimit (p : Nat) (s : State) : Out :=
  ifUnit s (decide (p < 16)) <|
    when' ((s.part p).st == 1 && !(s.part p).fromUnused && !(s.part p).limited) s
      ((s.modPart p fun x => { x with limited := true }).counting p fun s =>
        (s.clustersOf p).foldl (fun s c => s.stopDispatched c 9) s).settle

/-- A cluster is cleared (10 R330): the panel and accumulator buffers are not among what clearing names. -/
def Cluster.clear (k : Cluster) (p : Option Nat) : Cluster :=
  { part := p
    core := { st := if p.isSome then .halted else .unassigned }
    tiles := Tab.mapV (fun t => { pbuf := t.pbuf, cbuf := t.cbuf, rnd := t.rnd, draws := t.draws }) k.tiles
    vecRnd := k.vecRnd
    vecDraws := k.vecDraws
    closed := p.isSome }

/-- Clusters leave and join (R511 step 3). -/
def State.assign (s : State) (p : Nat) : State :=
  let new := if s.partEnable p then s.clustersOd p else 0
  (upTo 48).foldl (fun s c =>
    let mine := (s.cluster c).part == some p
    if mine && !new.testBit c then s.modCluster c fun k => k.clear none
    else if !mine && new.testBit c then s.modCluster c fun k => k.clear (some p)
    else s) s

/-- A ring that is enabled, or changes its base or size, starts anew (10 R366). `old` has the former values. -/
def State.renewRings (s old : State) (p : Nat) : State :=
  (upTo 16).foldl (fun s r =>
    let k := ringKey p r
    if s.ringOn k && (!old.ringOn k || s.odVal (0x2400 + k) 1 != old.odVal (0x2400 + k) 1 || s.ringSize k != old.ringSize k) then
      s.modRing p r fun g => { g with head := 0, tail := 0, stopped := false }
    else s) s

/-- Stacks on which the partition owns a region and that have lost segments (03 R108). -/
def State.toFill (s : State) (p : Nat) : List Nat :=
  (upTo 16).filter fun k =>
    s.fitted k && !s.fenced k && (s.regions.any fun r => r.owner == p && r.stacks.contains k)
      && ((s.stk k).lost != 0 || (upTo 64).any fun c => (s.chan (chanKey k c)).lost != 0)

/-- Step 4: the partition reopens. -/
def State.reopen (s : State) (p : Nat) (ok : Bool) : State :=
  let x := s.part p
  let st := if ok then (if s.partEnable p then 2 else 0) else if x.fromUnused then 0 else 2
  let s1 := s.setPart p { st := st, dumpAt := x.dumpAt }
  ((s1.clustersOf p).foldl (fun s c => s.modCluster c fun k => { k with closed := false }) s1).retryHeld

/-- The apply has come into force: the version counts, and the partition reopens. -/
def State.endApply (s : State) (p : Nat) : State := (s.endCommit p (s.part p).changed).reopen p true

/-- DISCARDS and the QUIESCE_DISCARD entry. -/
def State.noteDiscards (s : State) (p : Nat) : State :=
  let n := (s.part p).discards
  if n = 0 then s
  else
    (s.bump (0x2010 + p) 0xD n 32).log [pack [(56, 0x64), (52, 15), (47, p)], 0, pack [(32, n % 2 ^ 32)]]

/-- QUIESCE_APPLY: the drain has ended; the set is validated and applied, or fails and the partition goes on. -/
def execQuiesceApply (p : Nat) (s : State) : Out :=
  ifUnit s (decide (p < 16)) <|
    let x := s.part p
    when' (x.st == 1 && !x.filling && (x.fromUnused || (s.clustersOf p).all fun c => !s.working c)) s <|
      let s1 := s.noteDiscards p
      let due := s1.mgmt.pend.filter fun e => e.set_ == p && e.cls == 2
      match (s1.applyPends due).validate p with
      | some f => ((s1.failSet p f).moduleBoundary p).reopen p false
      | none =>
        let s2 := s1.commitSet p due
        let s3 := ((s2.assign p).renewRings s1 p).modPart p fun x => { x with changed := due != [] }
        let s4 := s3.moduleBoundary p
        if x.fromUnused && s4.partEnable p && s4.toFill p != [] then s4.modPart p fun x => { x with filling := true }
        else s4.endApply p

/-- The row that a physical row of a bank stands for. -/
def State.logicalRow (s : State) (mbn prow : Nat) : Option Nat :=
  if prow < 32768 then some prow
  else (s.mem.spares.find? fun x => x.mbn == mbn && s.physRow mbn x.row == prow).map fun x => x.row

/-- Fill the lost segments of a stack with poisoned columns: those are what an unlisted column reads as. -/
def State.fillStack (s : State) (k : Nat) : State :=
  let s1 : State := { s with mem := { s.mem with dram := s.mem.dram.filter fun e =>
    let mbn := e.1 / 64 / 32784
    mbn / 1024 != k || (match s.logicalRow mbn (e.1 / 64 % 32784) with
      | some row => !s.isLost mbn row
      | none => true) } }
  (upTo 64).foldl (fun s c => s.modChan (chanKey k c) fun x => { x with lost := 0 })
    (s1.modStk k fun x => { x with lost := 0 })

/-- POISON_FILL_COMPLETE (03 R108). -/
def execPoisonFillComplete (p : Nat) (s : State) : Out :=
  ifUnit s (decide (p < 16)) <|
    when' ((s.part p).st == 1 && (s.part p).filling) s (((s.toFill p).foldl State.fillStack s).endApply p)

/-! ### Refresh windows (03 R629) -/

/-- A stack takes a REF value. -/
def StackC.take (k : StackC) (sub v : Nat) : StackC :=
  match sub with
  | 4 => { k with k := v }
  | 5 => { k with tokens := v }
  | 6 => { k with reserve := v }
  | 7 => { k with postpone := v }
  | _ => k

/-- REFRESH_WINDOW: the refresh-window timer of a stack whose controller's clock runs expires: pending REF values take
effect in the stack (03 R629); when the last stack has taken a value it is in
force. -/
def execRefreshWindow (stk : Nat) (s : State) : Out :=
  ifUnit s (s.fitted stk) <|
    when' (s.stackOn stk && !(s.stk stk).nap) s <|
      let mine := s.mgmt.pend.filter fun e => e.cls == 1 && e.todo.getLsbD stk
      let s1 := mine.foldl (fun s e => s.modStk stk fun k => k.take (e.key % 256) e.val.toNat) s
      let s2 := s1.setPend (s1.mgmt.pend.map fun e =>
        if e.cls = 1 then { e with todo := e.todo &&& ~~~BitVec.ofNat 16 (2 ^ stk) } else e)
      let done := s2.mgmt.pend.filter fun e => e.cls == 1 && (e.todo &&& ~~~s2.mem.fenced) == 0
      if done = [] then s2 else (s2.commitSet 16 done).endCommit 16 true

end Sys2Proof.Machine
end

