-- ==== Sys2Proof/Machine/Reset.lean ====
section
/-! DEFINITION. Resets, crust starts and the start of the main domains (17 R568 to R584; 18 R607 to R610). -/

namespace Sys2Proof.Machine

/-! ### What every reset does (17 R574) -/

/-- A fresh, non-zero incarnation (12 R431). -/
def State.newIncarnation (s : State) : State :=
  let v := (Config.random s.free).toNat % 2 ^ 32
  { s.draw with fab := { s.draw.fab with incarnation := BitVec.ofNat 32 (if v = 0 then 1 else v) } }

/-- A session closes (17 R592, R598): 1 opened, 2 closed, 3 idle. -/
def State.endSession (s : State) (x : Session) (detail : Nat) : State :=
  ({ s with mgmt := { s.mgmt with sessions := s.mgmt.sessions.filter fun y => y.path != x.path } }).crustEvent 0x85 detail
    x.sid 0 x.path x.role

/-- Sessions of a path that a reset has disabled close (15 R531). -/
def State.closeDisabled (s : State) : State :=
  (s.mgmt.sessions.filter fun x =>
    if x.path = 6 then s.odNat 0x8010 4 == 0 else s.odNat 0x8010 1 == 0).foldl (fun s x => s.endSession x 2) s

/-- The dictionary at a reset: pending RST writes come into force, RST entries keep their values, every other entry
takes its default and every other pending write is lost (15 R502, R504; log entry 24). -/
def State.dictReset (s : State) : State :=
  let rst := s.mgmt.pend.filter fun e => e.cls == 4
  let nv := rst.foldl (fun t e => if e.blob.isNone then Tab.put t e.key e.val else t) s.mgmt.nv
  let nvBlob := rst.foldl (fun t e => match e.blob with
    | some b => Tab.put t e.key b
    | none => t) s.mgmt.nvBlob
  let s1 : State := { s with
    dumps := []
    copies := none
    mgmt := { s.mgmt with
      od := []
      blobs := nvBlob
      pend := []
      nv := nv
      nvBlob := nvBlob
      sets := []
      wins := []
      latch4 := []
      w1done := []
      parts := [] } }
  nv.foldl (fun s kv => s.odPut (kv.1 / 256) (kv.1 % 256) kv.2) s1

/-- What every kind of reset does beside its own row: the main domains' state goes, the memory is `m`. -/
def State.resetCommon (s : State) (m : Mem) : State :=
  let s1 : State := { s.clearMain m with
    power := s.power.off
    therm := { life := s.therm.off.life, trims := s.therm.trims, osc := s.therm.osc }
    test := {}
    trust := { s.trust with
      tested := false
      joinNonce := none
      upd := if s.trust.upd = 1 then 0 else s.trust.upd
      meas := (s.trust.meas.set 4 (List.replicate 64 0)).set 5 (List.replicate 64 0) } }
  s1.dictReset.newIncarnation

/-! ### Module resets (17 R574 to R576) -/

/-- A module reset, or a preserving reset. -/
def State.moduleReset (s : State) (preserve : Bool) : State :=
  let old := s.crust.svc
  let s1 := s.resetCommon (if preserve then s.keepStacks else s.mem.off)
  let s2 := State.closeDisabled { s1 with crust := { s1.crust with
    svc := .standby, startHeld := false, resets := s1.crust.resets + 1, resetting := if preserve then 2 else 1 } }
  let s3 := if s2.odNat 0x8060 2 = 0 && s2.mayStart then s2.startUp else s2
  ((s3.crustEvent 0x82 (if preserve then 2 else 1) s3.crust.resets (s3.fab.incarnation.setWidth 64))).svcFrom old

/-- Under the starter's recovery service only a reset that restarts the crust has an effect (17 R572). -/
def State.moduleResettable (s : State) : Bool := s.power.aux && !s.trust.starter

/-- A preserving reset is accepted after an orderly stop that completed, or in SERVICE while every partition is UNUSED
(17 R575). -/
def State.mayPreserve (s : State) : Bool :=
  (s.crust.svc == .recovery && s.therm.stopStep == 5) || (s.crust.svc == .service && (upTo 16).all s.unused)

/-- MOD_RESET_N_ASSERT (18 R610). -/
def execModResetNAssert (s : State) : Out :=
  when' (!s.crust.modReset) s <|
    let s1 : State := { s with crust := { s.crust with modReset := true } }
    if !s1.moduleResettable then s1
    else
      match s1.crust.svc with
      | .standby => s1
      | .starting =>
        if s1.crust.resetting = 2 then s1.moduleReset false
        else
          let off := s1.railsOff
          State.setSvc { off with crust := { off.crust with resetting := 0 } } .standby
      | _ => s1.moduleReset false

/-- MOD_RESET_N_RELEASE (18 R610). -/
def execModResetNRelease (s : State) : Out :=
  when' s.crust.modReset s <|
    let s1 : State := { s with crust := { s.crust with modReset := false } }
    if s1.power.aux then s1.autoStart else s1

/-! ### Firmware slots (17 R580 to R582) -/

/-- Fields of an image's header. -/
def imgField (b : Bytes) (hi lo : Nat) : Nat := nbits (ofLeBytes (b.take 32)) hi lo
def imgSvn (b : Bytes) : Nat := imgField b 15 8
def imgBuild (b : Bytes) : Word := BitVec.ofNat 64 (imgField b 127 64)
/-- Header and body. -/
def imgBody (b : Bytes) : Bytes := b.take (32 + imgField b 63 32)

/-- The image is bootable (17 R581): its form, its signature, its key and its security version. -/
def State.imgOk (s : State) (b : Bytes) : Bool :=
  let key := imgField b 23 16
  decide (b.length ≤ 2 ^ 24) && b.length == 32 + imgField b 63 32 + 29792 && imgField b 7 0 == 1
    && imgField b 31 24 == 0 && imgField b 255 128 == 0 && decide (imgSvn b ≤ 63) && decide (key ≤ 3)
    && !s.trust.revoked.getLsbD key && decide (s.trust.fuseSvn ≤ imgSvn b)
    && Config.slhVerify (Config.firmwareKey key) (imgBody b) (b.drop (imgBody b).length)

/-- The slot is bootable. The image that the module is delivered with stands as an empty one (log entry 9). -/
def State.slotOk (s : State) (x : FwSlot) : Bool :=
  if x.img = [] then (x.st == 1 || x.st == 3) && decide (s.trust.fuseSvn ≤ x.svn) else s.imgOk x.img

def State.slot (s : State) (i : Nat) : FwSlot := s.trust.slots.getD i {}
def State.setSlot (s : State) (i : Nat) (x : FwSlot) : State :=
  { s with trust := { s.trust with slots := s.trust.slots.set i x } }

/-- FW_EVENT (17 R598). -/
def State.fwEvent (s : State) (detail i : Nat) : State := s.crustEvent 0x84 detail (s.slot i).svn (BitVec.ofNat 64 i)

/-- Try slots in turn: the first bootable one runs, one that fails verification becomes INVALID. -/
def State.tryBoot (s : State) : List Nat → State
  | [] => { s with trust := { s.trust with starter := true } }
  | i :: t =>
    let x := s.slot i
    if s.slotOk x then
      let s1 := s.setSlot i { x with tried := x.tried || x.st == 2 }
      { s1 with trust := { s1.trust with running := i, starter := false } }
    else (s.setSlot i { x with st := 4 }).tryBoot t

/-- The starter's choice (17 R582): a trial not yet tried, the active slot, a valid one. -/
def State.boot (s : State) : State :=
  let slots := [0, 1]
  let spent := slots.filter fun i => (s.slot i).st == 2 && (s.slot i).tried
  let s1 := spent.foldl (fun s i => s.setSlot i { s.slot i with st := 4 }) s
  let of (st : Nat) := slots.filter fun i => (s1.slot i).st == st
  s1.tryBoot (of 2 ++ of 3 ++ of 1)

/-- Measurements of a crust start (17 R587). -/
def State.measureCrust (s : State) : State :=
  let s0 : State := { s with trust := { s.trust with meas := List.replicate 6 (List.replicate 64 0) } }
  let img := s0.runningSlot.img
  let s1 := s0.extend 0 Config.starterRom
  let s2 := if s1.trust.starter then s1 else s1.extend 1 (if img = [] then Config.factoryImage else imgBody img)
  s2.extend 3 (Config.measBytes 3 [BitVec.ofNat 64 s.build.gradeB.toNat, BitVec.ofNat 64 (nbits s.build.tiles.toNat 63 0),
    BitVec.ofNat 64 (nbits s.build.tiles.toNat 127 64), BitVec.ofNat 64 (nbits s.build.tiles.toNat 191 128),
    BitVec.ofNat 64 s.trust.fuseSvn, s.trust.revoked.setWidth 64])

/-! ### Crust starts (17 R574, R577, R582, R599) -/

/-- An update that was under way leaves its slot INVALID (17 R583). -/
def State.endUpdate (s : State) : State :=
  let other := 1 - s.trust.running
  let s1 := if s.trust.upd = 1 || s.trust.upd = 2 then s.setSlot other { s.slot other with st := 4, img := [] } else s
  { s1 with trust := { s1.trust with upd := 0 } }

/-- The crust starts: 1 auxiliary power, 2 requested, 3 watchdog, 4 lockstep. A crust reset keeps the volatile log, and
its numbers go on (log entry 25). Only a cold start reads the straps. -/
def State.crustStart (s : State) (detail : Nat) (straps : Option (BitVec 24)) : State :=
  let s0 := s.endUpdate.resetCommon s.mem.off
  let moved := match straps with
    | some v => v != s0.crust.strapsRec
    | none => s0.trust.moved
  let oldStraps := s0.crust.strapsRec
  let s1 : State := { s0 with
    crust := { s0.crust with
      time := 0
      svc := .standby
      boot := wrapAdd 32 s0.crust.boot 1
      resets := 0
      lastReset := detail
      log := if detail = 2 then s0.crust.log else []
      logSeq := if detail = 2 then s0.crust.logSeq else 0
      straps := straps.getD s0.crust.straps
      strapsRec := straps.getD s0.crust.strapsRec
      resetting := 0
      startHeld := false
      limit := []
      counts := [] }
    trust := { s0.trust with moved := moved, attSt := 0, nonce := [], report := [] }
    mgmt := { s0.mgmt with sessions := [], chals := [], authC := {}, authM := {} } }
  let spent := [0, 1].filter fun i => (s1.slot i).st == 2 && (s1.slot i).tried
  let s2 := s1.boot.measureCrust
  let s3 : State := { s2 with crust := { s2.crust with svc := if s2.trust.starter then .recovery else .standby } }
  let s4 := s3.crustEvent 0x81 detail s3.crust.boot (BitVec.ofNat 64 (256 * s3.trust.running + s3.runningSlot.svn))
  let s5 := if straps.isSome && moved then
      s4.crustEvent 0x87 0 0 (pack [(24, oldStraps.toNat), (0, s4.crust.straps.toNat)]) else s4
  (spent.foldl (fun s i => s.fwEvent 5 i) s5).autoStart

/-- COLD_START: auxiliary power is applied. With an entropy source that fails its health test the start stops before STANDBY:
the crust does not come up until the next cold start (17 R570; log entry 146). -/
def execColdStart (straps : BitVec 24) (healthy : Bool) (s : State) : Out :=
  when' (!s.power.aux && healthy) s
    (State.crustStart { s with power := { s.power with aux := true } } 1 (some straps))

/-- LOCKSTEP_MISMATCH (17 R569): a fault reset. -/
def execLockstepMismatch (s : State) : Out := when' s.power.aux s (s.crustStart 4 none)

/-- CRUST_WATCHDOG_EXPIRY (17 R569). -/
def execCrustWatchdogExpiry (s : State) : Out := when' s.power.aux s (s.crustStart 3 none)

/-- AUXILIARY_POWER_LOSS (17 R583): the crust stops; what its flash and fuses hold stays, pending RST writes among it
(15 R502). -/
def execAuxiliaryPowerLoss (s : State) : Out :=
  when' s.power.aux s <|
    let s1 := s.endUpdate.railsOff
    { s1 with
      power := { s1.power with aux := false }
      crust := { s1.crust with svc := .standby, log := [], logSeq := 0, resetting := 0, limit := [], counts := [] }
      mgmt := { s1.mgmt with
        pend := s1.mgmt.pend.filter fun e => e.cls == 4
        sessions := []
        chals := []
        authC := {}
        authM := {} } }

/-! ### The start (17 R578, R579) -/

/-- Seed the LFSR of every fitted channel (03 R101). -/
def State.seedLfsrs (s : State) : State :=
  (upTo 1024).foldl (fun s k =>
    if s.fitted (k / 64) then
      let v := (Config.random s.free).toNat % 2 ^ 32
      s.draw.modChan k fun c => { c with lfsr := BitVec.ofNat 32 (if v = 0 then 1 else v) }
    else s) s

/-- The RST values of the 0x6000 and 0x8000 ranges that are in force (17 R587). -/
def State.measConfig (s : State) : Bytes :=
  let keys := [(0x6000, 1), (0x6000, 2), (0x6000, 3), (0x6000, 4), (0x6000, 5), (0x6000, 9), (0x6020, 1), (0x8010, 1),
    (0x8010, 2), (0x8010, 3), (0x8010, 4), (0x8010, 5), (0x8060, 2)]
  Config.measBytes 4 (keys.map fun k => s.odVal k.1 k.2) ++ Tab.get [] s.mgmt.blobs (odKey 0x6000 0xA)

/-- TRAINING_COMPLETE: stacks whose training failed are fenced; reserved areas are initialised and the module enters
SERVICE. -/
def execTrainingComplete (failed : BitVec 16) (s : State) : Out :=
  when' (s.crust.svc == .starting && s.power.main) s <|
    let f := failed &&& s.build.fitted
    let s1 : State := { s with mem := { s.mem with fenced := f }, crust := { s.crust with resetting := 0 } }
    let s2 := ((upTo 16).filter fun k => f.getLsbD k).foldl (fun s k => s.crustEvent 0x88 0 k 0) s1
    let s3 := s2.seedLfsrs.newIncarnation
    (((s3.setCtr 0x6000 0xB 0).extend 4 s3.measConfig)).setSvc .service

/-- START_FAIL: a rail does not regulate, a PLL does not lock or a UCIe link does not train. The next start needs a START
write, or a reset (17 R579; log entry 139). -/
def execStartFail (step which : Nat) (s : State) : Out :=
  when' (s.crust.svc == .starting) s <|
    let off := s.railsOff
    let s1 : State := { off with crust := { off.crust with svc := .standby, resetting := 0, startHeld := true } }
    (s1.crustEvent 0x89 step which 0).svcFrom .starting

end Sys2Proof.Machine
end

