-- ==== Sys2Proof/Machine/Trust.lean ====
section
/-! DEFINITION. Firmware updates, attestation reports and the test state (17 R583 to R589, R593 to R595). -/

namespace Sys2Proof.Machine

/-! ### Firmware updates (17 R583, R584) -/

/-- The slot that does not run. -/
def State.otherSlot (s : State) : Nat := 1 - s.trust.running

/-- FW_STAGE opens: the slot that is not running is erased. -/
def State.openStage (s : State) : State :=
  let s1 := s.setSlot s.otherSlot {}
  { s1 with trust := { s1.trust with upd := 1 } }

/-- An open FW_STAGE blob is abandoned: nothing is staged. -/
def State.dropStage (s : State) : State := { s with trust := { s.trust with upd := 0 } }

/-- FW_STAGE closes: the image stands in the slot. -/
def State.closeStage (s : State) (b : Bytes) : State :=
  let s1 := s.setSlot s.otherSlot { st := 0, img := b, svn := imgSvn b, build := imgBuild b }
  ({ s1 with trust := { s1.trust with upd := 0 } } : State).fwEvent 1 s.otherSlot

/-- FW_VERIFY_COMPLETE. -/
def execFwVerifyComplete (s : State) : Out :=
  when' (s.trust.upd == 2) s <|
    let i := s.otherSlot
    let x := s.slot i
    let ok := s.imgOk x.img
    let s1 := s.setSlot i { x with st := if ok then 2 else 4, tried := false }
    ({ s1 with trust := { s1.trust with upd := if ok then 3 else 4 } } : State).fwEvent (if ok then 2 else 3) i

/-- FW_CONFIRM of a running TRIAL slot. -/
def State.confirm (s : State) : State :=
  let i := s.trust.running
  let x := s.slot i
  let o := s.slot s.otherSlot
  let fuse := max s.trust.fuseSvn x.svn
  let s1 := s.setSlot i { x with st := 3 }
  let s2 := if o.st = 1 || o.st = 3 then s1.setSlot s.otherSlot { o with st := if o.svn < fuse then 4 else 1 } else s1
  let s3 : State := { s2 with trust := { s2.trust with fuseSvn := fuse, upd := if s2.trust.upd = 3 then 0 else s2.trust.upd } }
  let s4 := s3.fwEvent 4 i
  if s.trust.fuseSvn < fuse then s4.fwEvent 6 i else s4

/-! ### Attestation (17 R588, R589) -/

/-- The body of a report. -/
def State.reportBody (s : State) (nonce : Bytes) : Bytes :=
  let flags := packNat [bitIf 0 (s.runningSlot.st == 2), bitIf 1 s.trust.tested, bitIf 2 s.trust.moved]
  [1, BitVec.ofNat 8 flags, BitVec.ofNat 8 s.crust.svc.code, BitVec.ofNat 8 s.trust.running,
      BitVec.ofNat 8 s.runningSlot.svn, BitVec.ofNat 8 s.trust.fuseSvn, 0, 0]
    ++ beBytes 4 s.fab.incarnation.toNat ++ beBytes 4 (s.odNat 0x6000 1) ++ beBytes 8 s.crust.time ++ fixLen 32 nonce
    ++ deviceKeyBytes ++ fixLen 32 s.build.serial ++ fixLen 16 s.orderCode
    ++ beBytes 8 (nbits s.build.tiles.toNat 63 0) ++ beBytes 8 (nbits s.build.tiles.toNat 127 64)
    ++ beBytes 8 (nbits s.build.tiles.toNat 191 128) ++ s.trust.meas.flatMap (fixLen 64)

/-- The report: body, signature, certificate. -/
def State.report (s : State) (nonce : Bytes) : Bytes :=
  let b := s.reportBody nonce
  b ++ fixLen 49856 (Config.slhSign b) ++ s.deviceCert

/-- ATTEST_REPORT_READY: a join report is sent first; otherwise the management report becomes readable. -/
def execAttestReportReady (s : State) : Out :=
  match s.trust.joinNonce with
  | some n =>
    let s1 : State := { s with trust := { s.trust with joinNonce := none } }
    go s (match s1.allUp.head? with
    | some p => s1.sendMsg 0x22 p (s1.report n)
    | none => s1)
  | none =>
    when' (s.trust.attSt == 1) s
      { s with trust := { s.trust with report := s.report s.trust.nonce, attSt := 2 } }

/-- A nonce starts a report and abandons one in progress. -/
def State.attest (s : State) (nonce : Bytes) : State := { s with trust := { s.trust with nonce := nonce, attSt := 1 } }

/-! ### Locks (15 R529) -/

def State.locks (s : State) : Nat := s.odNat 0x8000 1

/-- The values of every RWL entry of a lock group (17 R587). -/
def State.groupValues (s : State) (g : Nat) : List Word :=
  (odRows.filter fun r => r.acc == .rwl && r.base / 0x1000 == g).flatMap fun r =>
    (upTo r.n).flatMap fun i =>
      if !s.odFits (r.base + i) then []
      else
        (upTo r.nsub).flatMap fun j =>
          if isBlob r.ty then wordsOfBytes (s.odBlob (r.base + i) (r.sub + j)) else [s.odVal (r.base + i) (r.sub + j)]

/-- Set lock groups: a 0 has no effect. Each lock set extends MEAS5. -/
def State.setLocks (s : State) (v : Nat) : State :=
  let new := (upTo 16).filter fun g => v.testBit g && !s.locks.testBit g
  new.foldl (fun s g => s.extend 5 (Config.measBytes 5 (BitVec.ofNat 64 g :: s.groupValues g)))
    (s.odPut 0x8000 1 (BitVec.ofNat 64 (s.locks ||| (v % 2 ^ 16))))

/-! ### Test (17 R593 to R595) -/

/-- TEST_UNLOCK is accepted: STANDBY, an OWNER session, a valid signature. -/
def State.unlockOk (s : State) (owner : Bool) (sig : Bytes) : Bool :=
  s.crust.svc == .standby && owner
    && Config.slhVerify Config.testKey (s.odBlob 0x8020 2 ++ leBytes 4 s.fab.incarnation.toNat) sig

/-- The module enters TEST (R593). -/
def State.enterTest (s : State) : State :=
  let s1 := (s.odPut 0x8000 1 (BitVec.ofNat 64 (s.locks % 2 ^ 15))).extend 5 (Config.measBytes 5 [])
  let s2 : State := { s1 with trust := { s1.trust with tested := true }, crust := { s1.crust with svc := .test } }
  (s2.crustEvent 0x8A 0 0 0).svcFrom .standby

/-- TEST_POWER: 0 switches the rails off; a higher level is reached by TEST_POWER_LEVEL_REACHED. -/
def State.testLevel (s : State) (v : Nat) : State :=
  let s0 := s.odPut 0xF000 1 (BitVec.ofNat 64 v)
  let s1 : State := { s0 with test := { s0.test with power := v } }
  if v = 0 then
    let s2 := s1.railsOff
    { s2 with test := { s2.test with step := 0 } }
  else if !s1.power.main then
    if s1.mayStart then { s1.railsOn with test := { s1.test with step := 0 } } else s1
  else if v = 1 && s1.test.step = 3 then { s1 with test := { s1.test with step := 2 } }
  else s1

/-- TEST_POWER_LEVEL_REACHED: 1 rails, 2 PLLs and links, 3 memory trained, 15 failed. -/
def execTestPowerLevelReached (level : Nat) (s : State) : Out :=
  when' (s.crust.svc == .test && s.power.main
      && (level == 15 || (decide (1 ≤ level) && decide (level ≤ s.test.power + 1)))) s
    (let s1 : State := { s with test := { s.test with step := level } }
     if level = 2 then s1.fuseSpares else if level = 3 then s1.seedLfsrs else s1)

/-- The level that TEST_POWER 1 or 2 stands for has been reached. -/
def State.testAt (s : State) (n : Nat) : Bool := decide (n + 1 ≤ s.test.step) && s.test.step != 15

/-- MTEST_CTRL with START starts a pattern test. -/
def State.startMtest (s : State) (stk : Nat) (v : Nat) : State :=
  let s1 := s.odPut (0xF010 + stk) 1 (BitVec.ofNat 64 v)
  if v.testBit 0 then
    { s1 with test := { s1.test with
      mtest := Tab.set 0 s1.test.mtest stk 1, patt := Tab.put s1.test.patt stk (nbits v 7 4, nbits v 15 8) } }
  else s1

/-- MTEST_COMPLETE: how many columns failed is the DRAM's, so it is a free value; the first one lies in the stack. -/
def execMtestComplete (stk : Nat) (s : State) : Out :=
  ifUnit s (s.fitted stk) <|
    when' (Tab.get 0 s.test.mtest stk == 1) s <|
      let fails := Config.freeNat s.free % (2 ^ 31 + 1)
      let first := if fails = 0 then 0 else stk * 2 ^ 37 + 64 * (Config.freeNat (s.free + 1) % 2 ^ 31)
      let s1 := (s.draw.draw.setCtr (0xF010 + stk) 3 fails).setCtr (0xF010 + stk) 4 first
      { s1 with test := { s1.test with mtest := Tab.set 0 s1.test.mtest stk (if fails = 0 then 2 else 3) } }

/-- TILE_BIST with START starts a tile's self-test. -/
def State.startBist (s : State) (v : Nat) : State :=
  let s1 := s.odPut 0xF100 1 (BitVec.ofNat 64 v)
  if v.testBit 8 then { s1 with test := { s1.test with bist := 1, bistTile := v % 256 } } else s1

/-- TILE_BIST_COMPLETE. -/
def execTileBistComplete (passed : Bool) (s : State) : Out :=
  when' (s.test.bist == 1) s
    { s with test := { s.test with bist := if !s.tilePresent s.test.bistTile then 4 else if passed then 2 else 3 } }

/-- PORT_PRBS: a 1 restarts the error count. -/
def State.prbs (s : State) (n v : Nat) : State :=
  let s1 := s.odPut (0xF200 + n) 2 (BitVec.ofNat 64 v)
  if v = 1 then s1.setCtr (0xF200 + n) 3 0 else s1

end Sys2Proof.Machine
end

