-- ==== Sys2Proof/Machine/Mgmt.lean ====
section
/-! DEFINITION. Paths and rights, writes of dictionary entries, the effects of the entries that act, and indirect
windows (15 R498 to R502, R514 to R518, R525 to R531; the entry tables of the chapters). -/

namespace Sys2Proof.Machine

/-! ### Paths and rights (15 R514, R515; 17 R582, R590) -/

/-- The session of a path. -/
def State.session (s : State) (path : Nat) : Option Session := s.mgmt.sessions.find? fun x => x.path == path

/-- The path exists in this build. -/
def State.pathFitted (s : State) (path : Nat) : Bool :=
  if path < 6 then s.cxlFitted path else decide (path ≤ 11) || path == 15

/-- MCTP is served; crumb is served (15 R531; 17 R582). -/
def State.mctpOn (s : State) : Bool := s.power.aux && (s.trust.starter || s.odNat 0x8010 4 == 1)
def State.crumbOn (s : State) : Bool := s.power.aux && !s.trust.starter && s.odNat 0x8010 1 == 1

/-- PLCA_NODE_ID is valid; otherwise the 10BASE-T1S PHY is silent (18 R609). -/
def State.plcaValid (s : State) : Bool := let v := s.odNat 0x8010 2; decide (1 ≤ v) && decide (v ≤ 254)

/-- Messages on MCTP or on crumb are heard. -/
def State.heard (s : State) (mctp : Bool) : Bool := mctp || s.plcaValid

/-- The path is present. -/
def State.pathOn (s : State) (path : Nat) : Bool :=
  if path < 6 then s.power.aux && s.cxlUp path
  else if path = 6 then s.mctpOn && (s.session 6).isSome
  else if path ≤ 10 then s.crumbOn && s.heard false && (s.session path).isSome
  else path == 15 && s.power.aux

/-- The path of the last access. -/
def State.lastPath (s : State) : Option Nat :=
  match s.mgmt.outs.head? with
  | some (.status q _ _) | some (.data q _) | some (.crumb q _) => some q
  | _ => none

/-- Of the accesses of one crust cycle the lower path comes first (15 R500). -/
def State.inOrder (s : State) (a : Acc) : Bool := !a.same || s.lastPath.all fun q => decide (q < a.path)

/-- The path is present and it is the access's turn. -/
def State.accOn (s : State) (a : Acc) : Bool := s.pathOn a.path && s.inOrder a

/-- The module's only IPv6 address: link-local, formed by modified EUI-64 from FIELD_MAC (15 R519). -/
def State.linkLocal (s : State) : BitVec 128 :=
  let m := s.build.fieldMac.toNat
  BitVec.ofNat 128 (packNat [(112, 0xFE80), (40, nbits m 47 24 ^^^ 0x20000), (24, 0xFFFE), (0, nbits m 23 0)])

/-- The UDP port of crumb, the MCTP message type and the PCI vendor ID (15 R519, R524). -/
def crumbPort : BitVec 16 := 47370
def mctpType : BitVec 8 := 0x7E
def mctpVendor : BitVec 16 := 0x1F3D

/-- A message on MCTP or on crumb reaches the module and is one that it accepts; every other is dropped (15 R519, R524). -/
def State.accepts (s : State) (mctp : Bool) (v : Carrier) : Bool :=
  s.heard mctp &&
    match v with
    | .udp _ dst => !mctp && dst == ⟨s.linkLocal, crumbPort⟩
    | .mctp _ t ven => mctp && t == mctpType && ven == mctpVendor

/-- The role of a path's session; the crust and hosts act under none. -/
def State.roleOf (s : State) (path : Nat) : Nat := ((s.session path).map Session.role).getD 0

/-- The partitions that a port's enabled windows name. -/
def State.hostPart (s : State) (n p : Nat) : Bool :=
  (upTo 16).any fun k => s.winEnabled n k && nbits (s.winCtrl n k) 11 8 == p

def isWinEntry (index : Nat) : Bool := decide (0xA300 ≤ index) && decide (index < 0xA30B)

/-- BAR2 of CXL port `n` may reach the entry. -/
def State.hostRights (s : State) (n index sub : Nat) (write : Bool) : Bool :=
  let p := setOf index
  s.odNat 0x8010 5 == 1 &&
    (if index < 0x1000 then false
    else if index < 0x2000 then !write
    else if index < 0x3000 then
      decide (p < 16) && s.hostPart n p
        && (!write || (index == 0x2010 + p && sub == 6) || (decide (0x2400 ≤ index) && decide (index < 0x2500)))
    else if index < 0x8000 then
      !write && (sub == 0 || (match s.odRow index sub with
        | some r => r.acc == .ro
        | none => true))
    else if index = 0xA000 then !write
    else if 0xA100 ≤ index && decide (index < 0xA130) then
      (match (s.cluster (index - 0xA100)).part with
        | some q => s.hostPart n q
        | none => false)
    else if 0xA200 ≤ index && decide (index < 0xA210) then s.hostPart n (index - 0xA200)
    else isWinEntry index)

/-- A session of this role may reach the entry. The starter's recovery service knows only what it needs. -/
def State.sessionRights (s : State) (role index sub : Nat) (write : Bool) : Bool :=
  if s.trust.starter then
    isWinEntry index || (decide (0x1000 ≤ index) && decide (index < 0x2000) && !write)
      || (index == 0x8050 && (sub == 6 || sub == 7)) || (index == 0x8060 && sub == 1)
  else if !write || role = 0 || isWinEntry index || (index == 0x8020 && sub == 4) then true
  else if role = 1 then
    !(decide (0x8000 ≤ index) && decide (index < 0x9000)) || (index == 0x8050 && decide (6 ≤ sub) && decide (sub ≤ 8))
      || (index == 0x8060 && sub == 1)
  else false

def State.rights (s : State) (path index sub : Nat) (write : Bool) : Bool :=
  if path = 15 then true
  else if isWinEntry index && index != 0xA300 + path then false
  else if path < 6 then s.hostRights path index sub write
  else path ≤ 10 && s.sessionRights (s.roleOf path) index sub write

/-! ### The status of a write (15 R497 to R499) -/

/-- A write that acts on a main-domain subsystem at once, or a value that lives there (15 R528). -/
def livesOutside (index sub : Nat) : Bool :=
  (decide (0x2010 ≤ index) && decide (index < 0x2020) && sub == 6)
    || (decide (0x2400 ≤ index) && decide (index < 0x2500) && sub == 5)
    || (decide (0x2600 ≤ index) && decide (index < 0x2610) && (sub == 6 || sub == 7 || sub == 10))
    || (index == 0x6000 && sub == 14) || ((index == 0x4000 || index == 0x5000) && sub == 5)
    || (decide (0xA100 ≤ index) && decide (index < 0xA130)) || (decide (0xA200 ≤ index) && decide (index < 0xA210) && sub == 3)

def State.notReady (s : State) (index sub : Nat) : Bool :=
  s.snapshot && (livesOutside index sub || (decide (0xF000 ≤ index) && s.crust.svc != .test))

/-- The entry discards or rolls back this set. -/
def setTrigger (index sub : Nat) : Option Nat :=
  if 0x2010 ≤ index && decide (index < 0x2020) && (sub == 10 || sub == 11) then some (index - 0x2010)
  else if index = 0x2000 && (sub == 5 || sub == 6) then some 16 else none

def State.busy (s : State) (r : OdRow) (index sub : Nat) : Bool :=
  (r.versioned && (s.cfgSet (setOf index)).st == .applying)
    || (match setTrigger index sub with
      | some p => (s.cfgSet p).st == .applying
      | none => false)

/-- Four distinct three-bit values. -/
def distinctPcp (v : Nat) : Bool := ((upTo 4).map fun g => nbits v (3 * g + 2) (3 * g)).Nodup

/-- The value is one that the entry accepts: its type and range (15 R497), and what its Meaning adds. -/
def State.inRange (s : State) (r : OdRow) (index sub : Nat) (v : Word) : Bool :=
  let n := v.toNat
  if r.ty = 6 then sext32 n == v
  else if index = 0x3020 && sub == 2 then n == 0 || (decide (5 ≤ n) && decide (n ≤ 10000))
  else if index = 0x6000 && sub == 4 then decide (n ≤ r.hi) && !n.testBit 8 && n.testBit 9
  else if index = 0x6000 && sub == 5 then decide (n ≤ r.hi) && distinctPcp n
  else if index = 0x7000 && sub == 1 then decide (r.lo ≤ n) && decide (n ≤ s.maxPower)
  else if 0xA100 ≤ index && decide (index < 0xA130) && sub == 49 then decide (Word.bits v 37 32 ≤ 47)
  else if isWinEntry index && sub == 1 then Word.bit v 39 || Word.bits v 2 0 == 0
  else if 0xF010 ≤ index && decide (index < 0xF020) then
    decide (n ≤ r.hi) && decide (nbits n 7 4 ≤ 4) && !(n.testBit 0 && nbits n 15 8 == 0)
  else if index = 0xF100 then decide (n ≤ r.hi) && decide (n % 256 ≤ 191)
  else decide (r.lo ≤ n) && decide (n ≤ r.hi)

/-- The blob is one that the entry accepts. -/
def blobInRange (index sub : Nat) (b : Bytes) : Bool :=
  if 0x2600 ≤ index && decide (index < 0x2610) then
    (if sub = 6 then b.length % 16 == 0
    else b.length % 4 == 0 && decide (b.length ≤ 4 * 4096) && (chunks 4 4096 b).all fun m => m.getD 3 0 == 0)
  else if index = 0x8020 || (0x8030 ≤ index && decide (index < 0x8033)) then b.length == 32
  else if index = 0x8050 then decide (b.length ≤ 2 ^ 24)
  else true

/-- Status codes (15 R499). -/
def stOk : Nat := 0
def stNoEntry : Nat := 1
def stNoAccess : Nat := 2
def stRange : Nat := 3
def stLocked : Nat := 4
def stSize : Nat := 5
def stNotReady : Nat := 6
def stRefused : Nat := 7
def stBusy : Nat := 8

/-- Whether an RWL or W1 entry is locked against the write. -/
def State.lockedFor (s : State) (r : OdRow) (index sub : Nat) : Bool :=
  (r.acc == .rwl && (s.locks.testBit (index / 0x1000) || (decide (0xF000 ≤ index) && s.crust.svc != .test)))
    || (r.acc == .w1 && s.mgmt.w1done.contains (odKey index sub))

/-- The first status that applies before the entry's own rules are asked. -/
def State.preStatus (s : State) (path index sub : Nat) (sizeOk : Bool) (v : Word) (blob : Option Bytes) : Nat :=
  if sub = 0 && s.odHighest index ≠ 0 then stNoAccess
  else
    match s.odRow index sub with
    | none => stNoEntry
    | some r =>
      if r.acc = .ro || !s.rights path index sub true then stNoAccess
      else if !sizeOk || isBlob r.ty != blob.isSome then stSize
      else if s.lockedFor r index sub then stLocked
      else if s.notReady index sub then stNotReady
      else if s.busy r index sub then stBusy
      else if !(match blob with
        | some b => blobInRange index sub b
        | none => s.inRange r index sub v) then stRange
      else stOk

/-! ### What entries do -/

/-- Reseed the rounding sources of a group (06 R216). -/
def State.reseed (s : State) (engines : Bool) : State :=
  if engines then
    { s with clusters := Tab.mapV (fun k => { k with
      tiles := Tab.mapV (fun t => { t with rnd := none }) k.tiles, vecRnd := none }) s.clusters }
  else { s with mem := { s.mem with banks := Tab.mapV (fun b => { b with rnd := none }) s.mem.banks } }

/-- Records of a PLACE_STAGE blob: partition virtual address and entry (13 R446). -/
def stageRecords : List Word → List (Word × Word)
  | a :: b :: t => (a, b) :: stageRecords t
  | _ => []

/-- A write of a window's own entries. -/
def State.setWin (s : State) (k : Nat) (w : Win) : State :=
  { s with mgmt := { s.mgmt with wins := Tab.set {} s.mgmt.wins k w } }

/-- The window names FW_STAGE with a blob open. -/
def Win.staging (w : Win) : Bool := w.blob.isSome && w.index == 0x8050 && w.sub == 6

/-- WIN_ADDR: the open blob is abandoned; mode 0 with OFFSET 0 opens one on a STRING or DOMAIN entry (15 R527).
Opening FW_STAGE while an update is under way is refused (17 R583). -/
def State.putWinAddr (s : State) (path k : Nat) (v : Word) : State × Nat :=
  let old := s.win k
  let s0 := if old.staging && s.trust.upd = 1 then s.dropStage else s
  let w : Win := { old with addr := v &&& 0xFFFFFF8000000000, off := Word.bits v 31 0, blob := none }
  let opens := !w.slots && w.off == 0 && isBlob (s.odType w.index w.sub)
  if !opens then (s0.setWin k w, stOk)
  else if w.index = 0x8050 && w.sub = 6 && s.rights path 0x8050 6 true then
    if s0.trust.upd = 1 || s0.trust.upd = 2 then (s0.setWin k w, stRefused)
    else (s0.openStage.setWin k { w with blob := some [] }, stOk)
  else (s0.setWin k { w with blob := some [] }, stOk)

/-- Class IMM entries with a value of their own: the plain store, or the action of the entry's chapter. -/
def State.actIdent (s : State) (path index sub : Nat) (v : Word) : Option (State × Nat) :=
  let n := v.toNat
  let on := n == 1
  let fire (t : State) : Option (State × Nat) := some (if on then t else s, stOk)
  if 0x2010 ≤ index && decide (index < 0x2020) then
    let p := index - 0x2010
    match sub with
    | 6 => fire (s.startQuiesce p)
    | 10 => fire (s.dropPend p)
    | 11 => if on && (s.cfgSet p).prevVer.isNone then some (s, stRefused) else fire (s.rollback p)
    | _ => none
  else if index = 0x2000 then
    match sub with
    | 5 => fire (s.dropPend 16)
    | 6 => if on && (s.cfgSet 16).prevVer.isNone then some (s, stRefused) else fire (s.rollback 16)
    | _ => none
  else if 0x2400 ≤ index && decide (index < 0x2500) && sub == 5 then
    fire (s.restartRing ((index - 0x2400) / 16) ((index - 0x2400) % 16))
  else if 0x2600 ≤ index && decide (index < 0x2610) then
    let p := index - 0x2600
    match sub with
    | 7 => fire (s.placeCommit p).retryHeld
    | 10 => if s.migRefused p v then some (s, stRefused) else some (s.migStart p v, stOk)
    | _ => none
  else if index = 0x4000 || index = 0x5000 then some (((s.odPut index sub v).reseed (index == 0x5000)), stOk)
  else if index = 0x6000 && sub == 14 then fire { s with fab := { s.fab with leaving := true } }
  else if index = 0x7001 && sub == 1 then
    let s1 := s.odPut index sub v
    some (if on && s.odNat 0x7001 1 = 0 then { s1 with power := { s1.power with lSeen := s1.limitL } } else s1, stOk)
  else if index = 0x8000 && sub == 1 then some (s.setLocks n, stOk)
  else if index = 0x8050 then
    match sub with
    | 7 =>
      if s.trust.upd = 1 || s.trust.upd = 2 then some (s, stRefused)
      else fire { s with trust := { s.trust with upd := 2 } }
    | 8 => if s.runningSlot.st ≠ 2 then some (s, stRefused) else fire s.confirm
    | _ => none
  else if index = 0x8060 then
    match sub with
    | 1 =>
      if s.trust.starter && n ≠ 3 then some (s, stRefused)
      else if n = 1 then some (s.moduleReset false, stOk)
      else if n = 2 then (if s.mayPreserve then some (s.moduleReset true, stOk) else some (s, stRefused))
      else some (s.crustStart 2 none, stOk)
    | 3 => fire ({ s with crust := { s.crust with startHeld := false } } : State).beginStart
    | _ => none
  else if 0xA100 ≤ index && decide (index < 0xA130) then
    let c := index - 0xA100
    some ((if sub = 49 then s.flagAdd' c v else s.flagSet c (sub - 1) (BitVec.ofNat 32 n)).settle, stOk)
  else if 0xA200 ≤ index && decide (index < 0xA210) && sub == 3 then fire (s.takeDump (index - 0xA200) 2 0 15)
  else if isWinEntry index && sub == 1 then some (s.putWinAddr path (index - 0xA300) v)
  else if index = 0xF000 && sub == 1 then some (s.testLevel n, stOk)
  else if 0xF010 ≤ index && decide (index < 0xF020) then
    if n.testBit 0 && !s.testAt 2 then some (s, stRefused) else some (s.startMtest (index - 0xF010) n, stOk)
  else if index = 0xF100 then
    if n.testBit 8 && !s.testAt 1 then some (s, stRefused) else some (s.startBist n, stOk)
  else if 0xF200 ≤ index && decide (index < 0xF218) && sub == 2 then some (s.prbs (index - 0xF200) n, stOk)
  else none

/-- What a written blob does (13 R446; 17 R583, R589, R590, R593). -/
def State.actBlob (s : State) (path index sub : Nat) (r : OdRow) (b : Bytes) : State × Nat :=
  if index = 0x8020 then (s.attest b, stOk)
  else if 0x8030 ≤ index && decide (index < 0x8033) then
    if s.locks.testBit 8 then (s, stRefused)
    else ({ s with mgmt := { s.mgmt with secrets := Tab.put s.mgmt.secrets (index - 0x8030) b } }, stOk)
  else if index = 0x8050 then (if s.trust.upd = 1 then (s.closeStage b, stOk) else (s, stRefused))
  else if index = 0x8080 then
    if s.unlockOk ((6 ≤ path && path ≤ 10) && s.roleOf path == 0) b then (s.enterTest, stOk) else (s, stRefused)
  else if r.cls = 3 then
    let p := index - 0x2600
    ({ s with place := { s.place with
      stage := Tab.put s.place.stage p (Tab.get [] s.place.stage p ++ stageRecords (wordsOfBytes b)) } }, stOk)
  else (s.buffer r.cls (odKey index sub) 0 (some b), stOk)

/-- The value that an accepted write stores: RSVD bits are dropped (00 R18) and the read-only fields of port 7 keep
theirs (03 R89). -/
def State.stored (s : State) (r : OdRow) (index sub : Nat) (v : Word) : Word :=
  let m := v &&& BitVec.ofNat 64 r.mask
  if r.ty = 6 then BitVec.ofNat 64 (v.toNat % 2 ^ 32)
  else if r.base = 0x3100 && sub = 1 && (index - 0x3100) % 8 = 7 then (m &&& ~~~0xF00) ||| (s.odVal index sub &&& 0xF00)
  else m

/-- An accepted write takes effect, or waits for its boundary (15 R501). -/
def State.odEffect (s : State) (path index sub : Nat) (r : OdRow) (v : Word) (blob : Option Bytes) : State × Nat :=
  match blob with
  | some b => s.actBlob path index sub r b
  | none =>
    if r.cls = 1 || r.cls = 2 || r.cls = 4 then (s.buffer r.cls (odKey index sub) (s.stored r index sub v) none, stOk)
    else
      match s.actIdent path index sub (s.stored r index sub v) with
      | some x => x
      | none =>
        let s1 := s.odPut index sub (s.stored r index sub v)
        (if index = 0x3000 then s1.spareDue else s1, stOk)

/-- OD_LOCK_VIOLATION (15 R530, R532). -/
def State.lockViolation (s : State) (path index sub : Nat) (v : Word) : State :=
  (s.bump 0x8000 2).log [pack [(56, 0x61), (52, path), (47, setCode (setOf index)), (24, index), (16, sub)], v]

/-- A refusal is kept in the path's window (15 R518, R525). -/
def State.refusal (s : State) (path index sub st : Nat) : State :=
  if st = 0 || 10 < path then s
  else s.setWin path { s.win path with status := st, lastErr := pack [(48, index), (40, sub), (32, st)] }

/-- One write of an entry on a path, with its status (15 R499, R500). -/
def State.odAccept (s : State) (path index sub : Nat) (sizeOk : Bool) (v : Word) (blob : Option Bytes) : State × Nat :=
  let st := s.preStatus path index sub sizeOk v blob
  let val := match blob with
    | some b => BitVec.ofNat 64 b.length
    | none => v
  if st = stOk then
    match s.odRow index sub with
    | none => (s.refusal path index sub stNoEntry, stNoEntry)
    | some r =>
      let x := s.odEffect path index sub r v blob
      (x.1.refusal path index sub x.2, x.2)
  else ((if st = stLocked then s.lockViolation path index sub val else s).refusal path index sub st, st)

/-! ### Indirect windows (15 R525 to R527) -/

/-- The target of mode 1 after a step. -/
def Win.next (w : Win) : Win :=
  let sub := w.sub + 1
  { w with addr := (w.addr.setBits 63 48 (if sub = 256 then (w.index + 1) % 65536 else w.index)).setBits 47 40 (sub % 256) }

/-- In SERVICE the clock domain in which an entry's value lives stands still: a counter of a stack controller that naps (03
R105), or what a CXL port without its reference clock keeps of its own (01 R34; 14 R478) (15 R523, R528; log entry 145). -/
def State.clockStopped (s : State) (index sub : Nat) : Bool :=
  !s.snapshot &&
    (if 0x3030 ≤ index && decide (index < 0x3040) then
      ((decide (2 ≤ sub) && decide (sub ≤ 6)) || sub == 11) && (s.stk (index - 0x3030)).nap
    else if 0x3100 ≤ index && decide (index < 0x3180) then
      (sub == 3 || sub == 4) && (s.stk ((index - 0x3100) / 8)).nap
    else if 0x6030 ≤ index && decide (index < 0x6036) then
      decide (3 ≤ sub) && decide (sub ≤ 6) && !(s.cport (index - 0x6030)).refclk
    else false)

/-- The status of a read (15 R496, R499). -/
def State.readStatus (s : State) (path index sub : Nat) : Nat :=
  if (s.odRow index sub).isNone && !(sub = 0 && s.odHighest index ≠ 0) then stNoEntry
  else if !s.rights path index sub false then stNoAccess
  else if s.clockStopped index sub then stNotReady else stOk

/-- Read a slot: a refused read gives zero. -/
def State.readSlot (s : State) (path index sub : Nat) : State × Nat × Word :=
  let st := s.readStatus path index sub
  if st = stOk then (s, st, s.odSlot index sub) else (s.refusal path index sub st, st, 0)

/-- The 8 blob bytes at an offset; zero beyond the end. -/
def blobWord (b : Bytes) (off : Nat) : Word := BitVec.ofNat 64 (ofLeBytes ((b.drop off).take 8))

/-- A read of WIN_DATA; `adv` when it includes byte 7 of the slot. -/
def State.winRead (s : State) (path k : Nat) (adv : Bool) : State × Nat × Word :=
  let w := s.win k
  if w.slots then
    let s1 := if adv then s.setWin k w.next else s
    s1.readSlot path w.index w.sub
  else
    let s1 := if adv then s.setWin k { w with off := (w.off + 8) % 2 ^ 32 } else s
    if !isBlob (s.odType w.index w.sub) then (s1, stOk, 0)
    else
      let st := s.readStatus path w.index w.sub
      if st = stOk then (s1, stOk, blobWord (s.odBlob w.index w.sub) w.off) else (s1.refusal path w.index w.sub st, st, 0)

/-- Put 8 bytes into a blob at an offset, zeros before it. -/
def blobPut (b : Bytes) (off : Nat) (v : Word) : Bytes :=
  fixLen off b ++ leBytes 8 v.toNat ++ b.drop (off + 8)

/-- A write of WIN_DATA. In mode 1 it writes the slot that the window names; a window's own data slot is none of
those (log entry 26). -/
def State.winWrite (s : State) (path k : Nat) (v : Word) : State × Nat :=
  let w := s.win k
  let no (s : State) (st : Nat) : State × Nat := (s.refusal path (0xA300 + k) 2 st, st)
  if w.slots then
    let s1 := s.setWin k w.next
    if isWinEntry w.index && (w.sub = 2 || w.sub = 5) then no s1 stRefused else s1.odAccept path w.index w.sub true v none
  else
    let ty := s.odType w.index w.sub
    if ty ≠ 0 && !isBlob ty then no s stSize
    else
      match w.blob with
      | none => no s stRefused
      | some b => (s.setWin k { w with blob := some (blobPut b w.off v), off := (w.off + 8) % 2 ^ 32 }, stOk)

/-- A write of WIN_CLOSE: the open blob is one write of the entry. -/
def State.winEnd (s : State) (path k : Nat) (v : Word) : State × Nat :=
  let w := s.win k
  match w.blob with
  | none => (s, stOk)
  | some b =>
    if v.toNat = 0 then (s, stOk)
    else
      let staging := w.staging
      let x := (s.setWin k { w with blob := none }).odAccept path w.index w.sub true 0 (some b)
      (if staging && x.2 ≠ stOk && x.1.trust.upd = 1 then x.1.dropStage else x.1, x.2)

/-- One write of a slot on a path: WIN_DATA and WIN_CLOSE of the path's own window act as the window says. -/
def State.slotWrite (s : State) (path index sub : Nat) (sizeOk : Bool) (v : Word) : State × Nat :=
  if isWinEntry index && (sub = 2 || sub = 5) then
    let st := s.preStatus path index sub sizeOk v none
    if st ≠ stOk then (s.refusal path index sub st, st)
    else if sub = 2 then s.winWrite path (index - 0xA300) v
    else s.winEnd path (index - 0xA300) v
  else s.odAccept path index sub sizeOk v none

/-- One read of a slot on a path. -/
def State.slotRead (s : State) (path index sub : Nat) : State × Nat × Word :=
  if isWinEntry index && sub = 2 && s.rights path index 2 false then s.winRead path (index - 0xA300) true
  else s.readSlot path index sub

/-! ### BAR2 accesses (15 R516 to R518) -/

/-- What a write of some bytes of a slot comes to. -/
inductive SlotAcc where
  | whole (v : Word)
  | latch (v : W32)
  | bad
  deriving DecidableEq, Repr

/-- BAR2: 8 aligned bytes, the low half of an entry of up to 32 bits, or one half of a U64. Wider aligned writes come
as 8-byte writes. -/
def State.bar2 (s : State) (a : Acc) (index sub : Nat) (v : Word) : SlotAcc :=
  let ty := s.odType index sub
  if 8 ≤ a.size && a.off = 0 then .whole v
  else if a.size = 4 && a.off = 0 then
    if ty = 5 then .latch (BitVec.ofNat 32 v.toNat)
    else if ty = 6 then .whole (sext32 v.toNat)
    else if isBlob ty then .bad else .whole (BitVec.ofNat 64 (v.toNat % 2 ^ 32))
  else if a.size = 4 && a.off = 4 && ty = 5 then
    match Tab.find s.mgmt.latch4 a.path with
    | some (k, lo) => if k = odKey index sub then .whole (pack [(0, lo.toNat), (32, v.toNat % 2 ^ 32)]) else .bad
    | none => .bad
  else .bad

/-- Report a write's status to its path. -/
def State.tell (s : State) (path index sub st : Nat) : State :=
  { s with mgmt := { s.mgmt with outs := .status path (odKey index sub) st :: s.mgmt.outs } }

/-- A write of an entry: on BAR2 by the bytes it carries, on the other paths as a whole slot. -/
def State.pathPut (s : State) (a : Acc) (index sub : Nat) (v : Word) : State :=
  if a.path < 6 then
    let s1 : State := { s with mgmt := { s.mgmt with latch4 := Tab.erase s.mgmt.latch4 a.path } }
    match s.bar2 a index sub v with
    | .latch lo =>
      ({ s1 with mgmt := { s1.mgmt with latch4 := Tab.put s1.mgmt.latch4 a.path (odKey index sub, lo) } }).tell a.path index sub stOk
    | .whole w =>
      let x := s1.slotWrite a.path index sub true w
      x.1.tell a.path index sub x.2
    | .bad =>
      let x := s1.slotWrite a.path index sub false v
      (if x.2 = stSize then x.1.modCport a.path fun p => { p with ur := p.ur + 1 } else x.1).tell a.path index sub x.2
  else
    let x := s.slotWrite a.path index sub true v
    x.1.tell a.path index sub x.2

/-- A command that writes an entry. -/
def State.pathWrite (s : State) (a : Acc) (index sub : Nat) (v : Word) : Out :=
  ifUnit s (s.pathFitted a.path) (when' (s.accOn a) s (s.pathPut a index sub v))

/-- A command that writes a flag word, within a hearth cycle of its cluster (11 R374, R398). -/
def State.pathFlag (s : State) (a : Acc) (c sub : Nat) (v : Word) (more : Bool) : Out :=
  ifUnit s (s.pathFitted a.path)
    (when' (s.accOn a) s (s.inCycle c more fun s => s.pathPut a (0xA100 + c) sub v))

/-- A command that writes a STRING or DOMAIN entry whole, as the close of a window's blob does. -/
def State.pathBlob (s : State) (a : Acc) (index sub : Nat) (b : Bytes) : Out :=
  ifUnit s (s.pathFitted a.path) <|
    when' (s.accOn a) s <|
      let x := s.odAccept a.path index sub true 0 (some b)
      x.1.tell a.path index sub x.2

/-! ### The commands -/

/-- OD_WRITE: any entry. -/
def execOdWrite (a : Acc) (index sub : Nat) (v : BitVec 64) (s : State) : Out := s.pathWrite a index sub v

def execQuiesce (a : Acc) (p : Nat) (v : BitVec 64) (s : State) : Out := s.pathWrite a (0x2010 + p % 16) 6 v
def execCfgDiscard (a : Acc) (p : Nat) (v : BitVec 64) (s : State) : Out := s.pathWrite a (0x2010 + p % 16) 10 v
def execCfgRollback (a : Acc) (p : Nat) (v : BitVec 64) (s : State) : Out := s.pathWrite a (0x2010 + p % 16) 11 v
def execMcfgDiscard (a : Acc) (v : BitVec 64) (s : State) : Out := s.pathWrite a 0x2000 5 v
def execMcfgRollback (a : Acc) (v : BitVec 64) (s : State) : Out := s.pathWrite a 0x2000 6 v
def execRingRestart (a : Acc) (p r : Nat) (v : BitVec 64) (s : State) : Out :=
  s.pathWrite a (0x2400 + ringKey (p % 16) (r % 16)) 5 v
def execPlaceCommit (a : Acc) (p : Nat) (v : BitVec 64) (s : State) : Out := s.pathWrite a (0x2600 + p % 16) 7 v
def execMigStart (a : Acc) (p : Nat) (v : BitVec 64) (s : State) : Out := s.pathWrite a (0x2600 + p % 16) 10 v
def execSrSeedMode (a : Acc) (engines : Bool) (v : BitVec 64) (s : State) : Out :=
  s.pathWrite a (if engines then 0x5000 else 0x4000) 4 v
def execSrSeed (a : Acc) (engines : Bool) (v : BitVec 64) (s : State) : Out :=
  s.pathWrite a (if engines then 0x5000 else 0x4000) 5 v
def execLeave (a : Acc) (v : BitVec 64) (s : State) : Out := s.pathWrite a 0x6000 14 v
def execFlagN (a : Acc) (c n : Nat) (v : BitVec 64) (more : Bool) (s : State) : Out :=
  ifUnit s (decide (c < 48) && decide (n < 48)) (s.pathFlag a c (1 + n) v more)
def execFlagAdd (a : Acc) (c : Nat) (v : BitVec 64) (more : Bool) (s : State) : Out :=
  ifUnit s (decide (c < 48)) (s.pathFlag a c 49 v more)
def execDumpNow (a : Acc) (p : Nat) (v : BitVec 64) (s : State) : Out := s.pathWrite a (0xA200 + p % 16) 3 v
def execLocks (a : Acc) (v : BitVec 64) (s : State) : Out := s.pathWrite a 0x8000 1 v
def execStart (a : Acc) (v : BitVec 64) (s : State) : Out := s.pathWrite a 0x8060 3 v
def execFwCommit (a : Acc) (v : BitVec 64) (s : State) : Out := s.pathWrite a 0x8050 7 v
def execFwConfirm (a : Acc) (v : BitVec 64) (s : State) : Out := s.pathWrite a 0x8050 8 v
/-- RESET_REQUEST 1, 2 and 3 (17 R574). -/
def execModuleReset (a : Acc) (s : State) : Out := s.pathWrite a 0x8060 1 1
def execPreservingReset (a : Acc) (s : State) : Out := s.pathWrite a 0x8060 1 2
def execCrustReset (a : Acc) (s : State) : Out := s.pathWrite a 0x8060 1 3
def execTestPower (a : Acc) (v : BitVec 64) (s : State) : Out := s.pathWrite a 0xF000 1 v
def execMtestCtrl (a : Acc) (stk : Nat) (v : BitVec 64) (s : State) : Out :=
  ifUnit s (s.fitted stk) (s.pathWrite a (0xF010 + stk) 1 v)
def execTileBist (a : Acc) (v : BitVec 64) (s : State) : Out := s.pathWrite a 0xF100 1 v
def execPortPrbs (a : Acc) (n : Nat) (v : BitVec 64) (s : State) : Out :=
  ifUnit s (s.ethFitted n) (s.pathWrite a (0xF200 + n) 2 v)
def execAttestNonce (a : Acc) (nonce : Bytes) (s : State) : Out := s.pathBlob a 0x8020 4 nonce
def execTestUnlock (a : Acc) (sig : Bytes) (s : State) : Out := s.pathBlob a 0x8080 1 sig
def execWinAddr (a : Acc) (k : Nat) (v : BitVec 64) (s : State) : Out :=
  ifUnit s (decide (k < 11)) (s.pathWrite a (0xA300 + k) 1 v)
def execWinDataWrite (a : Acc) (k : Nat) (v : BitVec 64) (s : State) : Out :=
  ifUnit s (decide (k < 11)) (s.pathWrite a (0xA300 + k) 2 v)
def execWinClose (a : Acc) (k : Nat) (v : BitVec 64) (s : State) : Out :=
  ifUnit s (decide (k < 11)) (s.pathWrite a (0xA300 + k) 5 v)

/-- WIN_DATA_READ: on BAR2 the access advances when it takes in byte 7, and an access that is not aligned is an
Unsupported Request (15 R516, R518). -/
def execWinDataRead (a : Acc) (k : Nat) (s : State) : Out :=
  ifUnit s (s.pathFitted a.path && decide (k < 11)) <|
    when' (s.pathOn a.path) s <|
      let s1 : State := { s with mgmt := { s.mgmt with latch4 := Tab.erase s.mgmt.latch4 a.path } }
      let give (x : State × Nat × Word) : State :=
        { x.1 with mgmt := { x.1.mgmt with outs := .data a.path x.2.2 :: x.1.mgmt.outs } }
      let z := if a.path < 6 then a.size else 8
      let off := if a.path < 6 then a.off else 0
      if !s1.rights a.path (0xA300 + k) 2 false then give (s1.refusal a.path (0xA300 + k) 2 stNoAccess, stNoAccess, 0)
      else if !((z == 1 || z == 2 || z == 4 || z == 8) && off % z == 0 && decide (off + z ≤ 8)) then
        (s1.refusal a.path (0xA300 + k) 2 stSize).modCport a.path fun p => { p with ur := p.ur + 1 }
      else
        let x := s1.winRead a.path k (off + z == 8)
        give (x.1, x.2.1, BitVec.ofNat 64 (x.2.2.toNat / 2 ^ (8 * off) % 2 ^ (8 * z)))

end Sys2Proof.Machine
end

