-- ==== Sys2Proof/Machine/Session.lean ====
section
/-! DEFINITION. Crumb messages and management sessions (15 R519 to R524; 17 R590 to R592). -/

namespace Sys2Proof.Machine

/-! ### Tags and message forms (15 R520, R522; 17 R591) -/

def crumbBytes (m : CrumbMsg) : Bytes := leBytes 8 m.h0.toNat ++ leBytes 8 m.h1.toNat ++ bytesOfWords m.items
def sessBytes (m : SessMsg) : Bytes := leBytes 8 m.h0.toNat ++ leBytes 8 m.h1.toNat ++ m.body

/-- A string's characters as bytes. -/
def asciiBytes (x : String) : Bytes := x.toList.map fun c => BitVec.ofNat 8 c.toNat

/-- Customisation strings. -/
def tagCrumb : Bytes := asciiBytes "crumb message"
def tagHello : Bytes := asciiBytes "UB hello"
def tagChallenge : Bytes := asciiBytes "UB challenge"
def tagSession : Bytes := asciiBytes "UB session"

/-- The session tag. -/
def sessionTag (key msg : Bytes) : Bytes := Config.kmac256 key msg tagCrumb 32

/-- The header word H0. -/
def crumbH0 (ty status items sid : Nat) : Word := pack [(56, 1), (48, ty), (40, status), (32, items), (0, sid)]
def msgSid (h0 : Word) : Nat := Word.bits h0 31 0
def msgSeq (h1 : Word) : Nat := Word.bits h1 63 32

/-- Serially greater, modulo 2^32 (15 R522). -/
def seqAfter (a b : Nat) : Bool := let d := (a + 2 ^ 32 - b) % 2 ^ 32; decide (0 < d) && decide (d < 2 ^ 31)

/-- The session handshake's fixed fields: VER, TYPE, no items, a body of 64 bytes with zeros where R591 says. -/
def sessFormed (m : SessMsg) (ty : Nat) : Bool :=
  Word.bits m.h0 63 56 == 1 && Word.bits m.h0 55 48 == ty && Word.bits m.h0 47 32 == 0 && Word.bits m.h1 31 0 == 0
    && m.body.length == 64 && ((m.body.drop 1).take 31).all (· == 0)

/-- ROLE and nonce of a body. -/
def sessRole (m : SessMsg) : Nat := (m.body.headD 0).toNat
def sessNonce (m : SessMsg) : Bytes := m.body.drop 32

/-! ### Failed tags (17 R592) -/

def State.auth (s : State) (mctp : Bool) : AuthLim := if mctp then s.mgmt.authM else s.mgmt.authC
def State.setAuth (s : State) (mctp : Bool) (a : AuthLim) : State :=
  { s with mgmt := if mctp then { s.mgmt with authM := a } else { s.mgmt with authC := a } }

/-- A failed tag: it is counted and logged; the eighth on one path within 1 s starts the rate limit. -/
def State.authFail (s : State) (mctp : Bool) (path role sid : Nat) : State :=
  let a := s.auth mctp
  let fails := (a.fails.filter fun t => decide (s.crust.time < t + 1000000)) ++ [s.crust.time]
  let b : AuthLim := if 8 ≤ fails.length then { fails := [], limited := some s.crust.time } else { a with fails := fails }
  ((s.bump 0x8040 2).crustEvent 0x86 3 sid 0 path role).setAuth mctp b

/-! ### Crumb messages (15 R521, R522) -/

/-- The message's length and RSVD fields are right. `n` words an item. -/
def crumbFormed (m : CrumbMsg) (n : Nat) (heads : List Word) : Bool :=
  let k := Word.bits m.h0 39 32
  decide (1 ≤ k) && decide (k ≤ 64) && m.items.length == n * k && Word.bits m.h1 31 0 == 0
    && heads.all fun w => Word.bits w 35 32 == 0

/-- W0 and W1 of each item of a WRITE. -/
def crumbPairs : List Word → List (Word × Word)
  | a :: b :: t => (a, b) :: crumbPairs t
  | _ => []

/-- W0 of a result item. -/
def State.itemWord (s : State) (w : Word) (status : Nat) : Word :=
  let index := Word.bits w 63 48
  let sub := Word.bits w 47 40
  pack [(48, index), (40, sub), (36, s.odType index sub), (24, status), (0, s.age)]

/-- One item of a READ, and one of a WRITE. -/
def State.crumbGet (s : State) (path : Nat) (w : Word) : State × List Word :=
  let x := s.slotRead path (Word.bits w 63 48) (Word.bits w 47 40)
  (x.1.draw, [x.1.itemWord w x.2.1, x.2.2])

def State.crumbSet (s : State) (path : Nat) (w v : Word) : State × List Word :=
  let index := Word.bits w 63 48
  let sub := Word.bits w 47 40
  let x := s.slotWrite path index sub (Word.bits w 39 36 == s.odType index sub) v
  (x.1.draw, [x.1.itemWord w x.2])

/-- Items in order, each on its own, while the session lasts: an item that resets the crust ends it (log entry 27). -/
def crumbItems (alive : State → Bool) : List (State → State × List Word) → State → State × List Word
  | [], s => (s, [])
  | f :: fs, s =>
    if !alive s then (s, [])
    else
      let x := f s
      let y := crumbItems alive fs x.1
      (y.1, x.2 ++ y.2)

/-- Send a result under the session's tag and keep it for a repeat of the request. -/
def State.crumbReply (s : State) (x : Session) (r : CrumbMsg) : State :=
  let m : CrumbMsg := { r with tag := sessionTag x.key (crumbBytes r) }
  let y : Session := { x with seq := msgSeq r.h1, last := s.crust.time, stored := some m }
  { s with mgmt := { s.mgmt with
    sessions := s.mgmt.sessions.map fun z => if z.path = x.path && z.sid = x.sid then y else z
    outs := .crumb x.path m :: s.mgmt.outs } }

/-- A request of a session. `heads` are the items' first words, `n` the words of an item, `fs` what the items do. -/
def State.crumbServe (s : State) (path ty n : Nat) (m : CrumbMsg) (heads : List Word)
    (fs : List (State → State × List Word)) : State :=
  let sid := msgSid m.h0
  let mctp := path == 6
  if Word.bits m.h0 63 56 ≠ 1 || Word.bits m.h0 55 48 ≠ ty then s
  else
    match s.session path with
    | none => s.bump 0x8040 2
    | some x =>
      if x.sid ≠ sid then s.bump 0x8040 2
      else if m.tag ≠ sessionTag x.key (crumbBytes m) then s.authFail mctp path x.role sid
      else
        let seq := msgSeq m.h1
        let touch : State := { s with mgmt := { s.mgmt with
          sessions := s.mgmt.sessions.map fun z => if z.path = path then { z with last := s.crust.time } else z } }
        if seq = x.seq then
          match x.stored with
          | some r => { touch with mgmt := { touch.mgmt with outs := .crumb path { r with via := m.via.back } :: touch.mgmt.outs } }
          | none => touch
        else if !seqAfter seq x.seq then touch
        else if !crumbFormed m n heads || Word.bits m.h0 47 40 ≠ 0 then
          s.crumbReply x { via := m.via.back, h0 := crumbH0 (0x80 + ty) 1 0 sid, h1 := pack [(32, seq)], items := [], tag := [] }
        else
          let alive (t : State) : Bool := (t.session path).any fun z => z.sid == sid
          let y := crumbItems alive fs s
          if alive y.1 then
            y.1.crumbReply x
              { via := m.via.back, h0 := crumbH0 (0x80 + ty) 0 (Word.bits m.h0 39 32) sid
                h1 := pack [(32, seq)], items := y.2, tag := [] }
          else y.1

/-- The path is one of MCTP and the crumb sessions, and it is served. -/
def sessionPath (path : Nat) : Bool := decide (6 ≤ path) && decide (path ≤ 10)
def State.servesPath (s : State) (path : Nat) (v : Carrier) : Bool :=
  (if path = 6 then s.mctpOn else s.crumbOn) && s.accepts (path == 6) v

/-- CRUMB_READ. -/
def execCrumbRead (path : Nat) (m : CrumbMsg) (s : State) : Out :=
  ifUnit s (sessionPath path) <|
    when' (s.servesPath path m.via) s <|
      s.crumbServe path 1 1 m m.items (m.items.map fun w s => s.crumbGet path w)

/-- CRUMB_WRITE. -/
def execCrumbWrite (path : Nat) (m : CrumbMsg) (s : State) : Out :=
  ifUnit s (sessionPath path) <|
    when' (s.servesPath path m.via) s <|
      let ps := crumbPairs m.items
      s.crumbServe path 2 2 m (ps.map Prod.fst) (ps.map fun p s => s.crumbSet path p.1 p.2)

/-! ### Handshake (17 R590 to R592) -/

/-- The secret under which a role may open a session on a path. -/
def State.roleSecret (s : State) (mctp : Bool) (role : Nat) : Option Bytes :=
  if 2 < role || (s.trust.starter && role ≠ 0) then none
  else
    match Tab.find s.mgmt.secrets role with
    | some b => some b
    | none => if role = 0 && mctp then some (List.replicate 32 0) else none

/-- A session more would be one too many. -/
def State.sessionsFull (s : State) (mctp : Bool) : Bool :=
  if mctp then (s.session 6).isSome else (upTo 4).all fun k => (s.session (7 + k)).isSome

/-- The body of a message from the module. -/
def sessBody (role reason : Nat) (nonce : Bytes) : Bytes :=
  [BitVec.ofNat 8 role, BitVec.ofNat 8 reason] ++ List.replicate 30 0 ++ fixLen 32 nonce

/-- Send a handshake message. -/
def State.sendSess (s : State) (mctp : Bool) (m : SessMsg) : State :=
  { s with mgmt := { s.mgmt with outs := .sess mctp m :: s.mgmt.outs } }

/-- REFUSE with a reason. -/
def State.refuse (s : State) (mctp : Bool) (m : SessMsg) (reason : Nat) : State :=
  s.sendSess mctp {
    via := m.via.back, h0 := crumbH0 0x1F 0 0 0, h1 := pack [(32, msgSeq m.h1)], body := sessBody (sessRole m) reason [], tag := [] }

/-- A new non-zero identifier that no session and no challenge has. -/
def State.newSid (s : State) : Nat :=
  let v := (Config.random s.free).toNat % 2 ^ 32
  if v = 0 then 1 else v

/-- CHALLENGE. -/
def State.sendChallenge (s : State) (mctp : Bool) (m : SessMsg) (secret : Bytes) : State :=
  let sid := s.newSid
  let nm := fixLen 32 (Config.randomBytes (s.free + 1))
  let r : SessMsg := {
    via := m.via.back, h0 := crumbH0 0x11 0 0 sid, h1 := pack [(32, msgSeq m.h1)], body := sessBody (sessRole m) 0 nm, tag := [] }
  let c : Chal := { sid := sid, mctp := mctp, role := (sessRole m), nc := (sessNonce m), nm := nm, since := s.crust.time }
  (({ s.draw.draw with mgmt := { s.mgmt with chals := s.mgmt.chals.filter (fun x => x.sid != sid) ++ [c] } } : State)).sendSess
    mctp { r with tag := Config.kmac256 secret (sessBytes r ++ (sessNonce m)) tagChallenge 32 }

/-- HELLO: refused for a path that is disabled or rate limited, an unset role, a failed tag or want of a session. -/
def execHello (mctp : Bool) (m : SessMsg) (s : State) : Out :=
  when' (s.power.aux && s.accepts mctp m.via && sessFormed m 0x10 && msgSid m.h0 == 0 && (mctp || !s.trust.starter)) s <|
    if !(if mctp then s.mctpOn else s.crumbOn) then s.refuse mctp m 4
    else if (s.auth mctp).limited.isSome then s.refuse mctp m 5
    else
      match s.roleSecret mctp (sessRole m) with
      | none => s.refuse mctp m 2
      | some k =>
        if m.tag ≠ Config.kmac256 k (sessBytes m) tagHello 32 then
          (s.authFail mctp (if mctp then 6 else 0) (sessRole m) 0).refuse mctp m 3
        else if s.sessionsFull mctp then s.refuse mctp m 1
        else s.sendChallenge mctp m k

/-- The lowest free path of a family. -/
def State.freePath (s : State) (mctp : Bool) : Nat :=
  if mctp then 6 else (((upTo 4).find? fun k => (s.session (7 + k)).isNone).getD 3) + 7

/-- ACCEPT: the session opens. -/
def State.accept (s : State) (mctp : Bool) (via : Carrier) (c : Chal) (key : Bytes) : State :=
  let path := s.freePath mctp
  let r : SessMsg := { via := via, h0 := crumbH0 0x13 0 0 c.sid, h1 := pack [(32, 1)], body := sessBody c.role 0 [], tag := [] }
  let x : Session :=
    { path := path, role := c.role, sid := c.sid, key := key, seq := 1, last := s.crust.time, stored := none }
  let s1 : State := { s with mgmt := { s.mgmt with
    chals := s.mgmt.chals.filter fun y => y.sid != c.sid
    sessions := s.mgmt.sessions ++ [x] } }
  (s1.crustEvent 0x85 1 c.sid 0 path c.role).sendSess mctp { r with tag := sessionTag key (sessBytes r) }

/-- CONFIRM. -/
def execConfirm (mctp : Bool) (m : SessMsg) (s : State) : Out :=
  when' ((if mctp then s.mctpOn else s.crumbOn) && s.accepts mctp m.via && sessFormed m 0x12 && msgSeq m.h1 == 1) s <|
    match s.mgmt.chals.find? fun c => c.sid == msgSid m.h0 && c.mctp == mctp with
    | none => s.bump 0x8040 2
    | some c =>
      match s.roleSecret mctp c.role with
      | none => s.refuse mctp m 2
      | some k =>
        let key := Config.kmac256 k (c.nc ++ c.nm ++ leBytes 4 c.sid ++ [BitVec.ofNat 8 c.role]) tagSession 32
        if m.tag ≠ sessionTag key (sessBytes m) then s.authFail mctp (if mctp then 6 else 0) c.role c.sid
        else if s.sessionsFull mctp then s.refuse mctp m 1
        else s.accept mctp m.via.back c key

/-- CLOSE. -/
def execClose (path : Nat) (m : SessMsg) (s : State) : Out :=
  ifUnit s (sessionPath path) <|
    when' (s.servesPath path m.via && sessFormed m 0x14) s <|
      match s.session path with
      | none => s.bump 0x8040 2
      | some x =>
        if x.sid ≠ msgSid m.h0 then s.bump 0x8040 2
        else if m.tag ≠ sessionTag x.key (sessBytes m) then s.authFail (path == 6) path x.role x.sid
        else if seqAfter (msgSeq m.h1) x.seq then s.endSession x 2 else s

/-- CHALLENGE_TIMEOUT. -/
def execChallengeTimeout (sid : Nat) (s : State) : Out :=
  when' s.power.aux s { s with mgmt := { s.mgmt with chals := s.mgmt.chals.filter fun c => c.sid != sid } }

/-- SESSION_IDLE_TIMEOUT. -/
def execSessionIdleTimeout (path : Nat) (s : State) : Out :=
  ifUnit s (sessionPath path) <|
    when' s.power.aux s <|
      match s.session path with
      | none => s
      | some x => s.endSession x 3

/-- AUTH_RATE_LIMIT_END. -/
def execAuthRateLimitEnd (mctp : Bool) (s : State) : Out :=
  when' s.power.aux s (s.setAuth mctp { s.auth mctp with limited := none })

end Sys2Proof.Machine
end

