-- ==== Sys2Proof/Machine/Dispatch.lean ====
section
/-! DEFINITION. The effect of each command on everything but the queue: one arm per row of the table. -/

namespace Sys2Proof.Machine

def exec (i : Instr) (s : State) : Host.Outcome State Fault Refusal :=
  match i with
  | .ucieLinkDown link => Sys2Proof.Machine.execUcieLinkDown link s
  | .routeSwitch link => Sys2Proof.Machine.execRouteSwitch link s
  | .portRequest stk port cls lin kind part requester t => Sys2Proof.Machine.execPortRequest stk port cls lin kind part requester t s
  | .urgencyStep id elapsedNs => Sys2Proof.Machine.execUrgencyStep id elapsedNs s
  | .requestAged id waitedNs => Sys2Proof.Machine.execRequestAged id waitedNs s
  | .act stk ch bank row t => Sys2Proof.Machine.execAct stk ch bank row t s
  | .pre stk ch bank latch t => Sys2Proof.Machine.execPre stk ch bank latch t s
  | .preb stk ch bank t => Sys2Proof.Machine.execPreb stk ch bank t s
  | .rd stk ch word id t => Sys2Proof.Machine.execRd stk ch word id t s
  | .wr stk ch word id t => Sys2Proof.Machine.execWr stk ch word id t s
  | .refpb stk ch bank t => Sys2Proof.Machine.execRefpb stk ch bank t s
  | .nrr stk ch bank half t => Sys2Proof.Machine.execNrr stk ch bank half t s
  | .sre stk ch t => Sys2Proof.Machine.execSre stk ch t s
  | .srx stk ch t => Sys2Proof.Machine.execSrx stk ch t s
  | .mrw stk ch reg value t => Sys2Proof.Machine.execMrw stk ch reg value t s
  | .mrr stk ch reg t => Sys2Proof.Machine.execMrr stk ch reg t s
  | .tokenReturn stk t => Sys2Proof.Machine.execTokenReturn stk t s
  | .refreshInterval stk ch bank t => Sys2Proof.Machine.execRefreshInterval stk ch bank t s
  | .refreshWindow stk => Sys2Proof.Machine.execRefreshWindow stk s
  | .srIdleExpiry stk ch t => Sys2Proof.Machine.execSrIdleExpiry stk ch t s
  | .napEntry stk => Sys2Proof.Machine.execNapEntry stk s
  | .scrubDue stk ch t => Sys2Proof.Machine.execScrubDue stk ch t s
  | .scrubCatchUp stk ch t => Sys2Proof.Machine.execScrubCatchUp stk ch t s
  | .softSpare mbn row t => Sys2Proof.Machine.execSoftSpare mbn row t s
  | .sprigModeEnter stk ch w t => Sys2Proof.Machine.execSprigModeEnter stk ch w t s
  | .sprigModeLeave stk ch w t => Sys2Proof.Machine.execSprigModeLeave stk ch w t s
  | .recipeWrite stk ch w burst t => Sys2Proof.Machine.execRecipeWrite stk ch w burst t s
  | .operandBcast stk ch w burst t => Sys2Proof.Machine.execOperandBcast stk ch w burst t s
  | .sprigRun stk ch w burst t => Sys2Proof.Machine.execSprigRun stk ch w burst t s
  | .sprigDrain stk ch w t => Sys2Proof.Machine.execSprigDrain stk ch w t s
  | .sprigStatus stk ch w t => Sys2Proof.Machine.execSprigStatus stk ch w t s
  | .stepNop mbn t => Sys2Proof.Machine.execStepNop mbn t s
  | .stepUnpack mbn t => Sys2Proof.Machine.execStepUnpack mbn t s
  | .stepFma mbn t => Sys2Proof.Machine.execStepFma mbn t s
  | .stepAdd mbn t => Sys2Proof.Machine.execStepAdd mbn t s
  | .stepMul mbn t => Sys2Proof.Machine.execStepMul mbn t s
  | .stepMax mbn t => Sys2Proof.Machine.execStepMax mbn t s
  | .stepCsel mbn t => Sys2Proof.Machine.execStepCsel mbn t s
  | .stepDot mbn t => Sys2Proof.Machine.execStepDot mbn t s
  | .stepFold mbn t => Sys2Proof.Machine.execStepFold mbn t s
  | .stepLoad mbn t => Sys2Proof.Machine.execStepLoad mbn t s
  | .stepStore mbn t => Sys2Proof.Machine.execStepStore mbn t s
  | .stepWb mbn t => Sys2Proof.Machine.execStepWb mbn t s
  | .stepDrain mbn t => Sys2Proof.Machine.execStepDrain mbn t s
  | .stepSets mbn t => Sys2Proof.Machine.execStepSets mbn t s
  | .stepSetp mbn t => Sys2Proof.Machine.execStepSetp mbn t s
  | .stepRetire mbn k t => Sys2Proof.Machine.execStepRetire mbn k t s
  | .runDoneReport mbn t => Sys2Proof.Machine.execRunDoneReport mbn t s
  | .runResume mbn t => Sys2Proof.Machine.execRunResume mbn t s
  | .sprigJob c ticket t => Sys2Proof.Machine.execSprigJob c ticket t s
  | .jobBankBegin job mbn t => Sys2Proof.Machine.execJobBankBegin job mbn t s
  | .jobComplete job => Sys2Proof.Machine.execJobComplete job s
  | .srSeedMode a engines v => Sys2Proof.Machine.execSrSeedMode a engines v s
  | .srSeed a engines v => Sys2Proof.Machine.execSrSeed a engines v s
  | .panel c tile => Sys2Proof.Machine.execPanel c tile s
  | .mma c tile => Sys2Proof.Machine.execMma c tile s
  | .cload c tile => Sys2Proof.Machine.execCload c tile s
  | .store c tile => Sys2Proof.Machine.execStore c tile s
  | .lineResponse c port k => Sys2Proof.Machine.execLineResponse c port k s
  | .tileCmdComplete c tile eng => Sys2Proof.Machine.execTileCmdComplete c tile eng s
  | .chainInstruction c => Sys2Proof.Machine.execChainInstruction c s
  | .chainComplete c => Sys2Proof.Machine.execChainComplete c s
  | .layoutCopy c => Sys2Proof.Machine.execLayoutCopy c s
  | .layoutGather c => Sys2Proof.Machine.execLayoutGather c s
  | .layoutScatter c => Sys2Proof.Machine.execLayoutScatter c s
  | .transferComplete c => Sys2Proof.Machine.execTransferComplete c s
  | .halt c => Sys2Proof.Machine.execHalt c s
  | .alu c => Sys2Proof.Machine.execAlu c s
  | .addi c => Sys2Proof.Machine.execAddi c s
  | .andi c => Sys2Proof.Machine.execAndi c s
  | .ori c => Sys2Proof.Machine.execOri c s
  | .xori c => Sys2Proof.Machine.execXori c s
  | .shli c => Sys2Proof.Machine.execShli c s
  | .shri c => Sys2Proof.Machine.execShri c s
  | .sari c => Sys2Proof.Machine.execSari c s
  | .slti c => Sys2Proof.Machine.execSlti c s
  | .lui c => Sys2Proof.Machine.execLui c s
  | .lbu c => Sys2Proof.Machine.execLbu c s
  | .lhu c => Sys2Proof.Machine.execLhu c s
  | .lwu c => Sys2Proof.Machine.execLwu c s
  | .ld c => Sys2Proof.Machine.execLd c s
  | .sb c => Sys2Proof.Machine.execSb c s
  | .sh c => Sys2Proof.Machine.execSh c s
  | .sw c => Sys2Proof.Machine.execSw c s
  | .sd c => Sys2Proof.Machine.execSd c s
  | .beq c => Sys2Proof.Machine.execBeq c s
  | .bne c => Sys2Proof.Machine.execBne c s
  | .blt c => Sys2Proof.Machine.execBlt c s
  | .bge c => Sys2Proof.Machine.execBge c s
  | .bltu c => Sys2Proof.Machine.execBltu c s
  | .bgeu c => Sys2Proof.Machine.execBgeu c s
  | .jmp c => Sys2Proof.Machine.execJmp c s
  | .call c => Sys2Proof.Machine.execCall c s
  | .jr c => Sys2Proof.Machine.execJr c s
  | .qpush c => Sys2Proof.Machine.execQpush c s
  | .qabort c => Sys2Proof.Machine.execQabort c s
  | .qinfo c => Sys2Proof.Machine.execQinfo c s
  | .spush c => Sys2Proof.Machine.execSpush c s
  | .sflush c => Sys2Proof.Machine.execSflush c s
  | .sinfo c => Sys2Proof.Machine.execSinfo c s
  | .frd c => Sys2Proof.Machine.execFrd c s
  | .fwr c more => Sys2Proof.Machine.execFwr c more s
  | .fadd c more => Sys2Proof.Machine.execFadd c more s
  | .fwait c => Sys2Proof.Machine.execFwait c s
  | .cyc c => Sys2Proof.Machine.execCyc c s
  | .odrd c => Sys2Proof.Machine.execOdrd c s
  | .wfe c => Sys2Proof.Machine.execWfe c s
  | .ifence c => Sys2Proof.Machine.execIfence c s
  | .whoami c => Sys2Proof.Machine.execWhoami c s
  | .queueDispatch c q => Sys2Proof.Machine.execQueueDispatch c q s
  | .entryDelivery c q more => Sys2Proof.Machine.execEntryDelivery c q more s
  | .doorbellWrite port offset size v => Sys2Proof.Machine.execDoorbellWrite port offset size v s
  | .ringPush p r same => Sys2Proof.Machine.execRingPush p r same s
  | .ringStart p r => Sys2Proof.Machine.execRingStart p r s
  | .ringLoad p r => Sys2Proof.Machine.execRingLoad p r s
  | .ringAbort p r => Sys2Proof.Machine.execRingAbort p r s
  | .ringNop p r => Sys2Proof.Machine.execRingNop p r s
  | .ringRestart a p r v => Sys2Proof.Machine.execRingRestart a p r v s
  | .flagN a c n v more => Sys2Proof.Machine.execFlagN a c n v more s
  | .flagAdd a c v more => Sys2Proof.Machine.execFlagAdd a c v more s
  | .watchdogTest c => Sys2Proof.Machine.execWatchdogTest c s
  | .dumpNow a p v => Sys2Proof.Machine.execDumpNow a p v s
  | .countTimeout pos cl => Sys2Proof.Machine.execCountTimeout pos cl s
  | .arrivalCounterFree pos cl => Sys2Proof.Machine.execArrivalCounterFree pos cl s
  | .fqRead c ticket => Sys2Proof.Machine.execFqRead c ticket s
  | .fqWrite c ticket => Sys2Proof.Machine.execFqWrite c ticket s
  | .fqReduce c ticket => Sys2Proof.Machine.execFqReduce c ticket s
  | .fqAtomic c ticket => Sys2Proof.Machine.execFqAtomic c ticket s
  | .fqSignal c ticket more => Sys2Proof.Machine.execFqSignal c ticket more s
  | .fqCountedSignal c ticket more => Sys2Proof.Machine.execFqCountedSignal c ticket more s
  | .fqOpComplete c ticket => Sys2Proof.Machine.execFqOpComplete c ticket s
  | .portUp n => Sys2Proof.Machine.execPortUp n s
  | .portDown n => Sys2Proof.Machine.execPortDown n s
  | .read n f => Sys2Proof.Machine.execRead n f s
  | .write n f => Sys2Proof.Machine.execWrite n f s
  | .reduce n f => Sys2Proof.Machine.execReduce n f s
  | .atomic n f => Sys2Proof.Machine.execAtomic n f s
  | .signal n f more => Sys2Proof.Machine.execSignal n f more s
  | .countedSignal n f more => Sys2Proof.Machine.execCountedSignal n f more s
  | .replicaInv n f => Sys2Proof.Machine.execReplicaInv n f s
  | .placementClaim n f => Sys2Proof.Machine.execPlacementClaim n f s
  | .placementPublish n f => Sys2Proof.Machine.execPlacementPublish n f s
  | .completion n f => Sys2Proof.Machine.execCompletion n f s
  | .nack n f => Sys2Proof.Machine.execNack n f s
  | .redirect n f => Sys2Proof.Machine.execRedirect n f s
  | .seqNack n f => Sys2Proof.Machine.execSeqNack n f s
  | .keepalive n f => Sys2Proof.Machine.execKeepalive n f s
  | .pfcFrame n enable quanta => Sys2Proof.Machine.execPfcFrame n enable quanta s
  | .pauseFrame n => Sys2Proof.Machine.execPauseFrame n s
  | .xoffRepeat n sgrp => Sys2Proof.Machine.execXoffRepeat n sgrp s
  | .lldpTimer n => Sys2Proof.Machine.execLldpTimer n s
  | .retransmitTimer id => Sys2Proof.Machine.execRetransmitTimer id s
  | .requestTimeout id => Sys2Proof.Machine.execRequestTimeout id s
  | .gapWaitExpiry pos die sgrp => Sys2Proof.Machine.execGapWaitExpiry pos die sgrp s
  | .keepaliveTimer die pos => Sys2Proof.Machine.execKeepaliveTimer die pos s
  | .tagQuarantineExpiry die pos tag => Sys2Proof.Machine.execTagQuarantineExpiry die pos tag s
  | .tagSpaceFree die pos => Sys2Proof.Machine.execTagSpaceFree die pos s
  | .replayWindowFree pos die => Sys2Proof.Machine.execReplayWindowFree pos die s
  | .joinStart => Sys2Proof.Machine.execJoinStart s
  | .joinAnnounceTimer => Sys2Proof.Machine.execJoinAnnounceTimer s
  | .joinChallenge n f => Sys2Proof.Machine.execJoinChallenge n f s
  | .joinResult n f => Sys2Proof.Machine.execJoinResult n f s
  | .memberUpdate n f => Sys2Proof.Machine.execMemberUpdate n f s
  | .joinFragmentTimeout msgId => Sys2Proof.Machine.execJoinFragmentTimeout msgId s
  | .leave a v => Sys2Proof.Machine.execLeave a v s
  | .leaveSend => Sys2Proof.Machine.execLeaveSend s
  | .placeCommit a p v => Sys2Proof.Machine.execPlaceCommit a p v s
  | .pcacheMissFill die p loaf => Sys2Proof.Machine.execPcacheMissFill die p loaf s
  | .replicaFillComplete p loaf => Sys2Proof.Machine.execReplicaFillComplete p loaf s
  | .migStart a p v => Sys2Proof.Machine.execMigStart a p v s
  | .migClaim p => Sys2Proof.Machine.execMigClaim p s
  | .migFreezeTimeout p => Sys2Proof.Machine.execMigFreezeTimeout p s
  | .migVacate p => Sys2Proof.Machine.execMigVacate p s
  | .incomingTimeout loff => Sys2Proof.Machine.execIncomingTimeout loff s
  | .hostMemRead n dpa want => Sys2Proof.Machine.execHostMemRead n dpa want s
  | .hostMemWrite n dpa data mask poison => Sys2Proof.Machine.execHostMemWrite n dpa data mask poison s
  | .birsp n lin => Sys2Proof.Machine.execBirsp n lin s
  | .biTimeout n lin => Sys2Proof.Machine.execBiTimeout n lin s
  | .hdmDecoderCommit n k size ways => Sys2Proof.Machine.execHdmDecoderCommit n k size ways s
  | .cxlLinkDown n conventionalReset => Sys2Proof.Machine.execCxlLinkDown n conventionalReset s
  | .perstNAssert n => Sys2Proof.Machine.execPerstNAssert n s
  | .perstNRelease n => Sys2Proof.Machine.execPerstNRelease n s
  | .getEventRecords n log => Sys2Proof.Machine.execGetEventRecords n log s
  | .clearEventRecords n log => Sys2Proof.Machine.execClearEventRecords n log s
  | .getFwInfo n => Sys2Proof.Machine.execGetFwInfo n s
  | .getTimestamp n => Sys2Proof.Machine.execGetTimestamp n s
  | .setTimestamp n v => Sys2Proof.Machine.execSetTimestamp n v s
  | .getSupportedLogs n => Sys2Proof.Machine.execGetSupportedLogs n s
  | .getLog n log => Sys2Proof.Machine.execGetLog n log s
  | .identifyMemoryDevice n => Sys2Proof.Machine.execIdentifyMemoryDevice n s
  | .getPartitionInfo n => Sys2Proof.Machine.execGetPartitionInfo n s
  | .getHealthInfo n => Sys2Proof.Machine.execGetHealthInfo n s
  | .getPoisonList n => Sys2Proof.Machine.execGetPoisonList n s
  | .odWrite a index sub v => Sys2Proof.Machine.execOdWrite a index sub v s
  | .crumbRead path m => Sys2Proof.Machine.execCrumbRead path m s
  | .crumbWrite path m => Sys2Proof.Machine.execCrumbWrite path m s
  | .hello mctp m => Sys2Proof.Machine.execHello mctp m s
  | .confirm mctp m => Sys2Proof.Machine.execConfirm mctp m s
  | .close path m => Sys2Proof.Machine.execClose path m s
  | .challengeTimeout sid => Sys2Proof.Machine.execChallengeTimeout sid s
  | .sessionIdleTimeout path => Sys2Proof.Machine.execSessionIdleTimeout path s
  | .authRateLimitEnd mctp => Sys2Proof.Machine.execAuthRateLimitEnd mctp s
  | .quiesce a p v => Sys2Proof.Machine.execQuiesce a p v s
  | .quiesceDrainLimit p => Sys2Proof.Machine.execQuiesceDrainLimit p s
  | .quiesceApply p => Sys2Proof.Machine.execQuiesceApply p s
  | .poisonFillComplete p => Sys2Proof.Machine.execPoisonFillComplete p s
  | .cfgDiscard a p v => Sys2Proof.Machine.execCfgDiscard a p v s
  | .cfgRollback a p v => Sys2Proof.Machine.execCfgRollback a p v s
  | .mcfgDiscard a v => Sys2Proof.Machine.execMcfgDiscard a v s
  | .mcfgRollback a v => Sys2Proof.Machine.execMcfgRollback a v s
  | .winAddr a k v => Sys2Proof.Machine.execWinAddr a k v s
  | .winDataRead a k => Sys2Proof.Machine.execWinDataRead a k s
  | .winDataWrite a k v => Sys2Proof.Machine.execWinDataWrite a k v s
  | .winClose a k v => Sys2Proof.Machine.execWinClose a k v s
  | .locks a v => Sys2Proof.Machine.execLocks a v s
  | .hotswapConduct => Sys2Proof.Machine.execHotswapConduct s
  | .powerGood => Sys2Proof.Machine.execPowerGood s
  | .inputLoss => Sys2Proof.Machine.execInputLoss s
  | .inputOv => Sys2Proof.Machine.execInputOv s
  | .slewInterval mA mV fit ballastMj => Sys2Proof.Machine.execSlewInterval mA mV fit ballastMj s
  | .governorTick m => Sys2Proof.Machine.execGovernorTick m s
  | .jmGraceExpiry => Sys2Proof.Machine.execJmGraceExpiry s
  | .clockStepEffect die => Sys2Proof.Machine.execClockStepEffect die s
  | .sensorRead grp readings tPredUs => Sys2Proof.Machine.execSensorRead grp readings tPredUs s
  | .drainWindowExpiry => Sys2Proof.Machine.execDrainWindowExpiry s
  | .stackCriticalHoldExpiry stk => Sys2Proof.Machine.execStackCriticalHoldExpiry stk s
  | .oscTrim => Sys2Proof.Machine.execOscTrim s
  | .coldStart straps healthy => Sys2Proof.Machine.execColdStart straps healthy s
  | .lockstepMismatch => Sys2Proof.Machine.execLockstepMismatch s
  | .crustWatchdogExpiry => Sys2Proof.Machine.execCrustWatchdogExpiry s
  | .moduleReset a => Sys2Proof.Machine.execModuleReset a s
  | .preservingReset a => Sys2Proof.Machine.execPreservingReset a s
  | .crustReset a => Sys2Proof.Machine.execCrustReset a s
  | .modResetNAssert => Sys2Proof.Machine.execModResetNAssert s
  | .modResetNRelease => Sys2Proof.Machine.execModResetNRelease s
  | .start a v => Sys2Proof.Machine.execStart a v s
  | .trainingComplete failed => Sys2Proof.Machine.execTrainingComplete failed s
  | .fwCommit a v => Sys2Proof.Machine.execFwCommit a v s
  | .fwVerifyComplete => Sys2Proof.Machine.execFwVerifyComplete s
  | .fwConfirm a v => Sys2Proof.Machine.execFwConfirm a v s
  | .attestNonce a nonce => Sys2Proof.Machine.execAttestNonce a nonce s
  | .attestReportReady => Sys2Proof.Machine.execAttestReportReady s
  | .testUnlock a sig => Sys2Proof.Machine.execTestUnlock a sig s
  | .testPower a v => Sys2Proof.Machine.execTestPower a v s
  | .mtestCtrl a stk v => Sys2Proof.Machine.execMtestCtrl a stk v s
  | .mtestComplete stk => Sys2Proof.Machine.execMtestComplete stk s
  | .tileBist a v => Sys2Proof.Machine.execTileBist a v s
  | .tileBistComplete passed => Sys2Proof.Machine.execTileBistComplete passed s
  | .portPrbs a n v => Sys2Proof.Machine.execPortPrbs a n v s
  | .auxiliaryPowerLoss => Sys2Proof.Machine.execAuxiliaryPowerLoss s
  | .cxlLinkUp n full => Sys2Proof.Machine.execCxlLinkUp n full s
  | .refclkChange n present => Sys2Proof.Machine.execRefclkChange n present s
  | .tpElapsed => Sys2Proof.Machine.execTpElapsed s
  | .startFail step which => Sys2Proof.Machine.execStartFail step which s
  | .testPowerLevelReached level => Sys2Proof.Machine.execTestPowerLevelReached level s
  | .badFrame n f => Sys2Proof.Machine.execBadFrame n f s
  | .illegalInstruction c => Sys2Proof.Machine.execIllegalInstruction c s
  | .unsupportedMailboxCommand n opcode => Sys2Proof.Machine.execUnsupportedMailboxCommand n opcode s

end Sys2Proof.Machine
end

