-- ==== Sys2Proof/Machine/Tick.lean ====
section
/-! DEFINITION. What happens when no command waits: the crust's slow clock advances by 1 µs (log entry 2). -/

namespace Sys2Proof.Machine

/-! ### Counters of time (10 R329, R334; 12 R417, R426, R438) -/

/-- Hearth cycles in 1 µs of a cluster's hearth die (16 R547). -/
def State.hearthCycles (s : State) (c : Nat) : Nat := 100 * s.power.freqs.getD (c / 12) 33

/-- Sequencer clock edges in 1 µs: half the hearth cycles (10 R334). -/
def State.edgesPerUs (s : State) (c : Nat) : Nat := s.hearthCycles c / 2

/-- Fabric core cycles in 1 µs (01 R34). -/
def fabricCycles : Nat := 1600

/-- CYC of every assigned cluster. -/
def State.tickCores (s : State) : State :=
  { s with clusters := s.clusters.map fun kc =>
      (kc.1, if kc.2.part.isSome then
        { kc.2 with core := { kc.2.core with cyc := wrapAdd 64 kc.2.core.cyc (s.edgesPerUs kc.1) } }
      else kc.2) }

/-- The core waits on a full queue or a full stream. -/
def Core.onFull (k : Core) : Bool :=
  k.st == .waiting && (match k.wait with
    | some (.fullQueue _) => true
    | some (.fullStream _ _) => true
    | _ => false)

/-- FULL_STALL of the cores that wait on a full queue or stream. -/
def State.tickFull (s : State) : State :=
  (s.clusters.filter fun kc => kc.2.core.onFull).foldl (fun s kc => s.bump (0x5400 + kc.1) 5 (s.hearthCycles kc.1)) s

/-- A waiting request lacks a credit; it lacks a tag or a tag space. -/
def State.wantsCredit (s : State) (w : Waiting) (die : Nat) : Bool :=
  decide (s.credits (levelOf s.pos w.pos) ≤
    (s.fab.outst.filter fun o => o.die == die && o.pos == w.pos && o.sgrp == w.sgrp).length)

def State.wantsTag (s : State) (w : Waiting) (die : Nat) : Bool :=
  let t := Tab.find s.fab.spaces (spaceKey die w.pos)
  let tag := ((t.map TagSpace.ctr).getD 0) % 65536
  ((t.map TagSpace.quar).getD []).contains tag
    || (s.fab.outst.any fun o => o.die == die && o.pos == w.pos && o.ctr % 65536 == tag)
    || (t.isNone && decide (8192 ≤ (s.fab.spaces.filter fun kv => kv.1 / 2 ^ 20 == die).length))

/-- TAG_STALLS and CREDIT_STALLS: an I/O die counts while a request waits there for a tag, or for a credit. -/
def State.tickStalls (s : State) : State :=
  let want (f : Waiting → Nat → Bool) : Nat :=
    ((upTo s.build.ioDies).filter fun d => s.fab.waiting.any fun w =>
      s.egressDie w.via w.pos w.sgrp == some d && f w d).length
  let tags := want s.wantsTag
  let credits := want s.wantsCredit
  let s1 := if tags = 0 then s else s.bump 0x6010 9 (fabricCycles * tags)
  if credits = 0 then s1 else s1.bump 0x6010 10 (fabricCycles * credits)

/-- PAUSED_CYCLES of a port with a paused priority; a pause whose time has come ends (12 R415). -/
def State.tickPort (s : State) (n : Nat) : State :=
  let p := s.port n
  if p.paused = 0 then s
  else
    let done := (upTo 8).filter fun i => p.paused.getLsbD i && decide (p.pauseEnd.getD i 0 ≤ s.crust.time)
    (s.bump (0x6100 + n) 7 fabricCycles).modPort n fun p =>
      { p with paused := done.foldl (fun m i => m &&& ~~~ BitVec.ofNat 8 (2 ^ i)) p.paused }

/-- FEC_CORRECTED and FEC_UNCORRECTED of a port that is up, and PRBS_ERRORS of one that checks a pattern, rise by what the
lanes have shown in the tick: free values (12 R440; 17 R595; log entry 81). -/
def State.tickLanes (s : State) (n : Nat) : State :=
  let s1 := if (s.port n).up then
      ((s.bump (0x6100 + n) 2 (Config.freeNat s.free)).bump (0x6100 + n) 3 (Config.freeNat (s.free + 1))).draw.draw
    else s
  if s.crust.svc = .test && s.ethFitted n && s.odNat (0xF200 + n) 2 = 1 then
    (s1.bump (0xF200 + n) 3 (Config.freeNat s1.free)).draw
  else s1

/-- The array of a tile waits for A lines: an MMA has started and lacks lines (07 STALL_A). -/
def Tile.stallsA (ti : Tile) : Bool := match ti.engA with
  | some k => !k.done
  | none => false

/-- An MMA that lacks only its panel: an earlier PANEL into the same panel buffer is not done (07 STALL_PANEL). -/
def State.stallsPanel (s : State) (c t : Nat) : Bool := match s.nextFor c t .array with
  | none => false
  | some x =>
    let before := ((s.cluster c).queue t).entries.takeWhile fun y => y.ticket != x.ticket
    x.disp && (s.tile c t).engA.isNone && before.any (s.mqConflict c t x)
      && (before.filter (s.mqConflict c t x)).all fun y => mqCmd y.desc == 0

/-- The vector engine waits: an instruction that has started has not all its lines, or a line it wrote has not settled
(08 R285). -/
def State.stallsIo (s : State) (c : Nat) : Bool :=
  (s.cluster c).vecBlk.isSome || ((s.cluster c).vec.isSome && !s.settled (.vec c))

/-- The tile computes: an MMA has all of its lines. -/
def Tile.computes (ti : Tile) : Bool := match ti.engA with
  | some k => k.done
  | none => false

/-- STALL_A, STALL_PANEL and STALL_IO count the hearth cycles of the tick. Where the array or the lanes compute, they stall in
the last 16 − D of every 16 cycles at duty D, and these count too (16 R540). -/
def State.tickEngines (s : State) : State :=
  ((s.clusters.map Prod.fst).filter s.clusterOn).foldl (fun s c =>
    let n := s.hearthCycles c
    let cut := n * (16 - s.duty) / 16
    let s1 := (upTo 4).foldl (fun s t =>
      let a := if (s.tile c t).stallsA then n else if (s.tile c t).computes then cut else 0
      let s1 := if a = 0 then s else s.bump (0x5100 + tileNo c t) 2 a
      if s.stallsPanel c t then s1.bump (0x5100 + tileNo c t) 3 n else s1) s
    let b := if s.stallsIo c then n else if (s.cluster c).vec.isSome then cut else 0
    if b = 0 then s1 else s1.bump (0x5200 + c) 3 b) s

/-! ### One microsecond -/

/-- The rings that have completion records to write (10 R363). -/
def State.tickRings (s : State) : State :=
  (upTo 256).foldl (fun s k =>
    if (s.ring k).recs = [] then s else s.ringRecords (k / 16) (k % 16) 64) s

/-- What the main domains do without a command: time is counted, pauses end, and what waited for another effect is
tried again. -/
def State.tickMain (s : State) : State :=
  let s1 := ((s.tickCores.tickFull).tickStalls).tickEngines
  let s2 := (upTo 24).foldl (fun s n => (s.tickPort n).tickLanes n) s1
  let s3 := (s2.clusters.map Prod.fst).foldl State.closeCycle s2
  ((((s3.flushTx).pump).settle).tickRings).retryHeld

/-- One microsecond of crust time, while auxiliary power keeps the crust running (17 R571). -/
def State.tickAll (s : State) : State :=
  if !s.power.aux then s
  else
    let s1 : State := { s with crust := { s.crust with time := wrapAdd 48 s.crust.time 1 } }
    if s.power.main then s1.tickMain else s1

/-- What time alone does; it sends no command to the queue and leaves the build as it is. -/
def State.tick (s : State) : State := keep s s.tickAll

end Sys2Proof.Machine
end

