-- ==== Sys2Proof/WellFormed.lean ====
section
/-! DEFINITION. Well-formed commands: every unit number a command names exists in the largest build of the
module. Whether it exists in this build, the meanings check (00 R5, R6). -/

namespace Sys2Proof

/-- What an operand numbers. -/
inductive UnitKind where
  | stack | channel | bank | row | latch | moduleBank | stackPort | cluster | tile | queue
  | partition | ring | ioDie | hearthDie | ethPort | cxlPort | group | position | link | tag | flag
  | window | decoder | accSize | accByte
  deriving DecidableEq, Repr

/-- How many there are at most (00 R5, R6; 02 R41, R43; 01 R28; 10 R327, R337, R360; 11 R370; 12 R409,
R413; 14 R481; 15 R507, R516, R525). -/
def UnitKind.bound : UnitKind → Nat
  | .stack => 16 | .channel => 64 | .bank => 16 | .row => 32768 | .latch => 2
  | .moduleBank => 16384 | .stackPort => 8 | .cluster => 48 | .tile => 4 | .queue => 8
  | .partition => 16 | .ring => 16 | .ioDie => 6 | .hearthDie => 4 | .ethPort => 24 | .cxlPort => 6
  | .group => 2 | .position => 1048576 | .link => 128 | .tag => 65536 | .flag => 48 | .window => 11
  | .decoder => 16 | .accSize => 9 | .accByte => 8

/-- The units that a command names. -/
def Instr.units : Instr → List (UnitKind × Nat)
  | .ucieLinkDown link => [(.link, link)]
  | .routeSwitch link => [(.link, link)]
  | .portRequest stk port _ _ _ _ _ _ => [(.stack, stk), (.stackPort, port)]
  | .urgencyStep _ _ => []
  | .requestAged _ _ => []
  | .act stk ch bank row _ => [(.stack, stk), (.channel, ch), (.bank, bank), (.row, row)]
  | .pre stk ch bank latch _ => [(.stack, stk), (.channel, ch), (.bank, bank), (.latch, latch)]
  | .preb stk ch bank _ => [(.stack, stk), (.channel, ch), (.bank, bank)]
  | .rd stk ch _ _ _ => [(.stack, stk), (.channel, ch)]
  | .wr stk ch _ _ _ => [(.stack, stk), (.channel, ch)]
  | .refpb stk ch bank _ => [(.stack, stk), (.channel, ch), (.bank, bank)]
  | .nrr stk ch bank half _ => [(.stack, stk), (.channel, ch), (.bank, bank), (.latch, half)]
  | .sre stk ch _ => [(.stack, stk), (.channel, ch)]
  | .srx stk ch _ => [(.stack, stk), (.channel, ch)]
  | .mrw stk ch _ _ _ => [(.stack, stk), (.channel, ch)]
  | .mrr stk ch _ _ => [(.stack, stk), (.channel, ch)]
  | .tokenReturn stk _ => [(.stack, stk)]
  | .refreshInterval stk ch bank _ => [(.stack, stk), (.channel, ch), (.bank, bank)]
  | .refreshWindow stk => [(.stack, stk)]
  | .srIdleExpiry stk ch _ => [(.stack, stk), (.channel, ch)]
  | .napEntry stk => [(.stack, stk)]
  | .scrubDue stk ch _ => [(.stack, stk), (.channel, ch)]
  | .scrubCatchUp stk ch _ => [(.stack, stk), (.channel, ch)]
  | .softSpare mbn row _ => [(.moduleBank, mbn), (.row, row)]
  | .sprigModeEnter stk ch _ _ => [(.stack, stk), (.channel, ch)]
  | .sprigModeLeave stk ch _ _ => [(.stack, stk), (.channel, ch)]
  | .recipeWrite stk ch _ _ _ => [(.stack, stk), (.channel, ch)]
  | .operandBcast stk ch _ _ _ => [(.stack, stk), (.channel, ch)]
  | .sprigRun stk ch _ _ _ => [(.stack, stk), (.channel, ch)]
  | .sprigDrain stk ch _ _ => [(.stack, stk), (.channel, ch)]
  | .sprigStatus stk ch _ _ => [(.stack, stk), (.channel, ch)]
  | .stepNop mbn _ => [(.moduleBank, mbn)]
  | .stepUnpack mbn _ => [(.moduleBank, mbn)]
  | .stepFma mbn _ => [(.moduleBank, mbn)]
  | .stepAdd mbn _ => [(.moduleBank, mbn)]
  | .stepMul mbn _ => [(.moduleBank, mbn)]
  | .stepMax mbn _ => [(.moduleBank, mbn)]
  | .stepCsel mbn _ => [(.moduleBank, mbn)]
  | .stepDot mbn _ => [(.moduleBank, mbn)]
  | .stepFold mbn _ => [(.moduleBank, mbn)]
  | .stepLoad mbn _ => [(.moduleBank, mbn)]
  | .stepStore mbn _ => [(.moduleBank, mbn)]
  | .stepWb mbn _ => [(.moduleBank, mbn)]
  | .stepDrain mbn _ => [(.moduleBank, mbn)]
  | .stepSets mbn _ => [(.moduleBank, mbn)]
  | .stepSetp mbn _ => [(.moduleBank, mbn)]
  | .stepRetire mbn _ _ => [(.moduleBank, mbn)]
  | .runDoneReport mbn _ => [(.moduleBank, mbn)]
  | .runResume mbn _ => [(.moduleBank, mbn)]
  | .sprigJob c _ _ => [(.cluster, c)]
  | .jobBankBegin _ mbn _ => [(.moduleBank, mbn)]
  | .jobComplete _ => []
  | .srSeedMode a _ _ => [(.accSize, a.size), (.accByte, a.off)]
  | .srSeed a _ _ => [(.accSize, a.size), (.accByte, a.off)]
  | .panel c tile => [(.cluster, c), (.tile, tile)]
  | .mma c tile => [(.cluster, c), (.tile, tile)]
  | .cload c tile => [(.cluster, c), (.tile, tile)]
  | .store c tile => [(.cluster, c), (.tile, tile)]
  | .lineResponse c _ _ => [(.cluster, c)]
  | .tileCmdComplete c tile _ => [(.cluster, c), (.tile, tile)]
  | .chainInstruction c => [(.cluster, c)]
  | .chainComplete c => [(.cluster, c)]
  | .layoutCopy c => [(.cluster, c)]
  | .layoutGather c => [(.cluster, c)]
  | .layoutScatter c => [(.cluster, c)]
  | .transferComplete c => [(.cluster, c)]
  | .halt c => [(.cluster, c)]
  | .alu c => [(.cluster, c)]
  | .addi c => [(.cluster, c)]
  | .andi c => [(.cluster, c)]
  | .ori c => [(.cluster, c)]
  | .xori c => [(.cluster, c)]
  | .shli c => [(.cluster, c)]
  | .shri c => [(.cluster, c)]
  | .sari c => [(.cluster, c)]
  | .slti c => [(.cluster, c)]
  | .lui c => [(.cluster, c)]
  | .lbu c => [(.cluster, c)]
  | .lhu c => [(.cluster, c)]
  | .lwu c => [(.cluster, c)]
  | .ld c => [(.cluster, c)]
  | .sb c => [(.cluster, c)]
  | .sh c => [(.cluster, c)]
  | .sw c => [(.cluster, c)]
  | .sd c => [(.cluster, c)]
  | .beq c => [(.cluster, c)]
  | .bne c => [(.cluster, c)]
  | .blt c => [(.cluster, c)]
  | .bge c => [(.cluster, c)]
  | .bltu c => [(.cluster, c)]
  | .bgeu c => [(.cluster, c)]
  | .jmp c => [(.cluster, c)]
  | .call c => [(.cluster, c)]
  | .jr c => [(.cluster, c)]
  | .qpush c => [(.cluster, c)]
  | .qabort c => [(.cluster, c)]
  | .qinfo c => [(.cluster, c)]
  | .spush c => [(.cluster, c)]
  | .sflush c => [(.cluster, c)]
  | .sinfo c => [(.cluster, c)]
  | .frd c => [(.cluster, c)]
  | .fwr c _ => [(.cluster, c)]
  | .fadd c _ => [(.cluster, c)]
  | .fwait c => [(.cluster, c)]
  | .cyc c => [(.cluster, c)]
  | .odrd c => [(.cluster, c)]
  | .wfe c => [(.cluster, c)]
  | .ifence c => [(.cluster, c)]
  | .whoami c => [(.cluster, c)]
  | .queueDispatch c q => [(.cluster, c), (.queue, q)]
  | .entryDelivery c q _ => [(.cluster, c), (.queue, q)]
  | .doorbellWrite port _ _ _ => [(.cxlPort, port)]
  | .ringPush p r _ => [(.partition, p), (.ring, r)]
  | .ringStart p r => [(.partition, p), (.ring, r)]
  | .ringLoad p r => [(.partition, p), (.ring, r)]
  | .ringAbort p r => [(.partition, p), (.ring, r)]
  | .ringNop p r => [(.partition, p), (.ring, r)]
  | .ringRestart a p r _ => [(.accSize, a.size), (.accByte, a.off), (.partition, p), (.ring, r)]
  | .flagN a c n _ _ => [(.accSize, a.size), (.accByte, a.off), (.cluster, c), (.flag, n)]
  | .flagAdd a c _ _ => [(.accSize, a.size), (.accByte, a.off), (.cluster, c)]
  | .watchdogTest c => [(.cluster, c)]
  | .dumpNow a p _ => [(.accSize, a.size), (.accByte, a.off), (.partition, p)]
  | .countTimeout pos cl => [(.position, pos), (.cluster, cl)]
  | .arrivalCounterFree pos cl => [(.position, pos), (.cluster, cl)]
  | .fqRead c _ => [(.cluster, c)]
  | .fqWrite c _ => [(.cluster, c)]
  | .fqReduce c _ => [(.cluster, c)]
  | .fqAtomic c _ => [(.cluster, c)]
  | .fqSignal c _ _ => [(.cluster, c)]
  | .fqCountedSignal c _ _ => [(.cluster, c)]
  | .fqOpComplete c _ => [(.cluster, c)]
  | .portUp n => [(.ethPort, n)]
  | .portDown n => [(.ethPort, n)]
  | .read n _ => [(.ethPort, n)]
  | .write n _ => [(.ethPort, n)]
  | .reduce n _ => [(.ethPort, n)]
  | .atomic n _ => [(.ethPort, n)]
  | .signal n _ _ => [(.ethPort, n)]
  | .countedSignal n _ _ => [(.ethPort, n)]
  | .replicaInv n _ => [(.ethPort, n)]
  | .placementClaim n _ => [(.ethPort, n)]
  | .placementPublish n _ => [(.ethPort, n)]
  | .completion n _ => [(.ethPort, n)]
  | .nack n _ => [(.ethPort, n)]
  | .redirect n _ => [(.ethPort, n)]
  | .seqNack n _ => [(.ethPort, n)]
  | .keepalive n _ => [(.ethPort, n)]
  | .pfcFrame n _ _ => [(.ethPort, n)]
  | .pauseFrame n => [(.ethPort, n)]
  | .xoffRepeat n sgrp => [(.ethPort, n), (.group, sgrp)]
  | .lldpTimer n => [(.ethPort, n)]
  | .retransmitTimer _ => []
  | .requestTimeout _ => []
  | .gapWaitExpiry pos die sgrp => [(.position, pos), (.ioDie, die), (.group, sgrp)]
  | .keepaliveTimer die pos => [(.ioDie, die), (.position, pos)]
  | .tagQuarantineExpiry die pos tag => [(.ioDie, die), (.position, pos), (.tag, tag)]
  | .tagSpaceFree die pos => [(.ioDie, die), (.position, pos)]
  | .replayWindowFree pos die => [(.position, pos), (.ioDie, die)]
  | .joinStart => []
  | .joinAnnounceTimer => []
  | .joinChallenge n _ => [(.ethPort, n)]
  | .joinResult n _ => [(.ethPort, n)]
  | .memberUpdate n _ => [(.ethPort, n)]
  | .joinFragmentTimeout _ => []
  | .leave a _ => [(.accSize, a.size), (.accByte, a.off)]
  | .leaveSend => []
  | .placeCommit a p _ => [(.accSize, a.size), (.accByte, a.off), (.partition, p)]
  | .pcacheMissFill die p _ => [(.ioDie, die), (.partition, p)]
  | .replicaFillComplete p _ => [(.partition, p)]
  | .migStart a p _ => [(.accSize, a.size), (.accByte, a.off), (.partition, p)]
  | .migClaim p => [(.partition, p)]
  | .migFreezeTimeout p => [(.partition, p)]
  | .migVacate p => [(.partition, p)]
  | .incomingTimeout _ => []
  | .hostMemRead n _ _ => [(.cxlPort, n)]
  | .hostMemWrite n _ _ _ _ => [(.cxlPort, n)]
  | .birsp n _ => [(.cxlPort, n)]
  | .biTimeout n _ => [(.cxlPort, n)]
  | .hdmDecoderCommit n k _ _ => [(.cxlPort, n), (.decoder, k)]
  | .cxlLinkDown n _ => [(.cxlPort, n)]
  | .perstNAssert n => [(.cxlPort, n)]
  | .perstNRelease n => [(.cxlPort, n)]
  | .getEventRecords n _ => [(.cxlPort, n)]
  | .clearEventRecords n _ => [(.cxlPort, n)]
  | .getFwInfo n => [(.cxlPort, n)]
  | .getTimestamp n => [(.cxlPort, n)]
  | .setTimestamp n _ => [(.cxlPort, n)]
  | .getSupportedLogs n => [(.cxlPort, n)]
  | .getLog n _ => [(.cxlPort, n)]
  | .identifyMemoryDevice n => [(.cxlPort, n)]
  | .getPartitionInfo n => [(.cxlPort, n)]
  | .getHealthInfo n => [(.cxlPort, n)]
  | .getPoisonList n => [(.cxlPort, n)]
  | .odWrite a _ _ _ => [(.accSize, a.size), (.accByte, a.off)]
  | .crumbRead _ _ => []
  | .crumbWrite _ _ => []
  | .hello _ _ => []
  | .confirm _ _ => []
  | .close _ _ => []
  | .challengeTimeout _ => []
  | .sessionIdleTimeout _ => []
  | .authRateLimitEnd _ => []
  | .quiesce a p _ => [(.accSize, a.size), (.accByte, a.off), (.partition, p)]
  | .quiesceDrainLimit p => [(.partition, p)]
  | .quiesceApply p => [(.partition, p)]
  | .poisonFillComplete p => [(.partition, p)]
  | .cfgDiscard a p _ => [(.accSize, a.size), (.accByte, a.off), (.partition, p)]
  | .cfgRollback a p _ => [(.accSize, a.size), (.accByte, a.off), (.partition, p)]
  | .mcfgDiscard a _ => [(.accSize, a.size), (.accByte, a.off)]
  | .mcfgRollback a _ => [(.accSize, a.size), (.accByte, a.off)]
  | .winAddr a k _ => [(.accSize, a.size), (.accByte, a.off), (.window, k)]
  | .winDataRead a k => [(.accSize, a.size), (.accByte, a.off), (.window, k)]
  | .winDataWrite a k _ => [(.accSize, a.size), (.accByte, a.off), (.window, k)]
  | .winClose a k _ => [(.accSize, a.size), (.accByte, a.off), (.window, k)]
  | .locks a _ => [(.accSize, a.size), (.accByte, a.off)]
  | .hotswapConduct => []
  | .powerGood => []
  | .inputLoss => []
  | .inputOv => []
  | .slewInterval _ _ _ _ => []
  | .governorTick _ => []
  | .jmGraceExpiry => []
  | .clockStepEffect die => [(.hearthDie, die)]
  | .sensorRead _ _ _ => []
  | .drainWindowExpiry => []
  | .stackCriticalHoldExpiry stk => [(.stack, stk)]
  | .oscTrim => []
  | .coldStart _ _ => []
  | .lockstepMismatch => []
  | .crustWatchdogExpiry => []
  | .moduleReset a => [(.accSize, a.size), (.accByte, a.off)]
  | .preservingReset a => [(.accSize, a.size), (.accByte, a.off)]
  | .crustReset a => [(.accSize, a.size), (.accByte, a.off)]
  | .modResetNAssert => []
  | .modResetNRelease => []
  | .start a _ => [(.accSize, a.size), (.accByte, a.off)]
  | .trainingComplete _ => []
  | .fwCommit a _ => [(.accSize, a.size), (.accByte, a.off)]
  | .fwVerifyComplete => []
  | .fwConfirm a _ => [(.accSize, a.size), (.accByte, a.off)]
  | .attestNonce a _ => [(.accSize, a.size), (.accByte, a.off)]
  | .attestReportReady => []
  | .testUnlock a _ => [(.accSize, a.size), (.accByte, a.off)]
  | .testPower a _ => [(.accSize, a.size), (.accByte, a.off)]
  | .mtestCtrl a stk _ => [(.accSize, a.size), (.accByte, a.off), (.stack, stk)]
  | .mtestComplete stk => [(.stack, stk)]
  | .tileBist a _ => [(.accSize, a.size), (.accByte, a.off)]
  | .tileBistComplete _ => []
  | .portPrbs a n _ => [(.accSize, a.size), (.accByte, a.off), (.ethPort, n)]
  | .auxiliaryPowerLoss => []
  | .cxlLinkUp n _ => [(.cxlPort, n)]
  | .refclkChange n _ => [(.cxlPort, n)]
  | .tpElapsed => []
  | .startFail _ _ => []
  | .testPowerLevelReached _ => []
  | .badFrame n _ => [(.ethPort, n)]
  | .illegalInstruction c => [(.cluster, c)]
  | .unsupportedMailboxCommand n _ => [(.cxlPort, n)]

/-- A command is well formed when every unit number is in range. -/
def Instr.wf (i : Instr) : Bool := i.units.all fun u => decide (u.2 < u.1.bound)

end Sys2Proof
end

