-- ==== Sys2Proof/Safety.lean ====
section
/-! DEFINITION. What claims about the module are stated in terms of: the canonical form of memory, what a command
answers, the frames, and the invariant that every step keeps. -/

namespace Sys2Proof.Machine

/-- The DRAM table is in canonical form: keys rising, no entry equal to what an unlisted column reads as. -/
def Mem.wf (m : Mem) : Bool := Tab.wf blankCol m.dram

/-- What every command answers: a next state with the same build and queue. -/
def Served (s : State) (o : Out) : Prop := ∃ t, o = .next t ∧ t.build = s.build ∧ t.pending = s.pending

/-- The command is carried out in `s`, and the state that it leaves has the property. -/
def Completes (i : Instr) (s : State) (P : State → Prop) : Prop := ∃ t, exec i s = .next t ∧ P t

/-- The assemblies that are built: fitted stack positions and I/O dies (00 R3, R5, R6). -/
def Build.assembled (b : Build) : Bool :=
  [((0x3333 : BitVec 16), 2), (0x7777, 4), (0xFFFF, 4), (0xFFFF, 6)].contains (b.fitted, b.ioDies)

/-- Enabled tiles of a cluster, and of the module. -/
def Build.tilesOf (b : Build) (c : Nat) : Nat := ((upTo 4).filter fun t => b.tiles.getLsbD (4 * c + t)).length
def Build.tileCount (b : Build) : Nat := ((upTo 48).map b.tilesOf).sum

/-- The enabled tiles suit the grade: all 192 for A; 176 to 192, and at least 3 in every cluster, for B (00 R9; 07 R222). -/
def Build.graded (b : Build) : Bool :=
  if b.gradeB then decide (176 ≤ b.tileCount) && (upTo 48).all fun c => decide (3 ≤ b.tilesOf c)
  else decide (b.tileCount = 192)

/-- A module that is made: one of the assemblies, with the tiles of its grade. -/
def Build.legal (b : Build) : Bool := b.assembled && b.graded

/-- The module is one of the assemblies that are built, and every waiting command names units of the largest. -/
def Inv (s : State) : Prop := s.build.legal = true ∧ ∀ c ∈ s.pending, c.wf = true

/-! ### Frames -/

/-- Only the stack side has changed. -/
def OnlyMem (s t : State) : Prop := { t with mem := s.mem } = s

/-- Of the stack side, only the contents of memory are the same. -/
def DramSame (s t : State) : Prop := t.mem.dram = s.mem.dram

/-- A job apart from the time that its ACTs have waited for tokens. -/
def Job.unwaited (j : Job) : Job := { j with res := { j.res with tokenWait := 0 } }

/-- A job apart from what a command on bank `mbn` may change: its place there, the cycles of its commands, and what it
has waited, paused, let pass and collected. -/
def Job.apart (j : Job) (mbn : Nat) : Job :=
  { j with
    banks := j.banks.filter fun b => b.mbn != mbn
    span := []
    res := { j.res with tokenWait := 0, pauses := 0, interleaved := 0, ceTotal := 0 } }

/-- The jobs have only waited for tokens. -/
def JobsWaited (s t : State) : Prop :=
  ∀ id, (Tab.find t.mem.jobs id).map Job.unwaited = (Tab.find s.mem.jobs id).map Job.unwaited

/-- The jobs are the same but for waits, and for the progress on bank `mbn` of the job that holds it. -/
def JobsKept (s t : State) (mbn : Nat) : Prop :=
  (∀ id, (Tab.find t.mem.jobs id).map (·.apart mbn) = (Tab.find s.mem.jobs id).map (·.apart mbn))
    ∧ ∀ id, (s.bank mbn).hold ≠ some id →
      (Tab.find t.mem.jobs id).map Job.unwaited = (Tab.find s.mem.jobs id).map Job.unwaited

/-- Of the management state only the dictionary values listed have changed. -/
def OdKept (s t : State) (ks : List Nat) : Prop :=
  { t.mgmt with od := s.mgmt.od } = s.mgmt ∧ ∀ k, k ∉ ks → Tab.find t.mgmt.od k = Tab.find s.mgmt.od k

/-- Of the banks, channels and stack controllers only these may have changed. -/
def PlaceKept (s t : State) (mbn ck n : Nat) : Prop :=
  (∀ b, b ≠ mbn → t.bank b = s.bank b) ∧ (∀ k, k ≠ ck → t.chan k = s.chan k) ∧ ∀ j, j ≠ n → t.stk j = s.stk j

/-- The contents of memory, and what is queued and has been answered, are the same. -/
def Unserved (s t : State) : Prop :=
  t.mem.dram = s.mem.dram ∧ t.mem.reqs = s.mem.reqs ∧ t.mem.resps = s.mem.resps

/-- A command of stack `n` on bank `mbn` and channel `ck` has changed nothing outside the stack side but the dictionary
values listed, and there nothing of another bank, channel or stack. Only with errors found (`err`) the log, the error
counters, the rows' counts and the spare requests may have changed too. -/
def StackFrame (s t : State) (mbn ck n : Nat) (ks : List Nat) (err : Bool) : Prop :=
  { t with mem := s.mem, mgmt := s.mgmt, crust := s.crust } = s
    ∧ OdKept s t (if err then odKey (0x3030 + n) 2 :: odKey (0x3030 + n) 3 :: ks else ks)
    ∧ { t.mem with
        banks := s.mem.banks, chans := s.mem.chans, stkc := s.mem.stkc, jobs := s.mem.jobs, dram := s.mem.dram
        reqs := s.mem.reqs, resps := s.mem.resps, rowCe := s.mem.rowCe, spareReq := s.mem.spareReq } = s.mem
    ∧ PlaceKept s t mbn ck n ∧ JobsKept s t mbn
    ∧ (err = false → t.crust = s.crust ∧ t.mem.rowCe = s.mem.rowCe ∧ t.mem.spareReq = s.mem.spareReq)

/-- An extended command has changed only the banks of its mask, their jobs, what its channel holds of column commands, and
the bursts returned; with errors counted (`err`) also the log, the error counters, the rows' counts and the spare
requests. -/
def ExtFrame (s t : State) (stk ch : Nat) (w : BitVec 48) (err : Bool) : Prop :=
  let c := s.chan (chanKey stk ch)
  { t with mem := s.mem, mgmt := s.mgmt, crust := s.crust } = s
    ∧ OdKept s t (if err then [odKey (0x3030 + stk) 2, odKey (0x3030 + stk) 3] else [])
    ∧ { t.mem with
        banks := s.mem.banks, chans := s.mem.chans, jobs := s.mem.jobs, bursts := s.mem.bursts, dram := s.mem.dram
        rowCe := s.mem.rowCe, spareReq := s.mem.spareReq } = s.mem
    ∧ (∀ b, b ∉ extBanks stk ch w → t.bank b = s.bank b) ∧ (∀ k, k ≠ chanKey stk ch → t.chan k = s.chan k)
    ∧ { t.chan (chanKey stk ch) with colSlot := c.colSlot, bursts := c.bursts, rdAt := c.rdAt, wrAt := c.wrAt } = c
    ∧ (∀ id, (∀ b ∈ extBanks stk ch w, (s.bank b).hold ≠ some id) → Tab.find t.mem.jobs id = Tab.find s.mem.jobs id)
    ∧ (err = false → t.crust = s.crust ∧ t.mem.rowCe = s.mem.rowCe ∧ t.mem.spareReq = s.mem.spareReq)

/-- Only bank `mbn` of the stack side has changed. -/
def OnlyBank (s t : State) (mbn : Nat) : Prop :=
  OnlyMem s t ∧ { t.mem with banks := s.mem.banks } = s.mem ∧ ∀ b, b ≠ mbn → t.bank b = s.bank b

/-- No request in flight has come over the link. -/
def State.linkFree (s : State) (link : Nat) : Prop :=
  (∀ o ∈ s.fab.outst, o.way.contains link = false) ∧ (∀ x ∈ s.fab.pool, x.way.contains link = false)
    ∧ ∀ r ∈ s.mem.reqs, r.route.contains link = false

/-- Corrected errors that closing latch `l` of a bank collects (04 R155). -/
def State.ceOf (s : State) (mbn l : Nat) : Nat :=
  let q := (s.bank mbn).unit.status
  if (s.bank mbn).unit.active && (s.bank mbn).isOpen l then (if l = 0 then q.ce0 else q.ce1) else 0

/-- No request of this module waits, has completed at once unsettled, or awaits its invalidations. -/
def State.quiet (s : State) : Prop := s.fab.waiting = [] ∧ s.fab.dead = [] ∧ s.place.rounds = []

/-- No request is held here for a block of memory to be free, and no port owes its peer an XOFF or an XON. -/
def State.nothingHeld (s : State) : Prop :=
  s.place.held = [] ∧ ∀ n, n < 4 * s.build.ioDies → (s.port n).up = true →
    (s.port n).xoff0 = false ∧ (s.port n).xoff1 = false

/-! ### Families of commands -/

/-- The extended commands with CMD and ENTER (05 R172); the burst of those that carry none is no operand. -/
def extRows : List (Nat × Option Bool × Bool × (Nat → Nat → BitVec 48 → Column → Nat → Instr)) :=
  [(0x10, some true, false, fun s c w _ t => .sprigModeEnter s c w t),
    (0x10, some false, false, fun s c w _ t => .sprigModeLeave s c w t),
    (0x11, none, true, .recipeWrite), (0x12, none, true, .operandBcast), (0x13, none, true, .sprigRun),
    (0x14, none, false, fun s c w _ t => .sprigDrain s c w t), (0x15, none, false, fun s c w _ t => .sprigStatus s c w t)]

/-- The commands that issue a recipe step, with the opcode of the step (04 R132). -/
def stepRows : List (Nat × (Nat → Nat → Instr)) :=
  [(0x00, .stepNop), (0x01, .stepUnpack), (0x02, .stepFma), (0x03, .stepAdd), (0x04, .stepMul), (0x05, .stepMax),
    (0x06, .stepCsel), (0x08, .stepDot), (0x09, .stepFold), (0x0C, .stepLoad), (0x0D, .stepStore), (0x0E, .stepWb),
    (0x10, .stepDrain), (0x18, .stepSets), (0x19, .stepSetp)]

/-- The commands that start a tile command, with its CMD code (07 R228). -/
def tileRows : List (Nat × (Nat → Nat → Instr)) := [(0, .panel), (1, .mma), (2, .cload), (3, .store)]

/-- No stopped entry of a tile still owes its stream the lines to discard, and the core waits on no stream of it. -/
def TileFree (s : State) (c t : Nat) : Prop :=
  (∀ y ∈ ((s.cluster c).queue t).entries, y.owesDrop = false) ∧ ∀ n, (s.cluster c).core.wait ≠ some (.fullStream t n)

/-- A tile has changed of its cluster, and the entries of its queue; every other tile, queue and cluster is the same. -/
def TileFrame (s u : State) (c t : Nat) : Prop :=
  { u.cluster c with tiles := (s.cluster c).tiles, queues := (s.cluster c).queues } = s.cluster c
    ∧ (∀ j, j ≠ t → u.tile c j = s.tile c j ∧ (u.cluster c).queue j = (s.cluster c).queue j)
    ∧ ∀ d, d ≠ c → u.cluster d = s.cluster d

/-- The port of a tile's engine. -/
def enginePort : TileEngine → Nat → EnginePort
  | .array => .tileA
  | .panelLoader => .tileB
  | .cEngine => .tileC

/-- The commands that start a layout transfer, with its mode (09 R290, R309, R310). -/
def layoutRows : List (Nat × (Nat → Instr)) := [(0, .layoutCopy), (1, .layoutGather), (2, .layoutScatter)]

/-- The sequencer instructions whose effect is one register result of register and immediate operands, with their
opcode and what they compute of RA, RB and the word (10 R332, R333). -/
def aluRows : List (Nat × (Nat → Instr) × (Word → Word → Nat → Word)) :=
  [(0x01, .alu, fun a b w => aluOp (iFn w) a b), (0x02, .addi, fun a _ w => a + immS w),
    (0x03, .andi, fun a _ w => a &&& immZ w), (0x04, .ori, fun a _ w => a ||| immZ w),
    (0x05, .xori, fun a _ w => a ^^^ immZ w), (0x06, .shli, fun a _ w => a <<< (iImm w % 64)),
    (0x07, .shri, fun a _ w => a >>> (iImm w % 64)), (0x08, .sari, fun a _ w => a.sshiftRight (iImm w % 64)),
    (0x09, .slti, fun a _ w => if BitVec.slt a (immS w) then 1 else 0),
    (0x0A, .lui, fun _ _ w => BitVec.ofInt 64 (iSimm w * 65536))]

/-- The loads and the stores with their opcode and size in bytes (10 R333). -/
def loadRows : List (Nat × (Nat → Instr) × Nat) := [(0x10, .lbu, 1), (0x11, .lhu, 2), (0x12, .lwu, 4), (0x13, .ld, 8)]
def storeRows : List (Nat × (Nat → Instr) × Nat) := [(0x14, .sb, 1), (0x15, .sh, 2), (0x16, .sw, 4), (0x17, .sd, 8)]

/-- The branches with their opcode and condition (10 R333). -/
def branchRows : List (Nat × (Nat → Instr) × (Word → Word → Bool)) :=
  [(0x20, .beq, fun a b => a == b), (0x21, .bne, fun a b => a != b), (0x22, .blt, fun a b => decide (a.toInt < b.toInt)),
    (0x23, .bge, fun a b => decide (b.toInt ≤ a.toInt)), (0x24, .bltu, fun a b => decide (a.toNat < b.toNat)),
    (0x25, .bgeu, fun a b => decide (b.toNat ≤ a.toNat))]

/-- The SYS instructions with one register result, with their function and result (10 R334). -/
def sysRows : List (Nat × (Nat → Instr) × (State → Nat → Word)) :=
  [(0, .cyc, fun s c => BitVec.ofNat 64 (s.cluster c).core.cyc),
    (4, .whoami, fun s c => pack [(0, c), (8, (s.cluster c).part.getD 31)])]

/-- The instructions that always go on to the next one, or fault for want of one, with their opcode and, for SYS, their
function. -/
def onwardRows : List (Nat × Option Nat × (Nat → Instr)) :=
  (aluRows.map fun p => (p.1, none, p.2.1))
    ++ [(0x31, none, .qabort), (0x32, none, .qinfo), (0x34, none, .spush), (0x35, none, .sflush), (0x36, none, .sinfo),
      (0x38, none, .frd), (0x3B, none, .fwait), (0x3C, some 0, .cyc), (0x3C, some 2, .wfe), (0x3C, some 3, .ifence),
      (0x3C, some 4, .whoami)]

/-- The core of cluster `c` issues the word `w` at its PC: it is legal and of opcode `op`. -/
def Issues (s : State) (c op w : Nat) : Prop :=
  c < 48 ∧ s.seqOn c = true ∧ w = (s.cluster c).fetch s.free (s.cluster c).core.pc ∧ iOp w = op ∧ seqLegal w = true

/-- Only cluster `c` has changed. -/
def OnlyCluster (s t : State) (c : Nat) : Prop :=
  { t with clusters := s.clusters } = s ∧ ∀ d, d ≠ c → t.cluster d = s.cluster d

/-- Only the core of cluster `c` has changed. -/
def OnlyCore (s t : State) (c : Nat) : Prop :=
  OnlyCluster s t c ∧ { t.cluster c with core := (s.cluster c).core } = s.cluster c

/-- The core has gone to `pc` with `v` in register `rd`, and changed nothing else; x0 stays 0. -/
def CoreGoes (k m : Core) (pc rd : Nat) (v : Word) : Prop :=
  (∀ r, m.reg r = if r = rd ∧ r ≠ 0 then v else k.reg r) ∧ { m with regs := k.regs } = { k with pc := pc }

/-- The core of cluster `c` has gone on to the next instruction with `v` in register `rd`, and nothing else has changed. -/
def CoreResult (s t : State) (c rd : Nat) (v : Word) : Prop :=
  CoreGoes (s.cluster c).core (t.cluster c).core ((s.cluster c).core.pc + 4) rd v ∧ OnlyCore s t c

/-- The core of cluster `c` has gone on to the next instruction. -/
def Core.next (k : Core) : Core := { k with pc := k.pc + 4 }

/-- The core waits on its instruction. -/
def Core.waiting (k : Core) (s : State) (v : CoreWait) : Core :=
  { k with st := .waiting, wait := some v, waitSince := s.crust.time, stalled := false }

/-- The log has one more entry, whose payload begins with these words; else only the log has changed of the crust. -/
def Logs (s t : State) (ws : List Word) : Prop :=
  { t.crust with
      log := s.crust.log, logSeq := s.crust.logSeq, plog := s.crust.plog, plogNext := s.crust.plogNext } = s.crust
    ∧ t.crust.logSeq = s.crust.logSeq + 1
    ∧ ∃ e : LogEnt, t.crust.log.getLast? = some e ∧ (e.words.drop 2).take ws.length = ws

/-- The core of cluster `c` has faulted: it stays on the instruction, CORE_FAULT has the reason, the log has an entry, and
nothing else has changed (10 R335, R368, R369). -/
def CoreFaults (s t : State) (c code w : Nat) : Prop :=
  let k := (s.cluster c).core
  t.cluster c = { s.cluster c with core := { k with st := .faulted, wait := none } }
    ∧ (∀ d, d ≠ c → t.cluster d = s.cluster d)
    ∧ t.ctr (0x5400 + c) 3 = packNat [(56, code), (32, k.pc), (0, w)] % 2 ^ 64 ∧ OdKept s t [odKey (0x5400 + c) 3]
    ∧ Logs s t [pack [(56, 0x31), (50, c), (45, (s.cluster c).part.getD 31), (36, code), (0, k.pc)], BitVec.ofNat 64 w]
    ∧ { t with clusters := s.clusters, mgmt := s.mgmt, crust := s.crust } = s

/-- No queue head of cluster `c` waits on flag word `n`, and the core does not wait. -/
def NoWaiter (s : State) (c n : Nat) : Prop :=
  (s.cluster c).core.wait = none
    ∧ ∀ q, q < 8 → ∀ e, ((s.cluster c).queue q).head = some e → e0Form e.e0 = 0 ∨ e0Flag e.e0 ≠ n

/-- An entry apart from the watchdog's account of how long its wait has blocked. -/
def QEntry.untimed (e : QEntry) : QEntry := { e with blockedSince := none, stalled := false }

/-- The entries of a queue, apart from that account. -/
def Queue.untimed (q : Queue) : Queue := { q with entries := q.entries.map QEntry.untimed }

/-- A queue whose entry of a ticket completes. -/
def Queue.completing (q : Queue) (ticket : Nat) (st : Nat × Nat) : Queue :=
  q.modEntry ticket fun e => if e.compl.isSome then e else { e with compl := some st }

/-- The same apart from the account of the lines that stopped entries have discarded. -/
def Queue.undropped (q : Queue) : Queue :=
  { q with entries := q.entries.map fun e => { e.untimed with dropped := false } }

/-- A stall event of queue `q`, or 8 for the core, of cluster `c`: it is logged and counted, and its partition's dump is
taken unless one was in the last second (11 R391, R392). -/
def StallEvent (s t : State) (c q form f v flagval ticket : Nat) : Prop :=
  let p := (s.cluster c).part.getD 31
  let due := ∀ a, (s.part p).dumpAt = some a → a + 1000000 ≤ s.crust.time
  Logs s t [pack [(56, 0x41), (50, c), (45, p), (41, q), (38, form), (32, f), (0, v)], pack [(32, flagval), (0, ticket)]]
    ∧ t.ctr 0xA000 2 = (s.ctr 0xA000 2 + 1) % 2 ^ 64
    ∧ (due → (Tab.find t.dumps p).isSome = true ∧ (t.part p).dumpAt = some s.crust.time
      ∧ t.ctr (0xA200 + p) 2 = (s.ctr (0xA200 + p) 2 + 1) % 2 ^ 32)
    ∧ (¬ due → t.dumps = s.dumps ∧ t.mgmt.parts = s.mgmt.parts)
    ∧ (∀ k, k ≠ p → Tab.find t.dumps k = Tab.find s.dumps k)
    ∧ { t with clusters := s.clusters, crust := s.crust, mgmt := s.mgmt, dumps := s.dumps } = s

/-- The head of queue `q` of cluster `c` makes no stall event now. -/
def HeadCalm (s : State) (c q : Nat) : Prop :=
  ∀ h a, ((s.cluster c).queue q).head = some h → h.blockedSince = some a → h.stalled = true ∨ s.overdue a = false

/-- The core of cluster `c` makes no stall event now. -/
def CoreCalm (s : State) (c : Nat) : Prop :=
  let k := (s.cluster c).core
  k.stalled = true ∨ s.overdue k.waitSince = false
    ∨ ((∀ form n v, k.wait ≠ some (.flag form n v)) ∧ ∀ rd mask, k.wait ≠ some (.wfe rd mask))

/-- Of cluster `c` only queue `q`, which has become `k`, has changed, and nothing of another cluster. -/
def OnlyQueue (s t : State) (c q : Nat) (k : Queue) : Prop :=
  ((t.cluster c).queue q).untimed = k.untimed
    ∧ (∀ j, j ≠ q → ((t.cluster c).queue j).untimed = ((s.cluster c).queue j).untimed)
    ∧ { t.cluster c with queues := (s.cluster c).queues } = s.cluster c ∧ ∀ d, d ≠ c → t.cluster d = s.cluster d

/-- Of cluster `c` only the flag words listed, the open hearth cycle, the core and the watchdog's account of the queue heads
have changed, and nothing of another cluster. -/
def FlagFrame (s t : State) (c : Nat) (ns : List Nat) : Prop :=
  OnlyCluster s t c
    ∧ { t.cluster c with
        core := (s.cluster c).core, flags := (s.cluster c).flags, cycle := (s.cluster c).cycle
        queues := (s.cluster c).queues } = s.cluster c
    ∧ (∀ m, m ∉ ns → t.flag c m = s.flag c m)
    ∧ ∀ q, ((t.cluster c).queue q).untimed = ((s.cluster c).queue q).untimed

/-- The open hearth cycle of a cluster, or a new one, with a write added. -/
def State.cycleWith (s : State) (c rank n : Nat) (set_ : Bool) (v : W32) : FlagCycle :=
  ((s.cluster c).cycle.getD { start := (s.cluster c).flags }).add { rank := rank, flg := n, set_ := set_, v := v }

/-! ### Commands on the management paths -/

/-- A write on a CXL port's BAR2 forgets the half of an earlier one (15 R517). -/
def State.begun (s : State) (a : Acc) : State :=
  if a.path < 6 then { s with mgmt := { s.mgmt with latch4 := Tab.erase s.mgmt.latch4 a.path } } else s

/-- The path is there, it is the access's turn, and the access is one whole write of the entry (15 R514 to R517). -/
def Reaches (s : State) (a : Acc) (index sub : Nat) (v : Word) : Prop :=
  s.pathFitted a.path = true ∧ s.accOn a = true ∧ (a.path < 6 → s.bar2 a index sub v = .whole v)

/-- No status of 15 R499 turns the write away. -/
def Takes (s : State) (a : Acc) (index sub : Nat) (v : Word) : Prop :=
  Reaches s a index sub v ∧ (s.begun a).preStatus a.path index sub true v none = 0

/-- The path has been told the status of its write. -/
def Told (s t : State) (a : Acc) (index sub st : Nat) : Prop :=
  t.mgmt.outs = .status a.path (odKey index sub) st :: s.mgmt.outs

/-- Only the management state has changed. -/
def OnlyMgmt (s t : State) : Prop := { t with mgmt := s.mgmt } = s

/-- The commands that write a trigger, with its entry; partition `p`, ring `r`. -/
def triggerRows (p r : Nat) : List ((Acc → BitVec 64 → Instr) × Nat × Nat) :=
  [(fun a v => .quiesce a p v, 0x2010 + p, 6), (fun a v => .cfgDiscard a p v, 0x2010 + p, 10),
    (fun a v => .cfgRollback a p v, 0x2010 + p, 11), (fun a v => .mcfgDiscard a v, 0x2000, 5),
    (fun a v => .mcfgRollback a v, 0x2000, 6), (fun a v => .ringRestart a p r v, 0x2400 + (16 * p + r), 5),
    (fun a v => .placeCommit a p v, 0x2600 + p, 7), (fun a v => .leave a v, 0x6000, 14),
    (fun a v => .dumpNow a p v, 0xA200 + p, 3), (fun a v => .start a v, 0x8060, 3)]

/-- The commands that discard or roll back a set, with their entry and set; 16 is the module set. -/
def discardRows (p : Nat) : List ((Acc → Instr) × Nat × Nat × Nat) :=
  [(fun a => .cfgDiscard a p 1, 0x2010 + p, 10, p), (fun a => .mcfgDiscard a 1, 0x2000, 5, 16)]
def rollbackRows (p : Nat) : List ((Acc → Instr) × Nat × Nat × Nat) :=
  [(fun a => .cfgRollback a p 1, 0x2010 + p, 11, p), (fun a => .mcfgRollback a 1, 0x2000, 6, 16)]

/-! ### Rings -/

/-- The next entry of a ring whose records are all written is of the kind and in order: its 16 words are `ws`, read
in state `f`. -/
def RingTakes (s f : State) (p r kind : Nat) (ws : List Word) : Prop :=
  p < 16 ∧ r < 16 ∧ (s.ring (ringKey p r)).recs = [] ∧ s.ringRuns p r = true ∧ reKind ws = kind
    ∧ reSeq ws = (s.ring (ringKey p r)).head ∧ ringEntryOk ws = true ∧ f.quiet
    ∧ ∃ rs : List (Nat × Line),
        (let base := s.odNat (0x2400 + ringKey p r) 1
            + 128 * ((s.ring (ringKey p r)).head % s.ringSize (ringKey p r))
         s.fetchLines (s.ringWho p r) [⟨1, base⟩, ⟨1, base + 64⟩] = (f, some rs))
        ∧ (∀ x ∈ rs, x.1 = 0) ∧ ws = rs.flatMap fun x => wordsOfBytes (bytesOfLine x.2)

/-- The ring has gone on to its next entry; of the other rings and the ring's other state nothing has changed. -/
def RingMoved (s t : State) (p r : Nat) : Prop :=
  t.ring (ringKey p r) = { s.ring (ringKey p r) with head := wrapAdd 32 (s.ring (ringKey p r)).head 1 }
    ∧ ∀ k, k ≠ ringKey p r → t.ring k = s.ring k

/-- A record added in state `y` to a ring with none to write is written, its write having taken effect in state `g`. -/
def RecordGoes (y g : State) (p r cpl : Nat) (w : Word) : Prop :=
  let k := ringKey p r
  let y1 := y.setRing k { y.ring k with recs := [(cpl, w)] }
  (y.ring k).recs = [] ∧ (y.ring k).wrote = false
    ∧ y1.storeLines (y1.ringWho p r) [{
        x := ⟨1, cpl / 64 * 64⟩, data := BitVec.ofNat 512 (w.toNat * 2 ^ (8 * (cpl % 64)))
        mask := BitVec.ofNat 64 (0xFF * 2 ^ (cpl % 64)) }] = (g, some [0])
    ∧ (g.ring k).recs = [(cpl, w)] ∧ g.ringCluster k = y.ringCluster k
    ∧ g.settled (.ring (y.ringCluster k) p r) = true ∧ (∀ f ∈ g.fab.fails, f.1 ≠ .ring (y.ringCluster k) p r) ∧ g.quiet

/-- Of a ring only the records to write have changed, and there are none. -/
def RecordDone (g t : State) (p r : Nat) : Prop :=
  t.ring (ringKey p r) = { g.ring (ringKey p r) with recs := [], wrote := false }
    ∧ (∀ k, k ≠ ringKey p r → t.ring k = g.ring k) ∧ { t with rings := g.rings, build := g.build, pending := g.pending } = g

/-- An entry of a ring has been taken in state `y`: the ring has moved on, and the record that the entry asks for, with
this status and detail, is written. -/
def Taken (y t : State) (p r : Nat) (ws : List Word) (st detail : Nat) : Prop :=
  (reCpl ws = 0 → RingMoved y t p r ∧ { t with rings := y.rings, build := y.build, pending := y.pending } = y)
    ∧ (reCpl ws ≠ 0 → ∀ g,
      RecordGoes (y.setRing (ringKey p r) { y.ring (ringKey p r) with head := wrapAdd 32 (y.ring (ringKey p r)).head 1 })
        g p r (reCpl ws) (recordOf st detail false (reSeq ws)) → RecordDone g t p r)

/-! ### Frames -/

/-- A frame comes to an up port with nothing held and nothing unsettled, and is of this kind. -/
def Comes (s : State) (n : Nat) (f : Frame) (k : Arrival) : Prop :=
  s.ethFitted n = true ∧ s.portOn n = true ∧ s.arrival n f = k ∧ s.quiet ∧ s.nothingHeld

/-- The frames of the rows that reach an operation on memory, with their opcode. -/
def memoryFrames : List (Nat × (Nat → Frame → Instr)) := [(1, .read), (2, .write), (3, .reduce), (4, .atomic)]

/-- A request frame is the next of its stream, or needs no order, and opens a replay window. -/
def Fresh (s : State) (n : Nat) (f : Frame) : Prop :=
  s.fab.left = false ∧ s.therm.stopStep = 0
    ∧ (f.level = 3 ∨ (f.seq = (s.rxStream f.rx).expect ∧ (s.rxStream f.rx).held = []))
    ∧ Tab.find s.fab.replay (replayKey f) = none
    ∧ (s.fab.replay.filter fun w => w.2.die == n / 4).length < 16384

/-- A counter for the frame's sender is there and holds no signal, if the frame counts. -/
def Counts (s : State) (f : Frame) : Prop :=
  f.fq → f.op = 2 ∨ f.op = 3 → ∃ x, Tab.find s.arr (arrKey f.srcPos f.cluster) = some x ∧ x.held = none

/-- The state in which a fresh request is presented: it has been counted, its stream has gone on, and its value
stands in the replay window. -/
def State.shown (s : State) (n : Nat) (f : Frame) : State :=
  let a := (s.bump (0x6100 + n) 5).noteActive (n / 4) f.srcPos
  let b := if f.level = 3 then a
    else a.setRx f.rx (a.rxStream f.rx).advance
  { b with fab := { b.fab with
    replay := Tab.put b.fab.replay (replayKey f) { die := n / 4, high := f.ctr, seen := [{ ctr := f.ctr, done := none }] } } }

/-- The newest frame that a port has sent, with its check value. -/
def SentLast (t : State) (n : Nat) (f : Frame) : Prop := t.fab.sent.head? = some (n, f.sealed)

/-- A request as it is sent again: RETX is set (12 R421). -/
def Outst.again (o : Outst) : Frame := { o.frame with h0 := o.frame.h0 ||| (1 <<< 49) }

/-- The NACK that a home record gives a request frame of the owner's domain; none: it does not (13 R449). -/
def State.homeNack (s : State) (f : Frame) : Option Nat :=
  let l := nbits f.addrLin 40 21
  let h := s.homeRec l
  match h.st with
  | 0 => if h.fwd then none else some 5
  | 1 => if f.epoch = h.epoch then none else some 6
  | 2 => if f.epoch = h.epoch then none else some 6
  | 3 => if f.epoch = h.epoch ∧ Tab.find s.place.incoming l = some f.srcPos then none else some 6
  | 4 => if f.epoch ≠ h.epoch ∧ (f.epoch + 1) % 256 = h.epoch then none else some 6
  | 5 => some 9
  | _ => some 6

/-- The arrival counter of a frame's sender counts the lines of an FQ write that is answered, and no other changes
(11 R383). The counter is there, and holds no signal. -/
def Counted (s t : State) (f : Frame) : Prop :=
  let k := arrKey f.srcPos f.cluster
  if f.fq ∧ (f.op = 2 ∨ f.op = 3) then
    Tab.find t.arr k = (Tab.find s.arr k).map (fun x => { x with a := (x.a + f.lines.length) % 2 ^ 32 })
      ∧ ∀ j, j ≠ k → Tab.find t.arr j = Tab.find s.arr j
  else t.arr = s.arr

/-- The rows of responses, of join messages, of placement control frames (with kind) and of FQ operations, with their
opcodes. -/
def responseRows : List (Nat × (Nat → Frame → Instr)) := [(0x10, .completion), (0x11, .nack), (0x12, .redirect)]
def joinRows : List (Nat × (Nat → Frame → Instr)) := [(0x21, .joinChallenge), (0x23, .joinResult), (0x24, .memberUpdate)]
def placementFrames : List ((Nat → Frame → Instr) × Nat × Nat) :=
  [(.replicaInv, 8, 0), (.placementClaim, 9, 0), (.placementPublish, 9, 1)]
def fqRows : List (Nat × (Nat → Nat → Bool → Instr)) :=
  [(0, fun c t _ => .fqRead c t), (1, fun c t _ => .fqWrite c t), (2, fun c t _ => .fqReduce c t),
    (3, fun c t _ => .fqAtomic c t), (4, .fqSignal), (5, .fqCountedSignal)]

/-- The crust restarts that no one asks for, with their BOOT detail (17 R569, R598). -/
def crustFaults : List (Instr × Nat) := [(.crustWatchdogExpiry, 3), (.lockstepMismatch, 4)]

/-- The mailbox commands that answer with what the port or the module holds, with that answer (14 R491). -/
def mailboxReads (s : State) (n : Nat) : List (Instr × List Nat) :=
  [(.getFwInfo n, [2, s.trust.running] ++ s.trust.slots.flatMap fun x => [x.st, x.svn]),
    (.getTimestamp n, [(s.cport n).stamp.toNat]), (.getSupportedLogs n, [0]), (.getLog n 0, mailboxOpcodes),
    (.identifyMemoryDevice n, [s.capacity n, 0, 0, 256]), (.getPartitionInfo n, [s.capacity n, 0]),
    (.getPoisonList n, (s.cport n).poisonList),
    (.getEventRecords n 0, (s.cport n).info.flatMap evWords), (.getEventRecords n 1, (s.cport n).failure.flatMap evWords),
    (.getEventRecords n 2, (s.cport n).vendor.flatMap evWords)]

end Sys2Proof.Machine
end

