-- ==== Sys2Proof/Certificates/Slice0/Obligations.lean ====
section
/-! DEFINITION. The statements for the provers. -/

open Sys2Proof Sys2Proof.Machine

/-! ### The machine -/

/-- A step with a command waiting is the command's effect with the rest of the queue. With no command waiting a step
is a tick of the slow clock (the model's choice, log entry 2), which leaves the build and the empty queue. -/
def Obligations.StepRunsTheFrontCommand : Prop :=
  (∀ (c : Instr) (s : State) (rest : List Instr),
    step { s with pending := c :: rest } = exec c { s with pending := rest })
  ∧ (∀ s : State, s.pending = [] → step s = .next s.tick ∧ s.tick.pending = [] ∧ s.tick.build = s.build)

/-- No command of the table stops: each answers a next state, and none changes the queue or what the module is built
of. That a command to a unit that the build lacks has no effect is the model's choice (log entry 12). -/
def Obligations.EveryCommandIsServed : Prop :=
  ∀ (i : Instr) (s : State), Served s (exec i s)

/-- Every step keeps the invariant: the build stays one of those that Sigeica makes, and the waiting commands, served
first in first out, stay well formed. The queue is the block form's own (log entry 2). -/
def Obligations.StepKeepsInvariant : Prop :=
  ∀ s t : State, Inv s → step s = .next t → Inv t ∧ t.build = s.build ∧ t.pending = s.pending.tail

/-- Every step keeps the canonical form of memory: keys rise strictly and no listed column is one that an unlisted key
reads as. What an unlisted column reads as is the model's choice (log entry 4). -/
def Obligations.StepKeepsMemoryCanonical : Prop :=
  ∀ s t : State, s.mem.wf = true → step s = .next t → t.mem.wf = true

/-- The machine after reset meets the invariant and its memory is in canonical form. The build of the state after
reset is the model's choice (log entry 3). -/
def Obligations.InvariantAtReset : Prop :=
  Inv State.reset ∧ State.reset.mem.wf = true

/-- After reset: every entry of the dictionary that the spec gives a default reads as that default, no partition is in
use, no lock group but 15 is locked, no port is up, every CXL function shows its four DVSECs, no command waits, and
nothing runs. That reset is STANDBY with the rails off, and the values that the spec does not give, are the model's
choices (log entries 3, 7, 24). -/
def Obligations.ResetValues : Prop :=
  (∀ r ∈ odRows, ∀ i j, r.base ≤ i → i < r.base + r.n → r.sub ≤ j → j < r.sub + r.nsub → State.reset.odFits i = true →
    State.reset.odVal i j = State.reset.odDefault r i j)
  ∧ (∀ x ∈ ([(0x3020, 1, 4000), (0x3020, 4, 10), (0x3020, 5, 256), (0x6000, 2, 0x88B5), (0x6000, 3, 1), (0x7000, 3, 1000),
      (0x7001, 1, 0), (0x7030, 1, 100), (0x7030, 3, 105), (0x8000, 1, 0x8000), (0x8060, 2, 0)] : List (Nat × Nat × Nat)),
      State.reset.odNat x.1 x.2.1 = x.2.2)
  ∧ (∀ p, State.reset.unused p = true) ∧ (∀ c, (State.reset.cluster c).core.st = .unassigned)
  ∧ (∀ b, (State.reset.bank b).unit.status.st = .off) ∧ (∀ n, (State.reset.port n).up = false)
  ∧ (∀ n, (State.reset.cport n).fn.dvsecs.map Dvsec.id = [0, 5, 7, 8]
      ∧ (State.reset.cport n).tracked = [])
  ∧ (∀ k, (State.reset.cfgSet k).version = 0) ∧ State.reset.power.main = false ∧ State.reset.crust.svc = .standby
  ∧ State.reset.pending = []

/-- Two memories in canonical form that read alike at every key are the same data. The canonical form is the model's
(log entry 4). -/
def Obligations.CanonicalMemoriesThatReadAlikeAreEqual : Prop :=
  ∀ m n : Mem, m.wf = true → n.wf = true →
    (∀ k, Tab.get blankCol m.dram k = Tab.get blankCol n.dram k) → m.dram = n.dram

/-! ### The stack controller and its channels (02, 03) -/

/-- ACT opens one row: the latch of the row's half holds the row's physical row, a token is out until TOKEN_HOLD has
passed, the LFSR has advanced 16 steps, and the half's queue of neighbour refreshes loses the row and gains the rows
drawn. The other latch and queue, the Sprig unit and the rest of the bank stay. PRE closes the named latch, and PREB
both latches, of its bank; the corrected errors that a unit in recipe mode holds for a latch are collected as it
closes, and after a job's leave PREB ends the hold. Nothing else changes but TOKEN_WAIT and the progress of the job
that holds the bank; the contents of memory stay. Which of several commands the row slot takes on idle slots is the
model's choice (log entry 110). -/
def Obligations.RowsOpenAndClose : Prop :=
  (∀ (stk ch bank row t : Nat) (s : State), s.hasBank stk ch bank = true → s.actOk stk ch bank row t = true →
    Completes (.act stk ch bank row t) s fun u =>
      let b := mbnOf stk ch bank
      let l := row / 16384
      let k := s.bank b
      let v := u.bank b
      let c := s.chan (chanKey stk ch)
      let d := u.chan (chanKey stk ch)
      (v.latch l).row = some (s.physRow b row) ∧ (v.latch l).logRow = row ∧ (v.latch l).actAt = some t
        ∧ v.latch (1 - l) = k.latch (1 - l) ∧ v.nrr (1 - l) = k.nrr (1 - l)
        ∧ v.nrr l = (k.nrr l).filter (fun r => r != s.physRow b row)
          ++ drawnRows (Nat.repeat lfsrStep 16 c.lfsr) (s.stk stk).k (s.physRow b row)
        ∧ { v with l0 := k.l0, l1 := k.l1, nrr0 := k.nrr0, nrr1 := k.nrr1 } = k
        ∧ d.lfsr = Nat.repeat lfsrStep 16 c.lfsr ∧ d.rowSlot = some t
        ∧ { d with lfsr := c.lfsr, rowSlot := c.rowSlot, rowAt := c.rowAt } = c
        ∧ (u.stk stk).toks = (s.stk stk).toks ++ [t + tokenHold (s.bandOf b)]
        ∧ { u.stk stk with toks := (s.stk stk).toks, waitAt := (s.stk stk).waitAt, now := (s.stk stk).now } = s.stk stk
        ∧ Unserved s u ∧ StackFrame s u b (chanKey stk ch) stk [odKey (0x3030 + stk) 6] false)
  ∧ (∀ (stk ch bank latch t : Nat) (s : State), s.hasBank stk ch bank = true → latch < 2 →
    s.chanReady stk ch t = true → (s.bank (mbnOf stk ch bank)).isOpen latch = true →
    since (s.chan (chanKey stk ch)).rowSlot 1 t = true → s.closeTiming (mbnOf stk ch bank) latch t = true →
    (s.bank (mbnOf stk ch bank)).running latch = false → s.preTurn stk ch bank latch t = true →
    Completes (.pre stk ch bank latch t) s fun u =>
      let b := mbnOf stk ch bank
      let k := s.bank b
      let v := u.bank b
      v.latch latch = { k.latch latch with row := none, preAt := some t } ∧ v.latch (1 - latch) = k.latch (1 - latch)
        ∧ (s.ceOf b latch = 0 → v.unit = k.unit)
        ∧ (0 < s.ceOf b latch → (if latch = 0 then v.unit.status.ce0 else v.unit.status.ce1) = 0
          ∧ u.ctr (0x3030 + stk) 2 = (s.ctr (0x3030 + stk) 2 + s.ceOf b latch) % 2 ^ 64)
        ∧ { v with l0 := k.l0, l1 := k.l1, unit := { v.unit with status := k.unit.status } } = k
        ∧ { u.chan (chanKey stk ch) with rowSlot := (s.chan (chanKey stk ch)).rowSlot } = s.chan (chanKey stk ch)
        ∧ u.stk stk = s.stk stk ∧ Unserved s u
        ∧ StackFrame s u b (chanKey stk ch) stk [] (decide (0 < s.ceOf b latch)))
  ∧ ∀ (stk ch bank t : Nat) (s : State), s.hasBank stk ch bank = true → s.chanReady stk ch t = true →
    since (s.chan (chanKey stk ch)).rowSlot 1 t = true → s.prebTiming (mbnOf stk ch bank) t = true →
    s.prebTurn stk ch bank t = true →
    Completes (.preb stk ch bank t) s fun u =>
      let b := mbnOf stk ch bank
      let k := s.bank b
      let v := u.bank b
      v.isOpen 0 = false ∧ v.isOpen 1 = false ∧ v.hold = (if k.unit.active then k.hold else none)
        ∧ (s.ceOf b 0 = 0 → s.ceOf b 1 = 0 → v.unit = k.unit)
        ∧ (0 < s.ceOf b 0 + s.ceOf b 1 →
          u.ctr (0x3030 + stk) 2 = (s.ctr (0x3030 + stk) 2 + s.ceOf b 0 + s.ceOf b 1) % 2 ^ 64)
        ∧ { v with l0 := k.l0, l1 := k.l1, hold := k.hold, unit := { v.unit with status := k.unit.status } } = k
        ∧ { u.chan (chanKey stk ch) with rowSlot := (s.chan (chanKey stk ch)).rowSlot } = s.chan (chanKey stk ch)
        ∧ u.stk stk = s.stk stk ∧ Unserved s u
        ∧ StackFrame s u b (chanKey stk ch) stk [] (decide (0 < s.ceOf b 0 + s.ceOf b 1))

/-- RD of a queued read request answers it: a clean or corrected column is returned with good status, an uncorrectable
or poisoned one, one of a failed row, or one in a lost segment with the uncorrectable-data error. RD of a queued
partial write reads the column for the merge: the request keeps the merged bytes, marked when the column was
uncorrectable or poisoned, and stays queued for its WR. RD of patrol scrub answers a column that needs nothing, and
keeps for its WR the poisoned data of an uncorrectable one and the clean data of a corrected unpoisoned one. WR of a
request stores the whole column with fresh check bits, poisoned only as 02 R57 says, through the row's remap, and
answers the request; every other column stays. A RD or WR to a bank whose run is RUNNING or PAUSED stops the run with
END PROTOCOL and reads and writes nothing: its request is answered with the uncorrectable-data error. A request lost
with a link is answered to no one. Each counts on its port, and changes nothing else but the times of the bank's and
the channel's last column command, and the error counters when errors are found. These rows serve requests queued at
the controller (log entry 13). -/
def Obligations.ColumnCommands : Prop :=
  (∀ (stk ch bank id t : Nat) (w : BitVec 48) (s : State) (r : PortReq), s.fitted stk = true → ch < 64 →
    colBank w = some bank → colWord 1 w = true → s.mem.reqs.find? (fun q => q.id == id) = some r → r.reads = true →
    s.colOk r stk ch bank (colLatch w) (colColumn w) t = true → (s.bank (mbnOf stk ch bank)).unit.busy = false →
    let b := mbnOf stk ch bank
    let e := s.eccAt r.loc
    let err := !s.isLost b r.row && (e.ce || e.ue || e.poison)
    let ctrs := [odKey (0x3100 + 8 * r.stk + r.port) 3, odKey (0x3100 + 8 * r.stk + r.port) 4]
    let answered (u : State) (st : Nat) (d : Line) : Prop :=
      u.mem.reqs = s.mem.reqs.filter (fun q => q.id != id)
        ∧ u.mem.resps = (if r.lost then [] else [({ id := id, status := st, data := d, poison := false } : Resp)])
          ++ s.mem.resps
        ∧ u.ctr (0x3100 + 8 * r.stk + r.port) 3 = (s.ctr (0x3100 + 8 * r.stk + r.port) 3 + 1) % 2 ^ 64
        ∧ (r.step ≠ 3 → u.ctr (0x3100 + 8 * r.stk + r.port) 4 = s.ctr (0x3100 + 8 * r.stk + r.port) 4)
    let framed (u : State) (ks : List Nat) : Prop :=
      DramSame s u ∧ StackFrame s u b (chanKey stk ch) stk ks err
        ∧ (∀ l, (u.bank b).isOpen l = (s.bank b).isOpen l) ∧ (u.bank b).unit = (s.bank b).unit
        ∧ (u.bank b).debt = (s.bank b).debt ∧ u.stk stk = s.stk stk
    (r.scrub = false → r.kind = .read →
      Completes (.rd stk ch w id t) s fun u => framed u ctrs
        ∧ (if s.isLost b r.row || e.ue || e.poison then answered u 4 0 else answered u 0 e.data))
    ∧ (∀ d m p, r.scrub = false → r.kind = .write d m p →
      Completes (.rd stk ch w id t) s fun u => framed u [] ∧ u.mem.resps = s.mem.resps
        ∧ u.mem.reqs = s.mem.reqs.map fun q => if q.id = id then
          { q with merge := some { data := mergeLine e.data d m, check := 0 }, mergeBad := e.ue || e.poison } else q)
    ∧ (r.scrub = true →
      Completes (.rd stk ch w id t) s fun u => framed u ctrs
        ∧ (s.isLost b r.row = false → (e.ue = true ∨ (e.ce = true ∧ e.poison = false)) →
          u.mem.reqs = (s.mem.reqs.map fun q => if q.id = id then
            { q with merge := some (if e.ue then poisonCol e.data else cleanCol e.data) } else q)
          ∧ u.mem.resps = s.mem.resps)
        ∧ (s.isLost b r.row = true ∨ (e.ue = false ∧ (e.ce = false ∨ e.poison = true)) → answered u 0 0)))
  ∧ (∀ (stk ch bank id t : Nat) (w : BitVec 48) (s : State) (r : PortReq) (c : Column), s.fitted stk = true → ch < 64 →
    colBank w = some bank → colWord 2 w = true → s.mem.reqs.find? (fun q => q.id == id) = some r → r.reads = false →
    r.stores = some c → s.colOk r stk ch bank (colLatch w) (colColumn w) t = true →
    (s.bank (mbnOf stk ch bank)).unit.busy = false →
    Completes (.wr stk ch w id t) s fun u =>
      let b := mbnOf stk ch bank
      Tab.get blankCol u.mem.dram (dramKey b (s.physRow b r.row) r.col) = c
        ∧ (∀ k, k ≠ dramKey b (s.physRow b r.row) r.col → Tab.get blankCol u.mem.dram k = Tab.get blankCol s.mem.dram k)
        ∧ (r.merge = none → ∀ d m p, r.kind = .write d m p → (eccRead c).poison = p ∧ c = storeCol d p)
        ∧ u.mem.reqs = s.mem.reqs.filter (fun q => q.id != id)
        ∧ u.mem.resps = (if r.lost then [] else
          [({ id := id, status := if r.mergeBad then 4 else 0, data := 0, poison := false } : Resp)]) ++ s.mem.resps
        ∧ (u.bank b).unit = (s.bank b).unit ∧ (∀ l, (u.bank b).isOpen l = (s.bank b).isOpen l) ∧ u.stk stk = s.stk stk
        ∧ StackFrame s u b (chanKey stk ch) stk
          [odKey (0x3100 + 8 * r.stk + r.port) 3, odKey (0x3100 + 8 * r.stk + r.port) 4] false)
  ∧ ∀ (stk ch bank id t : Nat) (w : BitVec 48) (s : State) (r : PortReq), s.fitted stk = true → ch < 64 →
    colBank w = some bank → colWord (if r.reads then 1 else 2) w = true →
    s.mem.reqs.find? (fun q => q.id == id) = some r → (r.reads = false → r.stores ≠ none) →
    s.colOk r stk ch bank (colLatch w) (colColumn w) t = true → (s.bank (mbnOf stk ch bank)).unit.busy = true →
    Completes (if r.reads then .rd stk ch w id t else .wr stk ch w id t) s fun u =>
      let b := mbnOf stk ch bank
      (u.bank b).unit.status.st = .stopped ∧ (u.bank b).unit.status.endc = 4
        ∧ (u.bank b).unit.acc = (s.bank b).unit.acc ∧ (u.bank b).unit.recipe = (s.bank b).unit.recipe
        ∧ u.mem.reqs = s.mem.reqs.filter (fun q => q.id != id)
        ∧ u.mem.resps = (if r.lost then [] else
          [({ id := id, status := 4, data := 0, poison := false } : Resp)]) ++ s.mem.resps
        ∧ DramSame s u ∧ StackFrame s u b (chanKey stk ch) stk
          [odKey (0x3100 + 8 * r.stk + r.port) 3, odKey (0x3100 + 8 * r.stk + r.port) 4] false

/-- REFPB closes both latches, refreshes the next step of the bank's counter of 8,196, lowers the debt by 1, takes one
token, counts when it was forced, and pauses a running recipe, which keeps its registers and the rows to reopen. NRR
takes the oldest queued neighbour row of its half and a token, and counts. A refresh interval raises its bank's debt
by 1 and begins the next at its end. The first token out whose time has come goes back. At its refresh window an awake
stack takes the REF values that wait for it; those that the last stack has taken come into force as the module set's
next version. Each of them changes nothing else but TOKEN_WAIT, and the contents of memory stay. That a REF write
waits for the stacks that are not fenced is the model's reading (log entry 76). -/
def Obligations.RefreshesDebtsAndTokens : Prop :=
  (∀ (stk ch bank t : Nat) (s : State), s.hasBank stk ch bank = true → s.chanReady stk ch t = true →
    s.refDue (mbnOf stk ch bank) = true → s.refTiming stk ch bank t = true →
    s.tokenFree stk (s.forced (mbnOf stk ch bank)) = true → s.refTurn stk ch bank t = true →
    Completes (.refpb stk ch bank t) s fun u =>
      let b := mbnOf stk ch bank
      let k := s.bank b
      let v := u.bank b
      v.isOpen 0 = false ∧ v.isOpen 1 = false ∧ v.debt = k.debt - 1 ∧ v.refStep = (k.refStep + 1) % 8196
        ∧ v.refAt = some t ∧ v.band = 0
        ∧ (k.unit.status.st = .running → v.unit.status.st = .paused ∧ v.unit.run.reopen =
          ((upTo 2).filterMap fun l => if k.isOpen l then some (l, (k.latch l).logRow) else none))
        ∧ (k.unit.status.st ≠ .running → v.unit.status.st = k.unit.status.st ∧ v.unit.run = k.unit.run)
        ∧ { v.unit with status := k.unit.status, run := k.unit.run } = k.unit
        ∧ { v with
            l0 := k.l0, l1 := k.l1, debt := k.debt, refStep := k.refStep, refAt := k.refAt, band := k.band
            unit := k.unit } = k
        ∧ (u.stk stk).toks = (s.stk stk).toks ++ [t + tokenHold (s.bandOf b)]
        ∧ { u.stk stk with toks := (s.stk stk).toks, waitAt := (s.stk stk).waitAt, now := (s.stk stk).now } = s.stk stk
        ∧ u.ctr (0x3030 + stk) 4 = (s.ctr (0x3030 + stk) 4 + if s.forced b then 1 else 0) % 2 ^ 64
        ∧ { u.chan (chanKey stk ch) with rowSlot := (s.chan (chanKey stk ch)).rowSlot } = s.chan (chanKey stk ch)
        ∧ Unserved s u ∧ StackFrame s u b (chanKey stk ch) stk [odKey (0x3030 + stk) 4, odKey (0x3030 + stk) 6]
          (decide (0 < s.ceOf b 0 + s.ceOf b 1)))
  ∧ (∀ (stk ch bank half t row : Nat) (rest : List Nat) (s : State), s.hasBank stk ch bank = true → half < 2 →
    (s.bank (mbnOf stk ch bank)).nrr half = row :: rest → s.chanReady stk ch t = true →
    s.rowTiming stk ch bank half t = true → s.tokenFree stk (decide (3 ≤ rest.length)) = true →
    s.nrrTurn stk ch bank half t = true →
    Completes (.nrr stk ch bank half t) s fun u =>
      let b := mbnOf stk ch bank
      let k := s.bank b
      let v := u.bank b
      v.nrr half = rest ∧ v.nrr (1 - half) = k.nrr (1 - half)
        ∧ v.latch half = { k.latch half with nrrAt := some t } ∧ v.latch (1 - half) = k.latch (1 - half)
        ∧ { v with l0 := k.l0, l1 := k.l1, nrr0 := k.nrr0, nrr1 := k.nrr1 } = k
        ∧ (u.stk stk).toks = (s.stk stk).toks ++ [t + tokenHold (s.bandOf b)]
        ∧ { u.stk stk with toks := (s.stk stk).toks, waitAt := (s.stk stk).waitAt, now := (s.stk stk).now } = s.stk stk
        ∧ u.ctr (0x3030 + stk) 5 = (s.ctr (0x3030 + stk) 5 + 1) % 2 ^ 64
        ∧ (u.chan (chanKey stk ch)).rowSlot = some t ∧ (u.chan (chanKey stk ch)).lfsr = (s.chan (chanKey stk ch)).lfsr
        ∧ Unserved s u
        ∧ StackFrame s u b (chanKey stk ch) stk [odKey (0x3030 + stk) 5, odKey (0x3030 + stk) 6] false)
  ∧ (∀ (stk ch bank t : Nat) (s : State), s.hasBank stk ch bank = true → s.stackOn stk = true →
    (s.chan (chanKey stk ch)).sr = false →
    let b := mbnOf stk ch bank
    let e := (s.bank b).intAt + refInterval (s.bandOf b)
    e ≤ 8 * t →
    Completes (.refreshInterval stk ch bank t) s fun u =>
      u.bank b = { s.bank b with debt := (s.bank b).debt + 1, intAt := e }
        ∧ u.stk stk = { s.stk stk with now := max (s.stk stk).now t }
        ∧ u.chan (chanKey stk ch) = s.chan (chanKey stk ch) ∧ u.mem.jobs = s.mem.jobs ∧ Unserved s u
        ∧ StackFrame s u b (chanKey stk ch) stk [] false)
  ∧ (∀ (stk t a : Nat) (p r : List Nat) (s : State), s.fitted stk = true → (s.stk stk).toks = p ++ a :: r →
    (∀ x ∈ p, t < x) → a ≤ t →
    Completes (.tokenReturn stk t) s fun u =>
      (u.stk stk).toks = p ++ r
        ∧ { u.stk stk with toks := (s.stk stk).toks, waitAt := (s.stk stk).waitAt, now := (s.stk stk).now } = s.stk stk
        ∧ (∀ k, k ≠ stk → u.stk k = s.stk k) ∧ JobsWaited s u
        ∧ { u.mem with stkc := s.mem.stkc, jobs := s.mem.jobs } = s.mem ∧ OdKept s u [odKey (0x3030 + stk) 6]
        ∧ { u with mem := s.mem, mgmt := s.mgmt } = s)
  ∧ ∀ (stk : Nat) (s : State), s.fitted stk = true → s.stackOn stk = true → (s.stk stk).nap = false →
    let ref (e : Pend) : Bool := e.cls == 1
    let mine := s.mgmt.pend.filter fun e => ref e && e.todo.getLsbD stk
    let rest := s.mgmt.pend.map fun e => if ref e then { e with todo := e.todo &&& ~~~BitVec.ofNat 16 (2 ^ stk) } else e
    let done := rest.filter fun e => ref e && (e.todo &&& ~~~s.mem.fenced) == 0
    Completes (.refreshWindow stk) s fun u =>
      u.stk stk = mine.foldl (fun k e => k.take (e.key % 256) e.val.toNat) (s.stk stk)
        ∧ (∀ k, k ≠ stk → u.stk k = s.stk k) ∧ { u.mem with stkc := s.mem.stkc } = s.mem
        ∧ (done = [] → u.mgmt = { s.mgmt with pend := rest } ∧ { u with mem := s.mem, mgmt := s.mgmt } = s)
        ∧ (done ≠ [] → (u.cfgSet 16).version = ((s.cfgSet 16).version + 1) % 2 ^ 32
          ∧ u.mgmt.pend = rest.filter (fun e => !done.any fun x => x.key == e.key)
          ∧ (∀ e ∈ done, e.blob = none → (∀ x ∈ done, x.key = e.key → x = e) →
            u.odVal (e.key / 256) (e.key % 256) = e.val)
          ∧ (∀ i j, j < 256 → (∀ x ∈ done, x.key ≠ odKey i j) → u.odVal i j = s.odVal i j)
          ∧ { u with mem := s.mem, mgmt := s.mgmt, crust := s.crust } = s)

/-- Self-refresh and nap: an idle channel starts its entry; SRE enters, and in an unused stack loses the segments that
PASR_KEEP does not keep; SRX, for a waiting request or job or for a scrub that must catch up, leaves with every debt
at 0 and every bank in the stack's band; and a stack whose channels have all been in self-refresh for more than 1 ms
naps. MRW writes a DRAM mode register with every latch closed, and MRR returns what it holds. Nothing else changes.
What the mode registers hold is the model's choice (log entry 6). -/
def Obligations.ChannelStatesAndModes : Prop :=
  (∀ (stk ch t : Nat) (s : State), s.fitted stk = true → ch < 64 →
    let ck := chanKey stk ch
    let c := s.chan ck
    let chanOnly (u : State) : Prop :=
      OnlyMem s u ∧ { u.mem with chans := s.mem.chans } = s.mem ∧ ∀ k, k ≠ ck → u.chan k = s.chan k
    (s.stackOn stk = true → c.sr = false → s.odNat 0x3020 2 ≠ 0 → s.chanIdle stk ch = true →
      Completes (.srIdleExpiry stk ch t) s fun u => u.chan ck = { c with srPend := true } ∧ chanOnly u)
    ∧ (s.chanReady stk ch t = true → c.srPend = true → s.latchesClosed stk ch = true → since c.rowSlot 1 t = true →
      (∀ b, b < 16 → let k := s.bank (mbnOf stk ch b)
        k.debt ≤ 0 ∧ k.unit.active = false ∧ k.hold = none ∧ since k.leaveAt 2 t = true) →
      Completes (.sre stk ch t) s fun u => chanOnly u ∧ (u.chan ck).sr = true ∧ (u.chan ck).srAt = some t
        ∧ (u.chan ck).srPend = false
        ∧ (u.chan ck).lost = (if s.stackUnused stk then c.lost ||| ~~~(BitVec.ofNat 8 (s.odNat (0x3030 + stk) 10)) else c.lost)
        ∧ { u.chan ck with
            sr := c.sr, srAt := c.srAt, srPend := c.srPend, srUs := c.srUs, rowSlot := c.rowSlot, lost := c.lost } = c)
    ∧ (s.stackOn stk = true → c.sr = true → (s.stk stk).nap = false → since c.srAt 13 t = true →
      (c.scrubWake = true ∨ c.wake = true ∨ s.chanAsked stk ch = true) →
      Completes (.srx stk ch t) s fun u =>
        (u.chan ck).sr = false ∧ (u.chan ck).srxAt = some t
          ∧ { u.chan ck with sr := c.sr, wake := c.wake, srxAt := c.srxAt, rowSlot := c.rowSlot } = c
          ∧ (∀ b, b < 16 → u.bank (mbnOf stk ch b)
              = { s.bank (mbnOf stk ch b) with debt := 0, band := 0, intAt := 8 * t })
          ∧ (∀ m, (∀ b, b < 16 → m ≠ mbnOf stk ch b) → u.bank m = s.bank m)
          ∧ (∀ k, k ≠ ck → u.chan k = s.chan k) ∧ OnlyMem s u
          ∧ { u.mem with chans := s.mem.chans, banks := s.mem.banks } = s.mem)
    ∧ (s.chanReady stk ch t = true → s.latchesClosed stk ch = true → since c.rowSlot 1 t = true →
      (∀ (reg : Nat) (v : BitVec 32), Completes (.mrw stk ch reg v t) s fun u =>
        (∀ g, Tab.get 0 (u.chan ck).modes g = if g = reg then v else Tab.get 0 c.modes g)
          ∧ { u.chan ck with modes := c.modes, rowSlot := c.rowSlot } = c ∧ chanOnly u)
      ∧ ∀ reg : Nat, Completes (.mrr stk ch reg t) s fun u =>
        u.mem.mrrs = (reg, Tab.get 0 c.modes reg) :: s.mem.mrrs
          ∧ { u.chan ck with rowSlot := c.rowSlot } = c ∧ (∀ k, k ≠ ck → u.chan k = s.chan k)
          ∧ OnlyMem s u ∧ { u.mem with chans := s.mem.chans, mrrs := s.mem.mrrs } = s.mem))
  ∧ ∀ (stk : Nat) (s : State), s.fitted stk = true → s.stackOn stk = true → s.odNat 0x3020 3 = 1 →
    (∀ ch, ch < 64 → let c := s.chan (chanKey stk ch)
      c.sr = true ∧ c.wake = false ∧ s.chanAsked stk ch = false ∧ c.srUs + 1000 < s.crust.time) →
    Completes (.napEntry stk) s fun u => u.stk stk = { s.stk stk with nap := true }
      ∧ (∀ k, k ≠ stk → u.stk k = s.stk k) ∧ OnlyMem s u ∧ { u.mem with stkc := s.mem.stkc } = s.mem

/-- Patrol scrub asks for the column at its position, as a request of P7 at class 3 that ColumnCommands serves, and
its position moves on. A channel whose scrub is an hour behind its schedule is woken from self-refresh, and an awake
one that is back on schedule may enter it again. A soft spare copies the 64 columns of the row to a free spare of its
half (a corrected column clean, a bad one poisoned), from then on the row's columns are found there, and a latch that
held the row closes; where the half has no free spare the row keeps its place, has failed, and RETIRE_PENDING is set
in the home records of its loafs. That the free spare of lowest index is taken is the model's choice (log entry 114).
-/
def Obligations.ScrubsAndSpares : Prop :=
  (∀ (stk ch t : Nat) (s : State), s.fitted stk = true → ch < 64 → s.stackOn stk = true →
    let ck := chanKey stk ch
    let c := s.chan ck
    let chanOnly (u : State) : Prop := OnlyMem s u ∧ ∀ k, k ≠ ck → u.chan k = s.chan k
    (c.sr = false → Completes (.scrubDue stk ch t) s fun u =>
      let l := scrubLoc stk ch c.scrubPos
      (∃ r, u.mem.reqs = s.mem.reqs ++ [r] ∧ r.id = s.mem.nextId ∧ r.loc = l ∧ r.stk = stk ∧ r.port = 7 ∧ r.cls = 3
          ∧ r.kind = .read ∧ r.scrub = true ∧ r.merge = none ∧ r.cyc = t)
        ∧ u.mem.nextId = s.mem.nextId + 1 ∧ (u.chan ck).scrubPos = (c.scrubPos + 1) % 33554432
        ∧ { u.chan ck with srPend := c.srPend, scrubPos := c.scrubPos, scrubPass := c.scrubPass } = c
        ∧ { u.mem with chans := s.mem.chans, reqs := s.mem.reqs, nextId := s.mem.nextId } = s.mem ∧ chanOnly u)
    ∧ Completes (.scrubCatchUp stk ch t) s fun u =>
      (u.chan ck).scrubWake = (if c.sr then c.scrubWake || decide (3600 ≤ s.scrubLag stk ch)
          else c.scrubWake && s.scrubLag stk ch != 0)
        ∧ (c.sr = true → 3600 ≤ s.scrubLag stk ch → (u.stk stk).nap = false)
        ∧ { u.chan ck with scrubWake := c.scrubWake } = c ∧ { u.stk stk with nap := (s.stk stk).nap } = s.stk stk
        ∧ (∀ k, k ≠ stk → u.stk k = s.stk k) ∧ { u.mem with chans := s.mem.chans, stkc := s.mem.stkc } = s.mem ∧ chanOnly u)
  ∧ ∀ (mbn row t : Nat) (s : State), mbn < 16384 → s.fitted (mbn / 1024) = true → row < 32768 →
    s.stackOn (mbn / 1024) = true → s.odNat 0x3000 3 = 1 → s.mem.spareReq.contains (mbn, row) = true →
    s.jobHolds mbn row = false → (s.bank mbn).running (row / 16384) = false →
    (∀ r ∈ s.mem.reqs, r.mbn = mbn → r.row = row → r.merge = none) →
    Completes (.softSpare mbn row t) s fun u =>
      u.mem.spareReq.contains (mbn, row) = false ∧ u.mem.reqs = s.mem.reqs ∧ u.mem.chans = s.mem.chans
        ∧ u.mem.stkc = s.mem.stkc ∧ (∀ b, b ≠ mbn → u.bank b = s.bank b) ∧ u.clusters = s.clusters ∧ u.fab = s.fab
        ∧ match s.freeSpare mbn (row / 16384) with
          | some i => u.physRow mbn row = 32768 + i ∧ i / 8 = row / 16384
            ∧ (∀ k, (∀ c, c < 64 → k ≠ dramKey mbn (32768 + i) c) →
              Tab.get blankCol u.mem.dram k = Tab.get blankCol s.mem.dram k)
            ∧ (∀ c, c < 64 → let e := eccRead (s.dramGet mbn (s.physRow mbn row) c)
              u.dramGet mbn (u.physRow mbn row) c = storeCol e.data e.bad)
            ∧ (u.bank mbn).rowOpen row = false ∧ u.place = s.place
          | none => u.physRow mbn row = s.physRow mbn row ∧ u.mem.dram = s.mem.dram ∧ u.mem.spares = s.mem.spares
            ∧ u.rowFailed mbn row = true ∧ u.mem.banks = s.mem.banks
            ∧ { u.place with home := s.place.home } = s.place

/-- A request that reaches a stack controller on a port that its requester may use, over a route that is up, is queued
last, at the class that its port gives it; it wakes a napping stack and a channel in self-refresh, and cancels an
entry. The urgency step of a queued request or job rises with the time it has waited, where its port schedules by age,
and it is aged once it has waited AGE_LIMIT. A request to a fenced stack or an absent one, or to an offset that
nothing backs, is answered UNBACKED; one to a region of an UNUSED partition, or to another partition's region that is
not shared, ACCESS; one that no route reaches ROUTE_LOST; a read of a lost segment is answered with the uncorrectable-
data error. None of them is queued. Nothing else changes. -/
def Obligations.PortRequests : Prop :=
  (∀ (stk port : Nat) (cls : Option Nat) (lin : Nat) (kind : ReqKind) (part requester t : Nat) (l : Loc) (p : Nat)
      (way : List Nat) (s : State), port < 8 → s.stackOn stk = true → s.portRule stk port requester = true →
    s.place' (port == 7) lin = some (l, p) → l.stk = stk → (port = 7 ∨ 16 ≤ p ∨ s.unused p = false) →
    (port = 7 ∨ port = 4 ∨ s.localReach part lin = 0) → (port = 7 ∨ 16 ≤ p ∨ p = part ∨ (s.part p).st ≠ 1) →
    s.pathTo (originOf port requester) stk = some way →
    s.switchWait (wayTo s.linkWas (originOf port requester) stk) = false → (s.isLost l.mbn l.row = false ∨ kind ≠ .read) →
    Completes (.portRequest stk port cls lin kind part requester t) s fun u =>
      let ck := chanKey stk (l.mbn / 16 % 64)
      u.mem.reqs = s.mem.reqs ++ [{
          id := s.mem.nextId, cyc := t, stk := stk, port := port, cls := s.servedClass stk port cls, step := 0
          aged := false, lin := lin, mbn := l.mbn, row := l.row, col := l.col, kind := kind, part := p
          requester := requester, merge := none, mergeBad := false, route := way }]
        ∧ u.mem.nextId = s.mem.nextId + 1 ∧ u.stk stk = { s.stk stk with nap := false }
        ∧ u.chan ck = { s.chan ck with srPend := false, wake := (s.chan ck).sr }
        ∧ (∀ k, k ≠ stk → u.stk k = s.stk k) ∧ (∀ k, k ≠ ck → u.chan k = s.chan k) ∧ OnlyMem s u
        ∧ { u.mem with
            reqs := s.mem.reqs, nextId := s.mem.nextId, stkc := s.mem.stkc, chans := s.mem.chans } = s.mem)
  ∧ (∀ (id ns : Nat) (s : State),
    let aged (e : Nat) : Bool := (s.odVal e 1).getLsbD 0
    let up (e old : Nat) : Nat := max old (urgency ns (s.odNat e 2))
    (∀ r, s.mem.reqs.find? (fun q => q.id == id) = some r → aged (0x3100 + 8 * r.stk + r.port) = true →
      Completes (.urgencyStep id ns) s fun u =>
        (u.mem.reqs = s.mem.reqs.map fun q => if q.id = id then
            { q with step := up (0x3100 + 8 * r.stk + r.port) q.step } else q)
          ∧ OnlyMem s u ∧ { u.mem with reqs := s.mem.reqs } = s.mem)
    ∧ (s.mem.reqs.find? (fun q => q.id == id) = none → Completes (.urgencyStep id ns) s fun u =>
        (∀ k, Tab.find u.mem.jobs k = (Tab.find s.mem.jobs k).map fun j =>
            let e := 0x3100 + 8 * (j.first / 1024) + 5
            if j.arrived = id ∧ (∀ b ∈ j.banks, b.phase = .waiting) ∧ aged e = true then { j with step := up e j.step } else j)
          ∧ OnlyMem s u ∧ { u.mem with jobs := s.mem.jobs } = s.mem)
    ∧ (s.odNat 0x3020 1 ≤ ns → Completes (.requestAged id ns) s fun u =>
        (u.mem.reqs = s.mem.reqs.map fun q => if q.id = id then { q with aged := true } else q)
          ∧ (∀ k, Tab.find u.mem.jobs k = (Tab.find s.mem.jobs k).map fun j =>
            if j.arrived = id ∧ (∀ b ∈ j.banks, b.phase = .waiting) then { j with aged := true } else j)
          ∧ OnlyMem s u ∧ { u.mem with reqs := s.mem.reqs, jobs := s.mem.jobs } = s.mem))
  ∧ ∀ (stk port : Nat) (cls : Option Nat) (lin : Nat) (kind : ReqKind) (part requester t : Nat) (s : State) (st : Nat),
    stk < 16 → port < 8 →
    (((s.fitted stk = false ∨ s.fenced stk = true) ∧ st = 3) ∨ (s.stackOn stk = true ∧ s.portRule stk port requester = true ∧
      ((s.place' (port == 7) lin = none ∧ st = 3) ∨ ∃ l p, s.place' (port == 7) lin = some (l, p) ∧ l.stk = stk ∧ (
        (port ≠ 7 ∧ p < 16 ∧ s.unused p = true ∧ st = 2)
        ∨ ((port = 7 ∨ 16 ≤ p ∨ s.unused p = false) ∧ port ≠ 7 ∧ port ≠ 4 ∧ s.localReach part lin ≠ 0 ∧ st = 2)
        ∨ ((port = 7 ∨ 16 ≤ p ∨ s.unused p = false) ∧ (port = 7 ∨ port = 4 ∨ s.localReach part lin = 0)
          ∧ (port = 7 ∨ 16 ≤ p ∨ p = part ∨ (s.part p).st ≠ 1) ∧
          ((s.pathTo (originOf port requester) stk = none ∧ st = 8)
            ∨ (s.pathTo (originOf port requester) stk ≠ none
              ∧ s.switchWait (wayTo s.linkWas (originOf port requester) stk) = false
              ∧ s.isLost l.mbn l.row = true ∧ kind = .read ∧ st = 4))))))) →
    Completes (.portRequest stk port cls lin kind part requester t) s fun u =>
      u.mem.resps = { id := s.mem.nextId, status := st, data := 0, poison := false } :: s.mem.resps
        ∧ u.mem.nextId = s.mem.nextId + 1
        ∧ { u.mem with resps := s.mem.resps, nextId := s.mem.nextId } = s.mem
        ∧ OdKept s u [odKey (0x3100 + 8 * stk + port) 3] ∧ { u with mem := s.mem, mgmt := s.mgmt } = s

/-- A UCIe link that is lost is marked down and logged, and what was in flight on it completes ROUTE_LOST: a write of
an engine fails, and a queued request of a stack is answered ROUTE_LOST and is carried out unheard or not at all,
which the spec leaves open. Its sender switches to the new route once nothing is in flight on the link. That a request
in flight completes at once, and the words of the log entry, are the model's choices (log entries 47, 48). -/
def Obligations.LinkLossAndSwitch : Prop :=
  (∀ (link : Nat) (s : State), s.linkFitted link = true → s.power.main = true → s.linkUp link = true → s.quiet →
    s.nothingHeld → s.linkFree link →
    Completes (.ucieLinkDown link) s fun u =>
      u.linkUp link = false ∧ (∀ l, l ≠ link → u.linkUp l = s.linkUp l) ∧ u.links.switching = s.links.switching ++ [link]
        ∧ u.crust.logSeq = s.crust.logSeq + 1 ∧ u.fab = s.fab ∧ u.mem = s.mem
        ∧ { u with links := s.links, crust := s.crust, free := s.free } = s)
  ∧ (∀ (link : Nat) (s : State) (o : Outst) (a : Agent) (v n : Nat), s.linkFitted link = true → s.power.main = true →
    s.linkUp link = true → s.quiet → s.nothingHeld → s.fab.outst = [o] → o.way.contains link = true →
    (∀ x ∈ s.fab.pool, x.way.contains link = false) → (∀ r ∈ s.mem.reqs, r.route.contains link = false) →
    o.src = .wline a v n →
    Completes (.ucieLinkDown link) s fun u =>
      u.linkUp link = false ∧ u.fab.fails = s.fab.fails ++ [(a, 8)] ∧ u.fab.outst = [] ∧ u.mem = s.mem
        ∧ { u with links := s.links, crust := s.crust, free := s.free, fab := s.fab } = s)
  ∧ (∀ (link : Nat) (s : State) (r : PortReq), s.linkFitted link = true → s.power.main = true →
    s.linkUp link = true → s.quiet → s.nothingHeld → (∀ o ∈ s.fab.outst, o.way.contains link = false) →
    (∀ x ∈ s.fab.pool, x.way.contains link = false) → s.mem.reqs = [r] → r.route.contains link = true →
    Completes (.ucieLinkDown link) s fun u =>
      u.linkUp link = false ∧ u.mem.resps = { id := r.id, status := 8, data := 0, poison := false } :: s.mem.resps
        ∧ (u.mem.reqs = [] ∨ u.mem.reqs = [{ r with lost := true, route := [] }])
        ∧ { u.mem with reqs := s.mem.reqs, resps := s.mem.resps } = s.mem
        ∧ { u with links := s.links, crust := s.crust, free := s.free, mem := s.mem } = s)
  ∧ ∀ (link : Nat) (s : State), s.linkFitted link = true → s.links.switching.contains link = true →
    (∀ o ∈ s.fab.outst, o.way.contains link = false) → (∀ r ∈ s.mem.reqs, r.route.contains link = false) → s.quiet →
    Completes (.routeSwitch link) s fun u =>
      u.links.switching.contains link = false ∧ u.links.down = s.links.down ∧ { u with links := s.links } = s

/-! ### Sprig units and jobs (04, 05) -/

/-- An extended command acts on the banks of its mask alone. A bank whose unit does not take it sets END PROTOCOL and
does nothing else. SPRIG_MODE takes the addressed units into recipe mode, where everything but the recipe memory is
cleared, and out of it, where everything but the recipe memory is discarded. RECIPE_WRITE stores the steps of its
burst in the addressed units that are IDLE or STOPPED, and clears the recipe tags of banks that no job holds;
OPERAND_BCAST stores its burst in an operand register. The contents of memory stay, but for steps in flight when a
unit leaves. Which commands an idle column slot takes is the model's choice (log entry 115). -/
def Obligations.RecipeModeAndWrites : Prop :=
  (∀ p ∈ extRows, ∀ (stk ch t : Nat) (w : BitVec 48) (x : Column) (s : State), s.fitted stk = true → ch < 64 →
    (p.2.2.1 = false → x = blankCol) → s.extTakes p.1 p.2.1 stk ch w x t = true →
    Completes (p.2.2.2 stk ch w x t) s fun u => ExtFrame s u stk ch w (extCmd w == 0x15 && Word.bit w 26)
      ∧ (∀ b ∈ extBanks stk ch w, extTaken (s.bank b).unit w x = false →
        u.bank b = { s.bank b with unit := unitProtocol (s.bank b).unit })
      ∧ ((extCmd w = 0x10 → ∀ b ∈ extBanks stk ch w, (s.bank b).unit.fly = []) → DramSame s u))
  ∧ (∀ (stk ch t : Nat) (w : BitVec 48) (s : State), s.fitted stk = true → ch < 64 →
    s.extTakes 0x10 (some true) stk ch w blankCol t = true → extCmd w = 0x10 → extFormed w = true →
    Completes (.sprigModeEnter stk ch w t) s fun u => ∀ b ∈ extBanks stk ch w, (s.bank b).unit.status.st = .off →
      let v := (u.bank b).unit
      v.status = { st := .idle } ∧ v.recipe = (s.bank b).unit.recipe ∧ v.ptrs = {} ∧ v.acc = List.replicate 8 {}
        ∧ v.sc = List.replicate 4 {} ∧ v.ops = List.replicate 2 {} ∧ v.sreg = List.replicate 8 0
        ∧ v.drain = List.replicate 16 {} ∧ v.fly = [] ∧ { u.bank b with unit := (s.bank b).unit } = s.bank b)
  ∧ (∀ (stk ch t : Nat) (w : BitVec 48) (s : State), s.fitted stk = true → ch < 64 →
    s.extTakes 0x10 (some false) stk ch w blankCol t = true → extCmd w = 0x10 → extFormed w = true →
    Completes (.sprigModeLeave stk ch w t) s fun u => ∀ b ∈ extBanks stk ch w, (s.bank b).unit.status.st ≠ .off →
      u.bank b = { s.bank b with unit := { recipe := (s.bank b).unit.recipe }, leaveAt := some t })
  ∧ (∀ (stk ch t : Nat) (w : BitVec 48) (burst : Column) (s : State), s.fitted stk = true → ch < 64 →
    s.extTakes 0x11 none stk ch w burst t = true → extCmd w = 0x11 → extFormed w = true → (eccRead burst).bad = false →
    Completes (.recipeWrite stk ch w burst t) s fun u => ∀ b ∈ extBanks stk ch w,
      ((s.bank b).unit.status.st = .idle ∨ (s.bank b).unit.status.st = .stopped) →
        let k := s.bank b
        let v := u.bank b
        (k.hold = none → v.tag = none)
          ∧ (∀ n, Tab.get 0 v.unit.recipe n =
            if Word.bits w 26 22 ≤ n ∧ n ≤ Word.bits w 26 22 + Word.bits w 21 19 then
              BitVec.ofNat 64 ((eccRead burst).data.toNat >>> (64 * (n - Word.bits w 26 22)))
            else Tab.get 0 k.unit.recipe n)
          ∧ { v.unit with recipe := k.unit.recipe, run := k.unit.run } = k.unit
          ∧ { v with tag := k.tag, unit := k.unit } = k)
  ∧ ∀ (stk ch t : Nat) (w : BitVec 48) (burst : Column) (s : State), s.fitted stk = true → ch < 64 →
    s.extTakes 0x12 none stk ch w burst t = true → extCmd w = 0x12 → extFormed w = true →
    Completes (.operandBcast stk ch w burst t) s fun u => ∀ b ∈ extBanks stk ch w,
      ((s.bank b).unit.status.st = .idle ∨ (s.bank b).unit.status.st = .stopped) →
        let k := s.bank b
        let v := u.bank b
        v.unit.ops = k.unit.ops.set (if Word.bit w 26 then 1 else 0)
            { data := (eccRead burst).data, poison := (eccRead burst).bad }
          ∧ v.unit.status = { k.unit.status with poison := k.unit.status.poison || (eccRead burst).bad }
          ∧ { v.unit with ops := k.unit.ops, status := k.unit.status, run := k.unit.run } = k.unit
          ∧ (k.hold = none → { v with unit := k.unit } = k)

/-- SPRIG_RUN starts a run at FIRST, when every step from FIRST to LAST is valid, and otherwise stops it with END
BAD_STEP and the first invalid step; registers stay, and pointers too when it loads none. A paused run whose rows are
open again resumes with its registers and cursors unchanged. A run that has ended is reported two cycles after its
last retirement or its stop, and its job moves on: a stopped bank is drained. -/
def Obligations.RunsStartResumeAndReport : Prop :=
  (∀ (stk ch t : Nat) (w : BitVec 48) (burst : Column) (s : State), s.fitted stk = true → ch < 64 →
    s.extTakes 0x13 none stk ch w burst t = true → extCmd w = 0x13 → extFormed w = true →
    extBadBurst w burst = false →
    Completes (.sprigRun stk ch w burst t) s fun u => ∀ b ∈ extBanks stk ch w,
      ((s.bank b).unit.status.st = .idle ∨ (s.bank b).unit.status.st = .stopped) →
        let k := (s.bank b).unit
        let v := (u.bank b).unit
        let valid (i : Nat) : Bool := stepValid (Tab.get 0 k.recipe i)
        { v with ptrs := k.ptrs, run := k.run, status := k.status } = k ∧ (Word.bit w 4 = false → v.ptrs = k.ptrs)
          ∧ v.run.first = Word.bits w 26 22 ∧ v.run.last = Word.bits w 21 17 ∧ v.run.iter = Word.bits w 16 5
          ∧ v.status.iterDone = 0
          ∧ ((∀ i, Word.bits w 26 22 ≤ i → i ≤ Word.bits w 21 17 → valid i = true) →
            v.status.st = .running ∧ v.status.step = Word.bits w 26 22)
          ∧ (∀ i, Word.bits w 26 22 ≤ i → i ≤ Word.bits w 21 17 → valid i = false →
            (∀ j, Word.bits w 26 22 ≤ j → j < i → valid j = true) →
            v.status.st = .stopped ∧ v.status.endc = 1 ∧ v.status.step = i)
          ∧ { u.bank b with unit := (s.bank b).unit } = s.bank b)
  ∧ (∀ (mbn t : Nat) (s : State), mbn < 16384 → s.stackOn (mbn / 1024) = true →
    (s.bank mbn).unit.status.st = .paused →
    (∀ x ∈ (s.bank mbn).unit.run.reopen,
      runNames (s.bank mbn).unit (s.bank mbn).unit.run.first (s.bank mbn).unit.run.last x.1 = true →
      (s.bank mbn).isOpen x.1 = true ∧ ((s.bank mbn).latch x.1).logRow = x.2 ∧
      since ((s.bank mbn).latch x.1).actAt (tRCD (s.bandOf mbn)) t = true) →
    Completes (.runResume mbn t) s fun u =>
      let k := s.bank mbn
      let v := u.bank mbn
      v.unit.status = { k.unit.status with st := .running } ∧ v.unit.run.resumeAt = some t ∧ v.unit.run.reopen = []
        ∧ { v.unit with status := k.unit.status, run := k.unit.run } = k.unit ∧ { v with unit := k.unit } = k
        ∧ OnlyBank s u mbn)
  ∧ ∀ (mbn t id : Nat) (s : State) (j : Job) (b : JBank), mbn < 16384 →
    s.stackOn (mbn / 1024) = true → (s.bank mbn).hold = some id → Tab.find s.mem.jobs id = some j →
    j.bankRec mbn = some b → b.ran = true → (s.bank mbn).unit.busy = false → (s.bank mbn).unit.fly = [] →
    max (s.bank mbn).unit.run.retireAt (s.bank mbn).unit.run.stopAt + 2 = t →
    Completes (.runDoneReport mbn t) s fun u =>
      let k := s.bank mbn
      (∃ v x, Tab.find u.mem.jobs id = some v ∧ v.bankRec mbn = some x ∧ x.ran = false
        ∧ (k.unit.status.st = .stopped → x.phase = .draining ∧ v.res.stopped = true
          ∧ (j.res.stopped = false → v.res.endc = k.unit.status.endc ∧ v.res.step = k.unit.status.step
            ∧ v.res.stopBank = mbn))
        ∧ (k.unit.status.st ≠ .stopped → v.res = j.res) ∧ v.apart mbn = { j.apart mbn with res := (v.apart mbn).res })
        ∧ (∀ o, o ≠ id → Tab.find u.mem.jobs o = Tab.find s.mem.jobs o)
        ∧ u.bank mbn = { k with unit := { k.unit with run := { k.unit.run with reportAt := some t } } }
        ∧ (∀ m, m ≠ mbn → u.bank m = s.bank m) ∧ OnlyMem s u
        ∧ { u.mem with banks := s.mem.banks, jobs := s.mem.jobs } = s.mem

/-- SPRIG_DRAIN returns the addressed drain slot, poisoned as the slot is, and SPRIG_STATUS the status word, whose
sticky fields CLEAR takes; neither touches the unit's registers. What leaves the unit is a list in the state (log
entry 96). -/
def Obligations.DrainAndStatusReturnBursts : Prop :=
  (∀ (stk ch t b : Nat) (w : BitVec 48) (s : State), s.fitted stk = true → ch < 64 →
    s.extTakes 0x14 none stk ch w blankCol t = true → extCmd w = 0x14 → extFormed w = true →
    extBanks stk ch w = [b] → (s.bank b).unit.status.st ≠ .off →
    Completes (.sprigDrain stk ch w t) s fun u =>
      let x := (forwarded (s.bank b).unit).drain.getD (Word.bits w 26 23) {}
      u.mem.bursts = (b, storeCol x.data x.poison) :: s.mem.bursts
        ∧ { (u.bank b).unit with run := (s.bank b).unit.run } = (s.bank b).unit
        ∧ { u.bank b with unit := (s.bank b).unit } = s.bank b ∧ DramSame s u ∧ ExtFrame s u stk ch w false)
  ∧ ∀ (stk ch t b : Nat) (w : BitVec 48) (s : State), s.fitted stk = true → ch < 64 →
    s.extTakes 0x15 none stk ch w blankCol t = true → extCmd w = 0x15 → extFormed w = true →
    extBanks stk ch w = [b] →
    Completes (.sprigStatus stk ch w t) s fun u =>
      let k := (s.bank b).unit
      let v := (u.bank b).unit
      u.mem.bursts = (b, cleanCol ((statusWord k).setWidth 512)) :: s.mem.bursts
        ∧ { v with status := k.status, run := k.run } = k ∧ { u.bank b with unit := k } = s.bank b
        ∧ (Word.bit w 26 = true → v.status.poison = false ∧ v.status.ue = false ∧ v.status.ce0 = 0 ∧ v.status.ce1 = 0
          ∧ v.status.outPoison = false ∧ v.status.st = k.status.st ∧ v.status.endc = k.status.endc
          ∧ v.status.step = k.status.step ∧ v.status.iterDone = k.status.iterDone
          ∧ u.ctr (0x3030 + stk) 2 = (s.ctr (0x3030 + stk) 2 + k.status.ce0 + k.status.ce1) % 2 ^ 64)
        ∧ (Word.bit w 26 = false → v.status = k.status) ∧ DramSame s u ∧ ExtFrame s u stk ch w (Word.bit w 26)

/-- The next step of a run issues in the first cycle that meets its conditions: its pointers move at issue, its
results are in flight until it retires, and the run goes on to the next step or iteration. On a closed latch or past
the last column it does nothing and the run stops. Only its bank changes, and with it, where a step draws the first
time on a hardware-seeded source, the number of the next free value. -/
def Obligations.StepsIssueOrStop : Prop :=
  ∀ p ∈ stepRows, ∀ (mbn t : Nat) (s : State), mbn < 16384 → s.stackOn (mbn / 1024) = true →
    let k := (s.bank mbn).unit
    let w := Tab.get 0 k.recipe k.status.step
    k.status.st = .running → k.run.done = false → stepOp w = p.1 → stepDue k w t = true →
    (stepStop (s.bank mbn) w = none →
      Completes (p.2 mbn t) s fun u =>
        let v := (u.bank mbn).unit
        let src : Word := if stepDraws w = 0 then 0 else (s.bankSource mbn).2
        v.ptrs = stepPtrs k.ptrs w ∧ v.acc = k.acc ∧ v.sc = k.sc ∧ v.drain = k.drain ∧ v.ops = k.ops ∧ v.recipe = k.recipe
          ∧ (∃ f : InFlight, v.fly = k.fly ++ [f] ∧ f.issueAt = t ∧ f.readyAt = t + (stepTimes w).1
            ∧ f.retireAt = t + (stepTimes w).2
            ∧ f.effs = stepEffects (forwarded (stepColumn s mbn w).1) (stepColumn s mbn w).2
              (match stepWriteLatch w with
                | some l => ((s.bank mbn).latch l.1).row.getD 0
                | none => 0) (drawsFor (stepDraws w) src).1 w)
          ∧ (k.status.step = k.run.last → v.status.step = k.run.first ∧ v.status.iterDone = k.status.iterDone + 1
            ∧ v.run.done = decide (k.run.iter ≤ k.status.iterDone + 1))
          ∧ (k.status.step ≠ k.run.last → v.status.step = k.status.step + 1 ∧ v.status.iterDone = k.status.iterDone
            ∧ v.run.done = false)
          ∧ (p.1 = 0x18 → v.sreg = k.sreg.set (Word.bits w 58 56) (w.setWidth 32)) ∧ (p.1 ≠ 0x18 → v.sreg = k.sreg)
          ∧ (u.bank mbn).rnd = (if stepDraws w = 0 then (s.bank mbn).rnd else some (drawsFor (stepDraws w) src).2)
          ∧ { u.bank mbn with unit := k, rnd := (s.bank mbn).rnd } = s.bank mbn
          ∧ (stepDraws w = 0 → u.free = s.free) ∧ OnlyBank { s with free := u.free } u mbn)
    ∧ ∀ e, stepStop (s.bank mbn) w = some e →
      Completes (p.2 mbn t) s fun u =>
        let v := (u.bank mbn).unit
        v.status = { k.status with st := .stopped, endc := e } ∧ { v with status := k.status, run := k.run } = k
          ∧ { u.bank mbn with unit := k } = s.bank mbn ∧ OnlyBank s u mbn

/-- A step that reaches its retire time leaves flight and writes its result: an accumulator, a scratch register, a
drain slot, or a column of the row in its latch, whose poison the status word keeps. The run that has issued its last
step is IDLE when its last step has retired. Nothing else changes. -/
def Obligations.StepsRetire : Prop :=
  ∀ (mbn n t : Nat) (s : State) (f : InFlight), mbn < 16384 →
    s.stackOn (mbn / 1024) = true → (s.bank mbn).unit.fly[n]? = some f → f.retireAt ≤ t →
    (∀ g ∈ (s.bank mbn).unit.fly.take n, f.retireAt < g.retireAt) →
    Completes (.stepRetire mbn n t) s fun u =>
      let k := (s.bank mbn).unit
      let v := (u.bank mbn).unit
      v.fly = k.fly.eraseIdx n ∧ v.ptrs = k.ptrs ∧ v.ops = k.ops ∧ v.sreg = k.sreg ∧ v.recipe = k.recipe
        ∧ (f.effs = [] → v.acc = k.acc ∧ v.sc = k.sc ∧ v.drain = k.drain ∧ DramSame s u)
        ∧ (∀ e, f.effs = [e] → match e with
          | .acc i x bad => v.acc = k.acc.set i x ∧ v.sc = k.sc ∧ v.drain = k.drain ∧ DramSame s u
            ∧ v.status.poison = (k.status.poison || bad)
          | .sc i x bad => v.sc = k.sc.set i x ∧ v.acc = k.acc ∧ v.drain = k.drain ∧ DramSame s u
            ∧ v.status.poison = (k.status.poison || bad)
          | .slot i x => v.drain = k.drain.set i x ∧ v.acc = k.acc ∧ v.sc = k.sc ∧ DramSame s u
          | .latch _ row col x => u.dramGet mbn row col = x ∧ v.acc = k.acc ∧ v.sc = k.sc ∧ v.drain = k.drain
            ∧ (∀ b r c, dramKey b r c ≠ dramKey mbn row col → u.dramGet b r c = s.dramGet b r c)
            ∧ v.status.outPoison = (k.status.outPoison || (eccRead x).bad))
        ∧ (k.run.done = true → k.fly.length = 1 → k.busy = true → v.status.st = .idle)
        ∧ (k.run.done = false ∨ k.fly.length ≠ 1 → v.status.st = k.status.st)
        ∧ { u.bank mbn with unit := k } = s.bank mbn ∧ OnlyMem s u ∧ (∀ b, b ≠ mbn → u.bank b = s.bank b)
        ∧ { u.mem with banks := s.mem.banks, dram := s.mem.dram } = s.mem

/-- A dispatched SPRIG_JOB whose image and operands have been read (leaving state `f`) and that 05 R163 admits is
queued with its rows, its image and one waiting record for each of its banks; a refused one has its result code and no
banks; one whose image or operands are still on their way waits. A queued job begins on a free bank: the bank is held
for the job, in recipe mode, with its loads to come. A job that has left every bank and has nothing to drain or record
completes its KQ entry with the status of its result code, and the controller forgets it. The order of a job's writes
and checks is the model's reading (log entries 28, 29, 31). -/
def Obligations.JobsQueueBeginAndComplete : Prop :=
  (∀ (c ticket t : Nat) (s f : State) (e : QEntry), c < 48 → s.entry c 6 ticket = some e → s.clusterOn c = true →
    e.disp = true → e.started = false → e.compl = none → e.aborting = none →
    let p := (f.cluster c).part.getD 31
    (∀ (im : Image) (oper : Tab PReg) (b r : Nat), s.startJob c e t = f.checkJob c e (some im) oper t →
      jobDescOk e.desc = true → f.jobFrozen p e.desc im = false →
      f.jobPlace p e.desc (imageWrites e.desc im) = .ok (b, r) →
      f.pathTo (.sprig c) (b / 1024) ≠ none → f.switchWait (wayTo f.linkWas (.sprig c) (b / 1024)) = false →
      Completes (.sprigJob c ticket t) s fun u => ∃ j, Tab.find u.mem.jobs (jobNo c e.ticket) = some j ∧ j.first = b
        ∧ j.row0 = r ∧ j.img = im ∧ j.oper = oper ∧ j.res.code = 0 ∧ j.arrived = f.mem.nextId ∧ j.cyc = t
        ∧ j.banks = ((upTo (jobBankCount e.desc)).map fun i => { mbn := b + i })
        ∧ (∀ id, id ≠ jobNo c e.ticket → Tab.find u.mem.jobs id = Tab.find f.mem.jobs id) ∧ DramSame f u
        ∧ u.mem.banks = f.mem.banks ∧ u.fab = f.fab ∧ u.mgmt = f.mgmt)
    ∧ (∀ oper, s.startJob c e t = f.checkJob c e none oper t →
      Completes (.sprigJob c ticket t) s fun u => ∃ j, Tab.find u.mem.jobs (jobNo c e.ticket) = some j ∧ j.banks = []
        ∧ j.res.code = (if jobImageUsable e.desc then 5 else 4) ∧ DramSame f u ∧ u.mem.banks = f.mem.banks)
    ∧ Completes (.sprigJob c ticket t) s fun u => u = keep s (s.startJob c e t))
  ∧ (∀ (id mbn t : Nat) (s : State) (j : Job), mbn < 16384 → s.fitted (mbn / 1024) = true →
    Tab.find s.mem.jobs id = some j → s.jobMayBegin id j mbn = true → s.enterOk j mbn t = true →
    Completes (.jobBankBegin id mbn t) s fun u =>
      (u.bank mbn).hold = some id ∧ (u.bank mbn).unit.status.st = .idle
        ∧ (u.bank mbn).unit.recipe = (s.bank mbn).unit.recipe ∧ (u.bank mbn).tag = (s.bank mbn).tag
        ∧ { u.bank mbn with unit := (s.bank mbn).unit, hold := none } = s.bank mbn
        ∧ (∃ v x, Tab.find u.mem.jobs id = some v ∧ v.bankRec mbn = some x ∧ x.phase ≠ .waiting
          ∧ x.loaded = j.skips (s.bank mbn) ∧ v.apart mbn = j.apart mbn)
        ∧ (∀ o, o ≠ id → Tab.find u.mem.jobs o = Tab.find s.mem.jobs o)
        ∧ DramSame s u ∧ (∀ b, b ≠ mbn → u.bank b = s.bank b) ∧ (∀ k, k ≠ mbn / 16 → u.chan k = s.chan k) ∧ OnlyMem s u)
  ∧ ∀ (id : Nat) (s : State) (j : Job), Tab.find s.mem.jobs id = some j → s.clusterOn j.c = true →
    j.over' = true → j.stage = 0 → j.drainLines = [] → j.wantsRecord = false → s.settled (.job id) = true →
    Completes (.jobComplete id) s fun u =>
      Tab.find u.mem.jobs id = none ∧ (∀ o, o ≠ id → Tab.find u.mem.jobs o = Tab.find s.mem.jobs o)
        ∧ (∀ e, s.entry j.c 6 j.ticket = some e → e.compl = none →
          (u.entry j.c 6 j.ticket).bind QEntry.compl = some (jobStatus j.code, j.code))
        ∧ DramSame s u ∧ u.mem.banks = s.mem.banks ∧ u.mem.reqs = s.mem.reqs ∧ ∀ c, c ≠ j.c → u.cluster c = s.cluster c

/-! ### Matrix tiles, vector and layout engines (07, 08, 09) -/

/-- The next dispatched PANEL, MMA, CLOAD or STORE takes its engine, when no earlier command that uses the same buffer
stands in its way; with nothing in its stream yet it waits there for its lines, and one that needs none is done. A
PANEL makes its buffer unusable, an MMA with CLR clears its accumulator buffer. An MMA that may not run on its panel
completes BAD_DESC. A tile command whose work is done, and whose writes have taken effect, completes its entry and
frees its engine: OK, POISONED or WRITE_FAILED, or the status of the abort that stopped it. Nothing of another tile,
queue or cluster changes, nor any memory. -/
def Obligations.TileCommandsStartAndComplete : Prop :=
  (∀ p ∈ tileRows, ∀ (c t : Nat) (s : State) (x : QEntry), c < 48 → t < 4 → s.tilePresent (tileNo c t) = true →
    s.clusterOn c = true → s.nextFor c t (engineOf p.1) = some x → x.disp = true → mqCmd x.desc = p.1 →
    mqValid x.desc = true → (s.tile c t).eng (engineOf p.1) = none →
    (∀ y ∈ ((s.cluster c).queue t).entries.takeWhile (fun y => y.ticket != x.ticket), s.mqConflict c t x y = false) →
    TileFree s c t → ((s.tile c t).str (streamOf (engineOf p.1))).ents = [] →
    let ti := s.tile c t
    (p.1 = 1 → mmaOk x.desc (Tab.get {} ti.pbuf (mqPbuf x.desc)) = true) →
    Completes (p.2 c t) s fun u =>
      let v := u.tile c t
      (∃ k, v.eng (engineOf p.1) = some k ∧ k.ticket = x.ticket ∧ k.desc = x.desc ∧ k.need = ti.linesOf x.desc
        ∧ k.asked = 0 ∧ k.out = [] ∧ k.got = [] ∧ k.done = decide (ti.linesOf x.desc = 0))
        ∧ (∀ e, e ≠ engineOf p.1 → v.eng e = ti.eng e) ∧ (u.entry c t x.ticket).map QEntry.started = some true
        ∧ (p.1 = 0 → (Tab.get {} v.pbuf (mqPbuf x.desc)).usable = false) ∧ (p.1 ≠ 0 → v.pbuf = ti.pbuf)
        ∧ (p.1 = 1 → mqClr x.desc = true → ti.linesOf x.desc ≠ 0 → Tab.get {} v.cbuf (mqCbuf x.desc) = {})
        ∧ ((p.1 ≠ 1 ∨ (mqClr x.desc = false ∧ ti.linesOf x.desc ≠ 0)) → v.cbuf = ti.cbuf)
        ∧ v.strA = ti.strA ∧ v.strB = ti.strB ∧ v.strC = ti.strC ∧ u.mem = s.mem ∧ TileFrame s u c t)
  ∧ (∀ (c t : Nat) (s : State) (x : QEntry), c < 48 → t < 4 → s.tilePresent (tileNo c t) = true →
    s.clusterOn c = true → s.nextFor c t .array = some x → s.entry c t x.ticket = some x → x.disp = true →
    mqCmd x.desc = 1 → (s.tile c t).eng .array = none →
    (∀ y ∈ ((s.cluster c).queue t).entries.takeWhile (fun y => y.ticket != x.ticket), s.mqConflict c t x y = false) →
    TileFree s c t → mmaOk x.desc (Tab.get {} (s.tile c t).pbuf (mqPbuf x.desc)) = false →
    Completes (.mma c t) s fun u => (u.entry c t x.ticket).bind QEntry.compl = some (3, 0)
      ∧ (u.tile c t).eng .array = none ∧ (u.tile c t).cbuf = (s.tile c t).cbuf ∧ u.mem = s.mem ∧ TileFrame s u c t)
  ∧ ∀ (e : TileEngine) (c t : Nat) (s : State) (k : TileCmd) (x : QEntry), c < 48 → t < 4 →
    s.tilePresent (tileNo c t) = true → s.clusterOn c = true → (s.tile c t).eng e = some k → k.done = true →
    k.need ≤ k.asked → s.entry c t k.ticket = some x → x.compl = none → TileFree s c t →
    (mqCmd k.desc = 3 → s.settled (.tile c t 2) = true) →
    Completes (.tileCmdComplete c t e) s fun u =>
      let st := x.aborting.getD (k.status (mqCmd k.desc == 3 && s.fab.fails.any fun f => f.1 == .tile c t 2))
      (u.tile c t).eng e = none ∧ (∀ e', e' ≠ e → (u.tile c t).eng e' = (s.tile c t).eng e')
        ∧ (u.entry c t k.ticket).bind QEntry.compl = some (st, 0)
        ∧ (mqCmd k.desc = 3 → mqClrAfter k.desc = true → x.aborting = none →
          Tab.get {} (u.tile c t).cbuf (mqCbuf k.desc) = {})
        ∧ ((mqCmd k.desc ≠ 3 ∨ mqClrAfter k.desc = false ∨ x.aborting ≠ none) → (u.tile c t).cbuf = (s.tile c t).cbuf)
        ∧ (u.tile c t).pbuf = (s.tile c t).pbuf
        ∧ (st = 1 → u.ctr (0x5100 + tileNo c t) 5 = (s.ctr (0x5100 + tileNo c t) 5 + 1) % 2 ^ 32)
        ∧ OdKept s u (if st = 1 then [odKey (0x5100 + tileNo c t) 5] else []) ∧ u.mem = s.mem ∧ TileFrame s u c t

/-- A line of cluster SRAM returns to the tile engine that asked for it, and stays with its command. A granule that a
transfer drops is counted. A granule of a copy between unscaled arrays in cluster SRAM takes its 64 bytes from the
source to the destination, and no other byte changes; any other granule of a transfer of class F without owner views,
whose source lines have come (leaving state `f`), is stored (leaving state `g`) and its bytes counted. That a
transfer's lines are served within its step is the model's choice (log entry 13). -/
def Obligations.LinesReturnToEngines : Prop :=
  (∀ (e : TileEngine) (c t n : Nat) (s : State) (m : TileCmd) (r : LineReq), c < 48 → s.clusterOn c = true →
    (s.tile c t).eng e = some m → m.out[n]? = some r → r.space = 0 → r.scale = none → m.done = false →
    ((s.tile c t).str (streamOf e)).ents = [] → TileFree s c t →
    Completes (.lineResponse c (enginePort e t) n) s fun u => (∃ v, (u.tile c t).eng e = some v
        ∧ v.out = m.out.eraseIdx n ∧ Tab.find v.got r.ord = some { data := s.csLine c (r.addr % 2 ^ 23) }
        ∧ (∀ j, j ≠ r.ord → Tab.find v.got j = Tab.find m.got j) ∧ v.ticket = m.ticket ∧ v.desc = m.desc)
      ∧ (∀ e', e' ≠ e → (u.tile c t).eng e' = (s.tile c t).eng e')
      ∧ (u.cluster c).csram = (s.cluster c).csram ∧ u.mem = s.mem ∧ TileFrame s u c t)
  ∧ ∀ (c n k : Nat) (s : State) (r : LayRun) (dx : List Int) (srcs : List (List Int × Nat)), c < 48 →
    s.clusterOn c = true → (s.cluster c).lay = some r → r.out[n]? = some k → unitOf r k = some (dx, srcs) →
    (r.dst.gran false r.blocks dx = .off ∨ r.dst.gran false r.blocks dx = .absent →
      Completes (.lineResponse c .layout n) s fun u =>
        (u.cluster c).lay = some (LayRun.fill { r with out := r.out.filter (· != k) } 1)
          ∧ u.ctr (0x5300 + c) 5 = (s.ctr (0x5300 + c) 5 + 1) % 2 ^ 64 ∧ OdKept s u [odKey (0x5300 + c) 5] ∧ u.mem = s.mem
          ∧ { u.cluster c with lay := (s.cluster c).lay } = s.cluster c ∧ ∀ d, d ≠ c → u.cluster d = s.cluster d)
    ∧ (∀ (p : Nat) (a b : Int) (sx : List Int), r.src.own = none → r.dst.own = none → classT r.desc = false →
      lqRed r.desc = 0 → r.src.scaled = false → r.dst.scaled = false → r.got = [] → srcs = [(sx, p)] →
      r.src.gran true r.blocks sx = .at_ 0 a 0 → r.dst.gran false r.blocks dx = .at_ 0 b 0 → r.dst.space = 0 → 0 ≤ a →
      a < 2 ^ 23 → 0 ≤ b → b < 2 ^ 23 →
      Completes (.lineResponse c .layout n) s fun u =>
        (∀ x : Nat, Tab.get 0 (u.cluster c).csram x =
            if b ≤ x ∧ x < b + 64 then Tab.get 0 (s.cluster c).csram (a.toNat + (x - b.toNat))
            else Tab.get 0 (s.cluster c).csram x)
          ∧ (u.cluster c).lay = some (LayRun.fill { r with out := r.out.filter (· != k) } 1)
          ∧ u.ctr (0x5300 + c) 2 = (s.ctr (0x5300 + c) 2 + 64) % 2 ^ 64 ∧ u.mem = s.mem
          ∧ { u.cluster c with lay := (s.cluster c).lay, csram := (s.cluster c).csram } = s.cluster c
          ∧ ∀ d, d ≠ c → u.cluster d = s.cluster d)
    ∧ ∀ (sp gg p ssp sg : Nat) (a sa : Int) (sx : List Int) (f g : State) (got : Held) (ws : List LineW)
        (sts : List Nat), r.src.own = none → r.dst.own = none → classT r.desc = false → srcs = [(sx, p)] →
      r.dst.gran false r.blocks dx = .at_ sp a gg → r.src.gran true r.blocks sx = .at_ ssp sa sg →
      let w := s.layWho c r.desc
      let xs := ((granLines r.src ssp sa sg).filterMap id).dedup
      s.holdLines w 2048 ((xs.filter fun x => (r.got.find x).isNone).take r.lim) r.got = (f, got) → got.all xs = true →
      let data := srcGran r (xs.map fun x => (x, (got.find x).getD (0, 0))) (.at_ ssp sa sg)
      granWrites r.dst sp a gg data (if lqRed r.desc = 0 then none
        else some (lqRed r.desc - 1, if r.dst.fmt = 7 then 0 else if r.dst.fmt = 5 then 1 else 2)) = some ws →
      let f0 := f.modCluster c fun x => { x with lay := x.lay.map fun r => { r with got := got } }
      (r.dst.space = 0 ∨ f0.inFlight w.a + ws.length ≤ 2048) → f0.storeLines w ws = (g, some sts) →
      (g.cluster c).lay = some { r with got := got } →
      Completes (.lineResponse c .layout n) s fun u => u.mem = g.mem ∧ u.fab = g.fab
        ∧ (u.cluster c).lay = some (LayRun.fill {
            r with
            out := r.out.filter (· != k)
            got := got.filter fun l => !xs.any fun x => l.1 == (x.space, x.addr)
            wfail := r.wfail || sts.any (· != 0)
            poison := r.poison || data.poison } 1)
        ∧ u.ctr (0x5300 + c) 2 = (g.ctr (0x5300 + c) 2 + f0.hereBytes w ws sts) % 2 ^ 64

/-- An MMA adds to every element of its rows and of the panel's columns the contributions of the chunks in order, and
leaves every other element of the accumulator buffer alone. -/
def Obligations.MmaAccumulates : Prop :=
  ∀ (d : List Word) (p : PanelBuf) (got : Tab TLine) (cb : CBuf) (m n : Nat), mqRows d ≤ 128 → p.n ≤ 128 → n < 128 →
    Tab.get 0 (mmaRun d p got cb).el (128 * m + n) =
      if m < mqRows d ∧ n < p.n then
        (upTo p.k).foldl (fun acc ch =>
          chunkAdd (mqFmtA d) p.fmt (Tab.get { data := 0 } got (ch * mqRows d + m))
            (p.lines.getD (n * p.k + ch) { data := 0 })
            (if ch + 1 = p.k then mqTail d else kLine (mqFmtA d)) acc) (Tab.get 0 cb.el (128 * m + n))
      else Tab.get 0 cb.el (128 * m + n)

/-- The next dispatched chain instruction reads its block once; when its lines have been read (leaving state `f`) and
its output has been written (leaving state `g`) it is running, with the status that it will complete with; memory is
as its writes leave it. One whose descriptor or block is invalid completes BAD_DESC. A chain that has run completes,
and is counted, once its writes have taken effect. That a chain reads, computes and writes within one step is the
model's choice (log entry 13). -/
def Obligations.ChainsRunAndComplete : Prop :=
  (∀ (c : Nat) (s : State) (e : QEntry), c < 48 →
    ((s.cluster c).queue 4).entries.find? (fun e => e.disp && !e.started && e.compl.isNone) = some e →
    s.clusterOn c = true → (s.cluster c).vec = none →
    let b := s.readBlock c e
    let w := b.1.vecWho c e.desc
    let k := Chain.ofBytes b.2
    (∀ (f g : State) (rs : List (Nat × Line)) (sts : List Nat), chainOk e.desc k = true →
      b.1.fetchLines w (chainReads e.desc k) = (f, some rs) →
      let i := chainIn b.1 c e.desc k ((chainReads e.desc k).zip rs)
      let v := runChain k i f.free
      let s1 : State := { f with free := v.free }
      let src := if k.rnd = 1 then s1.vecSource c else (s1, 0)
      let dr := if k.rnd = 1 then drawsFor i.n src.2 else ([], src.2)
      let s2 := if k.rnd = 1 then src.1.modCluster c fun x => { x with vecRnd := some dr.2 } else src.1
      permOk k i = true →
      s2.storeLines w (outWrites k (vqPlace e.desc 5) i.n (v.t.getD k.outSrc []) dr.1
          ++ (if k.statsEn then byteWrites (vqPlace e.desc 6) v.stats else [])) = (g, some sts) →
      Completes (.chainInstruction c) s fun u =>
        (u.cluster c).vec = some {
          ticket := e.ticket
          status := if sts.any (· != 0) then 5 else if (v.t.getD k.outSrc []).any VE.p then 1 else 0 }
          ∧ (u.cluster c).vecBlk = none ∧ u.mem = g.mem ∧ u.fab = g.fab ∧ (u.cluster c).csram = (g.cluster c).csram
          ∧ ∀ d, d ≠ c → u.cluster d = g.cluster d)
    ∧ (chainOk e.desc k = false → s.entry c 4 e.ticket = some e → Completes (.chainInstruction c) s fun u => (u.cluster c).vec = none
        ∧ (u.entry c 4 e.ticket).bind QEntry.compl = some (3, 0)
        ∧ u.ctr (0x5200 + c) 1 = (s.ctr (0x5200 + c) 1 + 1) % 2 ^ 64 ∧ u.mem = s.mem
        ∧ (u.cluster c).csram = (s.cluster c).csram ∧ ∀ d, d ≠ c → u.cluster d = s.cluster d))
  ∧ ∀ (c : Nat) (s : State) (v : VecRun) (x : QEntry), c < 48 → (s.cluster c).vec = some v →
    s.settled (.vec c) = true → s.entry c 4 v.ticket = some x → x.compl = none →
    Completes (.chainComplete c) s fun u =>
      let st := x.aborting.getD (if s.fab.fails.any (fun f => f.1 == .vec c) then 5 else v.status)
      (u.cluster c).vec = none ∧ (u.entry c 4 v.ticket).bind QEntry.compl = some (st, 0)
        ∧ (x.aborting = none → u.ctr (0x5200 + c) 1 = (s.ctr (0x5200 + c) 1 + 1) % 2 ^ 64)
        ∧ (st = 1 → u.ctr (0x5200 + c) 5 = (s.ctr (0x5200 + c) 5 + 1) % 2 ^ 32)
        ∧ OdKept s u [odKey (0x5200 + c) 1, odKey (0x5200 + c) 5] ∧ u.mem = s.mem
        ∧ { u.cluster c with vec := (s.cluster c).vec, queues := (s.cluster c).queues } = s.cluster c
        ∧ ∀ d, d ≠ c → u.cluster d = s.cluster d

/-- The next dispatched transfer of each mode starts with its views when its descriptor, its views, and the owner
tables and lists that it reads (leaving states `o` and `f`) are in order; an invalid one completes BAD_DESC. It
completes once every granule has moved and its writes have taken effect. That a transfer's lines are served within its
step is the model's choice (log entry 13). -/
def Obligations.TransfersRunAndComplete : Prop :=
  (∀ p ∈ layoutRows, ∀ (c : Nat) (s : State) (e : QEntry), c < 48 →
    ((s.cluster c).queue 5).entries.find? (fun e => e.disp && !e.started && e.compl.isNone) = some e →
    s.clusterOn c = true → (s.cluster c).lay = none →
    (lqMode e.desc = p.1 ∨ (lqMode e.desc = 3 ∧ p.1 = 0)) →
    let b := s.layBegin c e
    let w := s.layWho c e.desc
    let ok := (if lqMode e.desc = 0 then [] else listLines e.desc).filter fun x => x.space == 1 || decide (x.addr < 2 ^ 23)
    (∀ (o f : State) (h h' : Held) (ts : List (Option OwnTab)), lqOk e.desc b.src b.dst = true →
      s.readOwners w [LView.ofBytes b.src, LView.ofBytes b.dst] b.got = (o, h, some (some ts)) →
      o.holdLines w (if lqListSpace e.desc = 0 then 16 else 2048) ok h = (f, h') → h'.all ok = true →
      Completes (p.2 c) s fun u => (∃ r, (u.cluster c).lay = some r ∧ r.ticket = e.ticket ∧ r.desc = e.desc
          ∧ r.src = { LView.ofBytes b.src with own := ts.getD 0 none }
          ∧ r.dst = { LView.ofBytes b.dst with own := ts.getD 1 none } ∧ r.wfail = false ∧ r.list.length = lqCount e.desc)
        ∧ (u.cluster c).layStart = none ∧ u.mem = f.mem ∧ u.fab = f.fab
        ∧ (u.cluster c).csram = (f.cluster c).csram ∧ ∀ d, d ≠ c → u.cluster d = f.cluster d)
    ∧ (lqOk e.desc b.src b.dst = false → s.entry c 5 e.ticket = some e → Completes (p.2 c) s fun u => (u.cluster c).lay = none
        ∧ (u.entry c 5 e.ticket).bind QEntry.compl = some (3, 0)
        ∧ u.ctr (0x5300 + c) 1 = (s.ctr (0x5300 + c) 1 + 1) % 2 ^ 64 ∧ u.mem = s.mem
        ∧ (u.cluster c).csram = (s.cluster c).csram ∧ ∀ d, d ≠ c → u.cluster d = s.cluster d))
  ∧ ∀ (c : Nat) (s : State) (r : LayRun) (x : QEntry), c < 48 → (s.cluster c).lay = some r → r.total ≤ r.next →
    r.out = [] → s.settled (.lay c) = true → s.entry c 5 r.ticket = some x → x.compl = none →
    Completes (.transferComplete c) s fun u =>
      let st := x.aborting.getD
        (if r.wfail || s.fab.fails.any (fun f => f.1 == .lay c) then 5 else if r.poison then 1 else 0)
      (u.cluster c).lay = none ∧ (u.entry c 5 r.ticket).bind QEntry.compl = some (st, 0)
        ∧ (x.aborting = none → u.ctr (0x5300 + c) 1 = (s.ctr (0x5300 + c) 1 + 1) % 2 ^ 64)
        ∧ (st = 1 → u.ctr (0x5300 + c) 9 = (s.ctr (0x5300 + c) 9 + 1) % 2 ^ 32)
        ∧ OdKept s u [odKey (0x5300 + c) 1, odKey (0x5300 + c) 9] ∧ u.mem = s.mem
        ∧ { u.cluster c with lay := (s.cluster c).lay, queues := (s.cluster c).queues } = s.cluster c
        ∧ ∀ d, d ≠ c → u.cluster d = s.cluster d

/-! ### Sequencers, queues and rings (10)

The core issues in the state `s` to which the hearth cycle that was open has come to its end. -/

/-- The register instructions: the result goes to RD, which keeps 0 when it is x0, and the core goes on. What the ALU
functions compute, a division by zero and the signed forms among them; a reserved function is no instruction. The core
issues one instruction at a time, so no DIVU or REMU overtakes another. -/
def Obligations.SequencerArithmetic : Prop :=
  (∀ p ∈ aluRows, ∀ (c w : Nat) (s0 : State), let s := s0.coreTurn c false
    Issues s c p.1 w → (s.cluster c).core.pc < 0xFFFC →
    Completes (p.2.1 c) s0 fun u => CoreResult s u c (iRd w) (p.2.2 (s.reg c (iRa w)) (s.reg c (iRb w)) w))
  ∧ (∀ a b : Word,
    aluOp 0 a b = a + b ∧ aluOp 1 a b = a - b ∧ aluOp 2 a b = a &&& b ∧ aluOp 3 a b = a ||| b ∧ aluOp 4 a b = a ^^^ b
      ∧ aluOp 5 a b = a <<< (b.toNat % 64) ∧ aluOp 6 a b = a >>> (b.toNat % 64)
      ∧ aluOp 7 a b = a.sshiftRight (b.toNat % 64)
      ∧ aluOp 8 a b = (if a.toInt < b.toInt then 1 else 0) ∧ aluOp 9 a b = (if a.toNat < b.toNat then 1 else 0)
      ∧ (aluOp 10 a b).toNat + 2 ^ 64 * (aluOp 11 a b).toNat = a.toNat * b.toNat
      ∧ (b ≠ 0 → (aluOp 12 a b).toNat * b.toNat + (aluOp 13 a b).toNat = a.toNat ∧ (aluOp 13 a b).toNat < b.toNat)
      ∧ (b = 0 → aluOp 12 a b = BitVec.allOnes 64 ∧ aluOp 13 a b = a)
      ∧ (aluOp 14 a b).toInt = min a.toInt b.toInt ∧ (aluOp 15 a b).toInt = max a.toInt b.toInt)
  ∧ ∀ w : Nat, iOp w = 0x01 → 16 ≤ iFn w → seqLegal w = false

/-- Loads of aligned addresses in the SRAMs read their bytes in little-endian order and zero-extend them; LWU also
reads a flag word. Stores of aligned addresses in the SRAMs write the low bytes of RS in little-endian order, and no
other byte; after a store to instruction SRAM fetch sees, byte by byte, what it saw before or the byte stored, which
the spec leaves open until an IFENCE. That fetch may see either byte is log entry 60. -/
def Obligations.SequencerLoadsAndStores : Prop :=
  (∀ p ∈ loadRows, ∀ (c w : Nat) (s0 : State), let s := s0.coreTurn c false
    Issues s c p.1 w → (s.cluster c).core.pc < 0xFFFC →
    let a := s.seqAddr c w
    let k := s.cluster c
    a % p.2.2 = 0 →
    (a < 0x10000 → Completes (p.2.1 c) s0 fun u =>
      CoreResult s u c (iRd w) (BitVec.ofNat 64 (ofLeBytes (sramGet k.dsram a p.2.2))))
    ∧ (0x10000 ≤ a → a < 0x20000 → Completes (p.2.1 c) s0 fun u =>
      CoreResult s u c (iRd w) (BitVec.ofNat 64 (ofLeBytes (sramGet k.isram (a - 0x10000) p.2.2))))
    ∧ (p.2.2 = 4 → 0x20000 ≤ a → a < 0x200C0 → Completes (p.2.1 c) s0 fun u =>
      CoreResult s u c (iRd w) (BitVec.ofNat 64 (s.flag c ((a - 0x20000) / 4)).toNat))
    ∧ (0x800000 ≤ a → a < 0x1000000 → Completes (p.2.1 c) s0 fun u =>
      CoreResult s u c (iRd w) (BitVec.ofNat 64 (ofLeBytes (sramGet k.csram (a - 0x800000) p.2.2)))))
  ∧ (∀ p ∈ storeRows, ∀ (c w : Nat) (s0 : State), let s := s0.coreTurn c false
    Issues s c p.1 w → (s.cluster c).core.pc < 0xFFFC →
    let a := s.seqAddr c w
    let v := (s.reg c (iRd w)).toNat % 2 ^ (8 * p.2.2)
    let k := s.cluster c
    let stored (lo x : Nat) (old : Byte) : Byte := if lo ≤ x ∧ x < lo + p.2.2 then BitVec.ofNat 8 (v / 256 ^ (x - lo)) else old
    a % p.2.2 = 0 →
    (a < 0x10000 → Completes (p.2.1 c) s0 fun u =>
      (∀ x, Tab.get 0 (u.cluster c).dsram x = stored a x (Tab.get 0 k.dsram x))
        ∧ { u.cluster c with dsram := k.dsram } = { k with core := k.core.next } ∧ OnlyCluster s u c)
    ∧ (0x10000 ≤ a → a < 0x20000 → Completes (p.2.1 c) s0 fun u =>
      (∀ x, Tab.get 0 (u.cluster c).isram x = stored (a - 0x10000) x (Tab.get 0 k.isram x))
        ∧ (∀ n x, (u.cluster c).fetchByte n x = k.fetchByte n x
          ∨ (u.cluster c).fetchByte n x = Tab.get 0 (u.cluster c).isram x)
        ∧ { (u.cluster c).core with unfenced := k.core.unfenced } = k.core.next
        ∧ { u.cluster c with isram := k.isram, core := k.core } = k ∧ OnlyCluster s u c)
    ∧ (0x800000 ≤ a → a < 0x1000000 → Completes (p.2.1 c) s0 fun u =>
      (∀ x, Tab.get 0 (u.cluster c).csram x = stored (a - 0x800000) x (Tab.get 0 k.csram x))
        ∧ { u.cluster c with csram := k.csram } = { k with core := k.core.next } ∧ OnlyCluster s u c))

/-- Branches and jumps: the target counts in words from the branch itself; CALL and JR keep the address after them,
and JR reads its target before it writes RD. -/
def Obligations.BranchesAndJumps : Prop :=
  (∀ p ∈ branchRows, ∀ (c w : Nat) (s0 : State), let s := s0.coreTurn c false
    Issues s c p.1 w →
    let k := (s.cluster c).core
    (p.2.2 (k.reg (bRa w)) (k.reg (bRb w)) = true → 0 ≤ (k.pc : Int) + 4 * iSimm w → (k.pc : Int) + 4 * iSimm w ≤ 0xFFFC →
      Completes (p.2.1 c) s0 fun u =>
        (u.cluster c).core = { k with pc := ((k.pc : Int) + 4 * iSimm w).toNat } ∧ OnlyCore s u c)
    ∧ (p.2.2 (k.reg (bRa w)) (k.reg (bRb w)) = false → k.pc < 0xFFFC →
      Completes (p.2.1 c) s0 fun u => (u.cluster c).core = k.next ∧ OnlyCore s u c))
  ∧ (∀ (c w : Nat) (s0 : State), let s := s0.coreTurn c false
    let k := (s.cluster c).core
    let t := (k.pc : Int) + 4 * iOff26 w
    0 ≤ t → t ≤ 0xFFFC →
    (Issues s c 0x26 w → Completes (.jmp c) s0 fun u => (u.cluster c).core = { k with pc := t.toNat } ∧ OnlyCore s u c)
    ∧ (Issues s c 0x27 w → Completes (.call c) s0 fun u =>
      CoreGoes k (u.cluster c).core t.toNat 31 (BitVec.ofNat 64 (k.pc + 4)) ∧ OnlyCore s u c))
  ∧ ∀ (c w : Nat) (s0 : State), let s := s0.coreTurn c false
    Issues s c 0x28 w →
    let k := (s.cluster c).core
    let t := (k.reg (iRa w) + immS w).toNat
    t % 4 = 0 → t ≤ 0xFFFC →
    Completes (.jr c) s0 fun u =>
      CoreGoes k (u.cluster c).core t (iRd w) (BitVec.ofNat 64 (k.pc + 4)) ∧ OnlyCore s u c

/-- HALT stops the core on itself; CYC, ODRD, IFENCE and WHOAMI give the clock count, a feature entry, what the stores
left for fetch, and the cluster and its partition; WFE takes the pending events of its mask or waits. -/
def Obligations.SystemInstructions : Prop :=
  (∀ (c w : Nat) (s0 : State), let s := s0.coreTurn c false
    Issues s c 0x00 w →
    Completes (.halt c) s0 fun u => (u.cluster c).core = { (s.cluster c).core with st := .halted } ∧ OnlyCore s u c)
  ∧ ∀ (c w : Nat) (s0 : State), let s := s0.coreTurn c false
    Issues s c 0x3C w → (s.cluster c).core.pc < 0xFFFC →
    let k := (s.cluster c).core
    (∀ p ∈ sysRows, iFn w = p.1 → Completes (p.2.1 c) s0 fun u => CoreResult s u c (iRd w) (p.2.2 s c))
    ∧ (iFn w = 1 → s.odrdOk (Word.bits (k.reg (iRa w)) 23 8) (Word.bits (k.reg (iRa w)) 7 0) = true →
      Completes (.odrd c) s0 fun u => CoreResult s u c (iRd w)
        (s.odSlot (Word.bits (k.reg (iRa w)) 23 8) (Word.bits (k.reg (iRa w)) 7 0)))
    ∧ (iFn w = 2 →
      let mask := (k.reg (iRa w)).toNat % 512
      let e := k.events.toNat &&& mask
      (e ≠ 0 → Completes (.wfe c) s0 fun u =>
        CoreGoes k { (u.cluster c).core with events := k.events } (k.pc + 4) (iRd w) (BitVec.ofNat 64 e)
          ∧ (u.cluster c).core.events.toNat = k.events.toNat - e ∧ OnlyCore s u c)
      ∧ (e = 0 → Completes (.wfe c) s0 fun u =>
        (u.cluster c).core = k.waiting s (.wfe (iRd w) mask) ∧ OnlyCore s u c))
    ∧ (iFn w = 3 → Completes (.ifence c) s0 fun u =>
      (∀ n x, (u.cluster c).fetchByte n x = Tab.get 0 (s.cluster c).isram x)
        ∧ (u.cluster c).core = { k.next with unfenced := [] } ∧ OnlyCore s u c)

/-- A word that is no instruction, a misaligned or unmapped access, a target or a next instruction outside instruction
SRAM, and a read of an entry that ODRD may not read fault: the core stays on the instruction, which has no effect.
Which of several faults an instruction has is the model's reading (log entry 59). -/
def Obligations.SequencerFaults : Prop :=
  (∀ (c : Nat) (s0 : State), let s := s0.coreTurn c false
    c < 48 → s.seqOn c = true →
    let w := (s.cluster c).fetch s.free (s.cluster c).core.pc
    seqLegal w = false → Completes (.illegalInstruction c) s0 fun u => CoreFaults s u c 1 w)
  ∧ (∀ p ∈ loadRows ++ storeRows, ∀ (c w : Nat) (s0 : State), let s := s0.coreTurn c false
    Issues s c p.1 w →
    let a := s.seqAddr c w
    (a % p.2.2 ≠ 0 → Completes (p.2.1 c) s0 fun u => CoreFaults s u c 2 w)
    ∧ (a % p.2.2 = 0 → ((0x200C0 ≤ a ∧ a < 0x800000) ∨ 0x1000000 ≤ a
        ∨ (0x20000 ≤ a ∧ a < 0x200C0 ∧ (p.2.2 ≠ 4 ∨ p.1 = 0x16))) →
      Completes (p.2.1 c) s0 fun u => CoreFaults s u c 3 w)
    ∧ (a % p.2.2 = 0 → (a < 0x20000 ∨ (0x800000 ≤ a ∧ a < 0x1000000) ∨ (p.1 = 0x12 ∧ 0x20000 ≤ a ∧ a < 0x200C0)) →
      0xFFFC ≤ (s.cluster c).core.pc → Completes (p.2.1 c) s0 fun u => CoreFaults s u c 4 w))
  ∧ (∀ p ∈ onwardRows, ∀ (c w : Nat) (s0 : State), let s := s0.coreTurn c false
    Issues s c p.1 w → (∀ n, p.2.1 = some n → iFn w = n) → 0xFFFC ≤ (s.cluster c).core.pc →
    Completes (p.2.2 c) s0 fun u => CoreFaults s u c 4 w)
  ∧ (∀ (c w : Nat) (more : Bool) (s0 : State), let s := s0.coreTurn c true
    0xFFFC ≤ (s.cluster c).core.pc →
    (Issues s c 0x39 w → Completes (.fwr c more) s0 fun u => CoreFaults s u c 4 w)
    ∧ (Issues s c 0x3A w → Completes (.fadd c more) s0 fun u => CoreFaults s u c 4 w))
  ∧ (∀ p ∈ branchRows, ∀ (c w : Nat) (s0 : State), let s := s0.coreTurn c false
    Issues s c p.1 w →
    let k := (s.cluster c).core
    (if p.2.2 (k.reg (bRa w)) (k.reg (bRb w)) then (k.pc : Int) + 4 * iSimm w < 0 ∨ 0xFFFC < (k.pc : Int) + 4 * iSimm w
      else 0xFFFC ≤ k.pc) →
    Completes (p.2.1 c) s0 fun u => CoreFaults s u c 4 w)
  ∧ (∀ (c w : Nat) (s0 : State), let s := s0.coreTurn c false
    let t := ((s.cluster c).core.pc : Int) + 4 * iOff26 w
    t < 0 ∨ 0xFFFC < t →
    (Issues s c 0x26 w → Completes (.jmp c) s0 fun u => CoreFaults s u c 4 w)
    ∧ (Issues s c 0x27 w → Completes (.call c) s0 fun u => CoreFaults s u c 4 w))
  ∧ (∀ (c w : Nat) (s0 : State), let s := s0.coreTurn c false
    Issues s c 0x28 w →
    let t := (s.reg c (iRa w) + immS w).toNat
    (t % 4 ≠ 0 → Completes (.jr c) s0 fun u => CoreFaults s u c 2 w)
    ∧ (t % 4 = 0 → 0xFFFC < t → Completes (.jr c) s0 fun u => CoreFaults s u c 4 w))
  ∧ (∀ (c w : Nat) (s0 : State), let s := s0.coreTurn c false
    Issues s c 0x3C w → iFn w = 1 →
    let ok := s.odrdOk (Word.bits (s.reg c (iRa w)) 23 8) (Word.bits (s.reg c (iRa w)) 7 0)
    (ok = false → Completes (.odrd c) s0 fun u => CoreFaults s u c 5 w)
    ∧ (ok = true → 0xFFFC ≤ (s.cluster c).core.pc → Completes (.odrd c) s0 fun u => CoreFaults s u c 4 w))
  ∧ ∀ (c w : Nat) (s0 : State), let s := s0.coreTurn c false
    Issues s c 0x30 w →
    let a := (s.reg c (qRa w)).toNat
    (a % 64 ≠ 0 → Completes (.qpush c) s0 fun u => CoreFaults s u c 2 w)
    ∧ (a % 64 = 0 → 0x10000 ≤ a → Completes (.qpush c) s0 fun u => CoreFaults s u c 3 w)
    ∧ (a % 64 = 0 → a < 0x10000 → 0xFFFC ≤ (s.cluster c).core.pc →
      Completes (.qpush c) s0 fun u => CoreFaults s u c 4 w)

/-- QPUSH places the descriptor at an aligned address of data SRAM as the newest entry of its queue, with E0 and E1 of
two registers, and returns its ticket; on a full queue it waits. QINFO returns the next ticket and the free entries.
QABORT of an entry that waits completes it ABORTED and returns TAKEN; of one that has completed, or was delivered, it
returns TOO_LATE; of a ticket that was never given, NOT_FOUND; of an FQ operation under way it stops its further
requests. QABORT of a whole queue whose entries wait completes them all and returns how many. -/
def Obligations.QueueInstructions : Prop :=
  (∀ (c w : Nat) (s0 : State), let s := s0.coreTurn c false
    (s.cluster c).core.pc < 0xFFFC →
    let k := (s.cluster c).core
    let q := (s.cluster c).queue (qQ w)
    (Issues s c 0x30 w → (k.reg (qRa w)).toNat % 64 = 0 → (k.reg (qRa w)).toNat < 0x10000 →
      (q.entries.length < 64 → Completes (.qpush c) s0 fun u =>
        OnlyQueue s { u.modCore c (fun _ => k) with mgmt := s.mgmt } c (qQ w) {
            next := (q.next + 1) % 2 ^ 32
            entries := q.entries ++ [{
              ticket := q.next, desc := s.descAt c (k.reg (qRa w)).toNat, e0 := k.reg (qRb w), e1 := k.reg (qRc w) }] }
          ∧ CoreGoes k { (u.cluster c).core with pushed := none } (k.pc + 4) (qRd w) (BitVec.ofNat 64 q.next)
          ∧ u.ctr (0x5400 + c) 4 = (s.ctr (0x5400 + c) 4 + 1) % 2 ^ 64 ∧ OdKept s u [odKey (0x5400 + c) 4]
          ∧ { u with clusters := s.clusters, mgmt := s.mgmt } = s)
      ∧ (64 ≤ q.entries.length → Completes (.qpush c) s0 fun u =>
        (u.cluster c).core = k.waiting s (.fullQueue (qQ w)) ∧ OnlyCore s u c))
    ∧ (Issues s c 0x32 w → Completes (.qinfo c) s0 fun u =>
      CoreResult s u c (qRd w) (pack [(32, q.next), (0, 64 - q.entries.length)])))
  ∧ ∀ (c w : Nat) (s0 : State), let s := s0.coreTurn c false
    Issues s c 0x31 w → (s.cluster c).core.pc < 0xFFFC → (qQ w < 4 → TileFree s c (qQ w)) →
    let k := (s.cluster c).core
    let q := (s.cluster c).queue (qQ w)
    let t := (k.reg (qRa w)).toNat % 2 ^ 32
    let st (x : QEntry) : Nat := if e0Ok x.e0 && e1Ok x.e1 then 8 else 3
    (qRb w = 0 →
      (∀ x, s.entry c (qQ w) t = some x → (qQ w = 6 → Tab.find s.mem.jobs (jobNo c t) = none) →
        x.disp = false → x.compl = none →
        Completes (.qabort c) s0 fun u => (u.entry c (qQ w) t).bind QEntry.compl = some (st x, 0)
          ∧ (u.entry c (qQ w) t).map QEntry.abortReq = some true
          ∧ CoreGoes k (u.cluster c).core (k.pc + 4) (qRd w) 0
          ∧ u.ctr (0x5400 + c) 6 = (s.ctr (0x5400 + c) 6 + 1) % 2 ^ 32 ∧ OdKept s u [odKey (0x5400 + c) 6]
          ∧ (∀ j, j ≠ qQ w → ((u.cluster c).queue j).untimed = ((s.cluster c).queue j).untimed ∧ u.tile c j = s.tile c j)
          ∧ { u.cluster c with
              core := k, queues := (s.cluster c).queues
              tiles := if qQ w < 4 then (s.cluster c).tiles else (u.cluster c).tiles } = s.cluster c
          ∧ (∀ d, d ≠ c → u.cluster d = s.cluster d) ∧ { u with clusters := s.clusters, mgmt := s.mgmt } = s)
      ∧ (∀ x, s.entry c (qQ w) t = some x → x.compl ≠ none → Completes (.qabort c) s0 fun u =>
        OnlyQueue s (u.modCore c fun _ => k) c (qQ w) (q.modEntry t fun e => { e with abortReq := true })
          ∧ CoreGoes k (u.cluster c).core (k.pc + 4) (qRd w) 1 ∧ { u with clusters := s.clusters } = s)
      ∧ (∀ x, qQ w = 7 → s.entry c 7 t = some x → x.disp = true → x.compl = none → x.aborting = none →
        s.fqOf c t ≠ none → Completes (.qabort c) s0 fun u =>
          (u.entry c 7 t).bind QEntry.aborting = some 8 ∧ (u.fqOf c t).map FqOp.todo = some []
            ∧ (u.fqOf c t).map FqOp.out = (s.fqOf c t).map FqOp.out
            ∧ CoreGoes k (u.cluster c).core (k.pc + 4) (qRd w) 0)
      ∧ (s.entry c (qQ w) t = none → Completes (.qabort c) s0 fun u =>
        CoreResult s u c (qRd w) (if (t + 2 ^ 32 - q.next) % 2 ^ 32 < 2 ^ 31 then 2 else 1)))
    ∧ (qRb w = 1 → (q.entries.map QEntry.ticket).Nodup →
      (∀ x ∈ q.entries, x.disp = false ∧ x.compl = none ∧ (qQ w = 6 → Tab.find s.mem.jobs (jobNo c x.ticket) = none)) →
      Completes (.qabort c) s0 fun u =>
        ((u.cluster c).queue (qQ w)).entries.map (fun e => (e.ticket, e.compl))
            = q.entries.map (fun e => (e.ticket, some (st e, 0)))
          ∧ CoreGoes k (u.cluster c).core (k.pc + 4) (qRd w) (BitVec.ofNat 64 q.entries.length))

/-- SPUSH appends an entry to a stream with room, whose engine is idle, and waits on a full one; an absent tile takes
the entry and discards it. SINFO returns the free entries; SFLUSH empties the stream, the part of an entry already
consumed included, and what stopped commands had still to discard. FRD reads a flag word, FWR sets it, FADD adds to it
and returns the old value, each within a hearth cycle (log entry 123): one more such command of the cycle may follow,
and else the cycle ends with the instruction, the waits being evaluated then. FWAIT goes on when its condition holds,
and takes its value off with WAIT_DEC; otherwise the core waits on it. -/
def Obligations.StreamAndFlagInstructions : Prop :=
  (∀ (c w : Nat) (s0 : State), let s := s0.coreTurn c false
    (s.cluster c).core.pc < 0xFFFC →
    let k := (s.cluster c).core
    let ti := s.tile c (tTile w)
    let q := ti.str (tStr w)
    (Issues s c 0x34 w → s.tilePresent (tileNo c (tTile w)) = true →
      (q.ents.length < 32 → q.drops = [] → ti.eng (streamEngine (tStr w)) = none → TileFree s c (tTile w) →
        Completes (.spush c) s0 fun u =>
          u.tile c (tTile w) = ti.setStr (tStr w) { q with ents := q.ents ++ [k.reg (tRa w)] }
            ∧ (∀ j, j ≠ tTile w → u.tile c j = s.tile c j)
            ∧ { u.cluster c with tiles := (s.cluster c).tiles } = { s.cluster c with core := k.next } ∧ OnlyCluster s u c)
      ∧ (32 ≤ q.ents.length → Completes (.spush c) s0 fun u =>
        (u.cluster c).core = k.waiting s (.fullStream (tTile w) (tStr w)) ∧ OnlyCore s u c))
    ∧ (Issues s c 0x34 w → s.tilePresent (tileNo c (tTile w)) = false → Completes (.spush c) s0 fun u =>
      (u.cluster c).core = k.next ∧ OnlyCore s u c)
    ∧ (Issues s c 0x36 w → Completes (.sinfo c) s0 fun u =>
      CoreResult s u c (tRd w) (BitVec.ofNat 64 (32 - q.ents.length)))
    ∧ (Issues s c 0x35 w → (∀ n, k.wait ≠ some (.fullStream (tTile w) n)) → Completes (.sflush c) s0 fun u =>
      u.tile c (tTile w) = ti.setStr (tStr w) {} ∧ (∀ j, j ≠ tTile w → u.tile c j = s.tile c j)
        ∧ (u.cluster c).queue (tTile w) = { (s.cluster c).queue (tTile w) with
            entries := ((s.cluster c).queue (tTile w)).entries.map fun x =>
              if streamOf (engineOf (mqCmd x.desc)) == tStr w && !x.started && x.compl.isSome then { x with dropped := true }
              else x }
        ∧ (∀ j, j ≠ tTile w → (u.cluster c).queue j = (s.cluster c).queue j)
        ∧ { u.cluster c with tiles := (s.cluster c).tiles, queues := (s.cluster c).queues }
          = { s.cluster c with core := k.next } ∧ OnlyCluster s u c))
  ∧ (∀ (c w : Nat) (s0 : State), let s := s0.coreTurn c true
    (s.cluster c).core.pc < 0xFFFC → (s.cluster c).part.isSome = true →
    let k := (s.cluster c).core
    let n := fFlag w
    let v : W32 := (k.reg (iRa w)).setWidth 32
    (Issues s c 0x39 w →
      let fc := s.cycleWith c 0 n true v
      ((s.cluster c).cycle = none → fc.value n = v)
      ∧ (∀ more, (more = true ∨ ∀ x ∈ fc.writes, NoWaiter s c x.flg) → Completes (.fwr c more) s0 fun u =>
        u.flag c n = fc.value n ∧ (u.cluster c).core = k.next ∧ (u.cluster c).cycle = (if more then some fc else none)
          ∧ FlagFrame s u c [n])
      ∧ Completes (.fwr c true) s0 fun u => Completes (.fwr c false) s0 fun v => v = u.closeCycle c)
    ∧ (Issues s c 0x3A w →
      let fc := s.cycleWith c 0 n false v
      ((s.cluster c).cycle = none → fc.value n = s.flag c n + v)
      ∧ (∀ more, (more = true ∨ ∀ x ∈ fc.writes, NoWaiter s c x.flg) → Completes (.fadd c more) s0 fun u =>
        u.flag c n = fc.value n ∧ CoreGoes k (u.cluster c).core (k.pc + 4) (iRd w) (BitVec.ofNat 64 (s.flagStart c n).toNat)
          ∧ (u.cluster c).cycle = (if more then some fc else none) ∧ FlagFrame s u c [n])
      ∧ Completes (.fadd c true) s0 fun u => Completes (.fadd c false) s0 fun v => v = u.closeCycle c))
  ∧ ∀ (c w : Nat) (s0 : State), let s := s0.coreTurn c false
    (s.cluster c).core.pc < 0xFFFC →
    let k := (s.cluster c).core
    let n := fFlag w
    let v : W32 := (k.reg (iRa w)).setWidth 32
    (Issues s c 0x38 w → Completes (.frd c) s0 fun u => CoreResult s u c (iRd w) (BitVec.ofNat 64 (s.flag c n).toNat))
    ∧ (Issues s c 0x3B w →
      (waitHolds (fForm w) (s.flag c n) v = true → Completes (.fwait c) s0 fun u =>
        u.flag c n = (if fForm w = 3 then s.flag c n - v else s.flag c n) ∧ (u.cluster c).core = k.next
          ∧ (u.cluster c).cycle = (s.cluster c).cycle ∧ FlagFrame s u c [n])
      ∧ (waitHolds (fForm w) (s.flag c n) v = false → Completes (.fwait c) s0 fun u =>
        (u.cluster c).core = k.waiting s (.flag (fForm w) n v) ∧ OnlyCore s u c))

/-- QUEUE_DISPATCH acts on the head of a queue once the hearth cycle that was open has ended (state `s`): it
dispatches the head when the wait holds and the queue's rule lets it go, and a consuming wait takes its value off (the
core's own wait on that flag being one that does not hold then, since it would take its value too); a head whose tile
is absent completes ABSENT, one with a bad E1 or an invalid tile descriptor BAD_DESC; one with a bad E0 BAD_DESC at
once, and the head of a closed queue DISCARDED, or the status that comes before it. ENTRY_DELIVERY of a completed
oldest entry, within a hearth cycle, writes its record, signals its flag word, frees its slot and raises its event;
for an entry of a ring it also writes the ring's record. Which status an entry with two faults has is the model's
reading (log entry 98). -/
def Obligations.QueuesDispatchAndDeliver : Prop :=
  (∀ (c q : Nat) (s0 : State) (e : QEntry), let s := s0.closeCycle c
    c < 48 → q < 8 → s0.clusterOn c = true → ((s.cluster c).queue q).head = some e → (s.cluster c).part.isSome = true →
    (q < 4 → TileFree s c q) →
    let k := (s.cluster c).queue q
    let fl := e0Flag e.e0
    let dec (m : Nat) : W32 := if e0Form e.e0 = 3 ∧ m = fl then s.flag c m - e0Value e.e0 else s.flag c m
    let undec (u : State) : State := u.modCluster c fun x => { x with flags := (s.cluster c).flags }
    let gone := q < 4 ∧ s.tilePresent (tileNo c q) = false
    let bad := e1Ok e.e1 = false ∨ (q < 4 ∧ mqValid e.desc = false)
    (e0Ok e.e0 = true → (s.cluster c).closed = false → s.headHolds c e = true → s.mayDispatch c q e = true →
      (∀ form v, (s.cluster c).core.wait = some (.flag form fl v) → e0Form e.e0 = 3 →
        waitHolds form (s.flag c fl - e0Value e.e0) v = false) →
      (¬ gone → ¬ bad → Completes (.queueDispatch c q) s0 fun u => (∀ m, u.flag c m = dec m)
        ∧ OnlyQueue s (undec u) c q (k.modEntry e.ticket fun x => { x with disp := true })
        ∧ { u with clusters := s.clusters } = s)
      ∧ (¬ gone → bad → Completes (.queueDispatch c q) s0 fun u => (∀ m, u.flag c m = dec m)
        ∧ OnlyQueue s (undec u) c q (k.completing e.ticket (3, 0)) ∧ { u with clusters := s.clusters } = s)
      ∧ (gone → Completes (.queueDispatch c q) s0 fun u => (∀ m, u.flag c m = dec m)
        ∧ OnlyQueue s (undec u) c q (k.completing e.ticket (2, 0))
        ∧ u.ctr (0x5100 + tileNo c q) 6 = (s.ctr (0x5100 + tileNo c q) 6 + 1) % 2 ^ 32
        ∧ OdKept s u [odKey (0x5100 + tileNo c q) 6]
        ∧ { u with clusters := s.clusters, mgmt := s.mgmt, crust := s.crust } = s))
    ∧ (e0Ok e.e0 = true → (s.cluster c).closed = false → (s.headHolds c e = false ∨ s.mayDispatch c q e = false) →
      Completes (.queueDispatch c q) s0 fun u => OnlyQueue s u c q k ∧ { u with clusters := s.clusters } = s)
    ∧ (e0Ok e.e0 = false → Completes (.queueDispatch c q) s0 fun u =>
        OnlyQueue s u c q (k.completing e.ticket (3, 0)) ∧ { u with clusters := s.clusters } = s)
    ∧ (e0Ok e.e0 = true → (s.cluster c).closed = true → Completes (.queueDispatch c q) s0 fun u =>
        ((u.cluster c).queue q).undropped = (k.completing e.ticket (s.closedStatus c q e, 0)).undropped
        ∧ (u.cluster c).flags = (s.cluster c).flags ∧ (∀ d, d ≠ c → u.cluster d = s.cluster d)
        ∧ (s.closedStatus c q e ≠ 2 → { u with clusters := s.clusters } = s)))
  ∧ ∀ (c q st d : Nat) (s : State) (e : QEntry) (rest : List QEntry), c < 48 → q < 8 → s.clusterOn c = true →
    s.quiet → ((s.cluster c).queue q).entries = e :: rest → (∀ x ∈ rest, x.ticket ≠ e.ticket) →
    e.compl = some (st, d) → (q < 4 → TileFree s c q) →
    let op := Word.bits e.e1 63 62
    let n := Word.bits e.e1 53 48
    let signals := e1Ok e.e1 = true ∧ op ≠ 0
    let fc0 := (s.cluster c).cycle.getD { start := (s.cluster c).flags }
    let fc := s.cycleWith c (1 + q) n (op == 2) (BitVec.ofNat 32 (Word.bits e.e1 31 0))
    let k := (s.cluster c).core
    let k1 := if k.wait = some (.fullQueue q) then { k with st := .running, wait := none, stalled := false } else k
    let rec_ := leBytes 8 (recordOf st d e.abortReq e.ticket).toNat
    let at_ := 0xF000 + 512 * q + 8 * (e.ticket % 64)
    ((∀ x, e.ring = some x → x.cpl = 0) → Completes (.entryDelivery c q true) s fun u =>
      (∀ x, Tab.get 0 (u.cluster c).dsram x
          = if at_ ≤ x ∧ x < at_ + 8 then rec_.getD (x - at_) 0 else Tab.get 0 (s.cluster c).dsram x)
        ∧ ((u.cluster c).queue q).untimed = Queue.untimed { (s.cluster c).queue q with entries := rest }
        ∧ (signals → u.flag c n = fc.value n ∧ (u.cluster c).cycle = some fc)
        ∧ (¬ signals → u.flag c n = s.flag c n ∧ (u.cluster c).cycle = some fc0)
        ∧ (u.cluster c).core = { k1 with
            events := k.events ||| BitVec.ofNat 9 (2 ^ q) ||| (if e1Ok e.e1 && op != 0 then BitVec.ofNat 9 256 else 0) }
        ∧ OdKept s u [odKey (0x5400 + c) 7]
        ∧ u.ctr (0x5400 + c) 7 = (if st = 9 then (s.ctr (0x5400 + c) 7 + 1) % 2 ^ 32 else s.ctr (0x5400 + c) 7)
        ∧ (∀ m, m ≠ n → u.flag c m = s.flag c m)
        ∧ (∀ j, j ≠ q → ((u.cluster c).queue j).untimed = ((s.cluster c).queue j).untimed)
        ∧ { u.cluster c with
            dsram := (s.cluster c).dsram, queues := (s.cluster c).queues, flags := (s.cluster c).flags
            cycle := (s.cluster c).cycle, core := k } = s.cluster c
        ∧ (∀ j, j ≠ c → u.cluster j = s.cluster j) ∧ { u with clusters := s.clusters, mgmt := s.mgmt } = s)
    ∧ ((∀ x, e.ring = some x → x.cpl = 0) → Completes (.entryDelivery c q true) s fun u =>
        Completes (.entryDelivery c q false) s fun v => v = u.closeCycle c)
    ∧ ∀ (x : RingSrc) (g : State), e.ring = some x → x.cpl ≠ 0 →
      let s1 := s.openCycle c
      RecordGoes ((if q < 4 then (s1.dropEntry c q e).freeStreams c q else s1).deliver c q e st d) g x.p x.r x.cpl
        (recordOf st d e.abortReq x.seq) →
      Completes (.entryDelivery c q true) s fun u => RecordDone g u x.p x.r


/-- A ring takes its entries in order; `f` is the state in which the entry has been read. PUSH places a descriptor
into its queue, or waits for a free slot; in the hearth cycle of the core's QPUSH to that queue it takes the lower
ticket. START starts an idle core at its PC with x1 set; LOAD places lines into an idle core's SRAM; ABORT completes a
waiting entry ABORTED; NOP only takes its place. START and LOAD leave a core that is not idle alone. An entry that
asks for a record has it written. -/
def Obligations.RingEntriesAreTaken : Prop :=
  ∀ (p r : Nat) (s f : State) (ws : List Word),
    let c := f.ringCluster (ringKey p r)
    let q := reQueue ws
    let new (n : Nat) : QEntry := {
      ticket := n, desc := ws.drop 8, e0 := reW ws 2, e1 := reW ws 3
      ring := some { p := p, r := r, seq := reSeq ws, cpl := reCpl ws } }
    (RingTakes s f p r 0 ws → Completes (.ringNop p r) s fun u => Taken f u p r ws 0 0)
    ∧ (RingTakes s f p r 1 ws →
      let k := (f.cluster c).queue q
      let counted (u : State) : Prop := u.ctr (0x5400 + c) 4 = (f.ctr (0x5400 + c) 4 + 1) % 2 ^ 64
        ∧ OdKept f u [odKey (0x5400 + c) 4]
      (∀ same, same = false ∨ f.pushedLast c q = false →
        (k.entries.length < 64 → Completes (.ringPush p r same) s fun u => RingMoved f u p r ∧ counted u
          ∧ OnlyQueue f u c q { next := (k.next + 1) % 2 ^ 32, entries := k.entries ++ [new k.next] }
          ∧ { u with rings := f.rings, clusters := f.clusters, mgmt := f.mgmt } = keep s f)
        ∧ (64 ≤ k.entries.length → Completes (.ringPush p r same) s fun u => u = keep s f))
      ∧ ∀ (rd : Nat) (old : Word) (es : List QEntry) (e : QEntry), (f.cluster c).core.pushed = some (q, rd, old) →
        k.entries = es ++ [e] → e.ring = none → e.disp = false → e.compl = none → es.length < 64 →
        let t := (e.ticket + 1) % 2 ^ 32
        let core := (f.cluster c).core
        (es.length < 63 → Completes (.ringPush p r true) s fun u => RingMoved f u p r ∧ counted u
          ∧ ((u.cluster c).queue q).untimed
            = Queue.untimed { next := (t + 1) % 2 ^ 32, entries := es ++ [new e.ticket, { e with ticket := t }] }
          ∧ CoreGoes core { (u.cluster c).core with pushed := core.pushed } core.pc rd (BitVec.ofNat 64 t))
        ∧ (es.length = 63 → Completes (.ringPush p r true) s fun u => RingMoved f u p r
          ∧ ((u.cluster c).queue q).untimed = Queue.untimed { next := t, entries := es ++ [new e.ticket] }
          ∧ (u.cluster c).core.wait = some (.fullQueue q) ∧ (u.cluster c).core.st = .waiting
          ∧ (u.cluster c).core.pc = core.pc - 4
          ∧ ∀ n, (u.cluster c).core.reg n = if n = rd ∧ n ≠ 0 then old else core.reg n))
    ∧ (RingTakes s f p r 2 ws →
      ((f.cluster c).core.idle = true → Completes (.ringStart p r) s fun u =>
        Taken (f.modCore c fun k => { k.setReg 1 (reW ws 5) with st := .running, pc := Word.bits (reW ws 4) 15 0, wait := none })
          u p r ws 0 0)
      ∧ ((f.cluster c).core.idle = false → Completes (.ringStart p r) s fun u => Taken f u p r ws 4 0))
    ∧ (RingTakes s f p r 3 ws →
      ((f.cluster c).core.idle = true → ∀ (g : State) (rs : List (Nat × Line)), g.quiet →
        f.fetchLines (f.ringWho p r)
          ((upTo (reLines ws)).map fun i => ⟨1, Word.bits (reW ws 4) 55 0 + 64 * i⟩) = (g, some rs) →
        Completes (.ringLoad p r) s fun u => ∃ h : State,
          let b := rs.flatMap fun x => bytesOfLine (if x.1 = 0 then x.2 else 0)
          let put (t : Tab Byte) (x : Nat) : Byte :=
            if reOffset ws ≤ x ∧ x < reOffset ws + b.length then b.getD (x - reOffset ws) 0 else Tab.get 0 t x
          let k := g.cluster c
          (∀ x, Tab.get 0 (h.cluster c).dsram x = if Word.bit (reW ws 5) 63 then put k.dsram x else Tab.get 0 k.dsram x)
            ∧ (∀ x, Tab.get 0 (h.cluster c).isram x = if Word.bit (reW ws 5) 63 then Tab.get 0 k.isram x else put k.isram x)
            ∧ (∀ n x, (h.cluster c).fetchByte n x = if Word.bit (reW ws 5) 63 then k.fetchByte n x
                else if reOffset ws ≤ x ∧ x < reOffset ws + b.length then Tab.get 0 (h.cluster c).isram x
                else k.fetchByte n x)
            ∧ { h.cluster c with dsram := k.dsram, isram := k.isram, core := k.core } = k
            ∧ { (h.cluster c).core with unfenced := k.core.unfenced } = k.core ∧ OnlyCluster g h c
            ∧ Taken h u p r ws (if rs.any fun x => x.1 != 0 then 1 else 0) 0)
      ∧ ((f.cluster c).core.idle = false → Completes (.ringLoad p r) s fun u => Taken f u p r ws 4 0))
    ∧ (RingTakes s f p r 4 ws →
      let seq := Word.bits (reW ws 4) 31 0
      (f.findPush c p r seq = none → Completes (.ringAbort p r) s fun u => Taken f u p r ws 0
        (if (seq + 2 ^ 32 - (f.ring (ringKey p r)).head) % 2 ^ 32 < 2 ^ 31 then 2 else 1))
      ∧ (∀ q t x, f.findPush c p r seq = some (q, t) → f.entry c q t = some x → x.disp = false → x.compl = none →
        (q = 6 → Tab.find f.mem.jobs (jobNo c t) = none) →
        Completes (.ringAbort p r) s fun u => ∃ h : State,
          (h.entry c q t).bind QEntry.compl = some (if e0Ok x.e0 && e1Ok x.e1 then 8 else 3, 0)
          ∧ h.ctr (0x5400 + c) 6 = (f.ctr (0x5400 + c) 6 + 1) % 2 ^ 32 ∧ OdKept f h [odKey (0x5400 + c) 6]
          ∧ { h with clusters := f.clusters, mgmt := f.mgmt } = f ∧ (∀ d, d ≠ c → h.cluster d = f.cluster d)
          ∧ Taken h u p r ws 0 0)
      ∧ ∀ q t x, f.findPush c p r seq = some (q, t) → f.entry c q t = some x → x.compl ≠ none →
        Completes (.ringAbort p r) s fun u =>
          Taken (f.modEntry c q t fun e => { e with abortReq := true }) u p r ws 0 1)

/-- A doorbell in a page that its port serves moves the ring's tail when the value lies between the tail and the
ring's size past the head; another value is logged as RING_OVERRUN and changes nothing, and a doorbell to a ring that
is disabled or STOPPED, or of a partition that is not in use, changes nothing. RING_RESTART of a stopped ring makes it
run again with nothing in it. -/
def Obligations.DoorbellsAndRestarts : Prop :=
  (∀ (port p r size : Nat) (v : BitVec 64) (s : State), s.cxlFitted port = true → s.cxlUp port = true →
    size = 4 ∨ size = 8 → p < 16 → r < 16 → s.portServes port p = true → s.ringOn (ringKey p r) = true →
    (s.ring (ringKey p r)).stopped = false → (s.part p).st ≠ 0 →
    let g := s.ring (ringKey p r)
    let d := (v.toNat % 2 ^ 32 + 2 ^ 32 - g.head) % 2 ^ 32
    (d ≤ s.ringSize (ringKey p r) → (g.tail + 2 ^ 32 - g.head) % 2 ^ 32 ≤ d →
      Completes (.doorbellWrite port (4096 * p + 8 * r) size v) s fun u =>
        u.ring (ringKey p r) = { g with tail := v.toNat % 2 ^ 32 }
          ∧ (∀ k, k ≠ ringKey p r → u.ring k = s.ring k) ∧ { u with rings := s.rings } = s)
    ∧ (s.ringSize (ringKey p r) < d ∨ d < (g.tail + 2 ^ 32 - g.head) % 2 ^ 32 →
      Completes (.doorbellWrite port (4096 * p + 8 * r) size v) s fun u =>
        { u with crust := s.crust } = s ∧ Logs s u [
          pack [(56, 0x33), (50, s.ringCluster (ringKey p r)), (45, p), (41, r), (36, 0), (0, v.toNat % 2 ^ 32)], 0]))
  ∧ (∀ (port p r size : Nat) (v : BitVec 64) (s : State), s.cxlFitted port = true → s.cxlUp port = true →
    p < 16 → r < 16 →
    s.portServes port p = false ∨ s.ringOn (ringKey p r) = false ∨ (s.ring (ringKey p r)).stopped = true ∨ (s.part p).st = 0 →
    Completes (.doorbellWrite port (4096 * p + 8 * r) size v) s fun u => u = s)
  ∧ ∀ (a : Acc) (p r : Nat) (s : State), p < 16 → r < 16 → Takes s a (0x2400 + (16 * p + r)) 5 1 →
    Completes (.ringRestart a p r 1) s fun u =>
      u.ring (ringKey p r) = (if (s.ring (ringKey p r)).stopped then
          { s.ring (ringKey p r) with stopped := false, tail := (s.ring (ringKey p r)).head }
        else s.ring (ringKey p r))
      ∧ (∀ k, k ≠ ringKey p r → u.ring k = s.ring k) ∧ { u with rings := s.rings, mgmt := s.mgmt } = s

/-! ### Flag words, signals and dumps (11) -/

/-- FLAG_n sets a flag word of an assigned cluster and FLAG_ADD adds to one, and each raises event bit 8, within a
hearth cycle (log entry 123); an unassigned cluster's is not written. At the end of the cycle a queue head whose wait
on a written flag word holds is dispatched, and a core that waits on one, or in WFE for a pending event, goes on. The
watchdog's test makes a stall event, once, of a queue head and of a core whose wait has lasted WATCHDOG_MS, and of
nothing else. DUMP_NOW stores a dump of its partition, 64 bytes and then 384 bytes for each cluster and 32 for each
held signal. A counted signal that times out is refused and its counter starts anew; a counter that holds nothing is
freed. -/
def Obligations.FlagWordsDumpsAndCounters : Prop :=
  ((∀ (a : Acc) (c n : Nat) (v : BitVec 64) (set_ : Bool) (x : W32) (row : Bool → Instr) (s : State), c < 48 →
    (set_ = true ∧ n < 48 ∧ x = v.setWidth 32 ∧ row = .flagN a c n v
      ∨ set_ = false ∧ n = Word.bits v 37 32 ∧ x = v.setWidth 32 ∧ row = .flagAdd a c v) →
    let s1 := s.openCycle c
    Takes s1 a (0xA100 + c) (if set_ then 1 + n else 49) v → s.quiet →
    ((s.cluster c).part.isSome = true →
      let fc := s.cycleWith c 10 n set_ x
      ((s.cluster c).cycle = none → fc.value n = if set_ then x else s.flag c n + x)
      ∧ (Completes (row true) s fun u => u.flag c n = fc.value n ∧ (u.cluster c).cycle = some fc
        ∧ (u.cluster c).core = { (s.cluster c).core with events := (s.cluster c).core.events ||| 0x100 }
        ∧ FlagFrame s { u with mgmt := s.mgmt } c [n] ∧ Told s u a (0xA100 + c) (if set_ then 1 + n else 49) 0)
      ∧ Completes (row true) s fun u => Completes (row false) s fun w => w = u.closeCycle c)
    ∧ ((s.cluster c).part = none → (s.cluster c).cycle = none → ∀ more, Completes (row more) s fun u => OnlyMgmt s u))
  ∧ (∀ (c : Nat) (s : State) (fc : FlagCycle), (s.cluster c).cycle = some fc → (s.cluster c).part.isSome = true →
    let waits (q : Nat) : Prop := ∃ e, ((s.cluster c).queue q).head = some e ∧ e0Form e.e0 ≠ 0
      ∧ ∃ x ∈ fc.writes, x.flg = e0Flag e.e0
    let k := (s.cluster c).core
    let u := s.closeCycle c
    ((∀ q, q < 8 → ¬ waits q) →
      (u.cluster c).cycle = none
      ∧ (∀ form n v, k.wait = some (.flag form n v) → (∃ x ∈ fc.writes, x.flg = n) →
        waitHolds form (s.flag c n) v = true →
        (u.cluster c).core = { k with st := .running, wait := none, pc := k.pc + 4, stalled := false }
          ∧ (u.flag c n = if form = 3 then s.flag c n - v else s.flag c n) ∧ FlagFrame s u c [n])
      ∧ (∀ form n v, k.wait = some (.flag form n v) → ((∀ x ∈ fc.writes, x.flg ≠ n) ∨ waitHolds form (s.flag c n) v = false) →
        (u.cluster c).core = k ∧ FlagFrame s u c [])
      ∧ (∀ rd mask, k.wait = some (.wfe rd mask) → k.events.toNat &&& mask ≠ 0 →
        CoreGoes { k with st := .running, wait := none, stalled := false }
            { (u.cluster c).core with events := k.events } (k.pc + 4) rd (BitVec.ofNat 64 (k.events.toNat &&& mask))
          ∧ (u.cluster c).core.events = k.events &&& ~~~BitVec.ofNat 9 mask ∧ FlagFrame s u c [])
      ∧ ((∀ form n v, k.wait ≠ some (.flag form n v)) →
        (∀ rd mask, k.wait = some (.wfe rd mask) → k.events.toNat &&& mask = 0) →
        (u.cluster c).core = k ∧ FlagFrame s u c []))
    ∧ ∀ q e, q < 8 → (∀ j, j < 8 → j ≠ q → ¬ waits j) → waits q → ((s.cluster c).queue q).head = some e →
      k.wait = none → e0Ok e.e0 = true → (s.cluster c).closed = false → s.headHolds c e = true →
      s.mayDispatch c q e = true → e1Ok e.e1 = true →
      (q < 4 → s.tilePresent (tileNo c q) = true ∧ mqValid e.desc = true) →
      (u.cluster c).core = k ∧ (u.cluster c).cycle = none
        ∧ (∀ m, u.flag c m = if e0Form e.e0 = 3 ∧ m = e0Flag e.e0 then s.flag c m - e0Value e.e0 else s.flag c m)
        ∧ OnlyQueue s (u.modCluster c fun x => { x with flags := (s.cluster c).flags, cycle := (s.cluster c).cycle }) c q
          (((s.cluster c).queue q).modEntry e.ticket fun x => { x with disp := true })
        ∧ { u with clusters := s.clusters } = s))
  ∧ (∀ (c : Nat) (s : State), c < 48 → s.clusterOn c = true →
    ((∀ q, q < 8 → HeadCalm s c q) →
      (CoreCalm s c → Completes (.watchdogTest c) s fun u => u = s)
      ∧ (¬ CoreCalm s c → Completes (.watchdogTest c) s fun u =>
        let k := (s.cluster c).core
        u.cluster c = { s.cluster c with core := { k with stalled := true } } ∧ (∀ d, d ≠ c → u.cluster d = s.cluster d)
          ∧ (∀ form n v, k.wait = some (.flag form n v) → StallEvent s u c 8 form n v.toNat (s.flag c n).toNat 0)
          ∧ ∀ rd mask, k.wait = some (.wfe rd mask) → StallEvent s u c 8 0 0 mask 0 0))
    ∧ (∀ q h a, q < 8 → (∀ j, j < 8 → j ≠ q → HeadCalm s c j) → CoreCalm s c → ((s.cluster c).queue q).head = some h →
      h.blockedSince = some a → h.stalled = false → s.overdue a = true →
      Completes (.watchdogTest c) s fun u =>
        (u.cluster c).queue q = ((s.cluster c).queue q).modEntry h.ticket (fun e => { e with stalled := true })
          ∧ OnlyQueue s u c q ((s.cluster c).queue q)
          ∧ StallEvent s u c q (e0Form h.e0) (e0Flag h.e0) (e0Value h.e0).toNat (s.flag c (e0Flag h.e0)).toNat h.ticket))
  ∧ (∀ (a : Acc) (p : Nat) (s : State), p < 16 → Takes s a (0xA200 + p) 3 1 →
    Completes (.dumpNow a p 1) s fun u =>
      (Tab.get [] u.dumps p).length
          = 64 + 384 * (s.clustersOf p).length + 32 * min 256 (s.holdsOf p).length
        ∧ (Tab.get [] u.dumps p).take 8 = leBytes 8 (pack [(56, 1), (48, 2), (40, (s.clustersOf p).length),
          (24, min 256 (s.holdsOf p).length), (18, 0), (14, 15), (9, p)]).toNat
        ∧ (∀ k, k ≠ p → Tab.find u.dumps k = Tab.find s.dumps k)
        ∧ u.ctr (0xA200 + p) 2 = (s.ctr (0xA200 + p) 2 + 1) % 2 ^ 32
        ∧ { u with dumps := s.dumps, mgmt := s.mgmt } = s)
  ∧ (∀ (pos cl : Nat) (s : State) (k : ArrCtr) (h : HeldSig), Tab.find s.arr (arrKey pos cl) = some k →
    k.held = some h → Completes (.countTimeout pos cl) s fun u => Tab.find u.arr (arrKey pos cl) = some {}
      ∧ (∀ j, j ≠ arrKey pos cl → Tab.find u.arr j = Tab.find s.arr j)
      ∧ u.ctr 0xA000 3 = (s.ctr 0xA000 3 + 1) % 2 ^ 64 ∧ (∀ d m, u.flag d m = s.flag d m)
      ∧ Logs s u [pack [(56, 0x43), (50, h.tcluster), (45, (s.cluster h.tcluster).part.getD 0), (32, h.tflag),
        (0, h.value.toNat)], pack [(32, (s.flag h.tcluster h.tflag).toNat)], pack [(44, pos), (38, cl)],
        pack [(32, h.count), (0, k.a)]]
      ∧ (∀ n f, h.reply = some (n, f) → (s.port n).up = true → (s.port n).paused = 0 →
        (∀ e, s.seenOf f = some e → e.dups = []) →
        SentLast u n (s.respFrame n f 0x11 7 0 0 []) ∧ u.clusters = s.clusters)
      ∧ ∀ c t, h.reply = none → h.localFq = some (c, t) → u.fqOf c t = (s.fqOf c t).map (fun o =>
        { o with out := [], wfail := true, err := some (o.err.getD 7) }) ∧ u.fab = s.fab)
  ∧ ∀ (pos cl : Nat) (s : State) (k : ArrCtr), Tab.find s.arr (arrKey pos cl) = some k → k.held = none →
    Completes (.arrivalCounterFree pos cl) s fun u => Tab.find u.arr (arrKey pos cl) = none
      ∧ (∀ x, x ≠ arrKey pos cl → Tab.find u.arr x = Tab.find s.arr x) ∧ { u with arr := s.arr } = s

/-! ### Fabric (12) -/

/-- An FQ operation to memory of other modules, or a signal to another module, starts, and the requests of its parts
leave the cluster in order: with no port up they wait in their I/O die. A WRITE and a REDUCE carry the lines of LOCAL.
A signal to a cluster of this module that accepts it writes the flag word, and one that is not accepted is refused. A
started operation that is answered writes its results, and completes its entry once they have taken effect, with the
status of the stop if it was stopped. How an operation is split is the model's reading (log entry 50). -/
def Obligations.FqOperations : Prop :=
  (∀ p ∈ fqRows, ∀ (c ticket : Nat) (more : Bool) (pos lin epoch : Nat → Nat) (s : State) (e : QEntry), c < 48 →
    s.entry c 7 ticket = some e → s.clusterOn c = true → fqOp e.desc = p.1 → s.fqMayStart c e = true →
    fqValid e.desc = true → fqLspace e.desc = 0 → (s.cluster c).fq = [] → s.quiet →
    (if 4 ≤ p.1 then fqTarget e.desc = pos 0 ∧ s.position ≠ some (pos 0)
      else ∀ i ∈ fqParts e.desc,
        s.xlate ((s.cluster c).part.getD 31) (fqRemote e.desc + 64 * i) (fqOp e.desc != 0) = .there (pos i) (lin i) (epoch i)) →
    (∀ i ∈ fqParts e.desc, (s.member (pos i)).isSome = true) → s.fab.leaving = false → s.fab.left = false →
    s.fab.routes = [] → (∀ d, s.upPorts d = []) →
    Completes (p.2 c ticket more) s fun u => (u.entry c 7 ticket).map QEntry.started = some true
      ∧ (∃ o, u.fqOf c ticket = some o ∧ o.desc = e.desc ∧ o.todo = [] ∧ o.out = fqParts e.desc)
      ∧ u.fab.waiting.map (fun w => (w.pos, w.hearth, w.src, w.frame.op, w.frame.lines))
        = (fqParts e.desc).map (fun i =>
          let n := fqPartLen e.desc i
          (pos i, some (c / 12), ReqSrc.fq c ticket i (if p.1 ≤ 2 then n else 1), p.1 + 1,
            if p.1 = 1 ∨ p.1 = 2 then (upTo n).map fun j => s.csLine c ((fqLocal e.desc + 64 * (i + j)) % 2 ^ 23) else []))
      ∧ u.fab.outst = s.fab.outst ∧ u.fab.sent = s.fab.sent ∧ u.mem = s.mem ∧ (u.cluster c).csram = (s.cluster c).csram
      ∧ (∀ m, u.flag c m = s.flag c m) ∧ ∀ d, d ≠ c → u.cluster d = s.cluster d)
  ∧ (∀ (c ticket : Nat) (s : State) (e : QEntry), c < 48 → s.entry c 7 ticket = some e → s.clusterOn c = true →
    fqOp e.desc = 4 → s.fqMayStart c e = true → fqValid e.desc = true → (s.cluster c).fq = [] → s.quiet →
    s.position = some (fqTarget e.desc) → fqTcluster e.desc < 48 → s.fqWritesHeld c = false →
    let p := (s.cluster c).part.getD 31
    let d := fqTcluster e.desc
    let n := fqTflag e.desc
    let fc := s.cycleWith d 9 n (fqSigop e.desc == 1) (BitVec.ofNat 32 (Word.bits (jobWord e.desc 3) 31 0))
    (s.signalCheck d (s.signalSpace p) (some p) = 0 → Completes (.fqSignal c ticket true) s fun u =>
      u.flag d n = fc.value n ∧ (u.cluster d).cycle = some fc ∧ (∀ j m, (j, m) ≠ (d, n) → u.flag j m = s.flag j m)
        ∧ (u.cluster d).core.events = (s.cluster d).core.events ||| 0x100
        ∧ (u.fqOf c ticket).map (fun o => (o.todo, o.out, o.wfail, o.err)) = some ([], [], false, none) ∧ u.mem = s.mem)
    ∧ (s.signalCheck d (s.signalSpace p) (some p) ≠ 0 → ∀ more, more = true ∨ (s.cluster d).cycle = none →
      Completes (.fqSignal c ticket more) s fun u =>
      (∀ j m, u.flag j m = s.flag j m) ∧ u.ctr 0xA000 4 = (s.ctr 0xA000 4 + 1) % 2 ^ 64
        ∧ (u.fqOf c ticket).map (fun o => (o.todo, o.out, o.wfail, o.err)) = some ([], [], true, some 7) ∧ u.mem = s.mem))
  ∧ ∀ (c ticket : Nat) (s : State) (o : FqOp) (e : QEntry), c < 48 → s.fqOf c ticket = some o →
    s.entry c 7 ticket = some e → e.compl = none → s.clusterOn c = true → o.ticket = ticket → o.todo = [] → o.out = [] →
    ((o.wrote = true ∨ o.results = []) → s.settled (.fq c ticket) = true →
      Completes (.fqOpComplete c ticket) s fun u => u.fqOf c ticket = none
        ∧ (u.entry c 7 ticket).bind QEntry.compl = some (e.aborting.getD
          (if o.wfail || s.fab.fails.any (fun f => f.1 == .fq c ticket) then 5 else if o.poison then 1 else 0),
            o.err.getD 0)
        ∧ u.mem = s.mem ∧ ∀ d, d ≠ c → u.cluster d = s.cluster d)
    ∧ ∀ (g : State) (sts : List Nat), o.wrote = false → o.results ≠ [] →
      s.storeLines (s.fqWho c ticket o.desc) o.results = (g, some sts) → g.fqOf c ticket = some o →
      g.entry c 7 ticket = some e → g.settled (.fq c ticket) = true →
      Completes (.fqOpComplete c ticket) s fun u => u.fqOf c ticket = none
        ∧ (u.entry c 7 ticket).bind QEntry.compl = some (e.aborting.getD
          (if o.wfail || sts.any (· != 0) || g.fab.fails.any (fun f => f.1 == .fq c ticket) then 5
            else if o.poison then 1 else 0), o.err.getD ((sts.find? (· != 0)).getD 0))
        ∧ u.mem = g.mem ∧ (u.cluster c).csram = (g.cluster c).csram

/-- PORT_UP and PORT_DOWN change the one port and are logged; a port that goes down loses its pauses and the frames
that wait in it. A PFC frame pauses the priorities that it enables with a non-zero time and releases those with time
0; a global pause frame is ignored and counted. XOFF is repeated while its condition holds, and LLDP is sent. Whole
microseconds and the frames that are counted are the model's choices (log entries 43, 44). -/
def Obligations.PortsAndPauses : Prop :=
  (∀ (n : Nat) (s : State), s.ethFitted n = true → s.power.main = true → s.crust.svc = .service →
    (s.port n).up = false → s.quiet →
    Completes (.portUp n) s fun u => u.port n = { s.port n with up := true } ∧ (∀ m, m ≠ n → u.port m = s.port m)
      ∧ Logs s u [pack [(56, 0x52), (51, n), (27, 0)]] ∧ { u with fab := s.fab, crust := s.crust, mgmt := s.mgmt } = s
      ∧ { u.mgmt with od := s.mgmt.od } = s.mgmt)
  ∧ (∀ (n : Nat) (s : State), s.ethFitted n = true → s.portOn n = true → s.quiet →
    Completes (.portDown n) s fun u => u.port n = {} ∧ (∀ m, m ≠ n → u.port m = s.port m)
      ∧ (∀ x ∈ u.fab.txq, x.1 ≠ n) ∧ Logs s u [pack [(56, 0x51), (51, n), (27, 0)]]
      ∧ { u with fab := s.fab, crust := s.crust, mgmt := s.mgmt } = s ∧ { u.mgmt with od := s.mgmt.od } = s.mgmt)
  ∧ (∀ (n : Nat) (enable : BitVec 8) (quanta : List (BitVec 16)) (s : State), s.ethFitted n = true →
    s.portOn n = true →
    Completes (.pfcFrame n enable quanta) s fun u => (∀ m, m ≠ n → u.port m = s.port m)
      ∧ (∀ i, i < 8 → (u.port n).paused.getLsbD i =
        (if enable.getLsbD i then decide (quanta.getD i 0 ≠ 0) else (s.port n).paused.getLsbD i)
        ∧ (enable.getLsbD i = true → quanta.getD i 0 ≠ 0 →
          (u.port n).pauseEnd.getD i 0 = s.crust.time + pauseUs (quanta.getD i 0)))
      ∧ { u with fab := s.fab, mgmt := s.mgmt } = s ∧ { u.mgmt with od := s.mgmt.od } = s.mgmt)
  ∧ (∀ (n : Nat) (s : State), s.ethFitted n = true → s.portOn n = true →
    Completes (.pauseFrame n) s fun u => u.ctr (0x6100 + n) 8 = (s.ctr (0x6100 + n) 8 + 1) % 2 ^ 32
      ∧ OdKept s u [odKey (0x6100 + n) 8] ∧ OnlyMgmt s u)
  ∧ (∀ (n g : Nat) (s : State), s.ethFitted n = true → s.portOn n = true → g ≤ 1 → (s.port n).xoff g = true →
    s.bufferHigh n g = true →
    Completes (.xoffRepeat n g) s fun u =>
      u.fab.pfcSent = { port := n, prio := s.pcpOf g, quanta := 0xFFFF } :: s.fab.pfcSent
      ∧ u.ctr (0x6100 + n) 6 = (s.ctr (0x6100 + n) 6 + 1) % 2 ^ 64 ∧ OdKept s u [odKey (0x6100 + n) 6]
      ∧ (∀ m, u.port m = s.port m) ∧ { u.fab with pfcSent := s.fab.pfcSent, ports := s.fab.ports } = s.fab
      ∧ { u with fab := s.fab, mgmt := s.mgmt } = s)
  ∧ ∀ (n : Nat) (s : State), s.ethFitted n = true → s.portOn n = true →
    Completes (.lldpTimer n) s fun u => u.fab.lldp = (n, s.macOf s.pos n) :: s.fab.lldp
      ∧ { u with fab := { u.fab with lldp := s.fab.lldp } } = s

/-- A READ, WRITE, REDUCE or ATOMIC frame of a member of the owner's domain, at a home that owns its loaf under the
frame's epoch (or is freezing it, or is taking it over from the frame's sender), is carried out there when nothing
makes it wait, and answered with what the home gives; one that must wait is held. One to memory that is no region's is
answered NACK UNBACKED, one of a stranger to the domain NACK ACCESS, one that the home record does not let in the NACK
of the record, and one to a home that has moved REDIRECT, and memory stays. That a frame is served whole in its step
is the model's choice (log entry 13). -/
def Obligations.MemoryFramesAtTheirHome : Prop :=
  ∀ p ∈ memoryFrames, ∀ (n : Nat) (f : Frame) (s : State), f.op = p.1 → Comes s n f .request → Fresh s n f →
    (s.port n).paused = 0 → Counts s f →
    let x := s.shown n f
    let l := nbits f.addrLin 40 21
    let h := s.homeRec l
    let r := x.homeRun (.eth n) (some f.cls) f.addrLin (frameOp f)
    let nack (k : Nat) (u : State) : Prop := u.mem = s.mem ∧ SentLast u n (s.respFrame n f 0x11 k 0 0 []) ∧ Counted s u f
    let mine := ∃ rg, s.regionAt f.addrLin = some rg ∧ (s.place' false f.addrLin).isSome = true
      ∧ s.unused rg.owner = false ∧ s.inDomain rg.owner f.srcPos = true
    let owned := h.st = 1 ∧ f.epoch = h.epoch ∨ h.st = 2 ∧ f.epoch = h.epoch ∧ p.1 = 1
      ∨ h.st = 3 ∧ f.epoch = h.epoch ∧ Tab.find s.place.incoming l = some f.srcPos
    let waits := x.gateAll 31 (.eth n) (some f.cls) f.addrLin (frameOp f)
    (mine → owned → waits = false → (p.1 = 1 ∨ h.replicable = false ∨ h.live = false) →
      Completes (p.2 n f) s fun u => u.mem = r.1.mem ∧ u.homeRec l = (if p.1 = 1 ∧ r.2.status = 0 ∧ h.replicable then
            { h with live := true } else h)
        ∧ SentLast u n (if r.2.status ≠ 0 then s.respFrame n f 0x11 r.2.status 0 0 []
          else if p.1 = 1 then s.respFrame n f 0x10 0 0 (BitVec.ofNat 64 r.2.mask) r.2.lines
          else s.respFrame n f 0x10 0 r.2.old 0 [])
        ∧ Counted s u f ∧ u.place.held = [])
    ∧ (mine → owned → waits = true → Completes (p.2 n f) s fun u => u.place.held = [.frame n f]
      ∧ u.mem.dram = s.mem.dram ∧ u.fab.sent = s.fab.sent ∧ u.arr = s.arr)
    ∧ (mine → h.st = 2 → f.epoch = h.epoch → p.1 ≠ 1 → Completes (p.2 n f) s fun u => u.place.held = [.frame n f]
      ∧ u.mem = s.mem ∧ u.fab.sent = s.fab.sent ∧ u.arr = s.arr)
    ∧ (mine → h.st = 0 → h.fwd = true → Completes (p.2 n f) s fun u => u.mem = s.mem
      ∧ SentLast u n (s.respFrame n f 0x12 0 (BitVec.ofNat 64 h.fpos) 0 []) ∧ Counted s u f)
    ∧ (∀ k, mine → s.homeNack f = some k → Completes (p.2 n f) s (nack k))
    ∧ (s.regionAt f.addrLin = none ∨ s.place' false f.addrLin = none → Completes (p.2 n f) s (nack 3))
    ∧ ∀ rg, s.regionAt f.addrLin = some rg → (s.place' false f.addrLin).isSome = true →
      s.unused rg.owner = true ∨ s.inDomain rg.owner f.srcPos = false → Completes (p.2 n f) s (nack 2)

/-- A SIGNAL frame that its target accepts sets or adds to the flag word, within a hearth cycle (log entry 123), and
is answered, once every earlier request of its stream has taken effect; one that is not accepted is refused, logged at
most once a second, and writes no flag. A COUNTED_SIGNAL acts like that once the lines it counts have arrived, and is
held until then; with a signal already held it is refused. Of a module in the domain, REPLICA_INV makes the member's
replica unusable; PLACEMENT_CLAIM makes a vacant loaf of the partition INCOMING under the new epoch and is refused for
any other; PLACEMENT_PUBLISH makes the member's entry name the new home, and at that home its INCOMING record OWNED.
Of another module they are dropped and counted. A signal to a flag word above 47, and the member that a frame names,
are the model's readings (log entries 35, 41). -/
def Obligations.SignalAndPlacementFrames : Prop :=
  (∀ (n : Nat) (f : Frame) (counted : Bool) (s : State), f.op = (if counted then 6 else 5) → Comes s n f .request →
    Fresh s n f → (s.port n).paused = 0 →
    let row (more : Bool) : Instr := if counted then .countedSignal n f more else .signal n f more
    let c := Word.bits f.h5 13 8
    let k := Word.bits f.h5 5 0
    let m := if counted then Word.bits f.h6 31 0 else 0
    let key := arrKey f.srcPos f.cluster
    let a := Tab.get {} s.arr key
    let fc := s.cycleWith c 9 k (f.opmod % 2 == 1) (BitVec.ofNat 32 (Word.bits f.h6 63 32))
    let accepted := k < 48 ∧ s.signalCheck c (Word.bits f.h5 63 32) none = 0
    let room := (Tab.find s.arr key).isSome = true ∨ s.arr.length < 16384
    let same (u : State) : Prop := (∀ d j, u.flag d j = s.flag d j) ∧ u.mem = s.mem
    let alone (more : Bool) : Prop := more = true ∨ (s.cluster c).cycle = none
    (counted = false → s.streamHeld f = true → ∀ more, alone more → Completes (row more) s fun u =>
      u.place.held = [.frame n f] ∧ same u ∧ u.fab.sent = s.fab.sent)
    ∧ (counted = true ∨ s.streamHeld f = false →
      (accepted → m = 0 ∨ (a.held = none ∧ room ∧ m ≤ a.a) → Completes (row true) s fun u =>
        u.flag c k = fc.value k ∧ (u.cluster c).cycle = some fc ∧ (∀ d j, (d, j) ≠ (c, k) → u.flag d j = s.flag d j)
          ∧ (u.cluster c).core = { (s.cluster c).core with events := (s.cluster c).core.events ||| 0x100 }
          ∧ (∀ d, d ≠ c → u.cluster d = s.cluster d) ∧ u.mem = s.mem
          ∧ (m ≠ 0 → Tab.find u.arr key = some { a := (a.a + 2 ^ 32 - m) % 2 ^ 32, held := none }) ∧ (m = 0 → u.arr = s.arr)
          ∧ SentLast u n (s.respFrame n f 0x10 0 0 0 []))
      ∧ (accepted → a.held = none → room → a.a < m → ∀ more, alone more → Completes (row more) s fun u => same u
        ∧ Tab.find u.arr key = some { a with held := some (heldOf n f s.crust.time) } ∧ u.fab.sent = s.fab.sent)
      ∧ (¬ accepted ∨ (m ≠ 0 ∧ (a.held ≠ none ∨ ¬ room)) → ∀ more, alone more → Completes (row more) s fun u => same u
        ∧ u.arr = s.arr ∧ u.ctr 0xA000 4 = (s.ctr 0xA000 4 + 1) % 2 ^ 64
        ∧ SentLast u n (s.respFrame n f 0x11 7 0 0 []))
      ∧ (accepted → m = 0 ∨ (a.held = none ∧ room ∧ m ≤ a.a) → Completes (row true) s fun u =>
        Completes (row false) s fun v => v = u.closeCycle c)))
  ∧ (∀ p ∈ placementFrames, ∀ (n : Nat) (f : Frame) (s : State), f.op = p.2.1 →
    (p.2.1 = 9 → Word.bits f.h5 63 60 = p.2.2) → Comes s n f .request → Fresh s n f → (s.port n).paused = 0 →
    let q := Word.bits f.h5 59 56
    let loff := f.addrLin / 2 ^ 21
    let loaf := Word.bits f.h5 34 0
    let e := Word.bits f.h5 55 48
    let h := s.homeRec loff
    let w := s.entryOf q loaf
    (s.inDomain q f.srcPos = false → Completes (p.1 n f) s fun u =>
      u.place = s.place ∧ u.mem = s.mem ∧ u.ctr 0x6010 8 = (s.ctr 0x6010 8 + 1) % 2 ^ 64 ∧ u.fab.sent = s.fab.sent)
    ∧ (s.inDomain q f.srcPos = true →
      (p.2.1 = 8 → Completes (p.1 n f) s fun u =>
        (u.replicaAt q loaf).isNone = true ∧ (∀ l, l ≠ loaf → u.replicaAt q l = s.replicaAt q l)
          ∧ { u.place with replicas := s.place.replicas } = s.place ∧ u.mem = s.mem
          ∧ SentLast u n (s.respFrame n f 0x10 0 0 0 []))
      ∧ (p.2 = (9, 0) → h.st = 0 → s.ownsLoaf q loff = true → f.addrPos = s.pos →
        Completes (p.1 n f) s fun u => (u.homeRec loff).st = 3 ∧ (u.homeRec loff).epoch = e ∧ (u.homeRec loff).fwd = false
          ∧ Tab.find u.place.incoming loff = some f.srcPos ∧ (∀ l, l ≠ loff → u.homeRec l = s.homeRec l)
          ∧ u.place.leaves = s.place.leaves ∧ u.mem = s.mem ∧ SentLast u n (s.respFrame n f 0x10 0 0 0 []))
      ∧ (p.2 = (9, 0) → (h.st ≠ 0 ∨ s.ownsLoaf q loff = false ∨ f.addrPos ≠ s.pos) →
        Completes (p.1 n f) s fun u => u.place = s.place ∧ u.mem = s.mem ∧ SentLast u n (s.respFrame n f 0x11 0xA 0 0 []))
      ∧ (p.2 = (9, 1) → f.addrPos = s.pos → ¬ ((h.st = 3 ∨ h.st = 1) ∧ h.epoch = e) →
        Completes (p.1 n f) s fun u => u.place = s.place ∧ u.mem = s.mem ∧ SentLast u n (s.respFrame n f 0x11 0xA 0 0 []))
      ∧ (p.2 = (9, 1) → (f.addrPos = s.pos → (h.st = 3 ∨ h.st = 1) ∧ h.epoch = e) →
        Completes (p.1 n f) s fun u =>
          u.entryOf q loaf = (if entSt w = 0 then w else
              mkEntry (entSt w) (Word.bit f.h5 47) false e (if entSt w = 2 then entRepl w else 0) f.addrPos loff)
            ∧ (∀ l, l ≠ loaf → u.entryOf q l = s.entryOf q l) ∧ (∀ l, l ≠ loff → u.homeRec l = s.homeRec l)
            ∧ (if f.addrPos = s.pos ∧ h.st = 3 then (u.homeRec loff).st = 1 ∧ (u.homeRec loff).epoch = e
                ∧ (u.homeRec loff).replicable = Word.bit f.h5 46 ∧ Tab.find u.place.incoming loff = none
              else u.homeRec loff = h)
            ∧ u.mem = s.mem ∧ SentLast u n (s.respFrame n f 0x10 0 0 0 []))))

/-- A response that matches a request ends it: its tag goes into quarantine, and the requester has its answer: the
data or the status of its line, the error of its write, or the answer of an FQ operation's part. A NACK BUSY leaves
the request as it was. A REDIRECT, or a NACK STALE, of a request whose placement entry has not changed completes it
STALE. A response that matches none is counted, and one that does not suit its request is dropped. That BUSY leaves
the request outstanding is the model's reading (log entry 39). -/
def Obligations.ResponsesEndRequests : Prop :=
  (∀ p ∈ responseRows, ∀ (n : Nat) (f : Frame) (s : State) (o : Outst), f.op = p.1 →
    Comes s n f .response → s.matchResp f = some o →
    let st := if p.1 = 0x11 then f.status else if p.1 = 0x12 then 6 else 0
    let mask := if p.1 = 0x10 ∧ o.frame.op = 1 then f.h6.toNat else 0
    let lines := if p.1 = 0x10 then f.lines else []
    (f.answers o.frame = true → (p.1 = 0x11 → f.status ≠ 0xE1) → (st = 6 → s.entryMoved o = false) →
      (∀ a v b, o.src = .wline a v b → Completes (p.2 n f) s fun u =>
        u.fab.outst = s.fab.outst.filter (fun x => x.id != o.id)
          ∧ u.fab.fails = s.fab.fails ++ (if st = 0 then [] else [(a, st)])
          ∧ (∃ t, Tab.find u.fab.spaces (spaceKey o.die o.pos) = some t ∧ t.quar.contains (o.ctr % 65536) = true)
          ∧ u.mem = s.mem ∧ u.clusters = s.clusters)
      ∧ (∀ a v, o.src = .line a v → Completes (p.2 n f) s fun u =>
        u.fab.outst = s.fab.outst.filter (fun x => x.id != o.id)
          ∧ u.fab.pool = s.fab.pool.map (fun l => if l.agent = a ∧ l.pva = v ∧ l.wr = false then
              { l with status := some (if st = 0 ∧ mask ≠ 0 then 4 else st), data := lines.headD 0 } else l)
          ∧ (∃ t, Tab.find u.fab.spaces (spaceKey o.die o.pos) = some t ∧ t.quar.contains (o.ctr % 65536) = true)
          ∧ u.mem = s.mem ∧ u.clusters = s.clusters)
      ∧ (∀ c t first k, o.src = .fq c t first k → Completes (p.2 n f) s fun u =>
        u.fab.outst = s.fab.outst.filter (fun x => x.id != o.id)
          ∧ u.fqOf c t = (s.fqOf c t).map (fun q => q.answer first k (freeLineAt s.free)
              { status := st, lines := lines, mask := mask, old := if p.1 = 0x10 then f.h5 else 0 })
          ∧ (∃ t, Tab.find u.fab.spaces (spaceKey o.die o.pos) = some t ∧ t.quar.contains (o.ctr % 65536) = true)
          ∧ u.mem = s.mem ∧ ∀ d, d ≠ c → u.cluster d = s.cluster d))
    ∧ (f.answers o.frame = false → Completes (p.2 n f) s fun u => u.fab.outst = s.fab.outst
      ∧ u.ctr 0x6010 8 = (s.ctr 0x6010 8 + 1) % 2 ^ 64 ∧ u.mem = s.mem ∧ u.clusters = s.clusters)
    ∧ (p.1 = 0x11 → f.status = 0xE1 → f.answers o.frame = true → Completes (p.2 n f) s fun u =>
      u.fab.outst = s.fab.outst ∧ u.mem = s.mem ∧ u.clusters = s.clusters))
  ∧ ∀ p ∈ responseRows, ∀ (n : Nat) (f : Frame) (s : State), f.op = p.1 → Comes s n f .response →
    s.matchResp f = none → Completes (p.2 n f) s fun u => u.fab.outst = s.fab.outst
      ∧ u.ctr 0x6010 5 = (s.ctr 0x6010 5 + 1) % 2 ^ 64 ∧ u.mem = s.mem ∧ u.clusters = s.clusters

/-- SEQ_NACK has the unanswered requests of its stream from the SEQ it names on sent again in order, marked RETX.
KEEPALIVE records the peer's up ports and notes what the peer has sent on each stream. A frame that fails acceptance
is dropped and counted, and one of another protocol is not; a request that breaks R407 is answered NACK BAD_FRAME too.
A frame of a module that is no member is dropped and counted, whatever it asks. That a BAD_FRAME request has no other
effect is the model's reading (log entry 38). -/
def Obligations.ControlAndBadFrames : Prop :=
  (∀ (n : Nat) (f : Frame) (s : State), f.op = 0x18 → Comes s n f .seqNack →
    let os := (s.unanswered (f.dstPort / 4) f.srcPos (Word.bits f.h5 17 16)).filter fun o =>
      seqFrom o.seq (Word.bits f.h5 15 0)
    (∀ o ∈ os, (s.port o.port).up = true ∧ (s.port o.port).paused = 0) →
    Completes (.seqNack n f) s fun u =>
      u.fab.sent = (os.map fun o => (o.port, o.again.sealed)).reverse ++ s.fab.sent
        ∧ u.ctr 0x6010 1 = (s.ctr 0x6010 1 + os.length) % 2 ^ 64 ∧ u.fab.outst = s.fab.outst ∧ u.mem = s.mem
        ∧ u.clusters = s.clusters)
  ∧ (∀ (n : Nat) (f : Frame) (s : State), f.op = 0x19 → Comes s n f .keepalive →
    Completes (.keepalive n f) s fun u => Tab.find u.fab.peers f.srcPos = some (BitVec.ofNat 24 f.h6.toNat)
      ∧ (∀ p, p ≠ f.srcPos → Tab.find u.fab.peers p = Tab.find s.fab.peers p)
      ∧ (∀ g, g < 2 → f.level ≠ 3 →
        let k := Frame.rxKey f.srcPos (f.srcPort / 4) g
        let next := (Word.bits f.h5 (63 - 16 * g) (48 - 16 * g) + 1) % 65536
        u.rxStream k = if (s.rxStream k).expect ≠ next ∧ seqFrom next (s.rxStream k).expect then
          (s.rxStream k).note next else s.rxStream k)
      ∧ u.mem = s.mem ∧ u.clusters = s.clusters)
  ∧ (∀ (n : Nat) (f : Frame) (s : State),
    (Comes s n f .ignored → Completes (.badFrame n f) s fun u => u = s)
    ∧ (Comes s n f .dropped → Completes (.badFrame n f) s fun u =>
      u.ctr 0x6010 8 = (s.ctr 0x6010 8 + 1) % 2 ^ 64 ∧ OdKept s u [odKey 0x6010 8] ∧ OnlyMgmt s u)
    ∧ (Comes s n f .faulty → (s.port n).paused = 0 →
      Completes (.badFrame n f) s fun u => u.ctr 0x6010 8 = (s.ctr 0x6010 8 + 1) % 2 ^ 64
        ∧ SentLast u n (s.respFrame n f 0x11 0xE2 0 0 []) ∧ { u with fab := s.fab, mgmt := s.mgmt } = s)
    ∧ (Comes s n f .stranger → f.hasRow = false → Completes (.badFrame n f) s fun u =>
      u.ctr 0x6010 7 = (s.ctr 0x6010 7 + 1) % 2 ^ 64 ∧ { u with crust := s.crust, mgmt := s.mgmt } = s))
  ∧ ∀ p ∈ memoryFrames ++ responseRows ++ [(0x18, .seqNack), (0x19, .keepalive), (8, .replicaInv)],
    ∀ (n : Nat) (f : Frame) (s : State), f.op = p.1 → Comes s n f .stranger →
    Completes (p.2 n f) s fun u => u.ctr 0x6010 7 = (s.ctr 0x6010 7 + 1) % 2 ^ 64
      ∧ { u with crust := s.crust, mgmt := s.mgmt } = s

/-- The fabric's timers: a request is sent again, marked RETX, at most three times; a request that times out completes
TIMEOUT and its tag goes into quarantine; a gap that has lasted is reported; an active peer is sent a KEEPALIVE; a tag
leaves quarantine; a tag space that nothing uses and a replay window that has lasted are freed. What goes with a
replay window, and the path of SEQ_NACK, are the model's (log entries 46, 125). -/
def Obligations.FabricTimers : Prop :=
  (∀ (id : Nat) (s : State) (o : Outst), s.outstOf id = some o →
    (o.retx < 3 → (s.port o.port).up = true → (s.port o.port).paused = 0 →
      Completes (.retransmitTimer id) s fun u => SentLast u o.port o.again
        ∧ u.fab.outst = s.fab.outst.map (fun x => if x.id = id then { x with retx := x.retx + 1 } else x)
        ∧ u.ctr 0x6010 1 = (s.ctr 0x6010 1 + 1) % 2 ^ 64
        ∧ { u.fab with outst := s.fab.outst, sent := s.fab.sent, active := s.fab.active } = s.fab
        ∧ { u with fab := s.fab, mgmt := s.mgmt } = s)
    ∧ (o.retx < 3 → (s.port o.port).up = false → Completes (.retransmitTimer id) s fun u =>
      u.fab.sent = s.fab.sent ∧ { u with fab := { u.fab with outst := s.fab.outst } } = s)
    ∧ (3 ≤ o.retx → Completes (.retransmitTimer id) s fun u => u = s))
  ∧ (∀ (id : Nat) (s : State) (o : Outst), s.outstOf id = some o → s.quiet → s.nothingHeld →
    let ends (u : State) : Prop := u.fab.outst = s.fab.outst.filter (fun x => x.id != id)
      ∧ u.ctr 0x6010 2 = (s.ctr 0x6010 2 + 1) % 2 ^ 64
      ∧ (∃ t, Tab.find u.fab.spaces (spaceKey o.die o.pos) = some t ∧ t.quar.contains (o.ctr % 65536) = true)
      ∧ u.mem = s.mem
    (∀ a v b, o.src = .wline a v b → Completes (.requestTimeout id) s fun u => ends u
      ∧ u.fab.fails = s.fab.fails ++ [(a, 0xE0)] ∧ u.fab.pool = s.fab.pool ∧ u.clusters = s.clusters)
    ∧ (∀ a v, o.src = .line a v → Completes (.requestTimeout id) s fun u => ends u
      ∧ u.fab.pool = s.fab.pool.map (fun l => if l.agent = a ∧ l.pva = v ∧ l.wr = false then
          { l with status := some 0xE0, data := 0 } else l)
      ∧ u.fab.fails = s.fab.fails ∧ u.clusters = s.clusters)
    ∧ (∀ c t first k, o.src = .fq c t first k → Completes (.requestTimeout id) s fun u => ends u
      ∧ u.fqOf c t = (s.fqOf c t).map (fun q => q.answer first k (freeLineAt s.free) { status := 0xE0 })
      ∧ ∀ d, d ≠ c → u.cluster d = s.cluster d))
  ∧ (∀ (pos die g n d : Nat) (s : State), s.power.main = true → g ≤ 1 → levelOf s.pos pos ≠ 3 →
    (s.rxStream (Frame.rxKey pos die g)).gap = true → s.nackPath pos die g = some (n, d) →
    (s.port n).paused = 0 →
    Completes (.gapWaitExpiry pos die g) s fun u =>
      SentLast u n (s.control 0x18 n pos d
        (pack [(16, g), (0, (s.rxStream (Frame.rxKey pos die g)).expect)]) 0 [])
      ∧ u.ctr 0x6010 3 = (s.ctr 0x6010 3 + 1) % 2 ^ 64 ∧ { u.fab with sent := s.fab.sent } = s.fab
      ∧ { u with fab := s.fab, mgmt := s.mgmt } = s)
  ∧ (∀ (die pos n d : Nat) (s : State), die < s.build.ioDies → s.power.main = true → s.recent die pos = true →
    s.controlPath die pos = some (n, d) → (s.port n).up = true → (s.port n).paused = 0 →
    let t := (Tab.find s.fab.spaces (spaceKey die pos)).getD {}
    let last (q : Nat) : Nat := if levelOf s.pos pos = 3 then 0 else (q + 65535) % 65536
    Completes (.keepaliveTimer die pos) s fun u =>
      SentLast u n (s.control 0x19 n pos d (pack [(48, last t.seq0), (32, last t.seq1)]) (BitVec.ofNat 64 s.portsUp) [])
      ∧ { u.fab with sent := s.fab.sent } = s.fab ∧ { u with fab := s.fab, mgmt := s.mgmt } = s)
  ∧ (∀ (die pos tag : Nat) (s : State) (t : TagSpace), die < s.build.ioDies → s.quiet →
    Tab.find s.fab.spaces (spaceKey die pos) = some t →
    Completes (.tagQuarantineExpiry die pos tag) s fun u =>
      Tab.find u.fab.spaces (spaceKey die pos) = some { t with quar := t.quar.filter (· != tag) }
      ∧ (∀ k, k ≠ spaceKey die pos → Tab.find u.fab.spaces k = Tab.find s.fab.spaces k)
      ∧ { u with fab := { u.fab with spaces := s.fab.spaces } } = s)
  ∧ (∀ (die pos : Nat) (s : State), die < s.build.ioDies → s.quiet →
    (∀ o ∈ s.fab.outst, o.die ≠ die ∨ o.pos ≠ pos) →
    ((Tab.find s.fab.spaces (spaceKey die pos)).getD {}).quar = [] →
    Completes (.tagSpaceFree die pos) s fun u => Tab.find u.fab.spaces (spaceKey die pos) = none
      ∧ (∀ k, k ≠ spaceKey die pos → Tab.find u.fab.spaces k = Tab.find s.fab.spaces k)
      ∧ { u with fab := { u.fab with spaces := s.fab.spaces, routes := s.fab.routes } } = s)
  ∧ ∀ (pos die : Nat) (s : State), pos < 2 ^ 20 → die < 6 →
    Completes (.replayWindowFree pos die) s fun u => Tab.find u.fab.replay (pos * 8 + die) = none
      ∧ (∀ k, k ≠ pos * 8 + die → Tab.find u.fab.replay k = Tab.find s.fab.replay k)
      ∧ { u with fab := { u.fab with replay := s.fab.replay, rx := s.fab.rx } } = s

/-- A module with POSITION, AUTH_MAC and AUTH_KEY announces itself on its up ports, once and again, and answers the
newest challenge; a refusal is recorded, and so is a member table under a newer serial whose signature holds, and no
other. A message acts when its last fragment has come, and a fragment that is malformed is dropped and counted. A
module that leaves sends LEAVE once every request has completed. Fragments that have waited are dropped. In which
state a message acts, and the form of an update, are the model's readings (log entries 51 to 54). -/
def Obligations.JoiningAndLeaving : Prop :=
  (∀ (s : State), s.fabricOn = true → s.allUp ≠ [] → (∀ n ∈ s.allUp, (s.port n).paused = 0) →
    let k := s.allUp.length
    let tells (u : State) : Prop := u.ctr 0x6000 0xB = 2
      ∧ (u.fab.sent.take k).map Prod.fst = s.allUp.reverse ∧ u.fab.sent.drop k = s.fab.sent
      ∧ (∀ x ∈ u.fab.sent.take k, x.2.op = 0x20 ∧ x.2.lines = linesOfBytes
          (fixLen 64 (Config.shake256 deviceKeyBytes 64) ++ [BitVec.ofNat 8 (4 * s.build.ioDies)]))
      ∧ { u.fab with sent := s.fab.sent } = s.fab
      ∧ { u with fab := s.fab, mgmt := s.mgmt, crust := s.crust, free := s.free } = s
    (s.joinSet = true → s.ctr 0x6000 0xB = 0 → Completes .joinStart s fun u => tells u
      ∧ Logs s u [pack [(56, 0x54), (51, 0), (27, 2)]])
    ∧ (s.ctr 0x6000 0xB = 2 → Completes .joinAnnounceTimer s fun u => tells u ∧ u.crust = s.crust)
    ∧ (s.ctr 0x6000 0xB = 5 → Completes .joinAnnounceTimer s fun u => tells u))
  ∧ (∀ p ∈ joinRows, ∀ (n : Nat) (f : Frame) (s : State), s.ethFitted n = true → s.portOn n = true → f.op = p.1 →
    s.arrival n f = .join →
    let j := s.ctr 0x6000 0xB
    let still (u : State) : Prop := u.ctr 0x6000 0xB = j ∧ u.fab.members = s.fab.members
      ∧ { u with fab := s.fab, mgmt := s.mgmt } = s
    (fragOk f = false → Completes (p.2 n f) s fun u => u.ctr 0x6010 8 = (s.ctr 0x6010 8 + 1) % 2 ^ 64
      ∧ OdKept s u [odKey 0x6010 8] ∧ OnlyMgmt s u)
    ∧ (fragOk f = true → (s.gather f).2 = none → Completes (p.2 n f) s fun u => u.fab = (s.gather f).1.fab ∧ still u)
    ∧ (fragOk f = true → ∀ b, (s.gather f).2 = some b →
      (p.1 = 0x21 → b.length = 32 → 2 ≤ j → j ≠ 6 → s.fabricOn = true → Completes (p.2 n f) s fun u =>
        u.trust = { s.trust with joinNonce := some b } ∧ u.ctr 0x6000 0xB = 3 ∧ u.fab.members = s.fab.members
          ∧ { u with fab := s.fab, mgmt := s.mgmt, trust := s.trust, crust := s.crust } = s)
      ∧ (p.1 = 0x21 → b.length ≠ 32 ∨ j < 2 ∨ j = 6 ∨ s.fabricOn = false → Completes (p.2 n f) s still)
      ∧ (p.1 = 0x23 → Word.bits f.h6 20 13 ≠ 0 → j = 2 ∨ j = 3 → Completes (p.2 n f) s fun u =>
        u.ctr 0x6000 0xB = 5 ∧ u.fab.members = s.fab.members ∧ Logs s u [pack [(56, 0x54), (51, 0), (27, 5)]])
      ∧ (p.1 = 0x23 → Word.bits f.h6 20 13 = 0 ∨ (j ≠ 2 ∧ j ≠ 3) → Completes (p.2 n f) s still)
      ∧ (p.1 = 0x24 → s.fab.outst = [] → s.quiet → ∀ x, Update.ofBytes b = some x → Completes (p.2 n f) s fun u =>
        if Config.slhVerify (Tab.get [] s.mgmt.blobs (odKey 0x6000 0xA)) x.signed x.sig = true
            ∧ s.ctr 0x6000 0xD < x.serial then
          u.ctr 0x6000 0xD = x.serial % 2 ^ 64
            ∧ u.fab.members = x.recs.foldl (fun t w => Tab.set 0 t (recPos w) w) (if x.full then [] else s.fab.members)
        else still { u with crust := s.crust } ∧ u.ctr 0x6000 0xD = s.ctr 0x6000 0xD
          ∧ Logs s u [pack [(56, 0x55), (51, 0), (27, 0)]])
      ∧ (p.1 = 0x24 → Update.ofBytes b = none → Completes (p.2 n f) s fun u => still { u with crust := s.crust }
        ∧ Logs s u [pack [(56, 0x55), (51, 0), (27, 0)]])))
  ∧ (∀ (id : Nat) (s : State), Completes (.joinFragmentTimeout id) s fun u =>
    u.fab.frags = s.fab.frags.filter (fun x => x.msgId != id) ∧ { u with fab := { u.fab with frags := s.fab.frags } } = s)
  ∧ (∀ (a : Acc) (s : State), Takes s a 0x6000 14 1 → Completes (.leave a 1) s fun u =>
    u.fab = { s.fab with leaving := true } ∧ { u with fab := s.fab, mgmt := s.mgmt } = s)
  ∧ ∀ (s : State), s.power.main = true → s.fab.leaving = true → s.ctr 0x6000 0xB ≠ 6 → s.fab.outst = [] →
    s.fab.waiting = [] → s.fab.dead = [] →
    Completes .leaveSend s fun u => (s.allUp = [] → u = s)
      ∧ (∀ n, s.allUp.head? = some n → u.ctr 0x6000 0xB = 6
        ∧ ((s.port n).paused = 0 → ∃ f, SentLast u n f ∧ f.op = 0x25)
        ∧ { u.fab with sent := s.fab.sent, txq := s.fab.txq } = s.fab
        ∧ { u with fab := s.fab, mgmt := s.mgmt, crust := s.crust, free := s.free } = s)

/-! ### Placement (13) -/

/-- A commit of valid records puts their entries in force, the last of a loaf standing, counts and empties the
placement caches: a loaf that gains a LOCAL entry is OWNED, one that loses its last becomes VACANT, or RETIRED. A
commit with an invalid record is logged and changes no entry. A cache fill makes its loaf the most recent of its set,
and a replica whose lines have all arrived becomes usable. The first clause is of records that map no replica, whose
fills are requests of their own. That a commit empties every cache is the model's reading (log entry 56). -/
def Obligations.PlacementCommitsAndFills : Prop :=
  (∀ (a : Acc) (p : Nat) (s : State), p < 16 → Takes s a (0x2600 + p) 7 1 → s.quiet → s.nothingHeld →
    let b := s.begun a
    let rs := Tab.get [] s.place.stage p
    let last (l : Nat) : Option Word := ((rs.filter fun r => loafOf r.1.toNat == l).getLast?).map Prod.snd
    let gains (u : State) (l : Nat) : Prop := ∃ r ∈ rs, u.entryOf p (loafOf r.1.toNat) = r.2 ∧ entSt r.2 ≠ 0
      ∧ entLocal r.2 = true ∧ entLoff r.2 = l
    let loses (u : State) (l : Nat) : Prop := u.hasLocal l = false ∧ ∃ r ∈ rs,
      let e := s.entryOf p (loafOf r.1.toNat)
      entSt e ≠ 0 ∧ entLocal e = true ∧ entLoff e = l
    (b.firstBad p b.freeLeaves.length rs 0 [] = none → (∀ r ∈ rs, entSt r.2 ≠ 2) →
      Completes (.placeCommit a p 1) s fun u => (∀ l, u.entryOf p l = (last l).getD (s.entryOf p l))
        ∧ (∀ l, gains u l → (u.homeRec l).st = 1)
        ∧ (∀ l, loses u l → (u.homeRec l).st = if (s.homeRec l).retire then 5 else 0)
        ∧ (∀ l, ¬ gains u l → ¬ loses u l → u.homeRec l = s.homeRec l)
        ∧ u.place.pcache = [] ∧ Tab.find u.place.stage p = none
        ∧ u.ctr (0x2600 + p) 8 = (s.ctr (0x2600 + p) 8 + 1) % 2 ^ 32
        ∧ { u with place := s.place, mgmt := s.mgmt } = s)
    ∧ (∀ x, b.firstBad p b.freeLeaves.length rs 0 [] = some x →
      Completes (.placeCommit a p 1) s fun u => { u.place with stage := s.place.stage } = s.place
        ∧ Tab.find u.place.stage p = none
        ∧ Logs s u [pack [(56, 0x91), (52, p), (48, x.2.1), (0, x.1)], BitVec.ofNat 64 (x.2.2.1.toNat % 2 ^ 56), x.2.2.2]
        ∧ { u with place := s.place, mgmt := s.mgmt, crust := s.crust } = s))
  ∧ (∀ (die p loaf : Nat) (s : State), die < s.build.ioDies → p < 16 → s.power.main = true →
    let key := die * 2048 + pcacheSet p loaf
    (entSt (s.entryOf p loaf) ≠ 0 → Completes (.pcacheMissFill die p loaf) s fun u =>
      (Tab.get [] u.place.pcache key).head? = some (leafKey p loaf) ∧ (Tab.get [] u.place.pcache key).length ≤ 8
        ∧ (∀ k, k ≠ key → Tab.get [] u.place.pcache k = Tab.get [] s.place.pcache k)
        ∧ { u with place := { u.place with pcache := s.place.pcache } } = s)
    ∧ (entSt (s.entryOf p loaf) = 0 → Completes (.pcacheMissFill die p loaf) s fun u => u = s))
  ∧ ∀ (p loaf : Nat) (s : State) (r : Replica), p < 16 → Tab.find s.place.replicas (leafKey p loaf) = some r →
    (r.broken = false → r.arrived.length = 512 → Completes (.replicaFillComplete p loaf) s fun u =>
      u.replicaAt p loaf = some { r with usable := true }
        ∧ (∀ l, l ≠ loaf → u.replicaAt p l = s.replicaAt p l)
        ∧ { u with place := { u.place with replicas := s.place.replicas } } = s)
    ∧ (r.broken = true ∨ r.arrived.length ≠ 512 → Completes (.replicaFillComplete p loaf) s fun u => u = s)

/-- A migration that is not refused freezes its loaf's record and has the lines that hosts hold of it invalidated, and
one that is changes nothing. A drained freeze sends CLAIM, or is abandoned where the new home can not be asked; a
freeze that has lasted too long is abandoned and its record OWNED again, a forwarded loaf is vacated, and an INCOMING
record that waits too long is vacant again; a vacated loaf with a row that could not be spared is RETIRED. -/
def Obligations.MigrationSteps : Prop :=
  (∀ (a : Acc) (p : Nat) (v : Word) (s : State), p < 16 → Takes s a (0x2600 + p) 10 v →
    let loff := entLoff (s.entryOf p (loafOf v.toNat))
    ((s.begun a).migRefused p v = false → Completes (.migStart a p v) s fun u => (u.homeRec loff).st = 2
      ∧ (u.homeRec loff).epoch = (s.homeRec loff).epoch ∧ (∀ l, l ≠ loff → u.homeRec l = s.homeRec l)
      ∧ (∃ m, u.mig p = some m ∧ m.loff = loff ∧ m.step = 1 ∧ (m.tpos, m.tloff) = s.migTarget p
        ∧ m.epoch = ((s.homeRec loff).epoch + 1) % 256 ∧ m.since = s.crust.time
        ∧ m.early = s.place.held.filter ((s.begun a).writesLoaf loff))
      ∧ (∀ x ∈ s.trackedIn loff, (x.2, true) ∈ (u.cport x.1).snoops)
      ∧ u.ctr (0x2600 + p) 0xB = 1 ∧ { u.place with home := s.place.home, migs := s.place.migs } = s.place
      ∧ { u with place := s.place, cxl := s.cxl, mgmt := s.mgmt } = s)
    ∧ ((s.begun a).migRefused p v = true → Completes (.migStart a p v) s fun u =>
      Told s u a (0x2600 + p) 10 7 ∧ OnlyMgmt s u))
  ∧ (∀ (p : Nat) (s : State) (m : Mig), p < 16 → s.mig p = some m → s.power.main = true → m.step = 1 →
    s.migDrained m = true → s.quiet →
    let asked := (s.member m.tpos).isSome = true ∧ s.fab.leaving = false ∧ s.fab.left = false
    (asked → Completes (.migClaim p) s fun u => u.mig p = some { m with step := 2 }
      ∧ u.place.home = s.place.home ∧ u.place.leaves = s.place.leaves ∧ u.mem = s.mem
      ∧ (s.fab.routes = [] → (∀ d, s.upPorts d = []) →
        ∃ w, u.fab.waiting = [w] ∧ w.pos = m.tpos ∧ w.src = .claim p))
    ∧ (¬ asked → Completes (.migClaim p) s fun u => u.mig p = none ∧ (u.homeRec m.loff).st = 1
      ∧ (u.homeRec m.loff).epoch = (s.homeRec m.loff).epoch ∧ u.ctr (0x2600 + p) 0xB = 5
      ∧ u.place.leaves = s.place.leaves ∧ u.mem = s.mem))
  ∧ (∀ (p : Nat) (s : State) (m : Mig), p < 16 → s.mig p = some m → s.migDrained m = false →
    Completes (.migClaim p) s fun u => u = s)
  ∧ (∀ (p : Nat) (s : State) (m : Mig), p < 16 → s.mig p = some m → s.quiet → s.nothingHeld →
    (m.step ≤ 4 → Completes (.migFreezeTimeout p) s fun u => u.mig p = none ∧ (u.homeRec m.loff).st = 1
      ∧ (u.homeRec m.loff).epoch = (s.homeRec m.loff).epoch ∧ (∀ l, l ≠ m.loff → u.homeRec l = s.homeRec l)
      ∧ u.ctr (0x2600 + p) 0xB = 5
      ∧ Logs s u [pack [(56, 0x92), (52, p), (48, 3)], BitVec.ofNat 64 (m.loaf * 2 ^ 21), s.odVal (0x2600 + p) 9]
      ∧ { u.place with home := s.place.home, migs := s.place.migs } = s.place
      ∧ { u with place := s.place, mgmt := s.mgmt, crust := s.crust } = s)
    ∧ (m.step = 5 →
      (Completes (.migFreezeTimeout p) s fun u => u = s)
      ∧ Completes (.migVacate p) s fun u => u.mig p = none
        ∧ (u.homeRec m.loff).st = (if (s.homeRec m.loff).retire then 5 else 0)
        ∧ ((s.homeRec m.loff).retire = false → (u.homeRec m.loff).fwd = (s.homeRec m.loff).fwd
          ∧ (u.homeRec m.loff).fpos = (s.homeRec m.loff).fpos)
        ∧ (∀ l, l ≠ m.loff → u.homeRec l = s.homeRec l) ∧ u.ctr (0x2600 + p) 0xB = 0
        ∧ u.place.leaves = s.place.leaves ∧ { u with place := s.place, mgmt := s.mgmt } = s))
  ∧ ∀ (loff : Nat) (s : State),
    ((s.homeRec loff).st = 3 → s.quiet → s.nothingHeld → Completes (.incomingTimeout loff) s fun u =>
      (u.homeRec loff).st = (if (s.homeRec loff).retire then 5 else 0)
        ∧ Tab.find u.place.incoming loff = none ∧ (∀ l, l ≠ loff → u.homeRec l = s.homeRec l)
        ∧ u.place.leaves = s.place.leaves ∧ { u with place := s.place } = s)
    ∧ ((s.homeRec loff).st ≠ 3 → Completes (.incomingTimeout loff) s fun u => u = s)

/-! ### CXL host ports (14) -/

/-- A host read at a home here gives the line, or poison where the home or the translation gives an error, and grants
it, tracked, when it succeeds in a tracking window; a set of the tracker that is full first gives up its oldest line.
A host write is carried out, and one of a read-only window is dropped and answered. An access that must wait is held,
and one during an orderly stop is answered at once. A back-invalidation response ends the host's hold on the line, and
one that does not come ends all of the port's tracking. That a dropped write is completed with good status, the
metastate granted, the status during a stop and the answer of an UNUSED partition's window are the model's readings
(log entries 34, 137). -/
def Obligations.HostAccesses : Prop :=
  (∀ (n dpa : Nat) (want : HostWant) (w : WinV) (s : State), s.cxlFitted n = true → s.cxlUp n = true →
    s.therm.stopStep = 0 → s.quiet → s.window n dpa = some w →
    let x := s.pcacheLook (some n) w.part (w.pva / 64 * 64)
    let xl := x.xlate w.part (w.pva / 64 * 64) false
    let given : HostWant := if w.db = true ∧ s.homeHere w.part (w.pva / 64 * 64) = false then .uncached else want
    let keeps := w.db = true ∧ given ≠ .uncached
    let tells (u : State) (d : Line) (bad : Bool) (g : HostWant) : Prop := (u.cport n).resps = {
      dpa := dpa, read := true, data := d, poison := bad, grant := g } :: (s.cport n).resps
    let held (u : State) : Prop := u.place.held = s.place.held ++ [.hostRead n dpa want]
      ∧ (u.cport n).resps = (s.cport n).resps ∧ u.mem.dram = s.mem.dram
    (s.unused w.part = true → Completes (.hostMemRead n dpa want) s fun u => tells u 0 true .uncached ∧ u.mem = s.mem)
    ∧ (s.unused w.part = false →
      (w.db = true → (s.cport n).noTrack = true → Completes (.hostMemRead n dpa want) s fun u =>
        tells u 0 true .uncached ∧ { u with cxl := s.cxl } = s)
      ∧ (w.db = false ∨ (s.cport n).noTrack = false →
        (∀ e, xl = .bad e → Completes (.hostMemRead n dpa want) s fun u => tells u 0 true .uncached ∧ u.mem = s.mem)
        ∧ (∀ pos lin e, xl = .there pos lin e → (s.member pos).isNone = true ∨ s.fab.leaving = true →
          Completes (.hostMemRead n dpa want) s fun u => tells u 0 true .uncached ∧ u.mem = s.mem)
        ∧ ∀ lin, xl = .here lin →
          let r := x.lineRead (.host n) (some w.cls) lin
          (x.gate w.part (.host n) false lin (some w.cls) = true → Completes (.hostMemRead n dpa want) s held)
          ∧ (x.gate w.part (.host n) false lin (some w.cls) = false →
            (¬ keeps → Completes (.hostMemRead n dpa want) s fun u =>
              tells u r.2.2 (decide (r.2.1 ≠ 0)) (if r.2.1 = 0 then given else .uncached)
                ∧ (u.cport n).tracked = (s.cport n).tracked ∧ u.mem.dram = s.mem.dram)
            ∧ (keeps → (s.cport n).victim lin = none → Completes (.hostMemRead n dpa want) s fun u =>
              tells u r.2.2 (decide (r.2.1 ≠ 0)) (if r.2.1 = 0 then given else .uncached)
                ∧ (u.cport n).tracked = (if r.2.1 = 0 then (s.cport n).tracked.filter (fun t => t.lin != lin)
                    ++ [{ lin := lin, excl := given == .exclusive, part := w.part }] else (s.cport n).tracked)
                ∧ u.mem.dram = s.mem.dram)
            ∧ (∀ t, keeps → (s.cport n).victim lin = some t → Completes (.hostMemRead n dpa want) s fun u => held u
                ∧ (t.pend ≠ some true → (u.cport n).snoops = (t.lin, true) :: (s.cport n).snoops))))))
  ∧ (∀ (n dpa : Nat) (data : Line) (mask : BitVec 64) (poison : Bool) (w : WinV) (s : State),
    s.cxlFitted n = true → s.cxlUp n = true → s.therm.stopStep = 0 → s.quiet → s.window n dpa = some w →
    let x := s.pcacheLook (some n) w.part (w.pva / 64 * 64)
    let xl := x.xlate w.part (w.pva / 64 * 64) true
    let row : Instr := .hostMemWrite n dpa data mask poison
    let tells (u : State) : Prop := (u.cport n).resps = {
      dpa := dpa, read := false, data := 0, poison := false, grant := .uncached } :: (s.cport n).resps
    let held (u : State) : Prop := u.place.held = s.place.held ++ [.hostWrite n dpa data mask poison]
      ∧ (u.cport n).resps = (s.cport n).resps ∧ u.mem.dram = s.mem.dram
    (s.unused w.part = true ∨ w.ro = true ∨ (w.db = true ∧ (s.cport n).noTrack = true) ∨ (∃ e, xl = .bad e) →
      Completes row s fun u => tells u ∧ u.mem = s.mem)
    ∧ (s.unused w.part = false → w.ro = false → w.db = false ∨ (s.cport n).noTrack = false →
      (xl = .hold → Completes row s held)
      ∧ ∀ lin, xl = .here lin →
        (x.gate w.part (.host n) true lin (some w.cls) = true → Completes row s held)
        ∧ (x.gate w.part (.host n) true lin (some w.cls) = false → (x.homeRec (nbits lin 40 21)).replicable = false →
          Completes row s fun u => tells u
            ∧ u.mem = (x.lineWrite (.host n) (some w.cls) lin data mask poison).1.mem)))
  ∧ (∀ (n dpa : Nat) (s : State), s.cxlFitted n = true → s.cxlUp n = true → s.therm.stopStep ≠ 0 →
    (∀ want, Completes (.hostMemRead n dpa want) s fun u => u.mem = s.mem ∧ (u.cport n).resps = {
      dpa := dpa, read := true, data := 0, poison := true, grant := .uncached } :: (s.cport n).resps)
    ∧ ∀ data mask poison, Completes (.hostMemWrite n dpa data mask poison) s fun u => u.mem = s.mem
      ∧ (u.cport n).resps = {
        dpa := dpa, read := false, data := 0, poison := false, grant := .uncached } :: (s.cport n).resps)
  ∧ (∀ (n lin : Nat) (s : State), s.cxlFitted n = true → s.quiet → s.nothingHeld →
    (s.pendingSnoop n lin = none → (Completes (.birsp n lin) s fun u => u = s)
      ∧ Completes (.biTimeout n lin) s fun u => u = s)
    ∧ ∀ t, s.pendingSnoop n lin = some t →
      (Completes (.birsp n lin) s fun u =>
        (u.cport n).tracked = (if t.pend = some true then (s.cport n).tracked.filter (fun x => x.lin != lin)
          else (s.cport n).tracked.map fun x => if x.lin = lin then { x with excl := false, pend := none } else x)
        ∧ { u.cport n with tracked := (s.cport n).tracked } = s.cport n
        ∧ (∀ m, m ≠ n → u.cport m = s.cport m) ∧ { u with cxl := s.cxl } = s)
      ∧ Completes (.biTimeout n lin) s fun u => u.cport n = { s.cport n with noTrack := true, tracked := [] }
        ∧ Logs s u [pack [(56, 0x56), (51, n), (43, t.part), (0, (s.cport n).tracked.length)],
          BitVec.ofNat 64 (s.lineDpa n t)]
        ∧ (∀ m, m ≠ n → u.cport m = s.cport m) ∧ { u with cxl := s.cxl, crust := s.crust } = s)

/-- A decoder commits when it matches its window, and reports an error otherwise. A link that goes down, PERST_N and a
lost clock take the port's tracking with them; BI_FAILED ends with a conventional reset. A port that may train comes
up at full or at lower speed. Every mailbox command is answered, with an interrupt: reads with what they name, Clear
Event Records with an empty log and poison list, Set Timestamp with the new time, and an opcode outside the table with
Unsupported. The values of the mailbox's answers are the model's choice (log entries 69, 70). -/
def Obligations.CxlPortLinksAndMailbox : Prop :=
  ((∀ (n k size ways : Nat) (s : State), s.cxlFitted n = true → k < 16 → s.cxlUp n = true →
    Completes (.hdmDecoderCommit n k size ways) s fun u =>
      let ok := s.winEnabled n k = true ∧ size = s.odNat (winIndex n k) 3 ∧ ways = 1
      (∀ j, j < 16 → ((u.cport n).decoders.getLsbD j = true ↔
          (if j = k then ok else (s.cport n).decoders.getLsbD j = true)))
        ∧ (∀ j, j < 16 → ((u.cport n).decErr.getLsbD j = true ↔
          (if j = k then ¬ ok else (s.cport n).decErr.getLsbD j = true)))
        ∧ { u.cport n with decoders := (s.cport n).decoders, decErr := (s.cport n).decErr } = s.cport n
        ∧ (∀ m, m ≠ n → u.cport m = s.cport m) ∧ { u with cxl := s.cxl } = s)
  ∧ (∀ (n : Nat) (reset : Bool) (s : State), s.cxlFitted n = true → s.quiet → s.nothingHeld →
    Completes (.cxlLinkDown n reset) s fun u => u.cport n = { s.cport n with
        link := 0, tracked := [], noTrack := (s.cport n).noTrack && !reset }
      ∧ (∀ m, m ≠ n → u.cport m = s.cport m) ∧ { u with cxl := s.cxl, mgmt := s.mgmt } = s
      ∧ { u.mgmt with latch4 := s.mgmt.latch4 } = s.mgmt)
  ∧ (∀ (n : Nat) (s : State), s.cxlFitted n = true → s.quiet → s.nothingHeld →
    Completes (.perstNAssert n) s fun u => u.cport n = { s.cport n with
        perst := true, link := 0, tracked := [], noTrack := false }
      ∧ (∀ m, m ≠ n → u.cport m = s.cport m) ∧ { u with cxl := s.cxl, mgmt := s.mgmt } = s
      ∧ { u.mgmt with latch4 := s.mgmt.latch4 } = s.mgmt)
  ∧ (∀ (n : Nat) (s : State), s.cxlFitted n = true →
    Completes (.perstNRelease n) s fun u => u.cport n = { s.cport n with perst := false }
      ∧ (∀ m, m ≠ n → u.cport m = s.cport m) ∧ { u with cxl := s.cxl } = s)
  ∧ (∀ (n : Nat) (full : Bool) (s : State), s.cxlFitted n = true →
    (s.cxlLink n = 1 → Completes (.cxlLinkUp n full) s fun u =>
      u.cport n = { s.cport n with link := if full then 2 else 3 }
        ∧ (∀ m, m ≠ n → u.cport m = s.cport m) ∧ { u with cxl := s.cxl } = s)
    ∧ (s.cxlLink n ≠ 1 → Completes (.cxlLinkUp n full) s fun u => u = s))
  ∧ ∀ (n : Nat) (present : Bool) (s : State), s.cxlFitted n = true → present = true ∨ (s.quiet ∧ s.nothingHeld) →
    Completes (.refclkChange n present) s fun u =>
      u.cport n = (if present then { s.cport n with refclk := true }
        else { s.cport n with refclk := false, link := 0, tracked := [] })
      ∧ (∀ m, m ≠ n → u.cport m = s.cport m) ∧ { u with cxl := s.cxl, mgmt := s.mgmt } = s
      ∧ { u.mgmt with latch4 := s.mgmt.latch4 } = s.mgmt)
  ∧ (∀ (n : Nat) (s : State), s.cxlFitted n = true → s.cxlUp n = true →
    let p := s.cport n
    let said (u : State) (code : Nat) (data : List Nat) : Prop :=
      u.cport n = { p with mbox := { code := code, data := data } :: p.mbox, msix := 0 :: p.msix }
        ∧ (∀ m, m ≠ n → u.cport m = s.cport m) ∧ { u with cxl := s.cxl } = s
    let hot := ((upTo 16).filter s.fitted).map fun k => (s.hottest false (16 + k)).1
    (∀ x ∈ mailboxReads s n, Completes x.1 s fun u => said u 0 x.2)
    ∧ (Completes (.getHealthInfo n) s fun u => said u 0
      [(BitVec.ofInt 32 (hot.tail.foldl max (hot.headD 0))).toNat, s.lifeUsed 16 16, s.lifeUsed 0 4])
    ∧ (∀ opcode, mailboxOpcodes.contains opcode = false →
      Completes (.unsupportedMailboxCommand n opcode) s fun u => said u 1 [])
    ∧ (∀ log, 3 ≤ log → (Completes (.getEventRecords n log) s fun u => said u 2 [])
      ∧ Completes (.clearEventRecords n log) s fun u => said u 2 [])
    ∧ (∀ log, 0 < log → Completes (.getLog n log) s fun u => said u 2 [])
    ∧ (∀ log, log < 3 → Completes (.clearEventRecords n log) s fun u =>
      (u.cport n).events log = [] ∧ (u.cport n).poisonList = []
        ∧ (∀ l, l < 3 → l ≠ log → (u.cport n).events l = p.events l)
        ∧ (u.cport n).mbox = { code := 0, data := [] } :: p.mbox ∧ (u.cport n).msix = 0 :: p.msix
        ∧ (∀ m, m ≠ n → u.cport m = s.cport m) ∧ { u with cxl := s.cxl } = s)
    ∧ ∀ v, Completes (.setTimestamp n v) s fun u =>
      u.cport n = { p with stamp := v, mbox := { code := 0, data := [] } :: p.mbox, msix := 0 :: p.msix }
        ∧ (∀ m, m ≠ n → u.cport m = s.cport m) ∧ { u with cxl := s.cxl } = s)

/-! ### The dictionary, windows and configuration sets (15) -/

/-- An accepted write of an entry without an action of its own is in force at once, or waits for its boundary, as its
apply class tells; it changes no other entry, and only a new sparing threshold asks for spares. A write that is turned
away changes nothing, but for the count and the log entry of a lock violation, and its path is told the status. Of the
writes of one crust cycle none comes after one of its own or a higher path. -/
def Obligations.EntryWrites : Prop :=
  (∀ (a : Acc) (i j q k st : Nat) (v : Word) (s : State), a.same = true →
    s.mgmt.outs.head? = some (.status q k st) → a.path ≤ q → Completes (.odWrite a i j v) s fun u => u = s)
  ∧ ∀ (a : Acc) (i j : Nat) (v : Word) (s : State), j < 256 → isWinEntry i = false →
    (Takes s a i j v → ∀ r, (s.begun a).odRow i j = some r →
      (r.cls = 0 → (s.begun a).actIdent a.path i j ((s.begun a).stored r i j v) = none →
        (i ≠ 0x3000 → Completes (.odWrite a i j v) s fun u => u.odVal i j = (s.begun a).stored r i j v
          ∧ (∀ k l, l < 256 → (k, l) ≠ (i, j) → u.odVal k l = s.odVal k l) ∧ u.mgmt.pend = s.mgmt.pend
          ∧ Told s u a i j 0 ∧ OnlyMgmt s u)
        ∧ (i = 0x3000 → s.mem.rowCe = [] → Completes (.odWrite a i j v) s fun u =>
          u.odVal i j = (s.begun a).stored r i j v
            ∧ (∀ k l, l < 256 → (k, l) ≠ (i, j) → u.odVal k l = s.odVal k l) ∧ u.mgmt.pend = s.mgmt.pend
            ∧ Told s u a i j 0 ∧ OnlyMgmt s u))
      ∧ (r.cls = 1 ∨ r.cls = 2 ∨ r.cls = 4 →
        Completes (.odWrite a i j v) s fun u => (∀ k l, u.odVal k l = s.odVal k l)
          ∧ (u.cfgSet (setOf i)).st = .pending ∧ (∀ q, q ≠ setOf i → u.cfgSet q = s.cfgSet q)
          ∧ (∃ e, u.mgmt.pend = s.mgmt.pend.filter (fun x => x.key != odKey i j) ++ [e] ∧ e.key = odKey i j
            ∧ e.val = (s.begun a).stored r i j v ∧ e.cls = r.cls ∧ e.set_ = setOf i ∧ e.blob = none)
          ∧ Told s u a i j 0 ∧ OnlyMgmt s u))
    ∧ ∀ st, Reaches s a i j v → (s.begun a).preStatus a.path i j true v none = st → st ≠ 0 →
      Completes (.odWrite a i j v) s fun u => Told s u a i j st ∧ u.mgmt.pend = s.mgmt.pend
        ∧ (st ≠ 4 → u.mgmt.od = s.mgmt.od ∧ OnlyMgmt s u)
        ∧ (st = 4 → u.ctr 0x8000 2 = (s.ctr 0x8000 2 + 1) % 2 ^ 64
          ∧ Logs s u [pack [(56, 0x61), (52, a.path), (47, setCode (setOf i)), (24, i), (16, j)], v]
          ∧ { u with mgmt := s.mgmt, crust := s.crust } = s)

/-- WIN_ADDR aims a window and, in mode 0 at offset 0, opens a blob of a STRING or DOMAIN entry. WIN_DATA then writes
and reads the blob 8 bytes at a time, or in mode 1 the slots one after another, and WIN_CLOSE writes the blob to the
entry. A read of WIN_DATA by a path that may read the window gives bytes of the blob's 8 at OFFSET, or of the slot in
mode 1, and one that takes in the last of the 8 moves OFFSET on by 8, or the window to the next slot; a refused read
gives zero, and one that is not aligned is unsupported. A window that writes its own slots is refused by the model's
choice (log entry 26). -/
def Obligations.IndirectWindows : Prop :=
  (∀ (a : Acc) (k : Nat) (v : Word) (s : State), k < 11 →
    let b := s.begun a
    let w := b.win k
    (Takes s a (0xA300 + k) 1 v → w.staging = false → Word.bits v 63 48 ≠ 0x8050 →
      Completes (.winAddr a k v) s fun u => ∃ x : Win, u.win k = { w with
          addr := v &&& 0xFFFFFF8000000000, off := Word.bits v 31 0, blob := x.blob }
        ∧ (x.blob.isSome = true ↔ Word.bit v 39 = false ∧ Word.bits v 31 0 = 0
          ∧ isBlob (s.odType (Word.bits v 63 48) (Word.bits v 47 40)) = true)
        ∧ (∀ d, x.blob = some d → d = []) ∧ (∀ j, j ≠ k → u.win j = s.win j) ∧ u.mgmt.od = s.mgmt.od ∧ OnlyMgmt s u)
    ∧ (Takes s a (0xA300 + k) 2 v → w.slots = false → isBlob (s.odType w.index w.sub) = true →
      (∀ d, w.blob = some d → Completes (.winDataWrite a k v) s fun u =>
        u.win k = { w with blob := some (blobPut d w.off v), off := (w.off + 8) % 2 ^ 32 }
          ∧ (∀ j, j ≠ k → u.win j = s.win j) ∧ u.mgmt.od = s.mgmt.od ∧ OnlyMgmt s u)
      ∧ (w.blob = none → Completes (.winDataWrite a k v) s fun u =>
        (u.win k).blob = none ∧ Told s u a (0xA300 + k) 2 7 ∧ u.mgmt.od = s.mgmt.od ∧ OnlyMgmt s u))
    ∧ (Takes s a (0xA300 + k) 2 v → w.slots = true → isWinEntry w.index = false → w.index ≠ 0x3000 →
      ∀ r, (b.setWin k w.next).preStatus a.path w.index w.sub true v none = 0 →
        (b.setWin k w.next).odRow w.index w.sub = some r → r.cls = 0 →
        (b.setWin k w.next).actIdent a.path w.index w.sub ((b.setWin k w.next).stored r w.index w.sub v) = none →
        Completes (.winDataWrite a k v) s fun u => u.win k = w.next
          ∧ u.odVal w.index w.sub = (b.setWin k w.next).stored r w.index w.sub v ∧ OnlyMgmt s u)
    ∧ (Takes s a (0xA300 + k) 2 v → w.slots = true → isWinEntry w.index = true → w.sub = 2 ∨ w.sub = 5 →
      Completes (.winDataWrite a k v) s fun u => Told s u a (0xA300 + k) 2 7 ∧ u.mgmt.od = s.mgmt.od ∧ OnlyMgmt s u)
    ∧ (Takes s a (0xA300 + k) 5 1 →
      (w.blob = none → Completes (.winClose a k 1) s fun u => u.win k = w ∧ u.mgmt.od = s.mgmt.od ∧ OnlyMgmt s u)
      ∧ ∀ d r, w.blob = some d → w.staging = false → w.index < 0x8000 →
        (b.setWin k { w with blob := none }).preStatus a.path w.index w.sub true 0 (some d) = 0 →
        (b.setWin k { w with blob := none }).odRow w.index w.sub = some r → r.cls = 2 ∨ r.cls = 4 →
        Completes (.winClose a k 1) s fun u => (u.win k).blob = none ∧ OnlyMgmt s u
          ∧ ∃ e ∈ u.mgmt.pend, e.key = odKey w.index w.sub ∧ e.blob = some d ∧ e.cls = r.cls))
  ∧ (∀ (a : Acc) (k : Nat) (s : State), k < 11 → s.pathFitted a.path = true → s.pathOn a.path = true →
    let b : State := { s with mgmt := { s.mgmt with latch4 := Tab.erase s.mgmt.latch4 a.path } }
    let w := b.win k
    let z := if a.path < 6 then a.size else 8
    let off := if a.path < 6 then a.off else 0
    let good := (z = 1 ∨ z = 2 ∨ z = 4 ∨ z = 8) ∧ off % z = 0 ∧ off + z ≤ 8
    let may := b.rights a.path (0xA300 + k) 2 false = true
    let c := if off + z = 8 then b.setWin k w.next else b
    let part (v : Word) : Word := BitVec.ofNat 64 (v.toNat / 2 ^ (8 * off) % 2 ^ (8 * z))
    let gives (u : State) (v : Word) : Prop := u.mgmt.outs = .data a.path v :: s.mgmt.outs ∧ u.mgmt.od = s.mgmt.od
      ∧ OnlyMgmt s u
    (¬ may → Completes (.winDataRead a k) s fun u => gives u 0)
    ∧ (may → ¬ good → Completes (.winDataRead a k) s fun u => (u.cport a.path).ur = (s.cport a.path).ur + 1
      ∧ u.mgmt.outs = s.mgmt.outs ∧ u.mgmt.od = s.mgmt.od ∧ { u with mgmt := s.mgmt, cxl := s.cxl } = s)
    ∧ (may → good →
      (w.slots = false → isBlob (b.odType w.index w.sub) = true → b.readStatus a.path w.index w.sub = 0 →
        Completes (.winDataRead a k) s fun u => gives u (part (blobWord (b.odBlob w.index w.sub) w.off))
          ∧ u.win k = { w with off := if off + z = 8 then (w.off + 8) % 2 ^ 32 else w.off })
      ∧ (w.slots = false → isBlob (b.odType w.index w.sub) = false → Completes (.winDataRead a k) s fun u => gives u 0)
      ∧ (w.slots = true → (c.readStatus a.path w.index w.sub = 0 →
          Completes (.winDataRead a k) s fun u => gives u (part (c.odSlot w.index w.sub))
            ∧ u.win k = if off + z = 8 then w.next else w)
        ∧ (c.readStatus a.path w.index w.sub ≠ 0 → Completes (.winDataRead a k) s fun u => gives u 0))))

/-- Writing 0 to a trigger does nothing. CFG_DISCARD drops the set's pending writes and CFG_ROLLBACK makes the values
of the previous version pending; with no previous version it is refused. LOCKS sets lock groups and clears none. That
0 written to a trigger does nothing is the model's reading (log entry 78). -/
def Obligations.TriggersAndSets : Prop :=
  (∀ (p r : Nat) (a : Acc) (s : State), p < 16 → r < 16 → ∀ x ∈ triggerRows p r, Takes s a x.2.1 x.2.2 0 →
    Completes (x.1 a 0) s fun u => Told s u a x.2.1 x.2.2 0 ∧ OnlyMgmt s u
      ∧ u.mgmt = { (s.begun a).mgmt with outs := u.mgmt.outs })
  ∧ (∀ (p : Nat) (a : Acc) (s : State), p < 16 → ∀ x ∈ discardRows p, Takes s a x.2.1 x.2.2.1 1 →
    Completes (x.1 a) s fun u => u.mgmt.pend = s.mgmt.pend.filter (fun e => e.set_ != x.2.2.2)
      ∧ u.cfgSet x.2.2.2 = { s.cfgSet x.2.2.2 with st := .idle } ∧ (∀ q, q ≠ x.2.2.2 → u.cfgSet q = s.cfgSet q)
      ∧ u.mgmt.od = s.mgmt.od ∧ OnlyMgmt s u)
  ∧ (∀ (p : Nat) (a : Acc) (s : State), p < 16 → ∀ x ∈ rollbackRows p, Takes s a x.2.1 x.2.2.1 1 →
    let g := s.cfgSet x.2.2.2
    (g.prevVer.isNone = false → Completes (x.1 a) s fun u => (u.cfgSet x.2.2.2).st = .pending
      ∧ u.mgmt.od = s.mgmt.od ∧ OnlyMgmt s u
      ∧ ∀ key v, Tab.find g.prev key = some v → v ≠ s.odVal (key / 256) (key % 256) →
        (∀ y ∈ s.mgmt.blobs ++ g.prevBlob, y.1 ≠ key) → ∃ e ∈ u.mgmt.pend, e.key = key ∧ e.val = v ∧ e.blob = none)
    ∧ (g.prevVer = none → Completes (x.1 a) s fun u => Told s u a x.2.1 x.2.2.1 7 ∧ u.mgmt.pend = s.mgmt.pend
      ∧ u.mgmt.od = s.mgmt.od ∧ OnlyMgmt s u))
  ∧ ∀ (a : Acc) (v : Word) (s : State), Takes s a 0x8000 1 v →
    Completes (.locks a v) s fun u => u.odVal 0x8000 1 = BitVec.ofNat 64 (s.locks ||| v.toNat % 2 ^ 16)
      ∧ u.mgmt.pend = s.mgmt.pend ∧ { u with mgmt := s.mgmt, trust := s.trust } = s

/-- QUIESCE closes the queues of the partition's clusters, and at the drain limit what still runs is stopped
DISCARDED. At the end of the drain the pending writes of its set take effect and the version counts, the clusters are
the partition's and open, and the partition is ACTIVE or UNUSED as its enable says, after the poison fill of lost
segments where it was UNUSED; a set that breaks a rule fails and the partition goes on as it was. The data bits of a
poison fill and the clearing of a cluster are the model's (log entries 4, 72). -/
def Obligations.QuiesceAndApply : Prop :=
  (∀ (a : Acc) (p : Nat) (s : State), p < 16 → Takes s a (0x2010 + p) 6 1 →
    ((s.part p).st ≠ 1 → Completes (.quiesce a p 1) s fun u => (u.part p).st = 1 ∧ (∀ q, q ≠ p → u.part q = s.part q)
      ∧ (∀ c ∈ s.clustersOf p, (u.cluster c).closed = true) ∧ (∀ c, c ∉ s.clustersOf p → u.cluster c = s.cluster c)
      ∧ { u with mgmt := s.mgmt, clusters := s.clusters, crust := s.crust } = s)
    ∧ ((s.part p).st = 1 → Completes (.quiesce a p 1) s fun u => Told s u a (0x2010 + p) 6 0 ∧ u.mgmt.parts = s.mgmt.parts
      ∧ OnlyMgmt s u))
  ∧ (∀ (p : Nat) (s : State), p < 16 → (s.part p).st = 1 → (s.part p).fromUnused = false →
    (s.part p).limited = false → s.quiet → (∀ c ∈ s.clustersOf p, s.working c = false) →
    Completes (.quiesceDrainLimit p) s fun u => u.part p = { s.part p with limited := true }
      ∧ (∀ q, q ≠ p → u.part q = s.part q) ∧ u.clusters = s.clusters ∧ OnlyMgmt s u)
  ∧ (∀ (p c : Nat) (x : QEntry) (s : State), p < 16 → (s.part p).st = 1 → (s.part p).fromUnused = false →
    (s.part p).limited = false → s.quiet → s.clustersOf p = [c] →
    (∀ q, q < 8 → ((s.cluster c).queue q).entries = if q = 7 then [x] else []) → x.disp = true → x.compl = none →
    x.aborting = none → s.fqOf c x.ticket = none →
    Completes (.quiesceDrainLimit p) s fun u => (u.part p).limited = true
      ∧ (u.entry c 7 x.ticket).bind QEntry.compl = some (9, 0) ∧ (u.part p).st = 1)
  ∧ (∀ (p : Nat) (s : State), p < 16 → (s.part p).st ≠ 1 →
    (Completes (.quiesceDrainLimit p) s fun u => u = s) ∧ (Completes (.quiesceApply p) s fun u => u = s)
      ∧ Completes (.poisonFillComplete p) s fun u => u = s)
  ∧ (∀ (p : Nat) (s : State), p < 16 → (s.part p).st = 1 → (s.part p).filling = false →
    (s.part p).discards = 0 → ((s.part p).fromUnused = true ∨ ∀ c ∈ s.clustersOf p, s.working c = false) →
    (∀ e ∈ s.mgmt.pend, e.set_ = p ∧ e.cls = 2 ∧ e.blob = none) → (s.mgmt.pend.map Pend.key).Nodup →
    s.quiet → s.nothingHeld →
    let v := s.applyPends s.mgmt.pend
    let inForce (u : State) : Prop := (∀ e ∈ s.mgmt.pend, u.odVal (e.key / 256) (e.key % 256) = e.val) ∧ u.mgmt.pend = []
      ∧ (∀ c, c < 48 → ((u.cluster c).part = some p ↔ u.partEnable p = true ∧ (u.clustersOd p).testBit c = true))
      ∧ u.mem = s.mem
    (v.validate p = none →
      ((s.part p).fromUnused = false ∨ v.partEnable p = false ∨ v.toFill p = [] →
        Completes (.quiesceApply p) s fun u => inForce u
          ∧ (u.cfgSet p).version = (if s.mgmt.pend = [] then (s.cfgSet p).version else ((s.cfgSet p).version + 1) % 2 ^ 32)
          ∧ (s.mgmt.pend ≠ [] → (u.cfgSet p).prevVer = some (s.cfgSet p).version)
          ∧ (u.part p).st = (if u.partEnable p then 2 else 0)
          ∧ (∀ c, (u.cluster c).part = some p → c < 48 → (u.cluster c).closed = false))
      ∧ ((s.part p).fromUnused = true → v.partEnable p = true → v.toFill p ≠ [] →
        Completes (.quiesceApply p) s fun u => inForce u ∧ (u.part p).st = 1 ∧ (u.part p).filling = true))
    ∧ ∀ f, v.validate p = some f → Completes (.quiesceApply p) s fun u =>
      (u.cfgSet p).st = .failed ∧ (u.cfgSet p).fail = packNat [(16, f.1), (8, f.2.1), (0, f.2.2)]
        ∧ (u.cfgSet p).version = (s.cfgSet p).version ∧ (∀ k l, u.odVal k l = s.odVal k l) ∧ u.mgmt.pend = s.mgmt.pend
        ∧ (u.part p).st = (if (s.part p).fromUnused then 0 else 2)
        ∧ Logs s u [pack [(56, 0x62), (52, 15), (47, setCode p), (24, f.1), (16, f.2.1), (8, f.2.2)]] ∧ u.mem = s.mem)
  ∧ ∀ (p : Nat) (s : State), p < 16 → (s.part p).st = 1 → (s.part p).filling = true → s.quiet → s.nothingHeld →
    Completes (.poisonFillComplete p) s fun u => (u.part p).st = (if s.partEnable p then 2 else 0)
      ∧ ∀ k ∈ s.toFill p, (u.stk k).lost = 0 ∧ (∀ c, c < 64 → (u.chan (chanKey k c)).lost = 0)
        ∧ ∀ mbn prow col row, mbn / 1024 = k → prow < 32784 → col < 64 → s.logicalRow mbn prow = some row →
          s.isLost mbn row = true → u.dramGet mbn prow col = blankCol

/-! ### Power and temperature (16) -/

/-- The inputs and governors. POWER_GOOD starts a module in STANDBY under START_POLICY 0; the loss of the main input
switches the rails off, empties the stacks and ends the service. The slew governor's duty moves a step towards what
fits, never below 1 or above 16. With no throttle and no JM mode the governor's tick moves PLIM_EFF towards its limit,
25 W down or 10 W up at most; a decided clock step takes effect, and the grace time's end enforces the limit. The
values at a start and the state after an input loss are the model's (log entries 22, 23). -/
def Obligations.PowerInputsAndGovernors : Prop :=
  (∀ s : State, Completes .hotswapConduct s fun u => u = { s with power := { s.power with conduct := true } })
  ∧ (∀ s : State, s.power.conduct = true → s.power.good = false →
    let starts := s.power.aux = true ∧ s.odNat 0x8060 2 = 0 ∧ s.crust.svc = .standby ∧ s.crust.modReset = false
      ∧ s.crust.startHeld = false
    (starts → Completes .powerGood s fun u => u.power.good = true ∧ u.power.main = true ∧ u.crust.svc = .starting
      ∧ u.power.freqs = [33, 33, 33, 33] ∧ u.power.slewD = 16 ∧ u.power.govD = 16 ∧ u.power.plim = s.limitL ∧ DramSame s u
      ∧ { u with power := s.power, crust := s.crust, mem := s.mem, trust := s.trust } = s)
    ∧ (¬ starts → Completes .powerGood s fun u => u = { s with power := { s.power with good := true } }))
  ∧ (∀ s : State, s.power.conduct = false ∨ s.power.good = true → Completes .powerGood s fun u => u = s)
  ∧ (∀ i ∈ [Instr.inputLoss, .inputOv], ∀ s : State, s.power.conduct = true →
    (s.power.aux = false → Completes i s fun u => u.power.main = false ∧ u.power.conduct = false ∧ u.power.good = false
      ∧ { u with power := s.power } = s)
    ∧ (s.power.aux = true → Completes i s fun u => u.power.main = false ∧ u.power.conduct = false ∧ u.power.good = false ∧ u.mem.dram = []
      ∧ u.clusters = [] ∧ s.crust.logSeq < u.crust.logSeq
      ∧ u.crust.svc = (if s.therm.stopStep = 2 ∨ s.crust.svc = .recovery then .recovery
        else if s.crust.svc = .test then .test else .standby)))
  ∧ (∀ (mA mV fit mJ : Nat) (s : State), s.power.main = true →
    let f := max 1 (min 16 fit)
    let d := s.power.slewD
    Completes (.slewInterval mA mV fit mJ) s fun u =>
      u.power = { s.power with
        slewD := if d < f then d + 1 else if f < d then d - 1 else d
        mA := mA
        mV := mV }
      ∧ u.ctr 0x7000 0xC = (s.ctr 0x7000 0xC + mJ) % 2 ^ 64
      ∧ u.ctr 0x7000 0xB = (if u.power.slewD < 16 then (s.ctr 0x7000 0xB + 1) % 2 ^ 64 else s.ctr 0x7000 0xB)
      ∧ { u with power := s.power, mgmt := s.mgmt } = s)
  ∧ (∀ (m : GovMeas) (s : State), s.power.main = true → s.therm.stopStep = 0 →
    Completes (.governorTick m) s fun u => u.power.watts = m.avg10ms ∧ u.power.lSeen = s.limitL
      ∧ u.power.freqs = s.power.freqs ∧ u.power.slewD = s.power.slewD
      ∧ (∀ k, s.fitted k = true → u.ctr (0x7020 + k) 2 = m.stackPower.getD k 0 % 2 ^ 64) ∧ DramSame s u
      ∧ { u with
        power := s.power, therm := s.therm, mgmt := s.mgmt, mem := s.mem, cxl := s.cxl, crust := s.crust } = s)
  ∧ (∀ (m : GovMeas) (s : State), s.power.main = false ∨ s.therm.stopStep ≠ 0 →
    Completes (.governorTick m) s fun u => u = s)
  ∧ (∀ (m : GovMeas) (s : State), s.power.main = true → s.therm.stopStep = 0 → s.power.jmState = 0 →
    s.odNat 0x7001 1 = 0 → s.throttled = [] →
    Completes (.governorTick m) s fun u =>
      u.power.plim = (if s.limitL < s.power.plim then max s.limitL (s.power.plim - 25)
        else min s.limitL (s.power.plim + 10))
      ∧ (m.avg1ms ≤ u.power.plim → m.admits = false →
        u.power.reds = s.power.reds ∧ u.power.govD = s.power.govD ∧ u.power.pendStep = s.power.pendStep)
      ∧ (u.power.plim < m.avg1ms → s.power.reds.length ≤ u.power.reds.length))
  ∧ (∀ s : State, s.power.jmState = 1 → Completes .jmGraceExpiry s fun u =>
    u.power = { s.power with jmState := 2 } ∧ u.crust.logSeq = s.crust.logSeq + 1
      ∧ { u with power := s.power, crust := s.crust } = s)
  ∧ ∀ (die : Nat) (x : Nat × Nat) (s : State), die < 4 → s.power.pendStep.find? (fun y => y.1 == die) = some x →
    Completes (.clockStepEffect die) s fun u =>
      u = { s with power := { s.power with freqs := s.power.freqs.set die x.2, pendStep := s.power.pendStep.erase x } }

/-- Readings below 80 °C of a group whose sensors are valid are what the sensors hold, and stop nothing; a raw value
out of range makes its sensor faulty. The orderly stop ends in RECOVERY, with the stacks in self-refresh and, where
nothing was still to be written, their contents the same; when the predicted time passes first, and at a crossing with
less than 20 ms left, it is a thermal cut, which loses them. A stack that stays critical loses power. Each trim moves
an I/O die's oscillator by at most 0.05 ppm and leaves it within 20 ppm of nominal. The predicted time is an operand
and a trim's size a free value (log entries 65, 149). -/
def Obligations.TemperatureAndOrderlyStop : Prop :=
  (∀ (grp : Nat) (rs : List SensorRaw) (tp : Option Nat) (s : State), grp ≤ 50 →
    s.sensorFitted (groupSensors grp).1 = true → sensorGroup (groupSensors grp).1 = grp → s.power.aux = true →
    s.sensorPowered (groupSensors grp).1 = true → rs.length = (groupSensors grp).2 →
    (∀ n ∈ groupList grp, (s.sensor n).st = 1) →
    (∀ r ∈ rs, rawBad r = false → r.mC < 80000 ∧ (grp = 48 → r.mC < 45000)) →
    Completes (.sensorRead grp rs tp) s fun u => u.crust.svc = s.crust.svc
      ∧ u.therm.stopStep = s.therm.stopStep ∧ u.clusters = s.clusters
      ∧ ∀ i r, rs[i]? = some r →
        let x := s.sensor ((groupSensors grp).1 + i)
        let y := u.sensor ((groupSensors grp).1 + i)
        y.code = r.code ∧ y.mC = (if rawBad r then x.mC else r.mC)
          ∧ (rawBad r = true → y.st = 2 ∧ s.crust.logSeq < u.crust.logSeq))
  ∧ (∀ s : State, s.therm.stopStep = 2 → s.power.main = true →
    (Completes .drainWindowExpiry s fun u => u.crust.svc = .recovery ∧ u.power.main = false ∧ u.therm.stopStep = 5
      ∧ u.clusters = [])
    ∧ (s.mem.reqs = [] → s.quiet → s.nothingHeld → Completes .drainWindowExpiry s fun u => u.mem.dram = s.mem.dram
      ∧ ∀ k c, s.fitted k = true → (s.stk k).unpowered = false → c < 64 →
        (u.chan (chanKey k c)).sr = true ∧ (u.stk k).lost = (s.stk k).lost))
  ∧ (∀ s : State, s.therm.stopStep ≠ 2 → (Completes .drainWindowExpiry s fun u => u = s)
    ∧ Completes .tpElapsed s fun u => u = s)
  ∧ (∀ s : State, s.therm.stopStep = 2 → s.therm.tp.isNone = false → Completes .tpElapsed s fun u =>
    u.crust.svc = .recovery ∧ u.power.main = false ∧ u.therm.alert = true ∧ u.therm.stopStep = 0 ∧ u.mem.dram = []
      ∧ s.crust.logSeq < u.crust.logSeq)
  ∧ (∀ (g n t : Nat) (hot : Int) (s : State), s.therm.stopStep = 0 → t < 20000 →
    let u := s.crossing g n hot (some t) true
    u.crust.svc = .recovery ∧ u.power.main = false ∧ u.therm.alert = true ∧ u.mem.dram = [])
  ∧ (∀ (stk : Nat) (s : State), s.fitted stk = true → s.therm.stopStep = 5 → (s.stk stk).unpowered = false →
    criticalAt 16 ≤ (s.hottest true (16 + stk)).1 → s.anyValid (16 + stk) = true →
    Completes (.stackCriticalHoldExpiry stk) s fun u => (u.stk stk).unpowered = true ∧ (u.stk stk).lost = 0xFF
      ∧ (∀ mbn row col, row < 32784 → col < 64 →
        u.dramGet mbn row col = if mbn / 1024 = stk then blankCol else s.dramGet mbn row col)
      ∧ (∀ k, k ≠ stk → u.stk k = s.stk k) ∧ OnlyMem s u)
  ∧ ∀ s : State, s.power.main = true →
    Completes .oscTrim s fun u => (∀ d, d < s.build.ioDies → -2000 ≤ u.osc d ∧ u.osc d ≤ 2000
        ∧ (-2000 ≤ s.osc d → s.osc d ≤ 2000 → u.osc d - s.osc d ≤ 5 ∧ s.osc d - u.osc d ≤ 5))
      ∧ (∀ d, s.build.ioDies ≤ d → u.osc d = s.osc d) ∧ u.therm.trims = s.therm.trims + 1
      ∧ { u.therm with osc := s.therm.osc, trims := s.therm.trims } = s.therm
      ∧ { u with therm := s.therm, free := s.free } = s

/-! ### Starts, resets, firmware and test (17) -/

/-- A crust start, for whichever reason, counts a boot, records the reason, begins its time anew and leaves no
session, no cluster and no contents; the delivered image in an ACTIVE slot boots. A cold start whose entropy source
fails does not bring the crust up. Losing auxiliary power stops the crust. The delivered image, the log's numbers and
the operand for the entropy source are the model's (log entries 9, 25, 146). -/
def Obligations.CrustStarts : Prop :=
  (∀ (straps : BitVec 24) (s : State), s.power.aux = false → Completes (.coldStart straps true) s fun u =>
    u.power.aux = true ∧ u.crust.boot = (s.crust.boot + 1) % 2 ^ 32 ∧ u.crust.lastReset = 1 ∧ u.crust.time = 0
      ∧ u.crust.straps = straps ∧ u.mgmt.sessions = [] ∧ u.mem.dram = [] ∧ u.clusters = []
      ∧ (s.trust.upd = 0 → (s.slot 0).st = 3 → (s.slot 0).img = [] → s.trust.fuseSvn ≤ (s.slot 0).svn →
        (s.slot 1).st = 0 → u.trust.running = 0 ∧ u.trust.starter = false ∧ u.crust.svc ≠ .recovery))
  ∧ (∀ (straps : BitVec 24) (healthy : Bool) (s : State), s.power.aux = true ∨ healthy = false →
    Completes (.coldStart straps healthy) s fun u => u = s)
  ∧ (∀ i ∈ crustFaults.map Prod.fst ++ [Instr.auxiliaryPowerLoss], ∀ s : State, s.power.aux = false →
    Completes i s fun u => u = s)
  ∧ (∀ p ∈ crustFaults, ∀ s : State, s.power.aux = true → Completes p.1 s fun u =>
    u.power.aux = true ∧ u.crust.boot = (s.crust.boot + 1) % 2 ^ 32 ∧ u.crust.lastReset = p.2 ∧ u.crust.time = 0
      ∧ u.crust.straps = s.crust.straps ∧ u.mgmt.sessions = [] ∧ u.mem.dram = [] ∧ u.clusters = [])
  ∧ (∀ (a : Acc) (s : State), Takes s a 0x8060 1 3 → Completes (.crustReset a) s fun u =>
    Told s u a 0x8060 1 0 ∧ u.crust.boot = (s.crust.boot + 1) % 2 ^ 32 ∧ u.crust.lastReset = 2 ∧ u.crust.time = 0
      ∧ u.mgmt.sessions = [] ∧ u.mem.dram = [] ∧ u.clusters = [] ∧ s.crust.logSeq < u.crust.logSeq)
  ∧ ∀ s : State, s.power.aux = true → Completes .auxiliaryPowerLoss s fun u =>
    u.power.aux = false ∧ u.power.main = false ∧ u.crust.svc = .standby ∧ u.crust.boot = s.crust.boot
      ∧ u.mgmt.sessions = [] ∧ u.mem.dram = [] ∧ u.clusters = [] ∧ u.mgmt.nv = s.mgmt.nv

/-- A module reset counts, leaves the crust running and loses the contents of the stacks; a preserving reset keeps
them and is refused where it may not be made. Each starts the module again under START_POLICY 0. MOD_RESET_N holds the
main domains in reset. START begins a start in STANDBY; training ends it in SERVICE, with the stacks that failed
fenced, a new incarnation, and every channel's LFSR seeded with a value that is not 0; a failure ends it in STANDBY,
where the next start waits to be asked for. Where a reset ends, a draw of 0, and what ends that wait are the model's
readings (log entries 5, 77, 139). -/
def Obligations.ModuleResetsAndStarts : Prop :=
  (∀ (a : Acc) (s : State), Takes s a 0x8060 1 1 → s.trust.starter = false → Completes (.moduleReset a) s fun u =>
    Told s u a 0x8060 1 0 ∧ u.crust.resets = s.crust.resets + 1 ∧ u.crust.boot = s.crust.boot ∧ u.mem.dram = []
      ∧ u.clusters = [] ∧ u.crust.resetting = 1
      ∧ u.crust.svc = (if u.odNat 0x8060 2 = 0 ∧ s.mayStart = true then .starting else .standby))
  ∧ (∀ (a : Acc) (s : State), Takes s a 0x8060 1 2 → s.trust.starter = false →
    (s.mayPreserve = true → Completes (.preservingReset a) s fun u => Told s u a 0x8060 1 0
      ∧ u.crust.resets = s.crust.resets + 1 ∧ u.mem.dram = s.mem.dram ∧ u.clusters = [] ∧ u.crust.resetting = 2)
    ∧ (s.mayPreserve = false → Completes (.preservingReset a) s fun u => Told s u a 0x8060 1 7 ∧ OnlyMgmt s u))
  ∧ (∀ (a : Acc) (s : State), s.trust.starter = true →
    (Takes s a 0x8060 1 1 → Completes (.moduleReset a) s fun u => Told s u a 0x8060 1 7 ∧ OnlyMgmt s u)
    ∧ (Takes s a 0x8060 1 2 → Completes (.preservingReset a) s fun u => Told s u a 0x8060 1 7 ∧ OnlyMgmt s u))
  ∧ (∀ s : State, s.crust.modReset = false →
    (s.power.aux = true → s.trust.starter = false → s.crust.svc ≠ .standby → Completes .modResetNAssert s fun u =>
      u.crust.modReset = true ∧ u.crust.svc = .standby ∧ u.power.main = false ∧ u.mem.dram = [] ∧ u.clusters = []
        ∧ (s.crust.svc ≠ .starting → u.crust.resets = s.crust.resets + 1))
    ∧ (s.power.aux = false ∨ s.trust.starter = true ∨ s.crust.svc = .standby → Completes .modResetNAssert s fun u =>
      u = { s with crust := { s.crust with modReset := true } }))
  ∧ (∀ s : State, (s.crust.modReset = true → Completes .modResetNAssert s fun u => u = s)
    ∧ (s.crust.modReset = false → Completes .modResetNRelease s fun u => u = s))
  ∧ (∀ s : State, s.crust.modReset = true →
    let starts := s.power.aux = true ∧ s.odNat 0x8060 2 = 0 ∧ s.crust.svc = .standby ∧ s.power.good = true
      ∧ s.crust.startHeld = false
    (starts → Completes .modResetNRelease s fun u => u.crust.modReset = false ∧ u.crust.svc = .starting
      ∧ u.power.main = true)
    ∧ (¬ starts → Completes .modResetNRelease s fun u => u = { s with crust := { s.crust with modReset := false } }))
  ∧ (∀ (a : Acc) (s : State), Takes s a 0x8060 3 1 →
    (s.crust.svc = .standby ∧ s.mayStart = true → Completes (.start a 1) s fun u => Told s u a 0x8060 3 0
      ∧ u.crust.svc = .starting ∧ u.power.main = true)
    ∧ (s.crust.svc ≠ .standby ∨ s.mayStart = false → Completes (.start a 1) s fun u =>
      Told s u a 0x8060 3 0 ∧ u.crust = { s.crust with startHeld := false }
        ∧ { u with mgmt := s.mgmt, crust := s.crust } = s))
  ∧ (∀ (failed : BitVec 16) (s : State), s.crust.svc = .starting → s.power.main = true →
    Completes (.trainingComplete failed) s fun u => u.crust.svc = .service
      ∧ u.mem.fenced = failed &&& s.build.fitted ∧ u.fab.incarnation ≠ 0 ∧ u.ctr 0x6000 0xB = 0
      ∧ (∀ k c, s.fitted k = true → c < 64 → (u.chan (chanKey k c)).lfsr ≠ 0) ∧ DramSame s u)
  ∧ ∀ (step which : Nat) (s : State), s.crust.svc = .starting → Completes (.startFail step which) s fun u =>
    u.crust.svc = .standby ∧ u.power.main = false ∧ u.mem.dram = [] ∧ u.clusters = [] ∧ u.crust.startHeld = true
      ∧ s.crust.logSeq < u.crust.logSeq

/-- FW_COMMIT begins the verification of the staged slot, which becomes TRIAL when its image is bootable and INVALID
otherwise; FW_CONFIRM makes a running TRIAL slot ACTIVE and raises the security-version fuse. A nonce starts a report
and ATTEST_REPORT_READY makes it readable. TEST_UNLOCK enters TEST when it is accepted, clearing lock 15. The
delivered image and the cryptographic functions are the model's (log entries 9, 16). -/
def Obligations.FirmwareAndAttestation : Prop :=
  (∀ (a : Acc) (s : State), Takes s a 0x8050 7 1 →
    (s.trust.upd ≠ 1 → s.trust.upd ≠ 2 → Completes (.fwCommit a 1) s fun u => Told s u a 0x8050 7 0
      ∧ u.trust = { s.trust with upd := 2 } ∧ { u with trust := s.trust, mgmt := s.mgmt } = s)
    ∧ (s.trust.upd = 1 ∨ s.trust.upd = 2 → Completes (.fwCommit a 1) s fun u =>
      Told s u a 0x8050 7 7 ∧ OnlyMgmt s u))
  ∧ (∀ s : State, s.trust.upd = 2 → s.trust.slots.length = 2 → s.trust.running < 2 →
    Completes .fwVerifyComplete s fun u =>
      (if s.imgOk (s.slot s.otherSlot).img then (u.slot s.otherSlot).st = 2 ∧ u.trust.upd = 3
        else (u.slot s.otherSlot).st = 4 ∧ u.trust.upd = 4)
        ∧ (u.slot s.otherSlot).img = (s.slot s.otherSlot).img ∧ u.slot s.trust.running = s.slot s.trust.running
        ∧ u.crust.logSeq = s.crust.logSeq + 1 ∧ u.mem = s.mem)
  ∧ (∀ (a : Acc) (s : State), Takes s a 0x8050 8 1 → s.trust.slots.length = 2 → s.trust.running < 2 →
    ((s.slot s.trust.running).st = 2 → Completes (.fwConfirm a 1) s fun u => Told s u a 0x8050 8 0
      ∧ (u.slot s.trust.running).st = 3
      ∧ u.trust.fuseSvn = max s.trust.fuseSvn (s.slot s.trust.running).svn
      ∧ u.trust.running = s.trust.running ∧ u.mem = s.mem)
    ∧ ((s.slot s.trust.running).st ≠ 2 → Completes (.fwConfirm a 1) s fun u => Told s u a 0x8050 8 7 ∧ OnlyMgmt s u))
  ∧ (∀ (a : Acc) (b : Bytes) (s : State), s.pathFitted a.path = true → s.accOn a = true →
    s.preStatus a.path 0x8020 4 true 0 (some b) = 0 → Completes (.attestNonce a b) s fun u =>
      Told s u a 0x8020 4 0 ∧ u.trust = { s.trust with nonce := b, attSt := 1 }
        ∧ { u with trust := s.trust, mgmt := s.mgmt } = s)
  ∧ (∀ s : State, s.trust.joinNonce = none → s.trust.attSt = 1 → Completes .attestReportReady s fun u =>
    u = { s with trust := { s.trust with report := s.report s.trust.nonce, attSt := 2 } })
  ∧ (∀ s : State, s.trust.joinNonce = none → s.trust.attSt ≠ 1 → Completes .attestReportReady s fun u => u = s)
  ∧ (∀ (s : State) (b : Bytes), s.trust.joinNonce = some b →
    let s1 : State := { s with trust := { s.trust with joinNonce := none } }
    let k := max 1 (((s1.report b).length + 4095) / 4096)
    (s.allUp = [] → Completes .attestReportReady s fun u => u = s1)
    ∧ (∀ p, s.allUp.head? = some p → (s.port p).paused = 0 → Completes .attestReportReady s fun u =>
      u.fab.sent.drop k = s.fab.sent ∧ (∀ x ∈ u.fab.sent.take k, x.1 = p ∧ x.2.op = 0x22)
        ∧ { u.fab with sent := s.fab.sent } = s.fab ∧ { u with fab := s.fab, mgmt := s.mgmt, free := s.free } = s1))
  ∧ ∀ (a : Acc) (b : Bytes) (s : State), s.pathFitted a.path = true → s.accOn a = true →
    s.preStatus a.path 0x8080 1 true 0 (some b) = 0 → Completes (.testUnlock a b) s fun u =>
      if s.unlockOk ((6 ≤ a.path && a.path ≤ 10) && s.roleOf a.path == 0) b then
        Told s u a 0x8080 1 0 ∧ u.crust.svc = .test ∧ u.trust.tested = true ∧ u.locks = s.locks % 2 ^ 15
      else Told s u a 0x8080 1 7 ∧ OnlyMgmt s u

/-- The commands of the test state: power levels, memory and tile tests that need their level and answer a result, a
port's pattern generator with its count, and the seeds of stochastic rounding. The results of a memory test are free
values (log entry 81). -/
def Obligations.TestCommandsAndSeeds : Prop :=
  (∀ (a : Acc) (v : Word) (s : State), Takes s a 0xF000 1 v →
    (v = 0 → Completes (.testPower a v) s fun u => u.power.main = false ∧ u.test.step = 0 ∧ u.test.power = 0
      ∧ u.mem.dram = [] ∧ u.crust.svc = s.crust.svc)
    ∧ (v = 1 ∨ v = 2 → Completes (.testPower a v) s fun u => u.test.power = v.toNat
      ∧ (s.power.main = false → s.mayStart = true → u.power.main = true ∧ u.test.step = 0)
      ∧ (s.power.main = true ∨ s.mayStart = false → u.power = s.power ∧ u.mem = s.mem) ∧ u.crust.svc = s.crust.svc))
  ∧ (∀ (level : Nat) (s : State), s.crust.svc = .test → s.power.main = true →
    level = 15 ∨ (1 ≤ level ∧ level ≤ s.test.power + 1) →
    Completes (.testPowerLevelReached level) s fun u => u.test = { s.test with step := level }
      ∧ u.power = s.power ∧ u.crust = s.crust ∧ DramSame s u)
  ∧ (∀ (a : Acc) (stk : Nat) (v : Word) (s : State), s.fitted stk = true → Takes s a (0xF010 + stk) 1 v →
    (Word.bit v 0 = true → s.testAt 2 = true → Completes (.mtestCtrl a stk v) s fun u =>
      Told s u a (0xF010 + stk) 1 0 ∧ Tab.get 0 u.test.mtest stk = 1
        ∧ Tab.find u.test.patt stk = some (Word.bits v 7 4, Word.bits v 15 8) ∧ u.mem = s.mem)
    ∧ (Word.bit v 0 = true → s.testAt 2 = false → Completes (.mtestCtrl a stk v) s fun u =>
      Told s u a (0xF010 + stk) 1 7 ∧ OnlyMgmt s u)
    ∧ (Word.bit v 0 = false → Completes (.mtestCtrl a stk v) s fun u =>
      Told s u a (0xF010 + stk) 1 0 ∧ OnlyMgmt s u))
  ∧ (∀ (stk : Nat) (s : State), s.fitted stk = true → Tab.get 0 s.test.mtest stk = 1 →
    Completes (.mtestComplete stk) s fun u =>
      Tab.get 0 u.test.mtest stk = (if u.ctr (0xF010 + stk) 3 = 0 then 2 else 3)
        ∧ (u.ctr (0xF010 + stk) 3 = 0 → u.ctr (0xF010 + stk) 4 = 0)
        ∧ (u.ctr (0xF010 + stk) 3 ≠ 0 → u.ctr (0xF010 + stk) 4 / 2 ^ 37 = stk ∧ u.ctr (0xF010 + stk) 4 % 64 = 0)
        ∧ u.ctr (0xF010 + stk) 3 ≤ 2 ^ 31 ∧ u.mem = s.mem)
  ∧ (∀ (a : Acc) (v : Word) (s : State), Takes s a 0xF100 1 v →
    (Word.bit v 8 = true → s.testAt 1 = true → Completes (.tileBist a v) s fun u => Told s u a 0xF100 1 0
      ∧ u.test = { s.test with bist := 1, bistTile := Word.bits v 7 0 })
    ∧ (Word.bit v 8 = true → s.testAt 1 = false → Completes (.tileBist a v) s fun u =>
      Told s u a 0xF100 1 7 ∧ OnlyMgmt s u)
    ∧ (Word.bit v 8 = false → Completes (.tileBist a v) s fun u => Told s u a 0xF100 1 0 ∧ OnlyMgmt s u))
  ∧ (∀ (passed : Bool) (s : State), s.test.bist = 1 → Completes (.tileBistComplete passed) s fun u =>
    u = { s with test := { s.test with
      bist := if s.tilePresent s.test.bistTile = false then 4 else if passed then 2 else 3 } })
  ∧ (∀ (a : Acc) (n : Nat) (v : Word) (s : State), s.ethFitted n = true → Takes s a (0xF200 + n) 2 v →
    Completes (.portPrbs a n v) s fun u => u.odVal (0xF200 + n) 2 = v
      ∧ u.ctr (0xF200 + n) 3 = (if v = 1 then 0 else s.ctr (0xF200 + n) 3) ∧ OnlyMgmt s u)
  ∧ ∀ (a : Acc) (engines : Bool) (v : Word) (s : State),
    let i := if engines then 0x5000 else 0x4000
    (Takes s a i 4 v → Completes (.srSeedMode a engines v) s fun u => u.odVal i 4 = v
      ∧ (engines = false → (∀ b, (u.bank b).rnd = none) ∧ u.clusters = s.clusters)
      ∧ (engines = true → (∀ c, (u.cluster c).vecRnd = none) ∧ u.mem = s.mem) ∧ DramSame s u)
    ∧ (Takes s a i 5 v → Completes (.srSeed a engines v) s fun u => u.odVal i 5 = v
      ∧ (engines = false → (∀ b, (u.bank b).rnd = none) ∧ u.clusters = s.clusters)
      ∧ (engines = true → (∀ c, (u.cluster c).vecRnd = none) ∧ u.mem = s.mem) ∧ DramSame s u)

/-! ### Sessions and messages (15, 17) -/

/-- A READ or a WRITE message of a session with one item is carried out when its tag and its SEQ are right, and its
result, tagged, is kept and sent to the sender; a malformed one is answered with an error; the same SEQ again has the
kept result sent once more and does nothing else; a message whose tag is wrong is counted and has no other effect on
entries. What refreshes and counts in a session is the model's reading (log entry 86). -/
def Obligations.CrumbMessages : Prop :=
  ∀ (path : Nat) (m : CrumbMsg) (s : State) (x : Session), 6 ≤ path → path ≤ 10 → s.servesPath path m.via = true →
    s.session path = some x → Word.bits m.h0 63 56 = 1 → msgSid m.h0 = x.sid →
    (m.tag = sessionTag x.key (crumbBytes m) →
      (∀ w, Word.bits m.h0 55 48 = 1 → seqAfter (msgSeq m.h1) x.seq = true → Word.bits m.h0 47 40 = 0 →
        crumbFormed m 1 [w] = true → m.items = [w] → isWinEntry (Word.bits w 63 48) = false →
        let st := s.readStatus path (Word.bits w 63 48) (Word.bits w 47 40)
        Completes (.crumbRead path m) s fun u => ∃ r : CrumbMsg, u.mgmt.outs = .crumb path r :: s.mgmt.outs
          ∧ r.via = m.via.back ∧ r.h0 = crumbH0 0x81 0 1 x.sid ∧ r.h1 = pack [(32, msgSeq m.h1)]
          ∧ r.items = [s.itemWord w st, if st = 0 then s.odSlot (Word.bits w 63 48) (Word.bits w 47 40) else 0]
          ∧ r.tag = sessionTag x.key (crumbBytes r) ∧ u.session path = some { x with
            seq := msgSeq m.h1
            last := s.crust.time
            stored := some r }
          ∧ u.mgmt.od = s.mgmt.od)
      ∧ (∀ w v, Word.bits m.h0 55 48 = 2 → seqAfter (msgSeq m.h1) x.seq = true → Word.bits m.h0 47 40 = 0 →
        crumbFormed m 2 [w] = true → m.items = [w, v] →
        let i := Word.bits w 63 48
        let j := Word.bits w 47 40
        isWinEntry i = false → i ≠ 0x3000 → Word.bits w 39 36 = s.odType i j → s.preStatus path i j true v none = 0 →
        ∀ e, s.odRow i j = some e → e.cls = 0 → s.actIdent path i j (s.stored e i j v) = none →
        Completes (.crumbWrite path m) s fun u => u.odVal i j = s.stored e i j v
          ∧ (∃ r : CrumbMsg, u.mgmt.outs = .crumb path r :: s.mgmt.outs ∧ r.via = m.via.back ∧ r.h0 = crumbH0 0x82 0 1 x.sid
            ∧ r.items = [s.itemWord w 0] ∧ r.tag = sessionTag x.key (crumbBytes r)
            ∧ (u.session path).bind Session.stored = some r)
          ∧ (u.session path).map Session.seq = some (msgSeq m.h1))
      ∧ (∀ p ∈ [((1, 1), Instr.crumbRead path m, m.items), ((2, 2), .crumbWrite path m, (crumbPairs m.items).map Prod.fst)],
        Word.bits m.h0 55 48 = p.1.1 → seqAfter (msgSeq m.h1) x.seq = true →
        crumbFormed m p.1.2 p.2.2 = false ∨ Word.bits m.h0 47 40 ≠ 0 → Completes p.2.1 s fun u =>
          ∃ r : CrumbMsg, u.mgmt.outs = .crumb path r :: s.mgmt.outs ∧ r.via = m.via.back ∧ r.h0 = crumbH0 (0x80 + p.1.1) 1 0 x.sid
            ∧ r.items = [] ∧ r.tag = sessionTag x.key (crumbBytes r) ∧ u.mgmt.od = s.mgmt.od ∧ OnlyMgmt s u)
      ∧ (∀ r, msgSeq m.h1 = x.seq → x.stored = some r →
        (Word.bits m.h0 55 48 = 1 → Completes (.crumbRead path m) s fun u =>
          u.mgmt.outs = .crumb path { r with via := m.via.back } :: s.mgmt.outs ∧ u.mgmt.od = s.mgmt.od ∧ OnlyMgmt s u)
        ∧ (Word.bits m.h0 55 48 = 2 → Completes (.crumbWrite path m) s fun u =>
          u.mgmt.outs = .crumb path { r with via := m.via.back } :: s.mgmt.outs ∧ u.mgmt.od = s.mgmt.od ∧ OnlyMgmt s u)))
    ∧ (m.tag ≠ sessionTag x.key (crumbBytes m) →
      (Word.bits m.h0 55 48 = 1 → Completes (.crumbRead path m) s fun u => u.mgmt.outs = s.mgmt.outs
        ∧ u.mgmt.sessions = s.mgmt.sessions ∧ u.ctr 0x8040 2 = (s.ctr 0x8040 2 + 1) % 2 ^ 64)
      ∧ (Word.bits m.h0 55 48 = 2 → Completes (.crumbWrite path m) s fun u => u.mgmt.outs = s.mgmt.outs
        ∧ u.mgmt.sessions = s.mgmt.sessions ∧ u.ctr 0x8040 2 = (s.ctr 0x8040 2 + 1) % 2 ^ 64))

/-- The handshake. HELLO is refused with the first reason that holds and otherwise answered CHALLENGE, tagged under
the role's secret; a CONFIRM under the session's key opens the session; a wrong tag is counted and opens nothing. A
message that the module does not accept (without a valid PLCA_NODE_ID nothing is heard on crumb, a datagram to another
address or port, an MCTP message of another type or vendor) changes nothing. CLOSE and the idle time end a session,
time ends a challenge, and the rate limit ends. The order of the reasons to refuse is the model's reading (log entry
85). -/
def Obligations.SessionHandshake : Prop :=
  (∀ (mctp : Bool) (m : SessMsg) (s : State), s.power.aux = true → s.accepts mctp m.via = true → sessFormed m 0x10 = true →
    msgSid m.h0 = 0 → (mctp = true ∨ s.trust.starter = false) →
    let served := if mctp then s.mctpOn else s.crumbOn
    (served = false → Completes (.hello mctp m) s fun u => u = s.refuse mctp m 4)
    ∧ (served = true → (s.auth mctp).limited.isNone = false → Completes (.hello mctp m) s fun u => u = s.refuse mctp m 5)
    ∧ (served = true → (s.auth mctp).limited = none →
      (s.roleSecret mctp (sessRole m) = none → Completes (.hello mctp m) s fun u => u = s.refuse mctp m 2)
      ∧ ∀ k, s.roleSecret mctp (sessRole m) = some k →
        (m.tag ≠ Config.kmac256 k (sessBytes m) tagHello 32 → Completes (.hello mctp m) s fun u =>
          u.mgmt.outs = (s.refuse mctp m 3).mgmt.outs ∧ u.mgmt.chals = s.mgmt.chals
            ∧ u.mgmt.sessions = s.mgmt.sessions ∧ u.ctr 0x8040 2 = (s.ctr 0x8040 2 + 1) % 2 ^ 64)
        ∧ (m.tag = Config.kmac256 k (sessBytes m) tagHello 32 →
          (s.sessionsFull mctp = true → Completes (.hello mctp m) s fun u => u = s.refuse mctp m 1)
          ∧ (s.sessionsFull mctp = false → Completes (.hello mctp m) s fun u => ∃ (r : SessMsg) (c : Chal),
            u.mgmt.outs = .sess mctp r :: s.mgmt.outs ∧ r.via = m.via.back ∧ c ∈ u.mgmt.chals ∧ c.sid ≠ 0 ∧ r.h0 = crumbH0 0x11 0 0 c.sid
              ∧ c.mctp = mctp ∧ c.role = sessRole m ∧ c.nc = sessNonce m
              ∧ r.tag = Config.kmac256 k (sessBytes r ++ sessNonce m) tagChallenge 32
              ∧ u.mgmt.sessions = s.mgmt.sessions))))
  ∧ (∀ (mctp : Bool) (m : SessMsg) (s : State) (c : Chal) (k : Bytes), (if mctp then s.mctpOn else s.crumbOn) = true →
    s.accepts mctp m.via = true → sessFormed m 0x12 = true → msgSeq m.h1 = 1 →
    s.mgmt.chals.find? (fun c => c.sid == msgSid m.h0 && c.mctp == mctp) = some c → s.roleSecret mctp c.role = some k →
    let key := Config.kmac256 k (c.nc ++ c.nm ++ leBytes 4 c.sid ++ [BitVec.ofNat 8 c.role]) tagSession 32
    (m.tag = sessionTag key (sessBytes m) → s.sessionsFull mctp = true → Completes (.confirm mctp m) s fun u =>
      u = s.refuse mctp m 1)
    ∧ (m.tag = sessionTag key (sessBytes m) → s.sessionsFull mctp = false → Completes (.confirm mctp m) s fun u =>
      u.mgmt.sessions = s.mgmt.sessions ++ [{
          path := s.freePath mctp, role := c.role, sid := c.sid, key := key, seq := 1, last := s.crust.time, stored := none }]
        ∧ (∀ d ∈ u.mgmt.chals, d.sid ≠ c.sid) ∧ u.mgmt.od = s.mgmt.od)
    ∧ (m.tag ≠ sessionTag key (sessBytes m) → Completes (.confirm mctp m) s fun u =>
      u.mgmt.sessions = s.mgmt.sessions ∧ u.mgmt.outs = s.mgmt.outs
        ∧ u.ctr 0x8040 2 = (s.ctr 0x8040 2 + 1) % 2 ^ 64))
  ∧ (∀ (mctp : Bool) (m : SessMsg) (s : State), s.accepts mctp m.via = false →
    (Completes (.hello mctp m) s fun u => u = s) ∧ Completes (.confirm mctp m) s fun u => u = s)
  ∧ (∀ (mctp : Bool) (m : SessMsg) (s : State), (if mctp then s.mctpOn else s.crumbOn) = true → s.accepts mctp m.via = true →
    sessFormed m 0x12 = true → msgSeq m.h1 = 1 →
    s.mgmt.chals.find? (fun c => c.sid == msgSid m.h0 && c.mctp == mctp) = none → Completes (.confirm mctp m) s fun u =>
      u.ctr 0x8040 2 = (s.ctr 0x8040 2 + 1) % 2 ^ 64 ∧ OdKept s u [odKey 0x8040 2] ∧ OnlyMgmt s u)
  ∧ (∀ (path : Nat) (m : SessMsg) (s : State) (x : Session), 6 ≤ path → path ≤ 10 → s.servesPath path m.via = true →
    sessFormed m 0x14 = true → s.session path = some x → msgSid m.h0 = x.sid →
    m.tag ≠ sessionTag x.key (sessBytes m) → Completes (.close path m) s fun u => u.mgmt.sessions = s.mgmt.sessions
      ∧ u.mgmt.outs = s.mgmt.outs ∧ u.ctr 0x8040 2 = (s.ctr 0x8040 2 + 1) % 2 ^ 64)
  ∧ (∀ (path : Nat) (m : SessMsg) (s : State) (x : Session), 6 ≤ path → path ≤ 10 → s.servesPath path m.via = true →
    sessFormed m 0x14 = true → s.session path = some x → msgSid m.h0 = x.sid →
    m.tag = sessionTag x.key (sessBytes m) → seqAfter (msgSeq m.h1) x.seq = true →
    Completes (.close path m) s fun u => u.session path = none ∧ (∀ p, p ≠ path → u.session p = s.session p)
      ∧ u.mgmt.od = s.mgmt.od)
  ∧ (∀ (path : Nat) (s : State) (x : Session), 6 ≤ path → path ≤ 10 → s.power.aux = true → s.session path = some x →
    Completes (.sessionIdleTimeout path) s fun u => u.session path = none
      ∧ (∀ p, p ≠ path → u.session p = s.session p) ∧ u.crust.logSeq = s.crust.logSeq + 1 ∧ u.mgmt.od = s.mgmt.od)
  ∧ (∀ (sid : Nat) (s : State), s.power.aux = true → Completes (.challengeTimeout sid) s fun u =>
    u.mgmt = { s.mgmt with chals := s.mgmt.chals.filter fun c => c.sid != sid } ∧ OnlyMgmt s u)
  ∧ ∀ (mctp : Bool) (s : State), s.power.aux = true → Completes (.authRateLimitEnd mctp) s fun u =>
    (u.auth mctp).limited = none ∧ (u.auth mctp).fails = (s.auth mctp).fails ∧ u.auth (!mctp) = s.auth (!mctp)
      ∧ u.mgmt.sessions = s.mgmt.sessions ∧ OnlyMgmt s u
end

