-- ==== Sys2Proof/Laws/Tab.lean ====
section
/-! SUPPORT. The laws of the sparse tables: what a write reads back as, and that every table operation keeps the
canonical form. -/

namespace Sys2Proof

variable {α : Type}

@[simp] theorem Tab.find_nil (k : Nat) : Tab.find ([] : Tab α) k = none := rfl
@[simp] theorem Tab.get_nil (d : α) (k : Nat) : Tab.get d ([] : Tab α) k = d := rfl

@[simp] theorem Tab.find_put_same (t : Tab α) (k : Nat) (v : α) : Tab.find (Tab.put t k v) k = some v := by
  induction t with
  | nil => simp [Tab.put, Tab.find]
  | cons e t ih =>
    obtain ⟨i, w⟩ := e
    unfold Tab.put
    split
    · simp [Tab.find]
    · split
      · simp [Tab.find]
      · rename_i h; simp [Tab.find, h, ih]

theorem Tab.find_put_ne (t : Tab α) {k j : Nat} (v : α) (h : j ≠ k) :
    Tab.find (Tab.put t k v) j = Tab.find t j := by
  induction t with
  | nil => simp [Tab.put, Tab.find, Ne.symm h]
  | cons e t ih =>
    obtain ⟨i, w⟩ := e
    unfold Tab.put
    split
    · simp [Tab.find, Ne.symm h]
    · split
      · rename_i hk; subst hk; simp [Tab.find, Ne.symm h]
      · simp only [Tab.find, ih]

@[simp] theorem Tab.find_erase_same (t : Tab α) (k : Nat) : Tab.find (Tab.erase t k) k = none := by
  induction t with
  | nil => rfl
  | cons e t ih =>
    obtain ⟨i, w⟩ := e
    unfold Tab.erase
    split
    · exact ih
    · rename_i h; simp [Tab.find, h, ih]

theorem Tab.find_erase_ne (t : Tab α) {k j : Nat} (h : j ≠ k) : Tab.find (Tab.erase t k) j = Tab.find t j := by
  induction t with
  | nil => rfl
  | cons e t ih =>
    obtain ⟨i, w⟩ := e
    unfold Tab.erase
    split
    · rename_i hk; subst hk; simp [Tab.find, Ne.symm h, ih]
    · simp only [Tab.find, ih]

@[simp] theorem Tab.get_put_same (d : α) (t : Tab α) (k : Nat) (v : α) : Tab.get d (Tab.put t k v) k = v := by
  simp [Tab.get]

theorem Tab.get_put_ne (d : α) (t : Tab α) {k j : Nat} (v : α) (h : j ≠ k) :
    Tab.get d (Tab.put t k v) j = Tab.get d t j := by
  simp [Tab.get, Tab.find_put_ne t v h]

@[simp] theorem Tab.get_erase_same (d : α) (t : Tab α) (k : Nat) : Tab.get d (Tab.erase t k) k = d := by
  simp [Tab.get]

theorem Tab.get_erase_ne (d : α) (t : Tab α) {k j : Nat} (h : j ≠ k) :
    Tab.get d (Tab.erase t k) j = Tab.get d t j := by
  simp [Tab.get, Tab.find_erase_ne t h]

/-- A key reads back as the value last written to it. -/
@[simp] theorem Tab.get_set_same [DecidableEq α] (d : α) (t : Tab α) (k : Nat) (v : α) :
    Tab.get d (Tab.set d t k v) k = v := by
  unfold Tab.set; split <;> simp [*]

/-- A write leaves every other key as it was. -/
theorem Tab.get_set_ne [DecidableEq α] (d : α) (t : Tab α) {k j : Nat} (v : α) (h : j ≠ k) :
    Tab.get d (Tab.set d t k v) j = Tab.get d t j := by
  unfold Tab.set
  split
  · exact Tab.get_erase_ne d t h
  · exact Tab.get_put_ne d t v h

theorem Tab.get_set [DecidableEq α] (d : α) (t : Tab α) (k j : Nat) (v : α) :
    Tab.get d (Tab.set d t k v) j = if j = k then v else Tab.get d t j := by
  split
  · subst_vars; simp
  · exact Tab.get_set_ne d t v ‹_›

/-! ### The canonical form -/

/-- Every key of the table is above `n`. -/
def Tab.above (n : Nat) (t : Tab α) : Prop := ∀ e ∈ t, n < e.1

theorem Tab.rising_cons (i : Nat) (v : α) (t : Tab α) :
    Tab.rising ((i, v) :: t) = true ↔ Tab.above i t ∧ Tab.rising t = true := by
  induction t generalizing i v with
  | nil => simp [Tab.rising, Tab.above]
  | cons e t ih =>
    obtain ⟨j, w⟩ := e
    simp only [Tab.rising, Bool.and_eq_true, decide_eq_true_eq, Tab.above, List.mem_cons, forall_eq_or_imp]
    constructor
    · rintro ⟨h, hr⟩
      have := ((ih j w).mp hr).1
      exact ⟨⟨h, fun e he => Nat.lt_trans h (this e he)⟩, hr⟩
    · rintro ⟨⟨h, _⟩, hr⟩; exact ⟨h, hr⟩

theorem Tab.mem_put {t : Tab α} {k : Nat} {v : α} {e : Nat × α} (h : e ∈ Tab.put t k v) : e = (k, v) ∨ e ∈ t := by
  induction t with
  | nil => simpa [Tab.put] using h
  | cons f t ih =>
    obtain ⟨i, w⟩ := f
    unfold Tab.put at h
    split at h
    · simpa using h
    · split at h
      · simp only [List.mem_cons] at h ⊢; tauto
      · simp only [List.mem_cons] at h ⊢
        rcases h with h | h
        · exact .inr (.inl h)
        · rcases ih h with h | h <;> simp [h]

theorem Tab.mem_erase {t : Tab α} {k : Nat} {e : Nat × α} (h : e ∈ Tab.erase t k) : e ∈ t := by
  induction t with
  | nil => exact h
  | cons f t ih =>
    obtain ⟨i, w⟩ := f
    unfold Tab.erase at h
    split at h
    · exact .tail _ (ih h)
    · simp only [List.mem_cons] at h ⊢; exact h.imp id ih

theorem Tab.rising_put {t : Tab α} (k : Nat) (v : α) (h : Tab.rising t = true) :
    Tab.rising (Tab.put t k v) = true := by
  induction t with
  | nil => rfl
  | cons f t ih =>
    obtain ⟨i, w⟩ := f
    have hr := (Tab.rising_cons i w t).mp h
    unfold Tab.put
    split
    · rename_i hk
      refine (Tab.rising_cons k v _).mpr ⟨?_, h⟩
      intro e he
      rcases List.mem_cons.mp he with rfl | he
      · exact hk
      · exact Nat.lt_trans hk (hr.1 e he)
    · split
      · rename_i hk; subst hk; exact (Tab.rising_cons i v t).mpr hr
      · refine (Tab.rising_cons i w _).mpr ⟨?_, ih hr.2⟩
        intro e he
        rcases Tab.mem_put he with rfl | he
        · simp only; omega
        · exact hr.1 e he

theorem Tab.rising_erase {t : Tab α} (k : Nat) (h : Tab.rising t = true) : Tab.rising (Tab.erase t k) = true := by
  induction t with
  | nil => rfl
  | cons f t ih =>
    obtain ⟨i, w⟩ := f
    have hr := (Tab.rising_cons i w t).mp h
    unfold Tab.erase
    split
    · exact ih hr.2
    · exact (Tab.rising_cons i w _).mpr ⟨fun e he => hr.1 e (Tab.mem_erase he), ih hr.2⟩

/-- A write keeps a table in canonical form. -/
theorem Tab.wf_set [DecidableEq α] {d : α} {t : Tab α} (k : Nat) (v : α) (h : Tab.wf d t = true) :
    Tab.wf d (Tab.set d t k v) = true := by
  simp only [Tab.wf, Bool.and_eq_true, List.all_eq_true, decide_eq_true_eq] at h ⊢
  unfold Tab.set
  split
  · exact ⟨Tab.rising_erase k h.1, fun e he => h.2 e (Tab.mem_erase he)⟩
  · rename_i hv
    refine ⟨Tab.rising_put k v h.1, fun e he => ?_⟩
    rcases Tab.mem_put he with rfl | he
    · exact hv
    · exact h.2 e he

end Sys2Proof
end

