-- ==== Sys2Proof/Laws/State.lean ====
section
/-! SUPPORT. What each update of the state leaves in each field, and what the numbered instances read as after an
update. -/

namespace Sys2Proof.Machine

variable (s : State)

@[simp] theorem State.setMem_pending (m : Mem) : (s.setMem m).pending = s.pending := rfl
@[simp] theorem State.setMem_free (m : Mem) : (s.setMem m).free = s.free := rfl
@[simp] theorem State.setMem_build (m : Mem) : (s.setMem m).build = s.build := rfl
@[simp] theorem State.setMem_crust (m : Mem) : (s.setMem m).crust = s.crust := rfl
@[simp] theorem State.setMem_trust (m : Mem) : (s.setMem m).trust = s.trust := rfl
@[simp] theorem State.setMem_test (m : Mem) : (s.setMem m).test = s.test := rfl
@[simp] theorem State.setMem_mgmt (m : Mem) : (s.setMem m).mgmt = s.mgmt := rfl
@[simp] theorem State.setMem_links (m : Mem) : (s.setMem m).links = s.links := rfl
@[simp] theorem State.setMem_mem (m : Mem) : (s.setMem m).mem = m := rfl
@[simp] theorem State.setMem_clusters (m : Mem) : (s.setMem m).clusters = s.clusters := rfl
@[simp] theorem State.setMem_rings (m : Mem) : (s.setMem m).rings = s.rings := rfl
@[simp] theorem State.setMem_arr (m : Mem) : (s.setMem m).arr = s.arr := rfl
@[simp] theorem State.setMem_dumps (m : Mem) : (s.setMem m).dumps = s.dumps := rfl
@[simp] theorem State.setMem_fab (m : Mem) : (s.setMem m).fab = s.fab := rfl
@[simp] theorem State.setMem_place (m : Mem) : (s.setMem m).place = s.place := rfl
@[simp] theorem State.setMem_cxl (m : Mem) : (s.setMem m).cxl = s.cxl := rfl
@[simp] theorem State.setMem_power (m : Mem) : (s.setMem m).power = s.power := rfl
@[simp] theorem State.setMem_therm (m : Mem) : (s.setMem m).therm = s.therm := rfl
@[simp] theorem State.setMem_copies (m : Mem) : (s.setMem m).copies = s.copies := rfl

@[simp] theorem State.setBank_pending (b : Nat) (v : Bank) : (s.setBank b v).pending = s.pending := rfl
@[simp] theorem State.setBank_free (b : Nat) (v : Bank) : (s.setBank b v).free = s.free := rfl
@[simp] theorem State.setBank_build (b : Nat) (v : Bank) : (s.setBank b v).build = s.build := rfl
@[simp] theorem State.setBank_crust (b : Nat) (v : Bank) : (s.setBank b v).crust = s.crust := rfl
@[simp] theorem State.setBank_trust (b : Nat) (v : Bank) : (s.setBank b v).trust = s.trust := rfl
@[simp] theorem State.setBank_test (b : Nat) (v : Bank) : (s.setBank b v).test = s.test := rfl
@[simp] theorem State.setBank_mgmt (b : Nat) (v : Bank) : (s.setBank b v).mgmt = s.mgmt := rfl
@[simp] theorem State.setBank_links (b : Nat) (v : Bank) : (s.setBank b v).links = s.links := rfl
@[simp] theorem State.setBank_mem (b : Nat) (v : Bank) : (s.setBank b v).mem = { s.mem with banks := Tab.set {} s.mem.banks b v } := rfl
@[simp] theorem State.setBank_clusters (b : Nat) (v : Bank) : (s.setBank b v).clusters = s.clusters := rfl
@[simp] theorem State.setBank_rings (b : Nat) (v : Bank) : (s.setBank b v).rings = s.rings := rfl
@[simp] theorem State.setBank_arr (b : Nat) (v : Bank) : (s.setBank b v).arr = s.arr := rfl
@[simp] theorem State.setBank_dumps (b : Nat) (v : Bank) : (s.setBank b v).dumps = s.dumps := rfl
@[simp] theorem State.setBank_fab (b : Nat) (v : Bank) : (s.setBank b v).fab = s.fab := rfl
@[simp] theorem State.setBank_place (b : Nat) (v : Bank) : (s.setBank b v).place = s.place := rfl
@[simp] theorem State.setBank_cxl (b : Nat) (v : Bank) : (s.setBank b v).cxl = s.cxl := rfl
@[simp] theorem State.setBank_power (b : Nat) (v : Bank) : (s.setBank b v).power = s.power := rfl
@[simp] theorem State.setBank_therm (b : Nat) (v : Bank) : (s.setBank b v).therm = s.therm := rfl
@[simp] theorem State.setBank_copies (b : Nat) (v : Bank) : (s.setBank b v).copies = s.copies := rfl

@[simp] theorem State.setChan_pending (k : Nat) (v : Chan) : (s.setChan k v).pending = s.pending := rfl
@[simp] theorem State.setChan_free (k : Nat) (v : Chan) : (s.setChan k v).free = s.free := rfl
@[simp] theorem State.setChan_build (k : Nat) (v : Chan) : (s.setChan k v).build = s.build := rfl
@[simp] theorem State.setChan_crust (k : Nat) (v : Chan) : (s.setChan k v).crust = s.crust := rfl
@[simp] theorem State.setChan_trust (k : Nat) (v : Chan) : (s.setChan k v).trust = s.trust := rfl
@[simp] theorem State.setChan_test (k : Nat) (v : Chan) : (s.setChan k v).test = s.test := rfl
@[simp] theorem State.setChan_mgmt (k : Nat) (v : Chan) : (s.setChan k v).mgmt = s.mgmt := rfl
@[simp] theorem State.setChan_links (k : Nat) (v : Chan) : (s.setChan k v).links = s.links := rfl
@[simp] theorem State.setChan_mem (k : Nat) (v : Chan) : (s.setChan k v).mem = { s.mem with chans := Tab.set {} s.mem.chans k v } := rfl
@[simp] theorem State.setChan_clusters (k : Nat) (v : Chan) : (s.setChan k v).clusters = s.clusters := rfl
@[simp] theorem State.setChan_rings (k : Nat) (v : Chan) : (s.setChan k v).rings = s.rings := rfl
@[simp] theorem State.setChan_arr (k : Nat) (v : Chan) : (s.setChan k v).arr = s.arr := rfl
@[simp] theorem State.setChan_dumps (k : Nat) (v : Chan) : (s.setChan k v).dumps = s.dumps := rfl
@[simp] theorem State.setChan_fab (k : Nat) (v : Chan) : (s.setChan k v).fab = s.fab := rfl
@[simp] theorem State.setChan_place (k : Nat) (v : Chan) : (s.setChan k v).place = s.place := rfl
@[simp] theorem State.setChan_cxl (k : Nat) (v : Chan) : (s.setChan k v).cxl = s.cxl := rfl
@[simp] theorem State.setChan_power (k : Nat) (v : Chan) : (s.setChan k v).power = s.power := rfl
@[simp] theorem State.setChan_therm (k : Nat) (v : Chan) : (s.setChan k v).therm = s.therm := rfl
@[simp] theorem State.setChan_copies (k : Nat) (v : Chan) : (s.setChan k v).copies = s.copies := rfl

@[simp] theorem State.setStk_pending (n : Nat) (v : StackC) : (s.setStk n v).pending = s.pending := rfl
@[simp] theorem State.setStk_free (n : Nat) (v : StackC) : (s.setStk n v).free = s.free := rfl
@[simp] theorem State.setStk_build (n : Nat) (v : StackC) : (s.setStk n v).build = s.build := rfl
@[simp] theorem State.setStk_crust (n : Nat) (v : StackC) : (s.setStk n v).crust = s.crust := rfl
@[simp] theorem State.setStk_trust (n : Nat) (v : StackC) : (s.setStk n v).trust = s.trust := rfl
@[simp] theorem State.setStk_test (n : Nat) (v : StackC) : (s.setStk n v).test = s.test := rfl
@[simp] theorem State.setStk_mgmt (n : Nat) (v : StackC) : (s.setStk n v).mgmt = s.mgmt := rfl
@[simp] theorem State.setStk_links (n : Nat) (v : StackC) : (s.setStk n v).links = s.links := rfl
@[simp] theorem State.setStk_mem (n : Nat) (v : StackC) : (s.setStk n v).mem = { s.mem with stkc := Tab.set {} s.mem.stkc n v } := rfl
@[simp] theorem State.setStk_clusters (n : Nat) (v : StackC) : (s.setStk n v).clusters = s.clusters := rfl
@[simp] theorem State.setStk_rings (n : Nat) (v : StackC) : (s.setStk n v).rings = s.rings := rfl
@[simp] theorem State.setStk_arr (n : Nat) (v : StackC) : (s.setStk n v).arr = s.arr := rfl
@[simp] theorem State.setStk_dumps (n : Nat) (v : StackC) : (s.setStk n v).dumps = s.dumps := rfl
@[simp] theorem State.setStk_fab (n : Nat) (v : StackC) : (s.setStk n v).fab = s.fab := rfl
@[simp] theorem State.setStk_place (n : Nat) (v : StackC) : (s.setStk n v).place = s.place := rfl
@[simp] theorem State.setStk_cxl (n : Nat) (v : StackC) : (s.setStk n v).cxl = s.cxl := rfl
@[simp] theorem State.setStk_power (n : Nat) (v : StackC) : (s.setStk n v).power = s.power := rfl
@[simp] theorem State.setStk_therm (n : Nat) (v : StackC) : (s.setStk n v).therm = s.therm := rfl
@[simp] theorem State.setStk_copies (n : Nat) (v : StackC) : (s.setStk n v).copies = s.copies := rfl

@[simp] theorem State.dramPut_pending (m r c : Nat) (v : Column) : (s.dramPut m r c v).pending = s.pending := rfl
@[simp] theorem State.dramPut_free (m r c : Nat) (v : Column) : (s.dramPut m r c v).free = s.free := rfl
@[simp] theorem State.dramPut_build (m r c : Nat) (v : Column) : (s.dramPut m r c v).build = s.build := rfl
@[simp] theorem State.dramPut_crust (m r c : Nat) (v : Column) : (s.dramPut m r c v).crust = s.crust := rfl
@[simp] theorem State.dramPut_trust (m r c : Nat) (v : Column) : (s.dramPut m r c v).trust = s.trust := rfl
@[simp] theorem State.dramPut_test (m r c : Nat) (v : Column) : (s.dramPut m r c v).test = s.test := rfl
@[simp] theorem State.dramPut_mgmt (m r c : Nat) (v : Column) : (s.dramPut m r c v).mgmt = s.mgmt := rfl
@[simp] theorem State.dramPut_links (m r c : Nat) (v : Column) : (s.dramPut m r c v).links = s.links := rfl
@[simp] theorem State.dramPut_mem (m r c : Nat) (v : Column) : (s.dramPut m r c v).mem = { s.mem with dram := Tab.set blankCol s.mem.dram (dramKey m r c) v } := rfl
@[simp] theorem State.dramPut_clusters (m r c : Nat) (v : Column) : (s.dramPut m r c v).clusters = s.clusters := rfl
@[simp] theorem State.dramPut_rings (m r c : Nat) (v : Column) : (s.dramPut m r c v).rings = s.rings := rfl
@[simp] theorem State.dramPut_arr (m r c : Nat) (v : Column) : (s.dramPut m r c v).arr = s.arr := rfl
@[simp] theorem State.dramPut_dumps (m r c : Nat) (v : Column) : (s.dramPut m r c v).dumps = s.dumps := rfl
@[simp] theorem State.dramPut_fab (m r c : Nat) (v : Column) : (s.dramPut m r c v).fab = s.fab := rfl
@[simp] theorem State.dramPut_place (m r c : Nat) (v : Column) : (s.dramPut m r c v).place = s.place := rfl
@[simp] theorem State.dramPut_cxl (m r c : Nat) (v : Column) : (s.dramPut m r c v).cxl = s.cxl := rfl
@[simp] theorem State.dramPut_power (m r c : Nat) (v : Column) : (s.dramPut m r c v).power = s.power := rfl
@[simp] theorem State.dramPut_therm (m r c : Nat) (v : Column) : (s.dramPut m r c v).therm = s.therm := rfl
@[simp] theorem State.dramPut_copies (m r c : Nat) (v : Column) : (s.dramPut m r c v).copies = s.copies := rfl

@[simp] theorem State.setCluster_pending (c : Nat) (v : Cluster) : (s.setCluster c v).pending = s.pending := rfl
@[simp] theorem State.setCluster_free (c : Nat) (v : Cluster) : (s.setCluster c v).free = s.free := rfl
@[simp] theorem State.setCluster_build (c : Nat) (v : Cluster) : (s.setCluster c v).build = s.build := rfl
@[simp] theorem State.setCluster_crust (c : Nat) (v : Cluster) : (s.setCluster c v).crust = s.crust := rfl
@[simp] theorem State.setCluster_trust (c : Nat) (v : Cluster) : (s.setCluster c v).trust = s.trust := rfl
@[simp] theorem State.setCluster_test (c : Nat) (v : Cluster) : (s.setCluster c v).test = s.test := rfl
@[simp] theorem State.setCluster_mgmt (c : Nat) (v : Cluster) : (s.setCluster c v).mgmt = s.mgmt := rfl
@[simp] theorem State.setCluster_links (c : Nat) (v : Cluster) : (s.setCluster c v).links = s.links := rfl
@[simp] theorem State.setCluster_mem (c : Nat) (v : Cluster) : (s.setCluster c v).mem = s.mem := rfl
@[simp] theorem State.setCluster_clusters (c : Nat) (v : Cluster) : (s.setCluster c v).clusters = Tab.set {} s.clusters c v := rfl
@[simp] theorem State.setCluster_rings (c : Nat) (v : Cluster) : (s.setCluster c v).rings = s.rings := rfl
@[simp] theorem State.setCluster_arr (c : Nat) (v : Cluster) : (s.setCluster c v).arr = s.arr := rfl
@[simp] theorem State.setCluster_dumps (c : Nat) (v : Cluster) : (s.setCluster c v).dumps = s.dumps := rfl
@[simp] theorem State.setCluster_fab (c : Nat) (v : Cluster) : (s.setCluster c v).fab = s.fab := rfl
@[simp] theorem State.setCluster_place (c : Nat) (v : Cluster) : (s.setCluster c v).place = s.place := rfl
@[simp] theorem State.setCluster_cxl (c : Nat) (v : Cluster) : (s.setCluster c v).cxl = s.cxl := rfl
@[simp] theorem State.setCluster_power (c : Nat) (v : Cluster) : (s.setCluster c v).power = s.power := rfl
@[simp] theorem State.setCluster_therm (c : Nat) (v : Cluster) : (s.setCluster c v).therm = s.therm := rfl
@[simp] theorem State.setCluster_copies (c : Nat) (v : Cluster) : (s.setCluster c v).copies = s.copies := rfl

@[simp] theorem State.setPort_pending (n : Nat) (v : EthPort) : (s.setPort n v).pending = s.pending := rfl
@[simp] theorem State.setPort_free (n : Nat) (v : EthPort) : (s.setPort n v).free = s.free := rfl
@[simp] theorem State.setPort_build (n : Nat) (v : EthPort) : (s.setPort n v).build = s.build := rfl
@[simp] theorem State.setPort_crust (n : Nat) (v : EthPort) : (s.setPort n v).crust = s.crust := rfl
@[simp] theorem State.setPort_trust (n : Nat) (v : EthPort) : (s.setPort n v).trust = s.trust := rfl
@[simp] theorem State.setPort_test (n : Nat) (v : EthPort) : (s.setPort n v).test = s.test := rfl
@[simp] theorem State.setPort_mgmt (n : Nat) (v : EthPort) : (s.setPort n v).mgmt = s.mgmt := rfl
@[simp] theorem State.setPort_links (n : Nat) (v : EthPort) : (s.setPort n v).links = s.links := rfl
@[simp] theorem State.setPort_mem (n : Nat) (v : EthPort) : (s.setPort n v).mem = s.mem := rfl
@[simp] theorem State.setPort_clusters (n : Nat) (v : EthPort) : (s.setPort n v).clusters = s.clusters := rfl
@[simp] theorem State.setPort_rings (n : Nat) (v : EthPort) : (s.setPort n v).rings = s.rings := rfl
@[simp] theorem State.setPort_arr (n : Nat) (v : EthPort) : (s.setPort n v).arr = s.arr := rfl
@[simp] theorem State.setPort_dumps (n : Nat) (v : EthPort) : (s.setPort n v).dumps = s.dumps := rfl
@[simp] theorem State.setPort_fab (n : Nat) (v : EthPort) : (s.setPort n v).fab = { s.fab with ports := Tab.set {} s.fab.ports n v } := rfl
@[simp] theorem State.setPort_place (n : Nat) (v : EthPort) : (s.setPort n v).place = s.place := rfl
@[simp] theorem State.setPort_cxl (n : Nat) (v : EthPort) : (s.setPort n v).cxl = s.cxl := rfl
@[simp] theorem State.setPort_power (n : Nat) (v : EthPort) : (s.setPort n v).power = s.power := rfl
@[simp] theorem State.setPort_therm (n : Nat) (v : EthPort) : (s.setPort n v).therm = s.therm := rfl
@[simp] theorem State.setPort_copies (n : Nat) (v : EthPort) : (s.setPort n v).copies = s.copies := rfl

@[simp] theorem State.setCport_pending (n : Nat) (v : CxlPort) : (s.setCport n v).pending = s.pending := rfl
@[simp] theorem State.setCport_free (n : Nat) (v : CxlPort) : (s.setCport n v).free = s.free := rfl
@[simp] theorem State.setCport_build (n : Nat) (v : CxlPort) : (s.setCport n v).build = s.build := rfl
@[simp] theorem State.setCport_crust (n : Nat) (v : CxlPort) : (s.setCport n v).crust = s.crust := rfl
@[simp] theorem State.setCport_trust (n : Nat) (v : CxlPort) : (s.setCport n v).trust = s.trust := rfl
@[simp] theorem State.setCport_test (n : Nat) (v : CxlPort) : (s.setCport n v).test = s.test := rfl
@[simp] theorem State.setCport_mgmt (n : Nat) (v : CxlPort) : (s.setCport n v).mgmt = s.mgmt := rfl
@[simp] theorem State.setCport_links (n : Nat) (v : CxlPort) : (s.setCport n v).links = s.links := rfl
@[simp] theorem State.setCport_mem (n : Nat) (v : CxlPort) : (s.setCport n v).mem = s.mem := rfl
@[simp] theorem State.setCport_clusters (n : Nat) (v : CxlPort) : (s.setCport n v).clusters = s.clusters := rfl
@[simp] theorem State.setCport_rings (n : Nat) (v : CxlPort) : (s.setCport n v).rings = s.rings := rfl
@[simp] theorem State.setCport_arr (n : Nat) (v : CxlPort) : (s.setCport n v).arr = s.arr := rfl
@[simp] theorem State.setCport_dumps (n : Nat) (v : CxlPort) : (s.setCport n v).dumps = s.dumps := rfl
@[simp] theorem State.setCport_fab (n : Nat) (v : CxlPort) : (s.setCport n v).fab = s.fab := rfl
@[simp] theorem State.setCport_place (n : Nat) (v : CxlPort) : (s.setCport n v).place = s.place := rfl
@[simp] theorem State.setCport_cxl (n : Nat) (v : CxlPort) : (s.setCport n v).cxl = Tab.set {} s.cxl n v := rfl
@[simp] theorem State.setCport_power (n : Nat) (v : CxlPort) : (s.setCport n v).power = s.power := rfl
@[simp] theorem State.setCport_therm (n : Nat) (v : CxlPort) : (s.setCport n v).therm = s.therm := rfl
@[simp] theorem State.setCport_copies (n : Nat) (v : CxlPort) : (s.setCport n v).copies = s.copies := rfl

@[simp] theorem State.setPart_pending (p : Nat) (v : Part) : (s.setPart p v).pending = s.pending := rfl
@[simp] theorem State.setPart_free (p : Nat) (v : Part) : (s.setPart p v).free = s.free := rfl
@[simp] theorem State.setPart_build (p : Nat) (v : Part) : (s.setPart p v).build = s.build := rfl
@[simp] theorem State.setPart_crust (p : Nat) (v : Part) : (s.setPart p v).crust = s.crust := rfl
@[simp] theorem State.setPart_trust (p : Nat) (v : Part) : (s.setPart p v).trust = s.trust := rfl
@[simp] theorem State.setPart_test (p : Nat) (v : Part) : (s.setPart p v).test = s.test := rfl
@[simp] theorem State.setPart_mgmt (p : Nat) (v : Part) : (s.setPart p v).mgmt = { s.mgmt with parts := Tab.set {} s.mgmt.parts p v } := rfl
@[simp] theorem State.setPart_links (p : Nat) (v : Part) : (s.setPart p v).links = s.links := rfl
@[simp] theorem State.setPart_mem (p : Nat) (v : Part) : (s.setPart p v).mem = s.mem := rfl
@[simp] theorem State.setPart_clusters (p : Nat) (v : Part) : (s.setPart p v).clusters = s.clusters := rfl
@[simp] theorem State.setPart_rings (p : Nat) (v : Part) : (s.setPart p v).rings = s.rings := rfl
@[simp] theorem State.setPart_arr (p : Nat) (v : Part) : (s.setPart p v).arr = s.arr := rfl
@[simp] theorem State.setPart_dumps (p : Nat) (v : Part) : (s.setPart p v).dumps = s.dumps := rfl
@[simp] theorem State.setPart_fab (p : Nat) (v : Part) : (s.setPart p v).fab = s.fab := rfl
@[simp] theorem State.setPart_place (p : Nat) (v : Part) : (s.setPart p v).place = s.place := rfl
@[simp] theorem State.setPart_cxl (p : Nat) (v : Part) : (s.setPart p v).cxl = s.cxl := rfl
@[simp] theorem State.setPart_power (p : Nat) (v : Part) : (s.setPart p v).power = s.power := rfl
@[simp] theorem State.setPart_therm (p : Nat) (v : Part) : (s.setPart p v).therm = s.therm := rfl
@[simp] theorem State.setPart_copies (p : Nat) (v : Part) : (s.setPart p v).copies = s.copies := rfl

@[simp] theorem State.setCfgSet_pending (p : Nat) (v : CfgSet) : (s.setCfgSet p v).pending = s.pending := rfl
@[simp] theorem State.setCfgSet_free (p : Nat) (v : CfgSet) : (s.setCfgSet p v).free = s.free := rfl
@[simp] theorem State.setCfgSet_build (p : Nat) (v : CfgSet) : (s.setCfgSet p v).build = s.build := rfl
@[simp] theorem State.setCfgSet_crust (p : Nat) (v : CfgSet) : (s.setCfgSet p v).crust = s.crust := rfl
@[simp] theorem State.setCfgSet_trust (p : Nat) (v : CfgSet) : (s.setCfgSet p v).trust = s.trust := rfl
@[simp] theorem State.setCfgSet_test (p : Nat) (v : CfgSet) : (s.setCfgSet p v).test = s.test := rfl
@[simp] theorem State.setCfgSet_mgmt (p : Nat) (v : CfgSet) : (s.setCfgSet p v).mgmt = { s.mgmt with sets := Tab.set {} s.mgmt.sets p v } := rfl
@[simp] theorem State.setCfgSet_links (p : Nat) (v : CfgSet) : (s.setCfgSet p v).links = s.links := rfl
@[simp] theorem State.setCfgSet_mem (p : Nat) (v : CfgSet) : (s.setCfgSet p v).mem = s.mem := rfl
@[simp] theorem State.setCfgSet_clusters (p : Nat) (v : CfgSet) : (s.setCfgSet p v).clusters = s.clusters := rfl
@[simp] theorem State.setCfgSet_rings (p : Nat) (v : CfgSet) : (s.setCfgSet p v).rings = s.rings := rfl
@[simp] theorem State.setCfgSet_arr (p : Nat) (v : CfgSet) : (s.setCfgSet p v).arr = s.arr := rfl
@[simp] theorem State.setCfgSet_dumps (p : Nat) (v : CfgSet) : (s.setCfgSet p v).dumps = s.dumps := rfl
@[simp] theorem State.setCfgSet_fab (p : Nat) (v : CfgSet) : (s.setCfgSet p v).fab = s.fab := rfl
@[simp] theorem State.setCfgSet_place (p : Nat) (v : CfgSet) : (s.setCfgSet p v).place = s.place := rfl
@[simp] theorem State.setCfgSet_cxl (p : Nat) (v : CfgSet) : (s.setCfgSet p v).cxl = s.cxl := rfl
@[simp] theorem State.setCfgSet_power (p : Nat) (v : CfgSet) : (s.setCfgSet p v).power = s.power := rfl
@[simp] theorem State.setCfgSet_therm (p : Nat) (v : CfgSet) : (s.setCfgSet p v).therm = s.therm := rfl
@[simp] theorem State.setCfgSet_copies (p : Nat) (v : CfgSet) : (s.setCfgSet p v).copies = s.copies := rfl

@[simp] theorem State.setRing_pending (k : Nat) (v : Ring) : (s.setRing k v).pending = s.pending := rfl
@[simp] theorem State.setRing_free (k : Nat) (v : Ring) : (s.setRing k v).free = s.free := rfl
@[simp] theorem State.setRing_build (k : Nat) (v : Ring) : (s.setRing k v).build = s.build := rfl
@[simp] theorem State.setRing_crust (k : Nat) (v : Ring) : (s.setRing k v).crust = s.crust := rfl
@[simp] theorem State.setRing_trust (k : Nat) (v : Ring) : (s.setRing k v).trust = s.trust := rfl
@[simp] theorem State.setRing_test (k : Nat) (v : Ring) : (s.setRing k v).test = s.test := rfl
@[simp] theorem State.setRing_mgmt (k : Nat) (v : Ring) : (s.setRing k v).mgmt = s.mgmt := rfl
@[simp] theorem State.setRing_links (k : Nat) (v : Ring) : (s.setRing k v).links = s.links := rfl
@[simp] theorem State.setRing_mem (k : Nat) (v : Ring) : (s.setRing k v).mem = s.mem := rfl
@[simp] theorem State.setRing_clusters (k : Nat) (v : Ring) : (s.setRing k v).clusters = s.clusters := rfl
@[simp] theorem State.setRing_rings (k : Nat) (v : Ring) : (s.setRing k v).rings = Tab.set {} s.rings k v := rfl
@[simp] theorem State.setRing_arr (k : Nat) (v : Ring) : (s.setRing k v).arr = s.arr := rfl
@[simp] theorem State.setRing_dumps (k : Nat) (v : Ring) : (s.setRing k v).dumps = s.dumps := rfl
@[simp] theorem State.setRing_fab (k : Nat) (v : Ring) : (s.setRing k v).fab = s.fab := rfl
@[simp] theorem State.setRing_place (k : Nat) (v : Ring) : (s.setRing k v).place = s.place := rfl
@[simp] theorem State.setRing_cxl (k : Nat) (v : Ring) : (s.setRing k v).cxl = s.cxl := rfl
@[simp] theorem State.setRing_power (k : Nat) (v : Ring) : (s.setRing k v).power = s.power := rfl
@[simp] theorem State.setRing_therm (k : Nat) (v : Ring) : (s.setRing k v).therm = s.therm := rfl
@[simp] theorem State.setRing_copies (k : Nat) (v : Ring) : (s.setRing k v).copies = s.copies := rfl

@[simp] theorem State.setCtr_pending (i j v : Nat) : (s.setCtr i j v).pending = s.pending := rfl
@[simp] theorem State.setCtr_free (i j v : Nat) : (s.setCtr i j v).free = s.free := rfl
@[simp] theorem State.setCtr_build (i j v : Nat) : (s.setCtr i j v).build = s.build := rfl
@[simp] theorem State.setCtr_crust (i j v : Nat) : (s.setCtr i j v).crust = s.crust := rfl
@[simp] theorem State.setCtr_trust (i j v : Nat) : (s.setCtr i j v).trust = s.trust := rfl
@[simp] theorem State.setCtr_test (i j v : Nat) : (s.setCtr i j v).test = s.test := rfl
@[simp] theorem State.setCtr_mgmt (i j v : Nat) : (s.setCtr i j v).mgmt = { s.mgmt with od := Tab.set 0 s.mgmt.od (odKey i j) (BitVec.ofNat 64 v) } := rfl
@[simp] theorem State.setCtr_links (i j v : Nat) : (s.setCtr i j v).links = s.links := rfl
@[simp] theorem State.setCtr_mem (i j v : Nat) : (s.setCtr i j v).mem = s.mem := rfl
@[simp] theorem State.setCtr_clusters (i j v : Nat) : (s.setCtr i j v).clusters = s.clusters := rfl
@[simp] theorem State.setCtr_rings (i j v : Nat) : (s.setCtr i j v).rings = s.rings := rfl
@[simp] theorem State.setCtr_arr (i j v : Nat) : (s.setCtr i j v).arr = s.arr := rfl
@[simp] theorem State.setCtr_dumps (i j v : Nat) : (s.setCtr i j v).dumps = s.dumps := rfl
@[simp] theorem State.setCtr_fab (i j v : Nat) : (s.setCtr i j v).fab = s.fab := rfl
@[simp] theorem State.setCtr_place (i j v : Nat) : (s.setCtr i j v).place = s.place := rfl
@[simp] theorem State.setCtr_cxl (i j v : Nat) : (s.setCtr i j v).cxl = s.cxl := rfl
@[simp] theorem State.setCtr_power (i j v : Nat) : (s.setCtr i j v).power = s.power := rfl
@[simp] theorem State.setCtr_therm (i j v : Nat) : (s.setCtr i j v).therm = s.therm := rfl
@[simp] theorem State.setCtr_copies (i j v : Nat) : (s.setCtr i j v).copies = s.copies := rfl

@[simp] theorem State.draw_pending : (s.draw).pending = s.pending := rfl
@[simp] theorem State.draw_free : (s.draw).free = s.free + 1 := rfl
@[simp] theorem State.draw_build : (s.draw).build = s.build := rfl
@[simp] theorem State.draw_crust : (s.draw).crust = s.crust := rfl
@[simp] theorem State.draw_trust : (s.draw).trust = s.trust := rfl
@[simp] theorem State.draw_test : (s.draw).test = s.test := rfl
@[simp] theorem State.draw_mgmt : (s.draw).mgmt = s.mgmt := rfl
@[simp] theorem State.draw_links : (s.draw).links = s.links := rfl
@[simp] theorem State.draw_mem : (s.draw).mem = s.mem := rfl
@[simp] theorem State.draw_clusters : (s.draw).clusters = s.clusters := rfl
@[simp] theorem State.draw_rings : (s.draw).rings = s.rings := rfl
@[simp] theorem State.draw_arr : (s.draw).arr = s.arr := rfl
@[simp] theorem State.draw_dumps : (s.draw).dumps = s.dumps := rfl
@[simp] theorem State.draw_fab : (s.draw).fab = s.fab := rfl
@[simp] theorem State.draw_place : (s.draw).place = s.place := rfl
@[simp] theorem State.draw_cxl : (s.draw).cxl = s.cxl := rfl
@[simp] theorem State.draw_power : (s.draw).power = s.power := rfl
@[simp] theorem State.draw_therm : (s.draw).therm = s.therm := rfl
@[simp] theorem State.draw_copies : (s.draw).copies = s.copies := rfl

/-! ### The state that a command leaves -/

@[simp] theorem keep_pending (s' : State) : (keep s s').pending = s.pending := rfl
@[simp] theorem keep_free (s' : State) : (keep s s').free = s'.free := rfl
@[simp] theorem keep_build (s' : State) : (keep s s').build = s.build := rfl
@[simp] theorem keep_crust (s' : State) : (keep s s').crust = s'.crust := rfl
@[simp] theorem keep_trust (s' : State) : (keep s s').trust = s'.trust := rfl
@[simp] theorem keep_test (s' : State) : (keep s s').test = s'.test := rfl
@[simp] theorem keep_mgmt (s' : State) : (keep s s').mgmt = s'.mgmt := rfl
@[simp] theorem keep_links (s' : State) : (keep s s').links = s'.links := rfl
@[simp] theorem keep_mem (s' : State) : (keep s s').mem = s'.mem := rfl
@[simp] theorem keep_clusters (s' : State) : (keep s s').clusters = s'.clusters := rfl
@[simp] theorem keep_rings (s' : State) : (keep s s').rings = s'.rings := rfl
@[simp] theorem keep_arr (s' : State) : (keep s s').arr = s'.arr := rfl
@[simp] theorem keep_dumps (s' : State) : (keep s s').dumps = s'.dumps := rfl
@[simp] theorem keep_fab (s' : State) : (keep s s').fab = s'.fab := rfl
@[simp] theorem keep_place (s' : State) : (keep s s').place = s'.place := rfl
@[simp] theorem keep_cxl (s' : State) : (keep s s').cxl = s'.cxl := rfl
@[simp] theorem keep_power (s' : State) : (keep s s').power = s'.power := rfl
@[simp] theorem keep_therm (s' : State) : (keep s s').therm = s'.therm := rfl
@[simp] theorem keep_copies (s' : State) : (keep s s').copies = s'.copies := rfl
@[simp] theorem keep_bank (s' : State) (x : Nat) : (keep s s').bank x = s'.bank x := rfl
@[simp] theorem keep_chan (s' : State) (x : Nat) : (keep s s').chan x = s'.chan x := rfl
@[simp] theorem keep_stk (s' : State) (x : Nat) : (keep s s').stk x = s'.stk x := rfl
@[simp] theorem keep_cluster (s' : State) (x : Nat) : (keep s s').cluster x = s'.cluster x := rfl
@[simp] theorem keep_port (s' : State) (x : Nat) : (keep s s').port x = s'.port x := rfl
@[simp] theorem keep_cport (s' : State) (x : Nat) : (keep s s').cport x = s'.cport x := rfl
@[simp] theorem keep_part (s' : State) (x : Nat) : (keep s s').part x = s'.part x := rfl
@[simp] theorem keep_cfgSet (s' : State) (x : Nat) : (keep s s').cfgSet x = s'.cfgSet x := rfl
@[simp] theorem keep_ring (s' : State) (x : Nat) : (keep s s').ring x = s'.ring x := rfl
@[simp] theorem keep_ctr (s' : State) (i j : Nat) : (keep s s').ctr i j = s'.ctr i j := rfl
@[simp] theorem keep_dramGet (s' : State) (m r c : Nat) : (keep s s').dramGet m r c = s'.dramGet m r c := rfl

/-! ### Instances after an update -/

theorem State.bank_setBank (i j : Nat) (v : Bank) : (s.setBank i v).bank j = if j = i then v else s.bank j :=
  Tab.get_set _ _ _ _ _
@[simp] theorem State.bank_setBank_same (i : Nat) (v : Bank) : (s.setBank i v).bank i = v := Tab.get_set_same _ _ _ _
theorem State.chan_setChan (i j : Nat) (v : Chan) : (s.setChan i v).chan j = if j = i then v else s.chan j :=
  Tab.get_set _ _ _ _ _
@[simp] theorem State.chan_setChan_same (i : Nat) (v : Chan) : (s.setChan i v).chan i = v := Tab.get_set_same _ _ _ _
theorem State.stk_setStk (i j : Nat) (v : StackC) : (s.setStk i v).stk j = if j = i then v else s.stk j :=
  Tab.get_set _ _ _ _ _
@[simp] theorem State.stk_setStk_same (i : Nat) (v : StackC) : (s.setStk i v).stk i = v := Tab.get_set_same _ _ _ _
theorem State.cluster_setCluster (i j : Nat) (v : Cluster) : (s.setCluster i v).cluster j = if j = i then v else s.cluster j :=
  Tab.get_set _ _ _ _ _
@[simp] theorem State.cluster_setCluster_same (i : Nat) (v : Cluster) : (s.setCluster i v).cluster i = v := Tab.get_set_same _ _ _ _
theorem State.port_setPort (i j : Nat) (v : EthPort) : (s.setPort i v).port j = if j = i then v else s.port j :=
  Tab.get_set _ _ _ _ _
@[simp] theorem State.port_setPort_same (i : Nat) (v : EthPort) : (s.setPort i v).port i = v := Tab.get_set_same _ _ _ _
theorem State.cport_setCport (i j : Nat) (v : CxlPort) : (s.setCport i v).cport j = if j = i then v else s.cport j :=
  Tab.get_set _ _ _ _ _
@[simp] theorem State.cport_setCport_same (i : Nat) (v : CxlPort) : (s.setCport i v).cport i = v := Tab.get_set_same _ _ _ _
theorem State.part_setPart (i j : Nat) (v : Part) : (s.setPart i v).part j = if j = i then v else s.part j :=
  Tab.get_set _ _ _ _ _
@[simp] theorem State.part_setPart_same (i : Nat) (v : Part) : (s.setPart i v).part i = v := Tab.get_set_same _ _ _ _
theorem State.cfgSet_setCfgSet (i j : Nat) (v : CfgSet) : (s.setCfgSet i v).cfgSet j = if j = i then v else s.cfgSet j :=
  Tab.get_set _ _ _ _ _
@[simp] theorem State.cfgSet_setCfgSet_same (i : Nat) (v : CfgSet) : (s.setCfgSet i v).cfgSet i = v := Tab.get_set_same _ _ _ _
theorem State.ring_setRing (i j : Nat) (v : Ring) : (s.setRing i v).ring j = if j = i then v else s.ring j :=
  Tab.get_set _ _ _ _ _
@[simp] theorem State.ring_setRing_same (i : Nat) (v : Ring) : (s.setRing i v).ring i = v := Tab.get_set_same _ _ _ _
@[simp] theorem State.bank_setChan (k : Nat) (v : Chan) (x : Nat) : (s.setChan k v).bank x = s.bank x := rfl
@[simp] theorem State.bank_setStk (n : Nat) (v : StackC) (x : Nat) : (s.setStk n v).bank x = s.bank x := rfl
@[simp] theorem State.bank_dramPut (m r c : Nat) (v : Column) (x : Nat) : (s.dramPut m r c v).bank x = s.bank x := rfl
@[simp] theorem State.bank_setCluster (c : Nat) (v : Cluster) (x : Nat) : (s.setCluster c v).bank x = s.bank x := rfl
@[simp] theorem State.bank_setPort (n : Nat) (v : EthPort) (x : Nat) : (s.setPort n v).bank x = s.bank x := rfl
@[simp] theorem State.bank_setCport (n : Nat) (v : CxlPort) (x : Nat) : (s.setCport n v).bank x = s.bank x := rfl
@[simp] theorem State.bank_setPart (p : Nat) (v : Part) (x : Nat) : (s.setPart p v).bank x = s.bank x := rfl
@[simp] theorem State.bank_setCfgSet (p : Nat) (v : CfgSet) (x : Nat) : (s.setCfgSet p v).bank x = s.bank x := rfl
@[simp] theorem State.bank_setRing (k : Nat) (v : Ring) (x : Nat) : (s.setRing k v).bank x = s.bank x := rfl
@[simp] theorem State.bank_setCtr (i j v : Nat) (x : Nat) : (s.setCtr i j v).bank x = s.bank x := rfl
@[simp] theorem State.bank_draw (x : Nat) : (s.draw).bank x = s.bank x := rfl
@[simp] theorem State.chan_setBank (b : Nat) (v : Bank) (x : Nat) : (s.setBank b v).chan x = s.chan x := rfl
@[simp] theorem State.chan_setStk (n : Nat) (v : StackC) (x : Nat) : (s.setStk n v).chan x = s.chan x := rfl
@[simp] theorem State.chan_dramPut (m r c : Nat) (v : Column) (x : Nat) : (s.dramPut m r c v).chan x = s.chan x := rfl
@[simp] theorem State.chan_setCluster (c : Nat) (v : Cluster) (x : Nat) : (s.setCluster c v).chan x = s.chan x := rfl
@[simp] theorem State.chan_setPort (n : Nat) (v : EthPort) (x : Nat) : (s.setPort n v).chan x = s.chan x := rfl
@[simp] theorem State.chan_setCport (n : Nat) (v : CxlPort) (x : Nat) : (s.setCport n v).chan x = s.chan x := rfl
@[simp] theorem State.chan_setPart (p : Nat) (v : Part) (x : Nat) : (s.setPart p v).chan x = s.chan x := rfl
@[simp] theorem State.chan_setCfgSet (p : Nat) (v : CfgSet) (x : Nat) : (s.setCfgSet p v).chan x = s.chan x := rfl
@[simp] theorem State.chan_setRing (k : Nat) (v : Ring) (x : Nat) : (s.setRing k v).chan x = s.chan x := rfl
@[simp] theorem State.chan_setCtr (i j v : Nat) (x : Nat) : (s.setCtr i j v).chan x = s.chan x := rfl
@[simp] theorem State.chan_draw (x : Nat) : (s.draw).chan x = s.chan x := rfl
@[simp] theorem State.stk_setBank (b : Nat) (v : Bank) (x : Nat) : (s.setBank b v).stk x = s.stk x := rfl
@[simp] theorem State.stk_setChan (k : Nat) (v : Chan) (x : Nat) : (s.setChan k v).stk x = s.stk x := rfl
@[simp] theorem State.stk_dramPut (m r c : Nat) (v : Column) (x : Nat) : (s.dramPut m r c v).stk x = s.stk x := rfl
@[simp] theorem State.stk_setCluster (c : Nat) (v : Cluster) (x : Nat) : (s.setCluster c v).stk x = s.stk x := rfl
@[simp] theorem State.stk_setPort (n : Nat) (v : EthPort) (x : Nat) : (s.setPort n v).stk x = s.stk x := rfl
@[simp] theorem State.stk_setCport (n : Nat) (v : CxlPort) (x : Nat) : (s.setCport n v).stk x = s.stk x := rfl
@[simp] theorem State.stk_setPart (p : Nat) (v : Part) (x : Nat) : (s.setPart p v).stk x = s.stk x := rfl
@[simp] theorem State.stk_setCfgSet (p : Nat) (v : CfgSet) (x : Nat) : (s.setCfgSet p v).stk x = s.stk x := rfl
@[simp] theorem State.stk_setRing (k : Nat) (v : Ring) (x : Nat) : (s.setRing k v).stk x = s.stk x := rfl
@[simp] theorem State.stk_setCtr (i j v : Nat) (x : Nat) : (s.setCtr i j v).stk x = s.stk x := rfl
@[simp] theorem State.stk_draw (x : Nat) : (s.draw).stk x = s.stk x := rfl
@[simp] theorem State.cluster_setMem (m : Mem) (x : Nat) : (s.setMem m).cluster x = s.cluster x := rfl
@[simp] theorem State.cluster_setBank (b : Nat) (v : Bank) (x : Nat) : (s.setBank b v).cluster x = s.cluster x := rfl
@[simp] theorem State.cluster_setChan (k : Nat) (v : Chan) (x : Nat) : (s.setChan k v).cluster x = s.cluster x := rfl
@[simp] theorem State.cluster_setStk (n : Nat) (v : StackC) (x : Nat) : (s.setStk n v).cluster x = s.cluster x := rfl
@[simp] theorem State.cluster_dramPut (m r c : Nat) (v : Column) (x : Nat) : (s.dramPut m r c v).cluster x = s.cluster x := rfl
@[simp] theorem State.cluster_setPort (n : Nat) (v : EthPort) (x : Nat) : (s.setPort n v).cluster x = s.cluster x := rfl
@[simp] theorem State.cluster_setCport (n : Nat) (v : CxlPort) (x : Nat) : (s.setCport n v).cluster x = s.cluster x := rfl
@[simp] theorem State.cluster_setPart (p : Nat) (v : Part) (x : Nat) : (s.setPart p v).cluster x = s.cluster x := rfl
@[simp] theorem State.cluster_setCfgSet (p : Nat) (v : CfgSet) (x : Nat) : (s.setCfgSet p v).cluster x = s.cluster x := rfl
@[simp] theorem State.cluster_setRing (k : Nat) (v : Ring) (x : Nat) : (s.setRing k v).cluster x = s.cluster x := rfl
@[simp] theorem State.cluster_setCtr (i j v : Nat) (x : Nat) : (s.setCtr i j v).cluster x = s.cluster x := rfl
@[simp] theorem State.cluster_draw (x : Nat) : (s.draw).cluster x = s.cluster x := rfl
@[simp] theorem State.port_setMem (m : Mem) (x : Nat) : (s.setMem m).port x = s.port x := rfl
@[simp] theorem State.port_setBank (b : Nat) (v : Bank) (x : Nat) : (s.setBank b v).port x = s.port x := rfl
@[simp] theorem State.port_setChan (k : Nat) (v : Chan) (x : Nat) : (s.setChan k v).port x = s.port x := rfl
@[simp] theorem State.port_setStk (n : Nat) (v : StackC) (x : Nat) : (s.setStk n v).port x = s.port x := rfl
@[simp] theorem State.port_dramPut (m r c : Nat) (v : Column) (x : Nat) : (s.dramPut m r c v).port x = s.port x := rfl
@[simp] theorem State.port_setCluster (c : Nat) (v : Cluster) (x : Nat) : (s.setCluster c v).port x = s.port x := rfl
@[simp] theorem State.port_setCport (n : Nat) (v : CxlPort) (x : Nat) : (s.setCport n v).port x = s.port x := rfl
@[simp] theorem State.port_setPart (p : Nat) (v : Part) (x : Nat) : (s.setPart p v).port x = s.port x := rfl
@[simp] theorem State.port_setCfgSet (p : Nat) (v : CfgSet) (x : Nat) : (s.setCfgSet p v).port x = s.port x := rfl
@[simp] theorem State.port_setRing (k : Nat) (v : Ring) (x : Nat) : (s.setRing k v).port x = s.port x := rfl
@[simp] theorem State.port_setCtr (i j v : Nat) (x : Nat) : (s.setCtr i j v).port x = s.port x := rfl
@[simp] theorem State.port_draw (x : Nat) : (s.draw).port x = s.port x := rfl
@[simp] theorem State.cport_setMem (m : Mem) (x : Nat) : (s.setMem m).cport x = s.cport x := rfl
@[simp] theorem State.cport_setBank (b : Nat) (v : Bank) (x : Nat) : (s.setBank b v).cport x = s.cport x := rfl
@[simp] theorem State.cport_setChan (k : Nat) (v : Chan) (x : Nat) : (s.setChan k v).cport x = s.cport x := rfl
@[simp] theorem State.cport_setStk (n : Nat) (v : StackC) (x : Nat) : (s.setStk n v).cport x = s.cport x := rfl
@[simp] theorem State.cport_dramPut (m r c : Nat) (v : Column) (x : Nat) : (s.dramPut m r c v).cport x = s.cport x := rfl
@[simp] theorem State.cport_setCluster (c : Nat) (v : Cluster) (x : Nat) : (s.setCluster c v).cport x = s.cport x := rfl
@[simp] theorem State.cport_setPort (n : Nat) (v : EthPort) (x : Nat) : (s.setPort n v).cport x = s.cport x := rfl
@[simp] theorem State.cport_setPart (p : Nat) (v : Part) (x : Nat) : (s.setPart p v).cport x = s.cport x := rfl
@[simp] theorem State.cport_setCfgSet (p : Nat) (v : CfgSet) (x : Nat) : (s.setCfgSet p v).cport x = s.cport x := rfl
@[simp] theorem State.cport_setRing (k : Nat) (v : Ring) (x : Nat) : (s.setRing k v).cport x = s.cport x := rfl
@[simp] theorem State.cport_setCtr (i j v : Nat) (x : Nat) : (s.setCtr i j v).cport x = s.cport x := rfl
@[simp] theorem State.cport_draw (x : Nat) : (s.draw).cport x = s.cport x := rfl
@[simp] theorem State.part_setMem (m : Mem) (x : Nat) : (s.setMem m).part x = s.part x := rfl
@[simp] theorem State.part_setBank (b : Nat) (v : Bank) (x : Nat) : (s.setBank b v).part x = s.part x := rfl
@[simp] theorem State.part_setChan (k : Nat) (v : Chan) (x : Nat) : (s.setChan k v).part x = s.part x := rfl
@[simp] theorem State.part_setStk (n : Nat) (v : StackC) (x : Nat) : (s.setStk n v).part x = s.part x := rfl
@[simp] theorem State.part_dramPut (m r c : Nat) (v : Column) (x : Nat) : (s.dramPut m r c v).part x = s.part x := rfl
@[simp] theorem State.part_setCluster (c : Nat) (v : Cluster) (x : Nat) : (s.setCluster c v).part x = s.part x := rfl
@[simp] theorem State.part_setPort (n : Nat) (v : EthPort) (x : Nat) : (s.setPort n v).part x = s.part x := rfl
@[simp] theorem State.part_setCport (n : Nat) (v : CxlPort) (x : Nat) : (s.setCport n v).part x = s.part x := rfl
@[simp] theorem State.part_setCfgSet (p : Nat) (v : CfgSet) (x : Nat) : (s.setCfgSet p v).part x = s.part x := rfl
@[simp] theorem State.part_setRing (k : Nat) (v : Ring) (x : Nat) : (s.setRing k v).part x = s.part x := rfl
@[simp] theorem State.part_setCtr (i j v : Nat) (x : Nat) : (s.setCtr i j v).part x = s.part x := rfl
@[simp] theorem State.part_draw (x : Nat) : (s.draw).part x = s.part x := rfl
@[simp] theorem State.cfgSet_setMem (m : Mem) (x : Nat) : (s.setMem m).cfgSet x = s.cfgSet x := rfl
@[simp] theorem State.cfgSet_setBank (b : Nat) (v : Bank) (x : Nat) : (s.setBank b v).cfgSet x = s.cfgSet x := rfl
@[simp] theorem State.cfgSet_setChan (k : Nat) (v : Chan) (x : Nat) : (s.setChan k v).cfgSet x = s.cfgSet x := rfl
@[simp] theorem State.cfgSet_setStk (n : Nat) (v : StackC) (x : Nat) : (s.setStk n v).cfgSet x = s.cfgSet x := rfl
@[simp] theorem State.cfgSet_dramPut (m r c : Nat) (v : Column) (x : Nat) : (s.dramPut m r c v).cfgSet x = s.cfgSet x := rfl
@[simp] theorem State.cfgSet_setCluster (c : Nat) (v : Cluster) (x : Nat) : (s.setCluster c v).cfgSet x = s.cfgSet x := rfl
@[simp] theorem State.cfgSet_setPort (n : Nat) (v : EthPort) (x : Nat) : (s.setPort n v).cfgSet x = s.cfgSet x := rfl
@[simp] theorem State.cfgSet_setCport (n : Nat) (v : CxlPort) (x : Nat) : (s.setCport n v).cfgSet x = s.cfgSet x := rfl
@[simp] theorem State.cfgSet_setPart (p : Nat) (v : Part) (x : Nat) : (s.setPart p v).cfgSet x = s.cfgSet x := rfl
@[simp] theorem State.cfgSet_setRing (k : Nat) (v : Ring) (x : Nat) : (s.setRing k v).cfgSet x = s.cfgSet x := rfl
@[simp] theorem State.cfgSet_setCtr (i j v : Nat) (x : Nat) : (s.setCtr i j v).cfgSet x = s.cfgSet x := rfl
@[simp] theorem State.cfgSet_draw (x : Nat) : (s.draw).cfgSet x = s.cfgSet x := rfl
@[simp] theorem State.ring_setMem (m : Mem) (x : Nat) : (s.setMem m).ring x = s.ring x := rfl
@[simp] theorem State.ring_setBank (b : Nat) (v : Bank) (x : Nat) : (s.setBank b v).ring x = s.ring x := rfl
@[simp] theorem State.ring_setChan (k : Nat) (v : Chan) (x : Nat) : (s.setChan k v).ring x = s.ring x := rfl
@[simp] theorem State.ring_setStk (n : Nat) (v : StackC) (x : Nat) : (s.setStk n v).ring x = s.ring x := rfl
@[simp] theorem State.ring_dramPut (m r c : Nat) (v : Column) (x : Nat) : (s.dramPut m r c v).ring x = s.ring x := rfl
@[simp] theorem State.ring_setCluster (c : Nat) (v : Cluster) (x : Nat) : (s.setCluster c v).ring x = s.ring x := rfl
@[simp] theorem State.ring_setPort (n : Nat) (v : EthPort) (x : Nat) : (s.setPort n v).ring x = s.ring x := rfl
@[simp] theorem State.ring_setCport (n : Nat) (v : CxlPort) (x : Nat) : (s.setCport n v).ring x = s.ring x := rfl
@[simp] theorem State.ring_setPart (p : Nat) (v : Part) (x : Nat) : (s.setPart p v).ring x = s.ring x := rfl
@[simp] theorem State.ring_setCfgSet (p : Nat) (v : CfgSet) (x : Nat) : (s.setCfgSet p v).ring x = s.ring x := rfl
@[simp] theorem State.ring_setCtr (i j v : Nat) (x : Nat) : (s.setCtr i j v).ring x = s.ring x := rfl
@[simp] theorem State.ring_draw (x : Nat) : (s.draw).ring x = s.ring x := rfl

/-- A column reads back as it was last written, and every other column stays. -/
theorem State.dramGet_dramPut (m r c : Nat) (v : Column) (m' r' c' : Nat) :
    (s.dramPut m r c v).dramGet m' r' c' = if dramKey m' r' c' = dramKey m r c then v else s.dramGet m' r' c' :=
  Tab.get_set _ _ _ _ _
@[simp] theorem State.dramGet_dramPut_same (m r c : Nat) (v : Column) : (s.dramPut m r c v).dramGet m r c = v :=
  Tab.get_set_same _ _ _ _

/-- A counter of the dictionary reads as what was stored, in 64 bits. -/
@[simp] theorem State.ctr_setCtr_same (i j v : Nat) : (s.setCtr i j v).ctr i j = v % 2 ^ 64 := by
  simp [State.ctr, State.setCtr]

@[simp] theorem State.bump_mem (i j n w : Nat) : (s.bump i j n w).mem = s.mem := rfl
@[simp] theorem State.bump_clusters (i j n w : Nat) : (s.bump i j n w).clusters = s.clusters := rfl
@[simp] theorem State.bump_crust (i j n w : Nat) : (s.bump i j n w).crust = s.crust := rfl
@[simp] theorem State.bump_fab (i j n w : Nat) : (s.bump i j n w).fab = s.fab := rfl
@[simp] theorem State.bump_place (i j n w : Nat) : (s.bump i j n w).place = s.place := rfl
@[simp] theorem State.bump_build (i j n w : Nat) : (s.bump i j n w).build = s.build := rfl
@[simp] theorem State.bump_bank (i j n w b : Nat) : (s.bump i j n w).bank b = s.bank b := rfl
@[simp] theorem State.bump_chan (i j n w b : Nat) : (s.bump i j n w).chan b = s.chan b := rfl
@[simp] theorem State.bump_stk (i j n w b : Nat) : (s.bump i j n w).stk b = s.stk b := rfl
@[simp] theorem State.log_mem (ws : List Word) : (s.log ws).mem = s.mem := by simp only [State.log]
@[simp] theorem State.log_mgmt (ws : List Word) : (s.log ws).mgmt = s.mgmt := by simp only [State.log]
@[simp] theorem State.log_build (ws : List Word) : (s.log ws).build = s.build := by simp only [State.log]
@[simp] theorem State.log_clusters (ws : List Word) : (s.log ws).clusters = s.clusters := by simp only [State.log]
@[simp] theorem State.log_fab (ws : List Word) : (s.log ws).fab = s.fab := by simp only [State.log]
@[simp] theorem State.log_bank (ws : List Word) (b : Nat) : (s.log ws).bank b = s.bank b := by simp only [State.bank, State.log]
@[simp] theorem State.log_chan (ws : List Word) (b : Nat) : (s.log ws).chan b = s.chan b := by simp only [State.chan, State.log]
@[simp] theorem State.log_stk (ws : List Word) (b : Nat) : (s.log ws).stk b = s.stk b := by simp only [State.stk, State.log]

end Sys2Proof.Machine
end

