-- ==== Sys2Proof/Laws/Ops.lean ====
section
/-! SUPPORT. What each shared operation can do, said once: the answers of a command, reads and writes of memory,
the log and the counters. -/

namespace Sys2Proof.Machine

variable {s s' t : State} {c : Bool} {o : Out}

/-! ### Answers -/

@[simp] theorem go_eq (s s' : State) : go s s' = .next (keep s s') := rfl
@[simp] theorem ifUnit_true (s : State) (o : Out) : ifUnit s true o = o := rfl
@[simp] theorem ifUnit_false (s : State) (o : Out) : ifUnit s false o = .next s := rfl
@[simp] theorem when'_true (s s' : State) : when' true s s' = go s s' := rfl
@[simp] theorem when'_false (s s' : State) : when' false s s' = .next s := rfl

/-- How a command that is carried out is shown to complete. -/
theorem completes_go {i : Instr} {P : State → Prop} (h : exec i s = go s s') (p : P (keep s s')) :
    Completes i s P := ⟨_, h, p⟩

/-- A command taken only while `c` holds answers one of two next states. -/
theorem when'_cases (h : when' c s s' = .next t) :
    (c = true ∧ t = keep s s') ∨ (c = false ∧ t = s) := by
  cases c with
  | true => exact .inl ⟨rfl, by simpa using h.symm⟩
  | false => exact .inr ⟨rfl, by simpa using h.symm⟩

/-- A command that names a unit has its effect where the unit exists, and none elsewhere. -/
theorem ifUnit_next (h : ifUnit s c o = .next t) : (c = true ∧ o = .next t) ∨ (c = false ∧ t = s) := by
  cases c <;> simp_all

/-! ### Served commands -/

theorem served_go (s s' : State) : Served s (go s s') := ⟨_, rfl, rfl, rfl⟩
theorem served_next (s : State) : Served s (.next s) := ⟨s, rfl, rfl, rfl⟩
theorem served_when' (c : Bool) (s s' : State) : Served s (when' c s s') := by
  cases c
  · exact served_next s
  · exact served_go s s'
theorem served_ifUnit (h : Served s o) : Served s (ifUnit s c o) := by
  cases c
  · exact served_next s
  · exact h

/-- A tick of the slow clock changes neither the build nor the queue. -/
@[simp] theorem State.tick_build (s : State) : s.tick.build = s.build := rfl
@[simp] theorem State.tick_pending (s : State) : s.tick.pending = s.pending := rfl

/-! ### Memory -/

/-- A write of a column keeps the memory's canonical form. -/
theorem dramPut_wf (m r c : Nat) (v : Column) (h : s.mem.wf = true) : (s.dramPut m r c v).mem.wf = true :=
  Tab.wf_set _ _ h

theorem locPut_wf (l : Loc) (v : Column) (h : s.mem.wf = true) : (s.locPut l v).mem.wf = true := dramPut_wf _ _ _ _ h

@[simp] theorem askSpare_dram (s : State) (m r : Nat) : (s.askSpare m r).mem.dram = s.mem.dram := by
  unfold State.askSpare; split <;> rfl

@[simp] theorem stkEvent_mem (s : State) (code : Nat) (a : EvAt) (e : Option EccOut) (n : Nat) :
    (s.stkEvent code a e n).mem = s.mem := by simp [State.stkEvent]

@[simp] theorem countCe_dram (s : State) (n : Nat) (a : EvAt) : (s.countCe n a).mem.dram = s.mem.dram := by
  unfold State.countCe; dsimp only; split
  · rfl
  · split <;> simp

@[simp] theorem countUe_dram (s : State) (code : Option Nat) (a : EvAt) (e : EccOut) :
    (s.countUe code a e).mem.dram = s.mem.dram := by
  unfold State.countUe; cases code <;> simp

/-- A read leaves the contents of memory alone. -/
@[simp] theorem readCol_dram (s : State) (a : EvAt) : (s.readCol a).1.mem.dram = s.mem.dram := by
  unfold State.readCol; dsimp only
  repeat' split
  all_goals simp

@[simp] theorem mergeCol_dram (s : State) (a : EvAt) (d : Line) (m : BitVec 64) :
    (s.mergeCol a d m).1.mem.dram = s.mem.dram := by
  unfold State.mergeCol; dsimp only
  repeat' split
  all_goals simp

theorem mem_wf_of_dram (h : t.mem.dram = s.mem.dram) (hs : s.mem.wf = true) : t.mem.wf = true := by
  unfold Mem.wf at *; rw [h]; exact hs

theorem writeCol_wf (a : EvAt) (d : Line) (m : BitVec 64) (p : Bool) (h : s.mem.wf = true) :
    (s.writeCol a d m p).1.mem.wf = true := by
  unfold State.writeCol; dsimp only; split
  · exact locPut_wf _ _ h
  · exact locPut_wf _ _ (mem_wf_of_dram (mergeCol_dram s a d m) h)

@[simp] theorem interleave_dram (s : State) (m : Nat) : (s.interleave m).mem.dram = s.mem.dram := by
  unfold State.interleave; dsimp only
  split
  · rfl
  · split <;> rfl

/-- A line read by any agent leaves the contents of memory alone. -/
theorem lineRead_dram (s : State) (o : Origin) (cls : Option Nat) (lin : Nat) :
    (s.lineRead o cls lin).1.mem.dram = s.mem.dram := by
  unfold State.lineRead; split <;> simp

/-- A line written by any agent keeps the memory's canonical form. -/
theorem lineWrite_wf (o : Origin) (cls : Option Nat) (lin : Nat) (d : Line) (m : BitVec 64) (p : Bool)
    (h : s.mem.wf = true) : (s.lineWrite o cls lin d m p).1.mem.wf = true := by
  unfold State.lineWrite; split
  · exact h
  · exact writeCol_wf _ _ _ _ (mem_wf_of_dram (by simp) h)

theorem copyToSpare_wf (m p dst c : Nat) (h : s.mem.wf = true) : (s.copyToSpare m p dst c).mem.wf = true :=
  dramPut_wf _ _ _ _ h

/-- Scrub's read leaves the contents of memory alone: its WR stores what is written back. -/
@[simp] theorem scrubRead_dram (s : State) (r : PortReq) : (s.scrubRead r).1.mem.dram = s.mem.dram := by
  unfold State.scrubRead; dsimp only
  repeat' split
  all_goals simp

end Sys2Proof.Machine
end

