-- ==== Sys2Proof/Laws/Mgmt.lean ====
section
/-! SUPPORT. What an accepted management write does, what entries read as after a write, and the crust's log. -/

namespace Sys2Proof.Machine

variable (s : State)

/-! ### Entries -/

theorem odKey_inj {i j k l : Nat} (hj : j < 256) (hl : l < 256) (h : odKey i j = odKey k l) : i = k ∧ j = l := by
  unfold odKey at h; omega

/-- The rows and defaults of the dictionary depend on the build and the straps alone. -/
theorem odRow_congr {s t : State} (hb : t.build = s.build) (i j : Nat) : t.odRow i j = s.odRow i j := by
  cases s; cases t; cases hb; rfl

theorem maxPower_congr {s t : State} (hb : t.build = s.build) : t.maxPower = s.maxPower := by
  cases s; cases t; cases hb; rfl

theorem odDefault_congr {s t : State} (hb : t.build = s.build) (hc : t.crust.straps = s.crust.straps) (r : OdRow)
    (i j : Nat) : t.odDefault r i j = s.odDefault r i j := by
  unfold State.odDefault
  rw [hc, maxPower_congr hb]

/-- An entry's value depends on the dictionary, the build and the straps alone. -/
theorem odVal_congr {s t : State} (ho : t.mgmt.od = s.mgmt.od) (hb : t.build = s.build)
    (hc : t.crust.straps = s.crust.straps) (i j : Nat) : t.odVal i j = s.odVal i j := by
  unfold State.odVal
  rw [ho, odRow_congr hb]
  split
  · rfl
  · split
    · rw [odDefault_congr hb hc]
    · rfl

theorem ctr_setCtr_ne {i j k l v : Nat} (hj : j < 256) (hl : l < 256) (h : (k, l) ≠ (i, j)) :
    (s.setCtr i j v).ctr k l = s.ctr k l := by
  unfold State.ctr State.setCtr
  rw [Tab.get_set_ne]
  intro e; exact h (by obtain ⟨a, b⟩ := odKey_inj hl hj e; simp [a, b])

theorem ctr_setCtr (i j v : Nat) : (s.setCtr i j v).ctr i j = v % 2 ^ 64 := by
  simp [State.ctr, State.setCtr]

/-- A counter after it has counted. -/
theorem ctr_bump (i j n : Nat) : (s.bump i j n).ctr i j = (s.ctr i j + n) % 2 ^ 64 := by
  simp [State.bump, wrapAdd]

/-! ### The log -/

@[simp] theorem log_logSeq (ws : List Word) : (s.log ws).crust.logSeq = s.crust.logSeq + 1 := rfl
@[simp] theorem log_svc (ws : List Word) : (s.log ws).crust.svc = s.crust.svc := rfl
@[simp] theorem log_time (ws : List Word) : (s.log ws).crust.time = s.crust.time := rfl
@[simp] theorem log_power (ws : List Word) : (s.log ws).power = s.power := rfl
@[simp] theorem log_therm (ws : List Word) : (s.log ws).therm = s.therm := rfl
@[simp] theorem log_trust (ws : List Word) : (s.log ws).trust = s.trust := rfl
@[simp] theorem log_place (ws : List Word) : (s.log ws).place = s.place := rfl
@[simp] theorem log_cxl (ws : List Word) : (s.log ws).cxl = s.cxl := rfl

/-- Changing the service state leaves the module in it, and changes only the crust. -/
theorem setSvc_svc (v : Svc) : (s.setSvc v).crust.svc = v := by
  unfold State.setSvc; split <;> simp_all [State.crustEvent]
theorem setSvc_rest (v : Svc) : { s.setSvc v with crust := s.crust } = s := by
  unfold State.setSvc; split <;> rfl

/-! ### Writes -/

/-- A refusal changes only a window; an accepted write none. -/
theorem refusal_ok (path i j : Nat) : s.refusal path i j 0 = s := by simp [State.refusal]

@[simp] theorem begun_build (a : Acc) : (s.begun a).build = s.build := by unfold State.begun; split <;> rfl
@[simp] theorem begun_crust (a : Acc) : (s.begun a).crust = s.crust := by unfold State.begun; split <;> rfl
@[simp] theorem begun_od (a : Acc) : (s.begun a).mgmt.od = s.mgmt.od := by unfold State.begun; split <;> rfl
@[simp] theorem begun_pending (a : Acc) : (s.begun a).pending = s.pending := by unfold State.begun; split <;> rfl
@[simp] theorem begun_outs (a : Acc) : (s.begun a).mgmt.outs = s.mgmt.outs := by unfold State.begun; split <;> rfl
theorem begun_rest (a : Acc) : { s.begun a with mgmt := s.mgmt } = s := by unfold State.begun; split <;> rfl

/-- A whole write that reaches its path is one write of the slot, whose status the path is told. -/
theorem pathWrite_reaches {a : Acc} {i j : Nat} {v : Word} (h : Reaches s a i j v) :
    s.pathWrite a i j v = go s (((s.begun a).slotWrite a.path i j true v).1.tell a.path i j
      ((s.begun a).slotWrite a.path i j true v).2) := by
  obtain ⟨hf, ho, hw⟩ := h
  unfold State.pathWrite
  rw [hf, ifUnit_true, ho, when'_true]
  unfold State.pathPut State.begun
  split
  · rw [hw ‹_›]
  · rfl

/-- A write that nothing turns away does what its entry does, and its path is told how that ended. -/
theorem pathWrite_takes {a : Acc} {i j : Nat} {v : Word} {r : OdRow} (h : Takes s a i j v) (hw : isWinEntry i = false)
    (hr : (s.begun a).odRow i j = some r) :
    s.pathWrite a i j v =
      let x := (s.begun a).odEffect a.path i j r v none
      go s ((x.1.refusal a.path i j x.2).tell a.path i j x.2) := by
  rw [pathWrite_reaches s h.1]
  simp [State.slotWrite, hw, State.odAccept, h.2, stOk, hr]

/-- An entry that acts by itself: its action is the effect. -/
theorem pathWrite_acts {a : Acc} {i j : Nat} {v : Word} {r : OdRow} {t : State} (h : Takes s a i j v)
    (hw : isWinEntry i = false) (hr : (s.begun a).odRow i j = some r) (hc : r.cls = 0)
    (ha : (s.begun a).actIdent a.path i j ((s.begun a).stored r i j v) = some (t, 0)) :
    s.pathWrite a i j v = go s (t.tell a.path i j 0) := by
  rw [pathWrite_takes s h hw hr]
  simp [State.odEffect, hc, ha, refusal_ok]

/-- An entry without an action of its own takes the value that is stored. -/
theorem pathWrite_stores {a : Acc} {i j : Nat} {v : Word} {r : OdRow} (h : Takes s a i j v) (hs : i ≠ 0x3000)
    (hw : isWinEntry i = false) (hr : (s.begun a).odRow i j = some r) (hc : r.cls = 0)
    (ha : (s.begun a).actIdent a.path i j ((s.begun a).stored r i j v) = none) :
    s.pathWrite a i j v = go s (((s.begun a).odPut i j ((s.begun a).stored r i j v)).tell a.path i j 0) := by
  rw [pathWrite_takes s h hw hr]
  simp [State.odEffect, hc, ha, hs, refusal_ok, stOk]

/-! ### Requests that nothing holds -/

/-- With nothing waiting or unsettled, settling changes nothing. -/
theorem settle_quiet (h : s.quiet) : s.settle = s := by
  obtain ⟨-, hd, hr⟩ := h
  have e : ({ s with place := { s.place with rounds := [] } } : State) = s := by rw [← hr]
  simp [State.settle, State.settleN, State.endRounds, hd, hr, e]

/-- With nothing held the ingress buffers are empty. -/
theorem buffer12_empty (h : s.place.held = []) (n : Nat) : s.buffer12 n = {} := by
  simp [State.buffer12, h]

/-- With nothing held and no XOFF out, no port owes its peer anything. -/
theorem flow_nothingHeld (h : s.nothingHeld) : s.flow = s := by
  obtain ⟨hh, hx⟩ := h
  have one (n g : Nat) (hx : (s.port n).xoff g = false) : s.flowOne n g = s := by
    simp [State.flowOne, State.bufferHigh, buffer12_empty s hh, hx, Buffer.pool, Buffer.poolOf]
  have go (l : List Nat) (hl : ∀ n ∈ l, n < 4 * s.build.ioDies) :
      l.foldl (fun s n => if (s.port n).up then (s.flowOne n 0).flowOne n 1 else s) s = s := by
    induction l with
    | nil => rfl
    | cons n l ih =>
      have hs : (if (s.port n).up then (s.flowOne n 0).flowOne n 1 else s) = s := by
        split
        · have := hx n (hl n (by simp)) ‹_›
          rw [one n 0 (by simpa [EthPort.xoff] using this.1), one n 1 (by simpa [EthPort.xoff] using this.2)]
        · rfl
      rw [List.foldl_cons, hs]
      exact ih fun m hm => hl m (by simp [hm])
  exact go _ fun n hn => by simpa [upTo] using hn

/-- With nothing held either, trying the held requests again changes nothing. -/
theorem retryHeld_quiet (h : s.quiet) (hh : s.nothingHeld) : s.retryHeld = s := by
  have e : ({ s with place := { s.place with held := [] } } : State) = s := by rw [← hh.1]
  simp only [State.retryHeld, hh.1, List.foldl_nil, e, settle_quiet s h, flow_nothingHeld s hh]

end Sys2Proof.Machine
end

