-- ==== Sys2Proof/Laws/PerInstr.lean ====
section
/-! SUPPORT. One statement per command: a well-formed command names only units of the largest build. -/

namespace Sys2Proof.Laws.Kinds

/-- Every unit number of a well-formed command lies below its kind's bound. -/
def Statement (i : Instr) : Prop := i.wf = true → ∀ u ∈ i.units, u.2 < u.1.bound

theorem Statement.all (i : Instr) : Statement i := by
  intro h u hu
  simpa using List.all_eq_true.mp h u hu

theorem ucieLinkDown (link : Nat) : Statement (.ucieLinkDown link) := Statement.all _
theorem routeSwitch (link : Nat) : Statement (.routeSwitch link) := Statement.all _
theorem portRequest (stk : Nat) (port : Nat) (cls : Option Nat) (lin : Nat) (kind : ReqKind) (part : Nat) (requester : Nat) (t : Nat) : Statement (.portRequest stk port cls lin kind part requester t) := Statement.all _
theorem urgencyStep (id : Nat) (elapsedNs : Nat) : Statement (.urgencyStep id elapsedNs) := Statement.all _
theorem requestAged (id : Nat) (waitedNs : Nat) : Statement (.requestAged id waitedNs) := Statement.all _
theorem act (stk : Nat) (ch : Nat) (bank : Nat) (row : Nat) (t : Nat) : Statement (.act stk ch bank row t) := Statement.all _
theorem pre (stk : Nat) (ch : Nat) (bank : Nat) (latch : Nat) (t : Nat) : Statement (.pre stk ch bank latch t) := Statement.all _
theorem preb (stk : Nat) (ch : Nat) (bank : Nat) (t : Nat) : Statement (.preb stk ch bank t) := Statement.all _
theorem rd (stk : Nat) (ch : Nat) (word : BitVec 48) (id : Nat) (t : Nat) : Statement (.rd stk ch word id t) := Statement.all _
theorem wr (stk : Nat) (ch : Nat) (word : BitVec 48) (id : Nat) (t : Nat) : Statement (.wr stk ch word id t) := Statement.all _
theorem refpb (stk : Nat) (ch : Nat) (bank : Nat) (t : Nat) : Statement (.refpb stk ch bank t) := Statement.all _
theorem nrr (stk : Nat) (ch : Nat) (bank : Nat) (half : Nat) (t : Nat) : Statement (.nrr stk ch bank half t) := Statement.all _
theorem sre (stk : Nat) (ch : Nat) (t : Nat) : Statement (.sre stk ch t) := Statement.all _
theorem srx (stk : Nat) (ch : Nat) (t : Nat) : Statement (.srx stk ch t) := Statement.all _
theorem mrw (stk : Nat) (ch : Nat) (reg : Nat) (value : BitVec 32) (t : Nat) : Statement (.mrw stk ch reg value t) := Statement.all _
theorem mrr (stk : Nat) (ch : Nat) (reg : Nat) (t : Nat) : Statement (.mrr stk ch reg t) := Statement.all _
theorem tokenReturn (stk : Nat) (t : Nat) : Statement (.tokenReturn stk t) := Statement.all _
theorem refreshInterval (stk : Nat) (ch : Nat) (bank : Nat) (t : Nat) : Statement (.refreshInterval stk ch bank t) := Statement.all _
theorem refreshWindow (stk : Nat) : Statement (.refreshWindow stk) := Statement.all _
theorem srIdleExpiry (stk : Nat) (ch : Nat) (t : Nat) : Statement (.srIdleExpiry stk ch t) := Statement.all _
theorem napEntry (stk : Nat) : Statement (.napEntry stk) := Statement.all _
theorem scrubDue (stk : Nat) (ch : Nat) (t : Nat) : Statement (.scrubDue stk ch t) := Statement.all _
theorem scrubCatchUp (stk : Nat) (ch : Nat) (t : Nat) : Statement (.scrubCatchUp stk ch t) := Statement.all _
theorem softSpare (mbn : Nat) (row : Nat) (t : Nat) : Statement (.softSpare mbn row t) := Statement.all _
theorem sprigModeEnter (stk : Nat) (ch : Nat) (w : BitVec 48) (t : Nat) : Statement (.sprigModeEnter stk ch w t) := Statement.all _
theorem sprigModeLeave (stk : Nat) (ch : Nat) (w : BitVec 48) (t : Nat) : Statement (.sprigModeLeave stk ch w t) := Statement.all _
theorem recipeWrite (stk : Nat) (ch : Nat) (w : BitVec 48) (burst : Column) (t : Nat) : Statement (.recipeWrite stk ch w burst t) := Statement.all _
theorem operandBcast (stk : Nat) (ch : Nat) (w : BitVec 48) (burst : Column) (t : Nat) : Statement (.operandBcast stk ch w burst t) := Statement.all _
theorem sprigRun (stk : Nat) (ch : Nat) (w : BitVec 48) (burst : Column) (t : Nat) : Statement (.sprigRun stk ch w burst t) := Statement.all _
theorem sprigDrain (stk : Nat) (ch : Nat) (w : BitVec 48) (t : Nat) : Statement (.sprigDrain stk ch w t) := Statement.all _
theorem sprigStatus (stk : Nat) (ch : Nat) (w : BitVec 48) (t : Nat) : Statement (.sprigStatus stk ch w t) := Statement.all _
theorem stepNop (mbn : Nat) (t : Nat) : Statement (.stepNop mbn t) := Statement.all _
theorem stepUnpack (mbn : Nat) (t : Nat) : Statement (.stepUnpack mbn t) := Statement.all _
theorem stepFma (mbn : Nat) (t : Nat) : Statement (.stepFma mbn t) := Statement.all _
theorem stepAdd (mbn : Nat) (t : Nat) : Statement (.stepAdd mbn t) := Statement.all _
theorem stepMul (mbn : Nat) (t : Nat) : Statement (.stepMul mbn t) := Statement.all _
theorem stepMax (mbn : Nat) (t : Nat) : Statement (.stepMax mbn t) := Statement.all _
theorem stepCsel (mbn : Nat) (t : Nat) : Statement (.stepCsel mbn t) := Statement.all _
theorem stepDot (mbn : Nat) (t : Nat) : Statement (.stepDot mbn t) := Statement.all _
theorem stepFold (mbn : Nat) (t : Nat) : Statement (.stepFold mbn t) := Statement.all _
theorem stepLoad (mbn : Nat) (t : Nat) : Statement (.stepLoad mbn t) := Statement.all _
theorem stepStore (mbn : Nat) (t : Nat) : Statement (.stepStore mbn t) := Statement.all _
theorem stepWb (mbn : Nat) (t : Nat) : Statement (.stepWb mbn t) := Statement.all _
theorem stepDrain (mbn : Nat) (t : Nat) : Statement (.stepDrain mbn t) := Statement.all _
theorem stepSets (mbn : Nat) (t : Nat) : Statement (.stepSets mbn t) := Statement.all _
theorem stepSetp (mbn : Nat) (t : Nat) : Statement (.stepSetp mbn t) := Statement.all _
theorem stepRetire (mbn : Nat) (k : Nat) (t : Nat) : Statement (.stepRetire mbn k t) := Statement.all _
theorem runDoneReport (mbn : Nat) (t : Nat) : Statement (.runDoneReport mbn t) := Statement.all _
theorem runResume (mbn : Nat) (t : Nat) : Statement (.runResume mbn t) := Statement.all _
theorem sprigJob (c : Nat) (ticket : Nat) (t : Nat) : Statement (.sprigJob c ticket t) := Statement.all _
theorem jobBankBegin (job : Nat) (mbn : Nat) (t : Nat) : Statement (.jobBankBegin job mbn t) := Statement.all _
theorem jobComplete (job : Nat) : Statement (.jobComplete job) := Statement.all _
theorem srSeedMode (a : Acc) (engines : Bool) (v : BitVec 64) : Statement (.srSeedMode a engines v) := Statement.all _
theorem srSeed (a : Acc) (engines : Bool) (v : BitVec 64) : Statement (.srSeed a engines v) := Statement.all _
theorem panel (c : Nat) (tile : Nat) : Statement (.panel c tile) := Statement.all _
theorem mma (c : Nat) (tile : Nat) : Statement (.mma c tile) := Statement.all _
theorem cload (c : Nat) (tile : Nat) : Statement (.cload c tile) := Statement.all _
theorem store (c : Nat) (tile : Nat) : Statement (.store c tile) := Statement.all _
theorem lineResponse (c : Nat) (port : EnginePort) (k : Nat) : Statement (.lineResponse c port k) := Statement.all _
theorem tileCmdComplete (c : Nat) (tile : Nat) (eng : TileEngine) : Statement (.tileCmdComplete c tile eng) := Statement.all _
theorem chainInstruction (c : Nat) : Statement (.chainInstruction c) := Statement.all _
theorem chainComplete (c : Nat) : Statement (.chainComplete c) := Statement.all _
theorem layoutCopy (c : Nat) : Statement (.layoutCopy c) := Statement.all _
theorem layoutGather (c : Nat) : Statement (.layoutGather c) := Statement.all _
theorem layoutScatter (c : Nat) : Statement (.layoutScatter c) := Statement.all _
theorem transferComplete (c : Nat) : Statement (.transferComplete c) := Statement.all _
theorem halt (c : Nat) : Statement (.halt c) := Statement.all _
theorem alu (c : Nat) : Statement (.alu c) := Statement.all _
theorem addi (c : Nat) : Statement (.addi c) := Statement.all _
theorem andi (c : Nat) : Statement (.andi c) := Statement.all _
theorem ori (c : Nat) : Statement (.ori c) := Statement.all _
theorem xori (c : Nat) : Statement (.xori c) := Statement.all _
theorem shli (c : Nat) : Statement (.shli c) := Statement.all _
theorem shri (c : Nat) : Statement (.shri c) := Statement.all _
theorem sari (c : Nat) : Statement (.sari c) := Statement.all _
theorem slti (c : Nat) : Statement (.slti c) := Statement.all _
theorem lui (c : Nat) : Statement (.lui c) := Statement.all _
theorem lbu (c : Nat) : Statement (.lbu c) := Statement.all _
theorem lhu (c : Nat) : Statement (.lhu c) := Statement.all _
theorem lwu (c : Nat) : Statement (.lwu c) := Statement.all _
theorem ld (c : Nat) : Statement (.ld c) := Statement.all _
theorem sb (c : Nat) : Statement (.sb c) := Statement.all _
theorem sh (c : Nat) : Statement (.sh c) := Statement.all _
theorem sw (c : Nat) : Statement (.sw c) := Statement.all _
theorem sd (c : Nat) : Statement (.sd c) := Statement.all _
theorem beq (c : Nat) : Statement (.beq c) := Statement.all _
theorem bne (c : Nat) : Statement (.bne c) := Statement.all _
theorem blt (c : Nat) : Statement (.blt c) := Statement.all _
theorem bge (c : Nat) : Statement (.bge c) := Statement.all _
theorem bltu (c : Nat) : Statement (.bltu c) := Statement.all _
theorem bgeu (c : Nat) : Statement (.bgeu c) := Statement.all _
theorem jmp (c : Nat) : Statement (.jmp c) := Statement.all _
theorem call (c : Nat) : Statement (.call c) := Statement.all _
theorem jr (c : Nat) : Statement (.jr c) := Statement.all _
theorem qpush (c : Nat) : Statement (.qpush c) := Statement.all _
theorem qabort (c : Nat) : Statement (.qabort c) := Statement.all _
theorem qinfo (c : Nat) : Statement (.qinfo c) := Statement.all _
theorem spush (c : Nat) : Statement (.spush c) := Statement.all _
theorem sflush (c : Nat) : Statement (.sflush c) := Statement.all _
theorem sinfo (c : Nat) : Statement (.sinfo c) := Statement.all _
theorem frd (c : Nat) : Statement (.frd c) := Statement.all _
theorem fwr (c : Nat) (more : Bool) : Statement (.fwr c more) := Statement.all _
theorem fadd (c : Nat) (more : Bool) : Statement (.fadd c more) := Statement.all _
theorem fwait (c : Nat) : Statement (.fwait c) := Statement.all _
theorem cyc (c : Nat) : Statement (.cyc c) := Statement.all _
theorem odrd (c : Nat) : Statement (.odrd c) := Statement.all _
theorem wfe (c : Nat) : Statement (.wfe c) := Statement.all _
theorem ifence (c : Nat) : Statement (.ifence c) := Statement.all _
theorem whoami (c : Nat) : Statement (.whoami c) := Statement.all _
theorem queueDispatch (c : Nat) (q : Nat) : Statement (.queueDispatch c q) := Statement.all _
theorem entryDelivery (c : Nat) (q : Nat) (more : Bool) : Statement (.entryDelivery c q more) := Statement.all _
theorem doorbellWrite (port : Nat) (offset : Nat) (size : Nat) (v : BitVec 64) : Statement (.doorbellWrite port offset size v) := Statement.all _
theorem ringPush (p : Nat) (r : Nat) (same : Bool) : Statement (.ringPush p r same) := Statement.all _
theorem ringStart (p : Nat) (r : Nat) : Statement (.ringStart p r) := Statement.all _
theorem ringLoad (p : Nat) (r : Nat) : Statement (.ringLoad p r) := Statement.all _
theorem ringAbort (p : Nat) (r : Nat) : Statement (.ringAbort p r) := Statement.all _
theorem ringNop (p : Nat) (r : Nat) : Statement (.ringNop p r) := Statement.all _
theorem ringRestart (a : Acc) (p : Nat) (r : Nat) (v : BitVec 64) : Statement (.ringRestart a p r v) := Statement.all _
theorem flagN (a : Acc) (c : Nat) (n : Nat) (v : BitVec 64) (more : Bool) : Statement (.flagN a c n v more) := Statement.all _
theorem flagAdd (a : Acc) (c : Nat) (v : BitVec 64) (more : Bool) : Statement (.flagAdd a c v more) := Statement.all _
theorem watchdogTest (c : Nat) : Statement (.watchdogTest c) := Statement.all _
theorem dumpNow (a : Acc) (p : Nat) (v : BitVec 64) : Statement (.dumpNow a p v) := Statement.all _
theorem countTimeout (pos : Nat) (cl : Nat) : Statement (.countTimeout pos cl) := Statement.all _
theorem arrivalCounterFree (pos : Nat) (cl : Nat) : Statement (.arrivalCounterFree pos cl) := Statement.all _
theorem fqRead (c : Nat) (ticket : Nat) : Statement (.fqRead c ticket) := Statement.all _
theorem fqWrite (c : Nat) (ticket : Nat) : Statement (.fqWrite c ticket) := Statement.all _
theorem fqReduce (c : Nat) (ticket : Nat) : Statement (.fqReduce c ticket) := Statement.all _
theorem fqAtomic (c : Nat) (ticket : Nat) : Statement (.fqAtomic c ticket) := Statement.all _
theorem fqSignal (c : Nat) (ticket : Nat) (more : Bool) : Statement (.fqSignal c ticket more) := Statement.all _
theorem fqCountedSignal (c : Nat) (ticket : Nat) (more : Bool) : Statement (.fqCountedSignal c ticket more) := Statement.all _
theorem fqOpComplete (c : Nat) (ticket : Nat) : Statement (.fqOpComplete c ticket) := Statement.all _
theorem portUp (n : Nat) : Statement (.portUp n) := Statement.all _
theorem portDown (n : Nat) : Statement (.portDown n) := Statement.all _
theorem read (n : Nat) (f : Frame) : Statement (.read n f) := Statement.all _
theorem write (n : Nat) (f : Frame) : Statement (.write n f) := Statement.all _
theorem reduce (n : Nat) (f : Frame) : Statement (.reduce n f) := Statement.all _
theorem atomic (n : Nat) (f : Frame) : Statement (.atomic n f) := Statement.all _
theorem signal (n : Nat) (f : Frame) (more : Bool) : Statement (.signal n f more) := Statement.all _
theorem countedSignal (n : Nat) (f : Frame) (more : Bool) : Statement (.countedSignal n f more) := Statement.all _
theorem replicaInv (n : Nat) (f : Frame) : Statement (.replicaInv n f) := Statement.all _
theorem placementClaim (n : Nat) (f : Frame) : Statement (.placementClaim n f) := Statement.all _
theorem placementPublish (n : Nat) (f : Frame) : Statement (.placementPublish n f) := Statement.all _
theorem completion (n : Nat) (f : Frame) : Statement (.completion n f) := Statement.all _
theorem nack (n : Nat) (f : Frame) : Statement (.nack n f) := Statement.all _
theorem redirect (n : Nat) (f : Frame) : Statement (.redirect n f) := Statement.all _
theorem seqNack (n : Nat) (f : Frame) : Statement (.seqNack n f) := Statement.all _
theorem keepalive (n : Nat) (f : Frame) : Statement (.keepalive n f) := Statement.all _
theorem pfcFrame (n : Nat) (enable : BitVec 8) (quanta : List (BitVec 16)) : Statement (.pfcFrame n enable quanta) := Statement.all _
theorem pauseFrame (n : Nat) : Statement (.pauseFrame n) := Statement.all _
theorem xoffRepeat (n : Nat) (sgrp : Nat) : Statement (.xoffRepeat n sgrp) := Statement.all _
theorem lldpTimer (n : Nat) : Statement (.lldpTimer n) := Statement.all _
theorem retransmitTimer (id : Nat) : Statement (.retransmitTimer id) := Statement.all _
theorem requestTimeout (id : Nat) : Statement (.requestTimeout id) := Statement.all _
theorem gapWaitExpiry (pos : Nat) (die : Nat) (sgrp : Nat) : Statement (.gapWaitExpiry pos die sgrp) := Statement.all _
theorem keepaliveTimer (die : Nat) (pos : Nat) : Statement (.keepaliveTimer die pos) := Statement.all _
theorem tagQuarantineExpiry (die : Nat) (pos : Nat) (tag : Nat) : Statement (.tagQuarantineExpiry die pos tag) := Statement.all _
theorem tagSpaceFree (die : Nat) (pos : Nat) : Statement (.tagSpaceFree die pos) := Statement.all _
theorem replayWindowFree (pos : Nat) (die : Nat) : Statement (.replayWindowFree pos die) := Statement.all _
theorem joinStart : Statement (.joinStart) := Statement.all _
theorem joinAnnounceTimer : Statement (.joinAnnounceTimer) := Statement.all _
theorem joinChallenge (n : Nat) (f : Frame) : Statement (.joinChallenge n f) := Statement.all _
theorem joinResult (n : Nat) (f : Frame) : Statement (.joinResult n f) := Statement.all _
theorem memberUpdate (n : Nat) (f : Frame) : Statement (.memberUpdate n f) := Statement.all _
theorem joinFragmentTimeout (msgId : Nat) : Statement (.joinFragmentTimeout msgId) := Statement.all _
theorem leave (a : Acc) (v : BitVec 64) : Statement (.leave a v) := Statement.all _
theorem leaveSend : Statement (.leaveSend) := Statement.all _
theorem placeCommit (a : Acc) (p : Nat) (v : BitVec 64) : Statement (.placeCommit a p v) := Statement.all _
theorem pcacheMissFill (die : Nat) (p : Nat) (loaf : Nat) : Statement (.pcacheMissFill die p loaf) := Statement.all _
theorem replicaFillComplete (p : Nat) (loaf : Nat) : Statement (.replicaFillComplete p loaf) := Statement.all _
theorem migStart (a : Acc) (p : Nat) (v : BitVec 64) : Statement (.migStart a p v) := Statement.all _
theorem migClaim (p : Nat) : Statement (.migClaim p) := Statement.all _
theorem migFreezeTimeout (p : Nat) : Statement (.migFreezeTimeout p) := Statement.all _
theorem migVacate (p : Nat) : Statement (.migVacate p) := Statement.all _
theorem incomingTimeout (loff : Nat) : Statement (.incomingTimeout loff) := Statement.all _
theorem hostMemRead (n : Nat) (dpa : Nat) (want : HostWant) : Statement (.hostMemRead n dpa want) := Statement.all _
theorem hostMemWrite (n : Nat) (dpa : Nat) (data : BitVec 512) (mask : BitVec 64) (poison : Bool) : Statement (.hostMemWrite n dpa data mask poison) := Statement.all _
theorem birsp (n : Nat) (lin : Nat) : Statement (.birsp n lin) := Statement.all _
theorem biTimeout (n : Nat) (lin : Nat) : Statement (.biTimeout n lin) := Statement.all _
theorem hdmDecoderCommit (n : Nat) (k : Nat) (size : Nat) (ways : Nat) : Statement (.hdmDecoderCommit n k size ways) := Statement.all _
theorem cxlLinkDown (n : Nat) (conventionalReset : Bool) : Statement (.cxlLinkDown n conventionalReset) := Statement.all _
theorem perstNAssert (n : Nat) : Statement (.perstNAssert n) := Statement.all _
theorem perstNRelease (n : Nat) : Statement (.perstNRelease n) := Statement.all _
theorem getEventRecords (n : Nat) (log : Nat) : Statement (.getEventRecords n log) := Statement.all _
theorem clearEventRecords (n : Nat) (log : Nat) : Statement (.clearEventRecords n log) := Statement.all _
theorem getFwInfo (n : Nat) : Statement (.getFwInfo n) := Statement.all _
theorem getTimestamp (n : Nat) : Statement (.getTimestamp n) := Statement.all _
theorem setTimestamp (n : Nat) (v : BitVec 64) : Statement (.setTimestamp n v) := Statement.all _
theorem getSupportedLogs (n : Nat) : Statement (.getSupportedLogs n) := Statement.all _
theorem getLog (n : Nat) (log : Nat) : Statement (.getLog n log) := Statement.all _
theorem identifyMemoryDevice (n : Nat) : Statement (.identifyMemoryDevice n) := Statement.all _
theorem getPartitionInfo (n : Nat) : Statement (.getPartitionInfo n) := Statement.all _
theorem getHealthInfo (n : Nat) : Statement (.getHealthInfo n) := Statement.all _
theorem getPoisonList (n : Nat) : Statement (.getPoisonList n) := Statement.all _
theorem odWrite (a : Acc) (index : Nat) (sub : Nat) (v : BitVec 64) : Statement (.odWrite a index sub v) := Statement.all _
theorem crumbRead (path : Nat) (m : CrumbMsg) : Statement (.crumbRead path m) := Statement.all _
theorem crumbWrite (path : Nat) (m : CrumbMsg) : Statement (.crumbWrite path m) := Statement.all _
theorem hello (mctp : Bool) (m : SessMsg) : Statement (.hello mctp m) := Statement.all _
theorem confirm (mctp : Bool) (m : SessMsg) : Statement (.confirm mctp m) := Statement.all _
theorem close (path : Nat) (m : SessMsg) : Statement (.close path m) := Statement.all _
theorem challengeTimeout (sid : Nat) : Statement (.challengeTimeout sid) := Statement.all _
theorem sessionIdleTimeout (path : Nat) : Statement (.sessionIdleTimeout path) := Statement.all _
theorem authRateLimitEnd (mctp : Bool) : Statement (.authRateLimitEnd mctp) := Statement.all _
theorem quiesce (a : Acc) (p : Nat) (v : BitVec 64) : Statement (.quiesce a p v) := Statement.all _
theorem quiesceDrainLimit (p : Nat) : Statement (.quiesceDrainLimit p) := Statement.all _
theorem quiesceApply (p : Nat) : Statement (.quiesceApply p) := Statement.all _
theorem poisonFillComplete (p : Nat) : Statement (.poisonFillComplete p) := Statement.all _
theorem cfgDiscard (a : Acc) (p : Nat) (v : BitVec 64) : Statement (.cfgDiscard a p v) := Statement.all _
theorem cfgRollback (a : Acc) (p : Nat) (v : BitVec 64) : Statement (.cfgRollback a p v) := Statement.all _
theorem mcfgDiscard (a : Acc) (v : BitVec 64) : Statement (.mcfgDiscard a v) := Statement.all _
theorem mcfgRollback (a : Acc) (v : BitVec 64) : Statement (.mcfgRollback a v) := Statement.all _
theorem winAddr (a : Acc) (k : Nat) (v : BitVec 64) : Statement (.winAddr a k v) := Statement.all _
theorem winDataRead (a : Acc) (k : Nat) : Statement (.winDataRead a k) := Statement.all _
theorem winDataWrite (a : Acc) (k : Nat) (v : BitVec 64) : Statement (.winDataWrite a k v) := Statement.all _
theorem winClose (a : Acc) (k : Nat) (v : BitVec 64) : Statement (.winClose a k v) := Statement.all _
theorem locks (a : Acc) (v : BitVec 64) : Statement (.locks a v) := Statement.all _
theorem hotswapConduct : Statement (.hotswapConduct) := Statement.all _
theorem powerGood : Statement (.powerGood) := Statement.all _
theorem inputLoss : Statement (.inputLoss) := Statement.all _
theorem inputOv : Statement (.inputOv) := Statement.all _
theorem slewInterval (mA : Nat) (mV : Nat) (fit : Nat) (ballastMj : Nat) : Statement (.slewInterval mA mV fit ballastMj) := Statement.all _
theorem governorTick (m : GovMeas) : Statement (.governorTick m) := Statement.all _
theorem jmGraceExpiry : Statement (.jmGraceExpiry) := Statement.all _
theorem clockStepEffect (die : Nat) : Statement (.clockStepEffect die) := Statement.all _
theorem sensorRead (grp : Nat) (readings : List SensorRaw) (tPredUs : Option Nat) : Statement (.sensorRead grp readings tPredUs) := Statement.all _
theorem drainWindowExpiry : Statement (.drainWindowExpiry) := Statement.all _
theorem stackCriticalHoldExpiry (stk : Nat) : Statement (.stackCriticalHoldExpiry stk) := Statement.all _
theorem oscTrim : Statement (.oscTrim) := Statement.all _
theorem coldStart (straps : BitVec 24) (healthy : Bool) : Statement (.coldStart straps healthy) := Statement.all _
theorem lockstepMismatch : Statement (.lockstepMismatch) := Statement.all _
theorem crustWatchdogExpiry : Statement (.crustWatchdogExpiry) := Statement.all _
theorem moduleReset (a : Acc) : Statement (.moduleReset a) := Statement.all _
theorem preservingReset (a : Acc) : Statement (.preservingReset a) := Statement.all _
theorem crustReset (a : Acc) : Statement (.crustReset a) := Statement.all _
theorem modResetNAssert : Statement (.modResetNAssert) := Statement.all _
theorem modResetNRelease : Statement (.modResetNRelease) := Statement.all _
theorem start (a : Acc) (v : BitVec 64) : Statement (.start a v) := Statement.all _
theorem trainingComplete (failed : BitVec 16) : Statement (.trainingComplete failed) := Statement.all _
theorem fwCommit (a : Acc) (v : BitVec 64) : Statement (.fwCommit a v) := Statement.all _
theorem fwVerifyComplete : Statement (.fwVerifyComplete) := Statement.all _
theorem fwConfirm (a : Acc) (v : BitVec 64) : Statement (.fwConfirm a v) := Statement.all _
theorem attestNonce (a : Acc) (nonce : Bytes) : Statement (.attestNonce a nonce) := Statement.all _
theorem attestReportReady : Statement (.attestReportReady) := Statement.all _
theorem testUnlock (a : Acc) (sig : Bytes) : Statement (.testUnlock a sig) := Statement.all _
theorem testPower (a : Acc) (v : BitVec 64) : Statement (.testPower a v) := Statement.all _
theorem mtestCtrl (a : Acc) (stk : Nat) (v : BitVec 64) : Statement (.mtestCtrl a stk v) := Statement.all _
theorem mtestComplete (stk : Nat) : Statement (.mtestComplete stk) := Statement.all _
theorem tileBist (a : Acc) (v : BitVec 64) : Statement (.tileBist a v) := Statement.all _
theorem tileBistComplete (passed : Bool) : Statement (.tileBistComplete passed) := Statement.all _
theorem portPrbs (a : Acc) (n : Nat) (v : BitVec 64) : Statement (.portPrbs a n v) := Statement.all _
theorem auxiliaryPowerLoss : Statement (.auxiliaryPowerLoss) := Statement.all _
theorem cxlLinkUp (n : Nat) (full : Bool) : Statement (.cxlLinkUp n full) := Statement.all _
theorem refclkChange (n : Nat) (present : Bool) : Statement (.refclkChange n present) := Statement.all _
theorem tpElapsed : Statement (.tpElapsed) := Statement.all _
theorem startFail (step : Nat) (which : Nat) : Statement (.startFail step which) := Statement.all _
theorem testPowerLevelReached (level : Nat) : Statement (.testPowerLevelReached level) := Statement.all _
theorem badFrame (n : Nat) (f : Frame) : Statement (.badFrame n f) := Statement.all _
theorem illegalInstruction (c : Nat) : Statement (.illegalInstruction c) := Statement.all _
theorem unsupportedMailboxCommand (n : Nat) (opcode : Nat) : Statement (.unsupportedMailboxCommand n opcode) := Statement.all _

end Sys2Proof.Laws.Kinds
end

