-- ==== Sys2Proof/Machine/Pins.lean ====
section
/-! DEFINITION. The connectors and their pins, the straps, and the state in which each class of pins is (18 R602 to R614,
R616). -/

namespace Sys2Proof.Machine

/-! ### Connectors (R602 to R605, R616) -/

/-- The length of a contact, and with it the stage at which it mates. -/
inductive PinLen where
  | long | standard | short
  deriving DecidableEq, Repr

/-- The stage of insertion at which a contact of this length mates (R616). -/
def PinLen.stage : PinLen → Nat
  | .long => 1
  | .standard => 2
  | .short => 3

/-- A pin of J1 or J2. -/
structure PinDesc where
  name : String
  len  : PinLen := .standard
  deriving DecidableEq, Repr

/-- The pins of J1 (R603). -/
def j1Pin (n : Nat) : Option PinDesc :=
  if 1 ≤ n && n ≤ 4 then some { name := "VIN_48V" }
  else if 5 ≤ n && n ≤ 8 then some { name := "VRTN" }
  else if n = 9 then some { name := "CHASSIS", len := .long }
  else none

/-- The pins of J2 (R604). -/
def j2Pin (n : Nat) : Option PinDesc :=
  if 1 ≤ n && n ≤ 3 then some { name := "AUX_3V3" }
  else if [4, 5, 6, 9, 12, 16].contains n then some { name := "GND" }
  else if 17 ≤ n && n ≤ 40 then some { name := "STRAP" }
  else
    match n with
    | 7 => some { name := "I3C_SCL" }
    | 8 => some { name := "I3C_SDA" }
    | 10 => some { name := "T1S_P" }
    | 11 => some { name := "T1S_N" }
    | 13 => some { name := "MOD_RESET_N" }
    | 14 => some { name := "THROTTLE_REQ_N" }
    | 15 => some { name := "THERMAL_ALERT_N" }
    | 41 => some { name := "PRESENT_N", len := .short }
    | 42 => some { name := "GND", len := .long }
    | _ => none

/-- The strap that a pin of J2 carries. -/
def strapPin (n : Nat) : Option Nat := if 17 ≤ n && n ≤ 40 then some (n - 17) else none

/-- What a pin of HS connector carries: ground, a leg of an Ethernet or CXL lane, the reference clock, PERST_N. -/
inductive HsPin where
  | gnd
  | eth (port lane : Nat) (tx positive : Bool)
  | cxl (lane : Nat) (tx positive : Bool)
  | refclk (positive : Bool)
  | perst
  | rsvd
  deriving DecidableEq, Repr

/-- One of a group of three pins: ground, the positive leg, the negative leg. -/
def legOf (k : Nat) (leg : Bool → HsPin) : HsPin := if k = 0 then .gnd else leg (k == 1)

/-- The 300 pins of an HS connector (R605). -/
def hsPin (n : Nat) : Option HsPin :=
  if n = 0 || 300 < n then none
  else
    let i := n - 1
    let j := i % 48
    if i < 192 then some (legOf (j % 3) (.eth (i / 48) (j % 24 / 3) (decide (j < 24))))
    else if i < 288 then some (legOf (j % 3) (.cxl (j / 3) (decide (i < 240))))
    else if i < 291 then some (legOf (i - 288) .refclk)
    else if n = 292 then some .perst
    else if n ≤ 296 then some .rsvd
    else some .gnd

/-- Connector HS `d` is there; J1 and J2 are in every variant (R602). -/
def State.hsFitted (s : State) (d : Nat) : Bool := decide (d < s.build.ioDies)

/-- The module port whose lane a pin of HS `d` carries: four to an I/O die (12 R399). -/
def hsPort (d : Nat) (p : HsPin) : Option Nat :=
  match p with
  | .eth l _ _ _ => some (4 * d + l)
  | _ => none

/-! ### Straps (R607) -/

/-- SLOT_STRAPS: a strap reads 0 where the carrier ties it to GND, and 1 where it is left open. -/
def strapWord (tied : Nat → Bool) : BitVec 24 :=
  BitVec.ofNat 24 (packNat ((upTo 24).map fun i => (i, if tied i then 0 else 1)))

def strapShelf (w : BitVec 24) : Nat := nbits w.toNat 23 16
def strapSlot (w : BitVec 24) : Nat := nbits w.toNat 15 8
def strapNode (w : BitVec 24) : Nat := nbits w.toNat 7 0

/-! ### Pin states (R609, R611 to R614) -/

/-- The columns of the table under R614. -/
inductive PinCond where
  | unpowered | standby | inReset | service
  deriving DecidableEq, Repr

/-- The column that the module is in; none where the table has no column: it starts, it is under test, or only its main
input is present. -/
def State.pinCond (s : State) : Option PinCond :=
  if !s.power.aux then (if s.power.conduct then none else some .unpowered)
  else if s.crust.modReset then some .inReset
  else if !s.power.main then some .standby
  else if s.crust.svc = .service then some .service
  else if s.crust.resetting ≠ 0 then some .inReset
  else none

/-- The classes of pins of R614, each with the port, connector or strap it belongs to. -/
inductive PinClass where
  | ethTx (n : Nat) | cxlTx (n : Nat) | ethRx (n : Nat) | cxlRx (n : Nat)
  | refclk (n : Nat) | perst (n : Nat) | modReset | i3c | t1s | throttleReq | thermalAlert | strap (k : Nat) | present
  deriving DecidableEq, Repr

/-- What a pin does. -/
inductive PinState where
  | highZ            -- high impedance; a driver that is off
  | driven           -- a transmitter that trains or is up
  | terminated       -- under the standard, or 100 Ω across a clock pair
  | input            -- without a pull-up
  | i3cTarget
  | nodeLoad         -- the load of an unpowered node
  | t1sActive
  | low | released   -- an open-drain output
  | pullUp           -- 47 kΩ
  | ground
  deriving DecidableEq, Repr

/-- An open-drain output. -/
def openDrain (on : Bool) : PinState := if on then .low else .released

/-- The state of a pin (R614). THROTTLE_REQ_N and THERMAL_ALERT_N are as SIDEBAND_STATE reports them (R611, R612, R621). A
CXL receiver is terminated while PERST_N is released. -/
def State.pinIn (s : State) (c : PinCond) (p : PinClass) : PinState :=
  match p with
  | .ethTx n => if c = .service && s.ethLink n != 0 then .driven else .highZ
  | .cxlTx n => if c = .service && s.cxlLink n != 0 then .driven else .highZ
  | .ethRx _ => if c = .service then .terminated else .highZ
  | .cxlRx n => if c = .service && !(s.cport n).perst then .terminated else .highZ
  | .refclk _ => if c = .service then .terminated else .highZ
  | .perst _ => if c = .unpowered then .highZ else .input
  | .modReset => if c = .unpowered then .highZ else .input
  | .i3c => if c = .unpowered then .highZ else .i3cTarget
  | .t1s => if c ≠ .unpowered && s.plcaValid then .t1sActive else .nodeLoad
  | .throttleReq => if c = .unpowered then .highZ else openDrain (s.sideband.testBit 1)
  | .thermalAlert => if c = .unpowered then .highZ else openDrain (s.sideband.testBit 2)
  | .strap _ => if c = .unpowered then .highZ else .pullUp
  | .present => .ground

def State.pinState (s : State) (p : PinClass) : Option PinState := s.pinCond.map fun c => s.pinIn c p

end Sys2Proof.Machine
end

