-- ==== Sys2Proof/Tests/Slice0.lean ====
section
/-! SUPPORT. Small tests of the model: ill-formed commands that the check refuses, single steps with results from the
spec, and for each statement a state and operands that meet its hypotheses together. -/

namespace Sys2Proof.Tests

set_option Elab.async false

open Sys2Proof.Machine

/-! ### States -/

/-- A reference module in service: its rails on, nothing else done. -/
def up : State := {
  State.reset with
  power := { main := true, conduct := true, good := true }
  crust := { State.reset.crust with svc := .service } }

/-- The same with cluster 47 in an active partition 0, its core running at `pc`, where instruction SRAM holds the word
`w`, with some registers set. -/
def core (pc w : Nat) (regs : Tab Word := []) : State :=
  let k : Cluster := {
    part := some 0, core := { st := .running, pc := pc, regs := regs }
    isram := (leBytes 4 w).zipIdx.filterMap fun b => if b.1 = 0 then none else some (pc + b.2, b.1) }
  { up with clusters := [(47, k)], mgmt := { up.mgmt with parts := [(0, { st := 2 })] } }

/-- The same with stack 0 a pinned region of an active partition 0, nothing lost. -/
def region : State :=
  (((up.setCtr 0x2100 1 0x2503).setCtr 0x2100 2 0).setPart 0 { st := 2 }).setStk 0 { lost := 0 }

/-! ### Witnesses: the stack controller -/

/-- A 48-bit RD (`cmd` 1) or WR (`cmd` 2) word (05 R172): CMD 47:43, BANK_MASK 42:27, LATCH 26, COLUMN 25:20. -/
def column (cmd bank latch col : Nat) : BitVec 48 :=
  BitVec.ofNat 48 (cmd * 2 ^ 43 + 2 ^ (27 + bank) + latch * 2 ^ 26 + col * 2 ^ 20)

/-- A request for the last column of the last row of bank 15 of channel 63 of stack 0. -/
def lastReq (kind : ReqKind) : PortReq where
  id := 0
  stk := 0
  port := 5
  cls := 3
  step := 0
  aged := false
  lin := 1023 * 2 ^ 27 + 32767 * 4096 + 63 * 64
  mbn := 1023
  row := 32767
  col := 63
  kind := kind
  part := 0
  requester := 0
  merge := none
  mergeBad := false

/-- A request is queued and its row open. -/
def queuedReq (r : PortReq) : State :=
  let s := region.setBank 1023 { l1 := { row := some 32767, logRow := 32767, actAt := some 0 } }
  { s with mem := { s.mem with reqs := [r], nextId := 1 } }
def queued (kind : ReqKind) : State := queuedReq (lastReq kind)

/-- Row 32767 of bank 15 of channel 63 of a stack is open since cycle 0. -/
def opened (stk : Nat) : State :=
  up.setBank (mbnOf stk 63 15) { l1 := { row := some 32767, logRow := 32767, actAt := some 0 } }

theorem witness_RowsOpenAndClose_act :
    up.hasBank 15 63 15 = true ∧ up.actOk 15 63 15 32767 0 = true := by decide +kernel

/-- The row of the highest-ranked request is closed; a neighbour refresh does not stand in its way. -/
theorem witness_RowsOpenAndClose_actOfRequest :
    let s := { region with mem := { region.mem with reqs := [lastReq .read], nextId := 1 } }
    s.hasBank 0 63 15 = true ∧ s.actOk 0 63 15 32767 0 = true ∧ s.actOk 0 63 15 0 0 = false := by decide +kernel

theorem witness_RowsOpenAndClose_pre :
    let s := opened 0
    s.hasBank 0 63 15 = true ∧ 1 < 2 ∧ s.chanReady 0 63 22 = true ∧ (s.bank (mbnOf 0 63 15)).isOpen 1 = true ∧
    since (s.chan (chanKey 0 63)).rowSlot 1 22 = true ∧ s.closeTiming (mbnOf 0 63 15) 1 22 = true ∧
    (s.bank (mbnOf 0 63 15)).running 1 = false ∧ s.preTurn 0 63 15 1 22 = true := by decide +kernel

theorem witness_RowsOpenAndClose_preb :
    let s := opened 0
    s.hasBank 0 63 15 = true ∧ s.chanReady 0 63 22 = true ∧ since (s.chan (chanKey 0 63)).rowSlot 1 22 = true ∧
    s.prebTiming (mbnOf 0 63 15) 22 = true ∧ s.prebTurn 0 63 15 22 = true := by decide +kernel

theorem witness_ColumnCommands_rd :
    let r := lastReq .read
    let s := queued .read
    let w := column 1 15 1 63
    s.fitted 0 = true ∧ 63 < 64 ∧ colBank w = some 15 ∧ colWord 1 w = true ∧
    s.mem.reqs.find? (fun q => q.id == 0) = some r ∧ r.reads = true ∧
    s.colOk r 0 63 15 (colLatch w) (colColumn w) 12 = true ∧ (s.bank (mbnOf 0 63 15)).unit.busy = false ∧
    r.scrub = false ∧ r.kind = .read := by decide +kernel

theorem witness_ColumnCommands_merge :
    let k : ReqKind := .write 5 1 false
    let r := lastReq k
    let s := queued k
    let w := column 1 15 1 63
    s.fitted 0 = true ∧ colBank w = some 15 ∧ colWord 1 w = true ∧
    s.mem.reqs.find? (fun q => q.id == 0) = some r ∧ r.reads = true ∧
    s.colOk r 0 63 15 (colLatch w) (colColumn w) 12 = true ∧ (s.bank (mbnOf 0 63 15)).unit.busy = false ∧
    r.scrub = false ∧ r.kind = .write 5 1 false := by decide +kernel

/-- Patrol scrub's own request, over a column that reads as `c`. -/
def scrubbed (c : Column) : State :=
  let s := queuedReq { lastReq .read with port := 7, scrub := true }
  { s with mem := { s.mem with dram := [(dramKey 1023 32767 63, c)] } }

theorem witness_ColumnCommands_scrub : ∀ c ∈ [cleanCol 1, { cleanCol 1 with data := 0 }, { cleanCol 1 with data := 7 }],
    let r := { lastReq .read with port := 7, scrub := true }
    let s := scrubbed c
    let w := column 1 15 1 63
    s.fitted 0 = true ∧ colBank w = some 15 ∧ colWord 1 w = true ∧
    s.mem.reqs.find? (fun q => q.id == 0) = some r ∧ r.reads = true ∧
    s.colOk r 0 63 15 (colLatch w) (colColumn w) 12 = true ∧ (s.bank (mbnOf 0 63 15)).unit.busy = false ∧
    r.scrub = true ∧ s.isLost 1023 r.row = false := by decide +kernel

/-- The three outcomes of a scrub: nothing to do, a corrected column, an uncorrectable one (03 R109). -/
theorem witness_ColumnCommands_scrubOutcomes :
    let e (c : Column) := (scrubbed c).eccAt (lastReq .read).loc
    (e (cleanCol 1)).ce = false ∧ (e (cleanCol 1)).ue = false ∧
    (e { cleanCol 1 with data := 0 }).ce = true ∧ (e { cleanCol 1 with data := 0 }).poison = false ∧
    (e { cleanCol 1 with data := 7 }).ue = true := by decide +kernel

theorem witness_ColumnCommands_wr :
    let k : ReqKind := .write 5 (BitVec.allOnes 64) true
    let r := lastReq k
    let s := queued k
    let w := column 2 15 1 63
    s.fitted 0 = true ∧ colBank w = some 15 ∧ colWord 2 w = true ∧
    s.mem.reqs.find? (fun q => q.id == 0) = some r ∧ r.reads = false ∧ r.stores = some (storeCol 5 true) ∧
    s.colOk r 0 63 15 (colLatch w) (colColumn w) 12 = true ∧
    (s.bank (mbnOf 0 63 15)).unit.busy = false := by decide +kernel

theorem witness_ColumnCommands_run : ∀ k ∈ [ReqKind.read, .write 5 (BitVec.allOnes 64) true],
    let r := lastReq k
    let s := (queued k).modUnit 1023 fun u => { u with status := { u.status with st := .paused } }
    let w := column (if r.reads then 1 else 2) 15 1 63
    s.fitted 0 = true ∧ colBank w = some 15 ∧ colWord (if r.reads then 1 else 2) w = true ∧
    s.mem.reqs.find? (fun q => q.id == 0) = some r ∧ (r.reads = false → r.stores ≠ none) ∧
    s.colOk r 0 63 15 (colLatch w) (colColumn w) 12 = true ∧
    (s.bank (mbnOf 0 63 15)).unit.busy = true := by decide +kernel

theorem witness_RefreshesDebtsAndTokens_refpb :
    let s := up.setBank 16383 { debt := 9, refStep := 8195 }
    s.hasBank 15 63 15 = true ∧ s.chanReady 15 63 0 = true ∧ s.refDue (mbnOf 15 63 15) = true ∧
    s.refTiming 15 63 15 0 = true ∧ s.tokenFree 15 (s.forced (mbnOf 15 63 15)) = true ∧
    s.refTurn 15 63 15 0 = true := by decide +kernel

theorem witness_RefreshesDebtsAndTokens_nrr :
    let s := up.setBank 16383 { nrr1 := [32766, 32765] }
    s.hasBank 15 63 15 = true ∧ (s.bank (mbnOf 15 63 15)).nrr 1 = 32766 :: [32765] ∧ s.chanReady 15 63 0 = true ∧
    s.rowTiming 15 63 15 1 0 = true ∧ s.tokenFree 15 (decide (3 ≤ [32765].length)) = true ∧
    s.nrrTurn 15 63 15 1 0 = true := by decide +kernel

theorem witness_RefreshesDebtsAndTokens_interval :
    up.hasBank 15 63 15 = true ∧ up.stackOn 15 = true ∧ (up.chan (chanKey 15 63)).sr = false ∧
    (up.bank (mbnOf 15 63 15)).intAt + refInterval (up.bandOf (mbnOf 15 63 15)) ≤ 8 * 1000000 := by decide +kernel

theorem witness_RefreshesDebtsAndTokens_token :
    let s := up.setStk 15 { toks := [25, 22, 21] }
    s.fitted 15 = true ∧ (s.stk 15).toks = [25] ++ 22 :: [21] ∧ (∀ x ∈ [25], 22 < x) ∧ 22 ≤ 22 := by decide +kernel

/-- The last stack takes a REF value, or a stack before the last does. -/
theorem witness_RefreshesDebtsAndTokens_window : ∀ todo ∈ [0x8001, 0x8000],
    let e : Pend := { set_ := 16, cls := 1, key := odKey 0x3020 5, val := 16, blob := none, todo := BitVec.ofNat 16 todo }
    let s := { up with mgmt := { up.mgmt with pend := [e] } }
    s.fitted 15 = true ∧ s.stackOn 15 = true ∧ (s.stk 15).nap = false ∧
    (((s.mgmt.pend.map fun e => { e with todo := e.todo &&& ~~~BitVec.ofNat 16 (2 ^ 15) }).filter fun e =>
      (e.cls == 1) && (e.todo &&& ~~~s.mem.fenced) == 0) = []) = (todo = 0x8001) := by decide +kernel

theorem witness_ChannelStatesAndModes_idle :
    let s := up.setCtr 0x3020 2 1
    s.fitted 15 = true ∧ s.stackOn 15 = true ∧ (s.chan (chanKey 15 63)).sr = false ∧ s.odNat 0x3020 2 ≠ 0 ∧
    s.chanIdle 15 63 = true := by decide +kernel

theorem witness_ChannelStatesAndModes_sre :
    let s := up.setChan (chanKey 15 63) { srPend := true }
    s.fitted 15 = true ∧ s.chanReady 15 63 0 = true ∧ (s.chan (chanKey 15 63)).srPend = true ∧
    s.latchesClosed 15 63 = true ∧ since (s.chan (chanKey 15 63)).rowSlot 1 0 = true ∧
    ∀ b, b < 16 → (s.bank (mbnOf 15 63 b)).debt ≤ 0 ∧ (s.bank (mbnOf 15 63 b)).unit.active = false ∧
      (s.bank (mbnOf 15 63 b)).hold = none ∧ since (s.bank (mbnOf 15 63 b)).leaveAt 2 0 = true := by decide +kernel

theorem witness_ChannelStatesAndModes_srx :
    let s := (queued .read).setChan (chanKey 0 63) { sr := true, srAt := some 0 }
    s.fitted 0 = true ∧ s.stackOn 0 = true ∧ (s.chan (chanKey 0 63)).sr = true ∧ (s.stk 0).nap = false ∧
    since (s.chan (chanKey 0 63)).srAt 13 13 = true ∧ s.chanAsked 0 63 = true := by decide +kernel

theorem witness_ChannelStatesAndModes_nap :
    let s := { up.setCtr 0x3020 3 1 with
      mem := { up.mem with chans := (List.range 64).map fun c => (chanKey 15 c, { sr := true }) }
      crust := { up.crust with time := 1001 } }
    s.fitted 15 = true ∧ s.stackOn 15 = true ∧ s.odNat 0x3020 3 = 1 ∧
    ∀ ch, ch < 64 → (s.chan (chanKey 15 ch)).sr = true ∧ (s.chan (chanKey 15 ch)).wake = false ∧
      s.chanAsked 15 ch = false ∧ (s.chan (chanKey 15 ch)).srUs + 1000 < s.crust.time := by decide +kernel

theorem witness_ChannelStatesAndModes_modes :
    up.fitted 15 = true ∧ up.chanReady 15 63 0 = true ∧ up.latchesClosed 15 63 = true ∧
    since (up.chan (chanKey 15 63)).rowSlot 1 0 = true := by decide +kernel

theorem witness_ScrubsAndSpares_scrub :
    up.fitted 15 = true ∧ 63 < 64 ∧ up.stackOn 15 = true ∧ (up.chan (chanKey 15 63)).sr = false := by decide +kernel

theorem witness_ScrubsAndSpares_spare : ∀ full ∈ [false, true],
    let s := { region.setCtr 0x3000 3 1 with mem := { region.mem with
      spareReq := [(1023, 32767)]
      spares := if full then (List.range 8).map fun i => ({ mbn := 1023, row := i, idx := 8 + i, fused := true } : Spare) else [] } }
    s.fitted (1023 / 1024) = true ∧ s.stackOn (1023 / 1024) = true ∧ s.odNat 0x3000 3 = 1 ∧
    s.mem.spareReq.contains (1023, 32767) = true ∧ s.jobHolds 1023 32767 = false ∧
    (s.bank 1023).running (32767 / 16384) = false ∧
    (∀ r ∈ s.mem.reqs, r.mbn = 1023 → r.row = 32767 → r.merge = none) ∧
    s.freeSpare 1023 (32767 / 16384) = if full then none else some 8 := by decide +kernel

theorem witness_PortRequests_queued :
    let lin := 2 ^ 37 - 64
    5 < 8 ∧ region.stackOn 0 = true ∧ region.portRule 0 5 47 = true ∧
    region.place' false lin = some (⟨1023, 32767, 63⟩, 0) ∧ region.unused 0 = false ∧ region.localReach 0 lin = 0 ∧
    (region.pathTo (originOf 5 47) 0).isSome = true ∧
    region.switchWait (wayTo region.linkWas (originOf 5 47) 0) = false ∧
    region.isLost 1023 32767 = false := by decide +kernel

theorem witness_PortRequests_urgency :
    let s := (queued .read).setCtr 0x3105 1 1
    s.mem.reqs.find? (fun q => q.id == 0) = some (lastReq .read) ∧
    (s.odVal (0x3100 + 8 * (lastReq .read).stk + (lastReq .read).port) 1).getLsbD 0 = true ∧
    s.mem.reqs.find? (fun q => q.id == 1) = none := by decide +kernel

theorem witness_PortRequests_aged : (queued .read).odNat 0x3020 1 ≤ 4000 := by decide +kernel

theorem witness_PortRequests_unbackedStack :
    let s := { up with mem := { up.mem with fenced := 0x8000 } }
    15 < 16 ∧ 7 < 8 ∧ s.fitted 15 = true ∧ s.fenced 15 = true := by decide +kernel

theorem witness_PortRequests_unbackedOffset :
    region.stackOn 0 = true ∧ region.portRule 0 5 0 = true ∧ region.place' false (2 ^ 37) = none := by decide +kernel

theorem witness_PortRequests_unused :
    let s := region.setPart 0 {}
    s.stackOn 0 = true ∧ s.portRule 0 5 0 = true ∧ s.place' false 0 = some (⟨0, 0, 0⟩, 0) ∧
    s.unused 0 = true := by decide +kernel

theorem witness_PortRequests_notShared :
    region.stackOn 0 = true ∧ region.portRule 0 5 0 = true ∧ region.place' false 0 = some (⟨0, 0, 0⟩, 0) ∧
    region.unused 0 = false ∧ region.localReach 1 0 ≠ 0 := by decide +kernel

theorem witness_PortRequests_noRoute :
    let s := { region with links := { region.links with down := List.range 80 } }
    s.stackOn 0 = true ∧ s.portRule 0 5 47 = true ∧ s.place' false 0 = some (⟨0, 0, 0⟩, 0) ∧ s.unused 0 = false ∧
    s.localReach 0 0 = 0 ∧ s.pathTo (originOf 5 47) 0 = none := by decide +kernel

theorem witness_PortRequests_lost :
    let s := region.setStk 0 { lost := 1 }
    s.stackOn 0 = true ∧ s.portRule 0 5 0 = true ∧ s.place' false 0 = some (⟨0, 0, 0⟩, 0) ∧ s.unused 0 = false ∧
    s.localReach 0 0 = 0 ∧ s.pathTo (originOf 5 0) 0 ≠ none ∧
    s.switchWait (wayTo s.linkWas (originOf 5 0) 0) = false ∧ s.isLost 0 0 = true := by decide +kernel

/-- A request of this module's vector engine to position 1, over link 0. -/
def anOutst : Outst where
  id := 0
  die := 0
  pos := 1
  ctr := 0
  sgrp := 0
  seq := 0
  port := 0
  retx := 0
  frame := up.mkReq 2 3 1 1 0 false 0 0 0 0 0 [0]
  src := .wline (.vec 0) 0 64
  part := 0
  pva := 0
  hearth := some 0
  way := [0]

theorem witness_LinkLossAndSwitch_down :
    up.linkFitted 0 = true ∧ up.power.main = true ∧ up.linkUp 0 = true ∧ up.quiet ∧ up.nothingHeld ∧ up.linkFree 0 := by
  unfold State.quiet State.nothingHeld State.linkFree; decide +kernel

theorem witness_LinkLossAndSwitch_inFlight :
    let s := { up with fab := { up.fab with outst := [anOutst] } }
    s.linkFitted 0 = true ∧ s.power.main = true ∧ s.linkUp 0 = true ∧ s.quiet ∧ s.nothingHeld ∧
    s.fab.outst = [anOutst] ∧ anOutst.way.contains 0 = true ∧ (∀ x ∈ s.fab.pool, x.way.contains 0 = false) ∧
    (∀ r ∈ s.mem.reqs, r.route.contains 0 = false) ∧ anOutst.src = .wline (.vec 0) 0 64 := by
  unfold State.quiet State.nothingHeld; decide +kernel

theorem witness_LinkLossAndSwitch_queued :
    let r := { lastReq .read with route := [0] }
    let s := queuedReq r
    s.linkFitted 0 = true ∧ s.power.main = true ∧ s.linkUp 0 = true ∧ s.quiet ∧ s.nothingHeld ∧
    (∀ o ∈ s.fab.outst, o.way.contains 0 = false) ∧ (∀ x ∈ s.fab.pool, x.way.contains 0 = false) ∧
    s.mem.reqs = [r] ∧ r.route.contains 0 = true := by
  unfold State.quiet State.nothingHeld; decide +kernel

theorem witness_LinkLossAndSwitch_switch :
    let s := { up with links := { up.links with down := [0], switching := [0] } }
    s.linkFitted 0 = true ∧ s.links.switching.contains 0 = true ∧ (∀ o ∈ s.fab.outst, o.way.contains 0 = false) ∧
    (∀ r ∈ s.mem.reqs, r.route.contains 0 = false) ∧ s.quiet := by unfold State.quiet; decide +kernel

/-! ### Witnesses: Sprig units and jobs -/

/-- An extended command to bank 15 of its channel. -/
def ext (cmd rest : Nat) : BitVec 48 := BitVec.ofNat 48 (cmd * 2 ^ 43 + 2 ^ 42 + rest)

/-- A clean burst of zeros. -/
def zeros : Column := cleanCol 0

/-- A unit of bank 16383, in a state. -/
def unitIn (st : UnitState) : State := up.modUnit 16383 fun u => { u with status := { u.status with st := st } }

theorem witness_RecipeModeAndWrites_enter :
    let w := ext 0x10 (2 ^ 26)
    up.fitted 15 = true ∧ up.extTakes 0x10 (some true) 15 63 w blankCol 0 = true ∧ extCmd w = 0x10 ∧
    extFormed w = true ∧ 16383 ∈ extBanks 15 63 w ∧ (up.bank 16383).unit.status.st = .off := by decide +kernel

theorem witness_RecipeModeAndWrites_leave :
    let w := ext 0x10 0
    let s := unitIn .idle
    s.fitted 15 = true ∧ s.extTakes 0x10 (some false) 15 63 w blankCol 0 = true ∧ extCmd w = 0x10 ∧
    extFormed w = true ∧ 16383 ∈ extBanks 15 63 w ∧ (s.bank 16383).unit.status.st ≠ .off ∧
    Word.bit w 26 = false := by decide +kernel

theorem witness_RecipeModeAndWrites_recipe :
    let w := ext 0x11 (24 * 2 ^ 22 + 7 * 2 ^ 19)
    let s := unitIn .stopped
    s.fitted 15 = true ∧ s.extTakes 0x11 none 15 63 w zeros 0 = true ∧ extCmd w = 0x11 ∧
    extFormed w = true ∧ (eccRead zeros).bad = false ∧ 16383 ∈ extBanks 15 63 w ∧
    (s.bank 16383).unit.status.st = .stopped := by decide +kernel

theorem witness_RecipeModeAndWrites_operand :
    let w := ext 0x12 (2 ^ 26)
    let s := unitIn .idle
    s.fitted 15 = true ∧ s.extTakes 0x12 none 15 63 w blankCol 0 = true ∧ extCmd w = 0x12 ∧
    extFormed w = true ∧ 16383 ∈ extBanks 15 63 w ∧ (s.bank 16383).unit.status.st = .idle := by decide +kernel

theorem witness_RunsStartResumeAndReport_run :
    let w := ext 0x13 (31 * 2 ^ 22 + 31 * 2 ^ 17 + 4095 * 2 ^ 5)
    let s := unitIn .idle
    s.fitted 15 = true ∧ s.extTakes 0x13 none 15 63 w zeros 0 = true ∧ extCmd w = 0x13 ∧ extFormed w = true ∧
    extBadBurst w zeros = false ∧ 16383 ∈ extBanks 15 63 w ∧ (s.bank 16383).unit.status.st = .idle ∧
    stepValid (Tab.get 0 (s.bank 16383).unit.recipe 31) = true := by decide +kernel

theorem witness_RunsStartResumeAndReport_badStep :
    let w := ext 0x13 (31 * 2 ^ 17 + 2 ^ 5)
    let s := (unitIn .idle).modUnit 16383 fun u => { u with recipe := [(31, 1)] }
    s.fitted 15 = true ∧ s.extTakes 0x13 none 15 63 w zeros 0 = true ∧ extCmd w = 0x13 ∧ extFormed w = true ∧
    extBadBurst w zeros = false ∧ 16383 ∈ extBanks 15 63 w ∧ (s.bank 16383).unit.status.st = .idle ∧
    Word.bits w 26 22 ≤ 31 ∧ 31 ≤ Word.bits w 21 17 ∧
    stepValid (Tab.get 0 (s.bank 16383).unit.recipe 31) = false := by decide +kernel

/-- Both latches of bank 16383 are open, and its run, of one step of opcode `op`, is in a state. -/
def stepping (op : Nat) (st : UnitState) : State :=
  (((unitIn st).modBank 16383 fun k => { k with
    l0 := { row := some 5, logRow := 5, actAt := some 0 }, l1 := { row := some 32767, logRow := 32767, actAt := some 0 } }).modUnit
      16383 fun u => { u with recipe := [(0, BitVec.ofNat 64 (op * 2 ^ 59))], run := { u.run with reopen := [(0, 5)] } })

theorem witness_RunsStartResumeAndReport_resume :
    let s := stepping 0 .paused
    s.stackOn (16383 / 1024) = true ∧ (s.bank 16383).unit.status.st = .paused ∧
    ∀ x ∈ (s.bank 16383).unit.run.reopen, runNames (s.bank 16383).unit (s.bank 16383).unit.run.first
      (s.bank 16383).unit.run.last x.1 = true → (s.bank 16383).isOpen x.1 = true ∧ ((s.bank 16383).latch x.1).logRow = x.2 ∧
      since ((s.bank 16383).latch x.1).actAt (tRCD (s.bandOf 16383)) 12 = true := by decide +kernel

/-- A job of cluster 47 on bank 16383. -/
def aJob : Job where
  c := 47
  ticket := 0
  part := 0
  cls := 3
  desc := [2 ^ 56, 0, 2 ^ 53 + 2 ^ 37, 0, 0, 0, 0, 0]
  first := 16383
  row0 := 0
  img := { steps := [0], segs := [(2 ^ 42, 0)] }
  oper := []
  banks := [{ mbn := 16383 }]
  drains := []
  res := {}
  arrived := 0

/-- The job is queued, at a phase on its bank. -/
def jobAt (s : State) (b : JBank) : State := s.setJob (jobNo 47 0) { aJob with banks := [b] }

theorem witness_RunsStartResumeAndReport_report :
    let b : JBank := { mbn := 16383, phase := .running, ran := true }
    let s := (jobAt (unitIn .stopped) b).modBank 16383 fun k => { k with hold := some (jobNo 47 0) }
    s.stackOn (16383 / 1024) = true ∧ (s.bank 16383).hold = some (jobNo 47 0) ∧
    Tab.find s.mem.jobs (jobNo 47 0) = some { aJob with banks := [b] } ∧
    Job.bankRec { aJob with banks := [b] } 16383 = some b ∧ b.ran = true ∧ (s.bank 16383).unit.busy = false ∧
    (s.bank 16383).unit.fly = [] ∧
    max (s.bank 16383).unit.run.retireAt (s.bank 16383).unit.run.stopAt + 2 = 2 := by decide +kernel

theorem witness_DrainAndStatusReturnBursts_drain :
    let w := ext 0x14 (15 * 2 ^ 23)
    let s := unitIn .stopped
    s.fitted 15 = true ∧ s.extTakes 0x14 none 15 63 w blankCol 0 = true ∧ extCmd w = 0x14 ∧ extFormed w = true ∧
    extBanks 15 63 w = [16383] ∧ (s.bank 16383).unit.status.st ≠ .off := by decide +kernel

theorem witness_DrainAndStatusReturnBursts_status :
    let w := ext 0x15 (2 ^ 26)
    up.fitted 15 = true ∧ up.extTakes 0x15 none 15 63 w blankCol 0 = true ∧ extCmd w = 0x15 ∧ extFormed w = true ∧
    extBanks 15 63 w = [16383] := by decide +kernel

theorem witness_StepsIssueOrStop_issue : ∀ op ∈ stepRows.map Prod.fst,
    let s := stepping op .running
    let k := (s.bank 16383).unit
    let w := Tab.get 0 k.recipe k.status.step
    s.stackOn (16383 / 1024) = true ∧ k.status.st = .running ∧ k.run.done = false ∧
    stepOp w = op ∧ stepDue k w 0 = true ∧ stepStop (s.bank 16383) w = none := by decide +kernel

theorem witness_StepsIssueOrStop_stop :
    let s := (stepping 0x0C .running).modBank 16383 fun k => { k with l0 := {} }
    let k := (s.bank 16383).unit
    let w := Tab.get 0 k.recipe k.status.step
    s.stackOn (16383 / 1024) = true ∧ k.status.st = .running ∧ k.run.done = false ∧
    stepOp w = 0x0C ∧ stepDue k w 0 = true ∧ stepStop (s.bank 16383) w = some 2 := by decide +kernel

theorem witness_StepsRetire :
    let f : InFlight := {
      effs := [.acc 7 {} false], accs := [7], scs := [], slots := [], dotAcc := none, issueAt := 0, readyAt := 4, retireAt := 4
      pathAt := none, pathCol := none }
    let s := (stepping 3 .running).modUnit 16383 fun u => { u with fly := [f], run := { u.run with done := true } }
    s.stackOn (16383 / 1024) = true ∧ (s.bank 16383).unit.fly[0]? = some f ∧
    f.effs = [.acc 7 {} false] ∧ f.retireAt ≤ 4 ∧ (∀ g ∈ (s.bank 16383).unit.fly.take 0, f.retireAt < g.retireAt) := by
  decide +kernel

/-- A dispatched entry of a queue of cluster 0. -/
def entry (desc : List Word) : QEntry := { ticket := 0, desc := desc, e0 := 0, e1 := 0, disp := true }

/-- Cluster 0 in partition 0, whose loaf 0 is placed at stack 0, with queue `q` holding entries and bytes in cluster
SRAM. -/
def engine (q : Nat) (es : List QEntry) (cs : Bytes := []) : State :=
  let k : Cluster := {
    part := some 0, core := { st := .halted }, queues := [(q, { next := 1, entries := es })]
    csram := cs.zipIdx.filterMap fun b => if b.1 = 0 then none else some (b.2, b.1) }
  { region with
    clusters := [(0, k)]
    place := { region.place with leaves := [(0, mkEntry 1 true true 0 0 0 0)], home := [(0, (HomeRec.word { st := 1 }))] } }

/-- A job descriptor for one bank and row, its image in cluster SRAM; the image: one segment and one NOP. -/
def jobDesc : List Word := aJob.desc
def jobImage : Bytes := bytesOfWords [2 ^ 56 + 2 ^ 16 + 2 ^ 8, 0, 2 ^ 42, 0, 0, 0, 0, 0]

theorem witness_JobsQueueBeginAndComplete_queued :
    let s := engine 6 [entry jobDesc] jobImage
    let im : Image := { steps := [0], segs := [(2 ^ 42, 0)] }
    let p := (s.cluster 0).part.getD 31
    s.entry 0 6 0 = some (entry jobDesc) ∧ s.clusterOn 0 = true ∧
    s.startJob 0 (entry jobDesc) 0 = s.checkJob 0 (entry jobDesc) (some im) [] 0 ∧ jobDescOk jobDesc = true ∧
    s.jobFrozen p jobDesc im = false ∧ (s.jobPlace p jobDesc (imageWrites jobDesc im)).toOption = some (0, 0) ∧
    s.pathTo (.sprig 0) (0 / 1024) ≠ none ∧ s.switchWait (wayTo s.linkWas (.sprig 0) (0 / 1024)) = false := by decide +kernel

theorem witness_JobsQueueBeginAndComplete_refused :
    let s := engine 6 [entry jobDesc]
    s.entry 0 6 0 = some (entry jobDesc) ∧ s.clusterOn 0 = true ∧
    s.startJob 0 (entry jobDesc) 0 = s.checkJob 0 (entry jobDesc) none [] 0 := by decide +kernel

theorem witness_JobsQueueBeginAndComplete_begin :
    let s := jobAt up { mbn := 16383 }
    s.fitted (16383 / 1024) = true ∧ Tab.find s.mem.jobs (jobNo 47 0) = some aJob ∧
    s.jobMayBegin (jobNo 47 0) aJob 16383 = true ∧ s.enterOk aJob 16383 4 = true := by decide +kernel

theorem witness_JobsQueueBeginAndComplete_complete :
    let j := { aJob with c := 0, banks := [{ mbn := 16383, phase := .left }] }
    let s := (engine 6 [{ entry jobDesc with started := true }]).setJob 0 j
    Tab.find s.mem.jobs 0 = some j ∧ s.clusterOn j.c = true ∧ j.over' = true ∧ j.stage = 0 ∧ j.drainLines = [] ∧
    j.wantsRecord = false ∧ s.settled (.job 0) = true ∧
    s.entry j.c 6 j.ticket = some { entry jobDesc with started := true } := by decide +kernel

/-! ### Witnesses: tiles, vector and layout engines -/

/-- A PANEL, MMA, CLOAD and STORE descriptor on the last buffers, FP32 throughout. -/
def tileDesc (cmd : Nat) : List Word :=
  let h : List Word := match cmd with
    | 0 => [2 ^ 56 + 2 * 2 ^ 50 + 7 * 2 ^ 40, 4 * 2 ^ 61 + 128 * 2 ^ 48]
    | 1 => [2 ^ 56 + 1 * 2 ^ 54 + 2 * 2 ^ 50 + 2 ^ 49 + 2 ^ 48 + 7 * 2 ^ 44, 128 * 2 ^ 40 + 16 * 2 ^ 24]
    | 2 => [2 ^ 56 + 2 * 2 ^ 54 + 2 ^ 49 + 7 * 2 ^ 36, 128 * 2 ^ 40 + 128 * 2 ^ 32]
    | _ => [2 ^ 56 + 3 * 2 ^ 54 + 2 ^ 49 + 2 ^ 47 + 7 * 2 ^ 33, 1 * 2 ^ 40 + 128 * 2 ^ 32]
  h ++ List.replicate 6 0

/-- A tile command waits on tile 3, whose panel buffer 2 holds a panel of one chunk and 128 columns. -/
def tiling (cmd : Nat) : State :=
  (engine 3 [entry (tileDesc cmd)]).modTile 0 3 fun t => { t with pbuf := [(2, { k := 1, n := 128, fmt := 7 })] }

theorem tileFree_iff (s : State) (c t : Nat) :
    TileFree s c t ↔ (∀ y ∈ ((s.cluster c).queue t).entries, y.owesDrop = false) ∧
      (match (s.cluster c).core.wait with | some (.fullStream a _) => decide (a ≠ t) | _ => true) = true := by
  unfold TileFree
  cases h : (s.cluster c).core.wait with
  | none => simp
  | some w => cases w <;> simp

theorem witness_TileCommandsStartAndComplete_start : ∀ cmd ∈ tileRows.map Prod.fst,
    let s := tiling cmd
    let x := entry (tileDesc cmd)
    s.tilePresent (tileNo 0 3) = true ∧ s.clusterOn 0 = true ∧ s.nextFor 0 3 (engineOf cmd) = some x ∧
    x.disp = true ∧ mqCmd x.desc = cmd ∧ mqValid x.desc = true ∧ (s.tile 0 3).eng (engineOf cmd) = none ∧
    (∀ y ∈ ((s.cluster 0).queue 3).entries.takeWhile (fun y => y.ticket != x.ticket), s.mqConflict 0 3 x y = false) ∧
    TileFree s 0 3 ∧ ((s.tile 0 3).str (streamOf (engineOf cmd))).ents = [] ∧
    (cmd = 1 → mmaOk x.desc (Tab.get {} (s.tile 0 3).pbuf (mqPbuf x.desc)) = true ∧ (s.tile 0 3).linesOf x.desc ≠ 0) := by
  simp only [tileFree_iff]; decide +kernel

/-- An FP32 MMA on an FP4 panel. -/
theorem witness_TileCommandsStartAndComplete_badPanel :
    let s := (tiling 1).modTile 0 3 fun t => { t with pbuf := [(2, { k := 1, n := 128, fmt := 0 })] }
    let x := entry (tileDesc 1)
    s.tilePresent (tileNo 0 3) = true ∧ s.clusterOn 0 = true ∧ s.nextFor 0 3 .array = some x ∧
    s.entry 0 3 x.ticket = some x ∧ x.disp = true ∧ mqCmd x.desc = 1 ∧ (s.tile 0 3).eng .array = none ∧
    (∀ y ∈ ((s.cluster 0).queue 3).entries.takeWhile (fun y => y.ticket != x.ticket), s.mqConflict 0 3 x y = false) ∧
    TileFree s 0 3 ∧ mmaOk x.desc (Tab.get {} (s.tile 0 3).pbuf (mqPbuf x.desc)) = false := by
  simp only [tileFree_iff]; decide +kernel

/-- A tile command on its engine. -/
def onEngine (cmd : Nat) : TileCmd := { ticket := 0, desc := tileDesc cmd, need := 1, asked := 1, done := true }

theorem witness_TileCommandsStartAndComplete_complete : ∀ cmd ∈ tileRows.map Prod.fst,
    let s := (tiling cmd).modTile 0 3 fun t => t.setEng (engineOf cmd) (some (onEngine cmd))
    s.tilePresent (tileNo 0 3) = true ∧ s.clusterOn 0 = true ∧ (s.tile 0 3).eng (engineOf cmd) = some (onEngine cmd) ∧
    (onEngine cmd).done = true ∧ (onEngine cmd).need ≤ (onEngine cmd).asked ∧
    s.entry 0 3 0 = some (entry (tileDesc cmd)) ∧ TileFree s 0 3 ∧ s.settled (.tile 0 3 2) = true := by
  simp only [tileFree_iff]; decide +kernel

theorem witness_LinesReturnToEngines_tile :
    let r : LineReq := { ord := 0, space := 0, addr := 2 ^ 23 - 64, bad := false, scale := none }
    let m : TileCmd := { ticket := 0, desc := tileDesc 1, need := 2, asked := 1, out := [r] }
    let s := (tiling 1).modTile 0 3 fun t => { t with engA := some m }
    s.clusterOn 0 = true ∧ (s.tile 0 3).eng .array = some m ∧ m.out[0]? = some r ∧ r.space = 0 ∧ r.scale = none ∧
    m.done = false ∧ ((s.tile 0 3).str (streamOf .array)).ents = [] ∧ TileFree s 0 3 := by
  simp only [tileFree_iff]; decide +kernel

/-- An FP32 view of one line of cluster SRAM. -/
def lineView (base : Nat) : Bytes :=
  bytesOfWords [7 * 2 ^ 56 + BitVec.ofNat 64 base, 16 * 2 ^ 24, 1, 1, 1, 1, 0, 0]

/-- A transfer of one line, in a mode. -/
def moveDesc (mode : Nat) : List Word :=
  [2 ^ 56 + BitVec.ofNat 64 mode * 2 ^ 52 + 2 ^ 38 + 2 * 2 ^ 41 + 3 * 2 ^ 44 + 4 * 2 ^ 47 + (if mode = 0 then 0 else 1),
    2 ^ 30, 16 * 2 ^ 48 + 2 ^ 32 + 2 ^ 16 + 1, 2 ^ 48, if mode = 0 then 0 else 0x3000, 0, 0, 0]

/-- A transfer waits in the LQ. -/
def moving (mode : Nat) : State := engine 5 [entry (moveDesc mode)] (lineView 0x1000 ++ lineView 0x2000)

/-- The transfer runs. -/
def layRun (dst : LView) : LayRun where
  ticket := 0
  desc := moveDesc 0
  src := LView.ofBytes (lineView 0x1000)
  dst := dst
  list := []
  next := 1
  out := [0]

/-- The state with a transfer on the engine. -/
def running (r : LayRun) : State := (moving 0).modCluster 0 fun k => { k with lay := some r }

theorem witness_LinesReturnToEngines_dropped :
    let v := LView.ofBytes (lineView 0x2000)
    let r := layRun { v with org := [-16, 0, 0, 0, 0] }
    let s := running r
    s.clusterOn 0 = true ∧ (s.cluster 0).lay = some r ∧ r.out[0]? = some 0 ∧
    unitOf r 0 = some ([-16, 0, 0, 0, 0], [([0, 0, 0, 0, 0], 0)]) ∧
    r.dst.gran false r.blocks [-16, 0, 0, 0, 0] = .off := by decide +kernel

theorem witness_LinesReturnToEngines_copied :
    let r := layRun (LView.ofBytes (lineView 0x2000))
    let s := running r
    s.clusterOn 0 = true ∧ (s.cluster 0).lay = some r ∧ r.out[0]? = some 0 ∧
    unitOf r 0 = some ([0, 0, 0, 0, 0], [([0, 0, 0, 0, 0], 0)]) ∧ r.src.own = none ∧ r.dst.own = none ∧
    classT r.desc = false ∧ lqRed r.desc = 0 ∧ r.src.scaled = false ∧ r.dst.scaled = false ∧ r.got = [] ∧
    r.src.gran true r.blocks [0, 0, 0, 0, 0] = .at_ 0 0x1000 0 ∧
    r.dst.gran false r.blocks [0, 0, 0, 0, 0] = .at_ 0 0x2000 0 ∧ r.dst.space = 0 := by decide +kernel

theorem witness_LinesReturnToEngines_stored :
    let r := layRun (LView.ofBytes (lineView 0x2000))
    let s := running r
    let w := s.layWho 0 r.desc
    let xs := ((granLines r.src 0 0x1000 0).filterMap id).dedup
    let h := s.holdLines w 2048 ((xs.filter fun x => (r.got.find x).isNone).take r.lim) r.got
    let data := srcGran r (xs.map fun x => (x, (h.2.find x).getD (0, 0))) (.at_ 0 0x1000 0)
    let ws : List LineW := [{ x := ⟨0, 0x2000⟩, data := 0 }]
    let f0 := h.1.modCluster 0 fun x => { x with lay := x.lay.map fun r => { r with got := h.2 } }
    let g := (f0.storeLines w ws).1
    s.clusterOn 0 = true ∧ (s.cluster 0).lay = some r ∧ r.out[0]? = some 0 ∧
    unitOf r 0 = some ([0, 0, 0, 0, 0], [([0, 0, 0, 0, 0], 0)]) ∧ r.src.own = none ∧ r.dst.own = none ∧
    r.dst.gran false r.blocks [0, 0, 0, 0, 0] = .at_ 0 0x2000 0 ∧
    r.src.gran true r.blocks [0, 0, 0, 0, 0] = .at_ 0 0x1000 0 ∧ classT r.desc = false ∧ h.2.all xs = true ∧
    granWrites r.dst 0 0x2000 0 data (if lqRed r.desc = 0 then none
      else some (lqRed r.desc - 1, if r.dst.fmt = 7 then 0 else if r.dst.fmt = 5 then 1 else 2)) = some ws ∧
    r.dst.space = 0 ∧ f0.storeLines w ws = (g, some [0]) ∧
    (g.cluster 0).lay = some { r with got := h.2 } := by decide +kernel

theorem witness_MmaAccumulates :
    mqRows (tileDesc 1) ≤ 128 ∧ ({ k := 1, n := 128, fmt := 7 } : PanelBuf).n ≤ 128 ∧ 127 < 128 := by decide +kernel

/-- A chain of one stage that moves one FP32 element from X0 to its output. -/
def chainBytes : Bytes :=
  bytesOfWords [2 ^ 56 + 2 ^ 52 + 7 * 2 ^ 49 + 7 * 2 ^ 37 + 2 ^ 14, 0, 0, 0, 0, 0, 2 ^ 58 + 4 * 2 ^ 51]
def chainDesc : List Word := [2 ^ 56 + 1, 0x1000, 0, 0, 0, 0x2000, 0, 0]

theorem witness_ChainsRunAndComplete_run :
    let s := engine 4 [entry chainDesc] chainBytes
    let b := s.readBlock 0 (entry chainDesc)
    let w := b.1.vecWho 0 chainDesc
    let k := Chain.ofBytes b.2
    let f := (b.1.fetchLines w (chainReads chainDesc k)).1
    let i := chainIn b.1 0 chainDesc k ((chainReads chainDesc k).zip [(0, 0)])
    let v := runChain k i f.free
    let ws := outWrites k (vqPlace chainDesc 5) i.n (v.t.getD k.outSrc []) []
      ++ (if k.statsEn then byteWrites (vqPlace chainDesc 6) v.stats else [])
    let g := (({ f with free := v.free } : State).storeLines w ws).1
    ((s.cluster 0).queue 4).entries.find? (fun e => e.disp && !e.started && e.compl.isNone) = some (entry chainDesc) ∧
    s.clusterOn 0 = true ∧ (s.cluster 0).vec = none ∧ chainOk chainDesc k = true ∧ k.rnd ≠ 1 ∧
    b.1.fetchLines w (chainReads chainDesc k) = (f, some [(0, 0)]) ∧ permOk k i = true ∧
    ({ f with free := v.free } : State).storeLines w ws = (g, some [0]) := by decide +kernel

/-- A block of zeros is no valid chain. -/
theorem witness_ChainsRunAndComplete_invalid :
    let s := engine 4 [entry chainDesc]
    ((s.cluster 0).queue 4).entries.find? (fun e => e.disp && !e.started && e.compl.isNone) = some (entry chainDesc) ∧
    s.clusterOn 0 = true ∧ (s.cluster 0).vec = none ∧
    chainOk chainDesc (Chain.ofBytes (s.readBlock 0 (entry chainDesc)).2) = false ∧
    s.entry 0 4 0 = some (entry chainDesc) := by decide +kernel

theorem witness_ChainsRunAndComplete_complete :
    let s := (engine 4 [{ entry chainDesc with started := true }]).modCluster 0 fun k =>
      { k with vec := some { ticket := 0, status := 0 } }
    (s.cluster 0).vec = some { ticket := 0, status := 0 } ∧ s.settled (.vec 0) = true ∧
    s.entry 0 4 0 = some { entry chainDesc with started := true } := by decide +kernel

theorem witness_TransfersRunAndComplete_start : ∀ mode ∈ layoutRows.map Prod.fst,
    let s := moving mode
    let d := moveDesc mode
    let b := s.layBegin 0 (entry d)
    let w := s.layWho 0 d
    let ok := (if lqMode d = 0 then [] else listLines d).filter fun x => x.space == 1 || decide (x.addr < 2 ^ 23)
    let o := s.readOwners w [LView.ofBytes b.src, LView.ofBytes b.dst] b.got
    ((s.cluster 0).queue 5).entries.find? (fun e => e.disp && !e.started && e.compl.isNone) = some (entry d) ∧
    s.clusterOn 0 = true ∧ (s.cluster 0).lay = none ∧ lqMode d = mode ∧ lqOk d b.src b.dst = true ∧
    o.2.2 = some (some [none, none]) ∧
    (o.1.holdLines w (if lqListSpace d = 0 then 16 else 2048) ok o.2.1).2.all ok = true := by decide +kernel

/-- Views of zeros are not valid. -/
theorem witness_TransfersRunAndComplete_invalid : ∀ mode ∈ layoutRows.map Prod.fst,
    let s := engine 5 [entry (moveDesc mode)]
    let b := s.layBegin 0 (entry (moveDesc mode))
    ((s.cluster 0).queue 5).entries.find? (fun e => e.disp && !e.started && e.compl.isNone) = some (entry (moveDesc mode)) ∧
    s.clusterOn 0 = true ∧ (s.cluster 0).lay = none ∧ lqMode (moveDesc mode) = mode ∧
    lqOk (moveDesc mode) b.src b.dst = false ∧ s.entry 0 5 0 = some (entry (moveDesc mode)) := by decide +kernel

theorem witness_TransfersRunAndComplete_complete :
    let r := { layRun (LView.ofBytes (lineView 0x2000)) with out := [] }
    let s := (engine 5 [{ entry (moveDesc 0) with started := true }]).modCluster 0 fun k => { k with lay := some r }
    (s.cluster 0).lay = some r ∧ r.total ≤ r.next ∧ s.settled (.lay 0) = true ∧
    s.entry 0 5 0 = some { entry (moveDesc 0) with started := true } := by decide +kernel

/-! ### Witnesses: sequencers, queues and rings -/

/-- The state in which the core of cluster 47 issues, the hearth cycle before it having ended. -/
def turned (s : State) : State := s.coreTurn 47 false
def issuing (pc w : Nat) (regs : Tab Word := []) : State := turned (core pc w regs)

theorem witness_SequencerArithmetic : ∀ op ∈ aluRows.map Prod.fst,
    let w := op * 2 ^ 26 + 31 * 2 ^ 21
    Issues (issuing 0xFFF8 w) 47 op w ∧ ((issuing 0xFFF8 w).cluster 47).core.pc < 0xFFFC := by
  unfold Issues; decide +kernel

theorem witness_SequencerLoadsAndStores_load : ∀ p ∈ loadRows.map (fun p => (p.1, p.2.2)),
    ∀ a ∈ [0xFFF8, 0x10000, 0x1FFF8, 0x20000, 0x200B8, 0x800000, 0xFFFFF8],
    let w := p.1 * 2 ^ 26 + 31 * 2 ^ 21 + 2 ^ 16
    let s := issuing 0 w [(1, BitVec.ofNat 64 a)]
    Issues s 47 p.1 w ∧ (s.cluster 47).core.pc < 0xFFFC ∧ s.seqAddr 47 w = a ∧ a % p.2 = 0 := by
  unfold Issues; decide +kernel

theorem witness_SequencerLoadsAndStores_store : ∀ p ∈ storeRows.map (fun p => (p.1, p.2.2)),
    ∀ a ∈ [0, 0xFFF8, 0x10000, 0x1FFF8, 0x800000, 0xFFFFF8],
    let w := p.1 * 2 ^ 26 + 31 * 2 ^ 21 + 2 ^ 16
    let s := issuing 0 w [(1, BitVec.ofNat 64 a), (31, 0xFEDCBA9876543210)]
    Issues s 47 p.1 w ∧ (s.cluster 47).core.pc < 0xFFFC ∧ s.seqAddr 47 w = a ∧ a % p.2 = 0 := by
  unfold Issues; decide +kernel

/-- Register values that take each branch, and values that do not. -/
def takenBy : List (Word × Word) := [(5, 5), (5, 6), (-1, 0), (0, -1), (0, -1), (-1, 0)]
def notTakenBy : List (Word × Word) := [(5, 6), (5, 5), (0, -1), (-1, 0), (-1, 0), (0, -1)]

theorem witness_BranchesAndJumps_taken : ∀ x ∈ (branchRows.map fun p => (p.1, p.2.2)).zip takenBy,
    let w := x.1.1 * 2 ^ 26 + 2 ^ 21 + 2 * 2 ^ 16 + 0x3FFF
    let s := issuing 0 w [(1, x.2.1), (2, x.2.2)]
    let k := (s.cluster 47).core
    Issues s 47 x.1.1 w ∧ x.1.2 (k.reg (bRa w)) (k.reg (bRb w)) = true ∧
    0 ≤ (k.pc : Int) + 4 * iSimm w ∧ (k.pc : Int) + 4 * iSimm w = 0xFFFC := by unfold Issues; decide +kernel

theorem witness_BranchesAndJumps_notTaken : ∀ x ∈ (branchRows.map fun p => (p.1, p.2.2)).zip notTakenBy,
    let w := x.1.1 * 2 ^ 26 + 2 ^ 21 + 2 * 2 ^ 16 + 0x8000
    let s := issuing 0xFFF8 w [(1, x.2.1), (2, x.2.2)]
    let k := (s.cluster 47).core
    Issues s 47 x.1.1 w ∧ x.1.2 (k.reg (bRa w)) (k.reg (bRb w)) = false ∧ k.pc < 0xFFFC := by
  unfold Issues; decide +kernel

theorem witness_BranchesAndJumps_jmp : ∀ op ∈ [0x26, 0x27],
    let w := op * 2 ^ 26 + 0x3FFC001
    let s := issuing 0xFFFC w
    Issues s 47 op w ∧ ((s.cluster 47).core.pc : Int) + 4 * iOff26 w = 0 := by unfold Issues; decide +kernel

theorem witness_BranchesAndJumps_jr :
    let w := 0x28 * 2 ^ 26 + 31 * 2 ^ 21 + 2 ^ 16
    let s := issuing 0 w [(1, 0xFFFC)]
    let t := ((s.cluster 47).core.reg (iRa w) + immS w).toNat
    Issues s 47 0x28 w ∧ t % 4 = 0 ∧ t = 0xFFFC := by unfold Issues; decide +kernel

theorem witness_SystemInstructions_halt : Issues (issuing 0xFFFC 0) 47 0x00 0 := by unfold Issues; decide +kernel

/-- A SYS word. -/
def sys (fn : Nat) : Nat := 0x3C * 2 ^ 26 + (if fn = 3 then 0 else 31 * 2 ^ 21) + (if fn = 1 ∨ fn = 2 then 2 ^ 16 else 0) + fn

theorem witness_SystemInstructions_sys : ∀ fn ∈ [0, 1, 2, 3, 4],
    Issues (issuing 0xFFF8 (sys fn)) 47 0x3C (sys fn) ∧ ((issuing 0xFFF8 (sys fn)).cluster 47).core.pc < 0xFFFC ∧
    iFn (sys fn) = fn := by unfold Issues; decide +kernel

theorem witness_SystemInstructions_odrd :
    let k := ((issuing 0xFFF8 (sys 1) [(1, 0x10000B)]).cluster 47).core
    (issuing 0xFFF8 (sys 1) [(1, 0x10000B)]).odrdOk (Word.bits (k.reg (iRa (sys 1))) 23 8)
      (Word.bits (k.reg (iRa (sys 1))) 7 0) = true := by decide +kernel

theorem witness_SystemInstructions_wfe :
    let s (e : BitVec 9) := turned ((core 0xFFF8 (sys 2) [(1, 0x100)]).modCore 47 fun k => { k with events := e })
    let e (v : BitVec 9) := ((s v).cluster 47).core.events.toNat &&& ((((s v).cluster 47).core.reg (iRa (sys 2))).toNat % 512)
    e 0x1FF ≠ 0 ∧ e 0x0FF = 0 ∧ Issues (s 0x1FF) 47 0x3C (sys 2) ∧ Issues (s 0x0FF) 47 0x3C (sys 2) := by
  unfold Issues; decide +kernel

theorem witness_SequencerFaults_illegal : ∀ w ∈ [2 ^ 32 - 1, 1, 0x01 * 2 ^ 26 + 16],
    (issuing 0 w).seqOn 47 = true ∧ seqLegal (((issuing 0 w).cluster 47).fetch (issuing 0 w).free ((issuing 0 w).cluster 47).core.pc) = false := by
  decide +kernel

theorem witness_SequencerFaults_align : ∀ p ∈ (loadRows ++ storeRows).map (fun p => (p.1, p.2.2)), 1 < p.2 →
    let w := p.1 * 2 ^ 26 + 2 ^ 16
    let s := issuing 0 w [(1, 0xFFFF)]
    Issues s 47 p.1 w ∧ s.seqAddr 47 w % p.2 ≠ 0 := by unfold Issues; decide +kernel

theorem witness_SequencerFaults_address : ∀ p ∈ (loadRows ++ storeRows).map (fun p => (p.1, p.2.2)),
    ∀ a ∈ [0x200C0, 0x7FFFF8, 0x1000000],
    let w := p.1 * 2 ^ 26 + 2 ^ 16
    let s := issuing 0 w [(1, BitVec.ofNat 64 a)]
    Issues s 47 p.1 w ∧ s.seqAddr 47 w % p.2 = 0 ∧
      ((0x200C0 ≤ s.seqAddr 47 w ∧ s.seqAddr 47 w < 0x800000) ∨ 0x1000000 ≤ s.seqAddr 47 w) := by
  unfold Issues; decide +kernel

/-- The flag words answer LWU alone. -/
theorem witness_SequencerFaults_flagAddress : ∀ p ∈ (loadRows ++ storeRows).map (fun p => (p.1, p.2.2)),
    ∀ a ∈ [0x20000, 0x200B8],
    let w := p.1 * 2 ^ 26 + 2 ^ 16
    let s := issuing 0 w [(1, BitVec.ofNat 64 a)]
    Issues s 47 p.1 w ∧ s.seqAddr 47 w % p.2 = 0 ∧ s.seqAddr 47 w = a ∧ (p.1 ≠ 0x12 → p.2 ≠ 4 ∨ p.1 = 0x16) := by
  unfold Issues; decide +kernel

/-- A load or store that reaches its word stands last in instruction SRAM. -/
theorem witness_SequencerFaults_lastAccess : ∀ p ∈ (loadRows ++ storeRows).map (fun p => (p.1, p.2.2)),
    let w := p.1 * 2 ^ 26 + 2 ^ 16
    let s := issuing 0xFFFC w [(1, 0x1FFF8)]
    Issues s 47 p.1 w ∧ s.seqAddr 47 w % p.2 = 0 ∧ s.seqAddr 47 w < 0x20000 ∧
    0xFFFC ≤ (s.cluster 47).core.pc := by unfold Issues; decide +kernel

/-- The last word of instruction SRAM holds each instruction that goes on to the next word. -/
theorem witness_SequencerFaults_fetch : ∀ x ∈ onwardRows.map (fun p => (p.1, p.2.1)),
    let w := x.1 * 2 ^ 26 + x.2.getD 0 + if x.1 = 0x3B then 2 ^ 13 else 0
    Issues (issuing 0xFFFC w) 47 x.1 w ∧ (x.2 = none ∨ x.2 = some (iFn w)) ∧
    0xFFFC ≤ ((issuing 0xFFFC w).cluster 47).core.pc := by unfold Issues; decide +kernel

theorem witness_SequencerFaults_flagWrites : ∀ op ∈ [0x39, 0x3A],
    let s := (core 0xFFFC (op * 2 ^ 26)).coreTurn 47 true
    Issues s 47 op (op * 2 ^ 26) ∧ 0xFFFC ≤ (s.cluster 47).core.pc := by unfold Issues; decide +kernel

/-- Each branch is taken back over the beginning, or not taken at the end. -/
theorem witness_SequencerFaults_branch : ∀ x ∈ (branchRows.map fun p => (p.1, p.2.2)).zip (takenBy.zip notTakenBy),
    let w := x.1.1 * 2 ^ 26 + 2 ^ 21 + 2 * 2 ^ 16 + 0x8000
    let s := issuing 0 w [(1, x.2.1.1), (2, x.2.1.2)]
    let u := issuing 0xFFFC w [(1, x.2.2.1), (2, x.2.2.2)]
    let k := (s.cluster 47).core
    let m := (u.cluster 47).core
    Issues s 47 x.1.1 w ∧ x.1.2 (k.reg (bRa w)) (k.reg (bRb w)) = true ∧ (k.pc : Int) + 4 * iSimm w < 0 ∧
    Issues u 47 x.1.1 w ∧ x.1.2 (m.reg (bRa w)) (m.reg (bRb w)) = false ∧ 0xFFFC ≤ m.pc := by
  unfold Issues; decide +kernel

theorem witness_SequencerFaults_target : ∀ off ∈ [0x4000, 0x3FFFFFF],
    let w := 0x26 * 2 ^ 26 + off
    Issues (issuing 0 w) 47 0x26 w ∧ ((((issuing 0 w).cluster 47).core.pc : Int) + 4 * iOff26 w < 0 ∨
      0xFFFC < (((issuing 0 w).cluster 47).core.pc : Int) + 4 * iOff26 w) := by unfold Issues; decide +kernel

theorem witness_SequencerFaults_jr : ∀ a ∈ [1, 0x10000],
    let w := 0x28 * 2 ^ 26 + 2 ^ 16
    let s := issuing 0 w [(1, BitVec.ofNat 64 a)]
    Issues s 47 0x28 w ∧ (s.reg 47 (iRa w) + immS w).toNat = a := by unfold Issues; decide +kernel

theorem witness_SequencerFaults_odrd :
    let s := issuing 0 (sys 1) [(1, 0x800001)]
    Issues s 47 0x3C (sys 1) ∧ iFn (sys 1) = 1 ∧ s.odrdOk (Word.bits (s.reg 47 (iRa (sys 1))) 23 8)
      (Word.bits (s.reg 47 (iRa (sys 1))) 7 0) = false := by unfold Issues; decide +kernel

theorem witness_SequencerFaults_odrdLast :
    let s := issuing 0xFFFC (sys 1) [(1, 0x10000B)]
    Issues s 47 0x3C (sys 1) ∧ iFn (sys 1) = 1 ∧ s.odrdOk (Word.bits (s.reg 47 (iRa (sys 1))) 23 8)
      (Word.bits (s.reg 47 (iRa (sys 1))) 7 0) = true ∧ 0xFFFC ≤ (s.cluster 47).core.pc := by unfold Issues; decide +kernel

/-- QPUSH, QABORT and QINFO of queue 7. -/
def qpush : Nat := 0x30 * 2 ^ 26 + 7 * 2 ^ 23 + 1 * 2 ^ 18 + 2 * 2 ^ 13 + 3 * 2 ^ 8 + 31 * 2 ^ 3
def qabort : Nat := 0x31 * 2 ^ 26 + 7 * 2 ^ 23 + 1 * 2 ^ 18 + 31 * 2 ^ 3
def qinfo : Nat := 0x32 * 2 ^ 26 + 7 * 2 ^ 23 + 31 * 2 ^ 3

/-- A core with entries in queue 7. -/
def withQueue (w : Nat) (regs : Tab Word) (es : List QEntry) : State :=
  turned ((core 0xFFF8 w regs).modQueue 47 7 fun q => { q with entries := es, next := es.length })

theorem witness_SequencerFaults_qpush : ∀ a ∈ [1, 0x10000, 0],
    let s := issuing 0xFFFC qpush [(1, BitVec.ofNat 64 a)]
    Issues s 47 0x30 qpush ∧ (s.reg 47 (qRa qpush)).toNat = a ∧ 0xFFFC ≤ (s.cluster 47).core.pc := by
  unfold Issues; decide +kernel

theorem witness_QueueInstructions_push : ∀ n ∈ [0, 63, 64],
    let s := withQueue qpush [(1, 0xFFC0)] ((List.range n).map fun i => { entry [] with ticket := i })
    Issues s 47 0x30 qpush ∧ (s.cluster 47).core.pc < 0xFFFC ∧ ((s.cluster 47).core.reg (qRa qpush)).toNat % 64 = 0 ∧
    ((s.cluster 47).core.reg (qRa qpush)).toNat < 0x10000 ∧
    ((s.cluster 47).queue (qQ qpush)).entries.length = n := by unfold Issues; decide +kernel

theorem witness_QueueInstructions_info :
    Issues (issuing 0xFFF8 qinfo) 47 0x32 qinfo ∧ ((issuing 0xFFF8 qinfo).cluster 47).core.pc < 0xFFFC := by
  unfold Issues; decide +kernel

theorem witness_QueueInstructions_abort :
    let x : QEntry := { entry [] with disp := false }
    let y : QEntry := { entry [] with compl := some (0, 0) }
    let s := withQueue qabort [] [x]
    Issues s 47 0x31 qabort ∧ (s.cluster 47).core.pc < 0xFFFC ∧ (qQ qabort < 4 → False) ∧ qQ qabort ≠ 6 ∧
    qRb qabort = 0 ∧ s.entry 47 (qQ qabort) 0 = some x ∧ x.disp = false ∧ x.compl = none ∧
    (withQueue qabort [] [y]).entry 47 (qQ qabort) 0 = some y ∧ y.compl ≠ none ∧
    (withQueue qabort [] []).entry 47 (qQ qabort) 0 = none ∧
    (0 + 2 ^ 32 - (((withQueue qabort [] []).cluster 47).queue (qQ qabort)).next) % 2 ^ 32 < 2 ^ 31 := by
  unfold Issues; decide +kernel

/-- The QABORT of a dispatched FQ operation, and of a whole queue. -/
theorem witness_QueueInstructions_abortFq :
    let x := entry []
    let s := turned (((core 0xFFF8 qabort).modQueue 47 7 fun q => { q with entries := [x], next := 1 }).modCluster 47 fun k =>
      { k with fq := [{ ticket := 0, desc := [] }] })
    Issues s 47 0x31 qabort ∧ qQ qabort = 7 ∧ s.entry 47 7 0 = some x ∧ x.disp = true ∧ x.compl = none ∧
    x.aborting = none ∧ s.fqOf 47 0 ≠ none := by unfold Issues; decide +kernel

theorem witness_QueueInstructions_abortAll :
    let es := (List.range 64).map fun i => { entry [] with ticket := i, disp := false }
    let w := qabort + 2 ^ 13
    let s := withQueue w [] es
    Issues s 47 0x31 w ∧ qRb w = 1 ∧ (es.map QEntry.ticket).Nodup ∧ ((s.cluster 47).queue (qQ w)).entries = es ∧
    ∀ x ∈ es, x.disp = false ∧ x.compl = none := by unfold Issues; decide +kernel

/-- SPUSH, SFLUSH and SINFO of stream 2 of tile 3. -/
def spush : Nat := 0x34 * 2 ^ 26 + 3 * 2 ^ 24 + 2 * 2 ^ 22 + 2 ^ 16
def sflush : Nat := 0x35 * 2 ^ 26 + 3 * 2 ^ 24 + 2 * 2 ^ 22
def sinfo : Nat := 0x36 * 2 ^ 26 + 3 * 2 ^ 24 + 2 * 2 ^ 22 + 31

theorem witness_StreamAndFlagInstructions_push : ∀ n ∈ [31, 32],
    let s := turned ((core 0xFFF8 spush).modTile 47 3 fun t => { t with strC := { ents := List.replicate n 0 } })
    Issues s 47 0x34 spush ∧ (s.cluster 47).core.pc < 0xFFFC ∧ s.tilePresent (tileNo 47 (tTile spush)) = true ∧
    ((s.tile 47 (tTile spush)).str (tStr spush)).ents.length = n ∧
    ((s.tile 47 (tTile spush)).str (tStr spush)).drops = [] ∧ TileFree s 47 (tTile spush) ∧
    (s.tile 47 (tTile spush)).eng (streamEngine (tStr spush)) = none := by
  simp only [tileFree_iff]; unfold Issues; decide +kernel

theorem witness_StreamAndFlagInstructions_absent :
    let s := turned { core 0xFFF8 spush with build := { Build.reference with tiles := 0 } }
    Issues s 47 0x34 spush ∧ s.tilePresent (tileNo 47 (tTile spush)) = false := by unfold Issues; decide +kernel

theorem witness_StreamAndFlagInstructions_info :
    Issues (issuing 0xFFF8 sinfo) 47 0x36 sinfo ∧ Issues (issuing 0xFFF8 sflush) 47 0x35 sflush ∧
    ((issuing 0xFFF8 sflush).cluster 47).core.wait = none := by
  unfold Issues; decide +kernel

/-- Empty queues and a core that does not wait leave a flag word without a waiter. -/
theorem noWaiter_of {s : State} {c n : Nat} (h : (s.cluster c).core.wait = none)
    (hq : ∀ q, q < 8 → ((s.cluster c).queue q).head = none) : NoWaiter s c n :=
  ⟨h, fun q hl e he => by simp [hq q hl] at he⟩

/-- FRD, FWR, FADD and FWAIT of flag word 47. -/
def flagIns (op form : Nat) : Nat := op * 2 ^ 26 + (if op = 0x38 ∨ op = 0x3A then 31 * 2 ^ 21 else 0)
  + (if op = 0x38 then 0 else 2 ^ 16) + form * 2 ^ 13 + 47

theorem witness_StreamAndFlagInstructions_flag : ∀ op ∈ [0x39, 0x3A],
    let w := flagIns op 0
    let s := (core 0xFFF8 w [(1, 5)]).coreTurn 47 true
    Issues s 47 op w ∧ (s.cluster 47).core.pc < 0xFFFC ∧ (s.cluster 47).part.isSome = true ∧
    (s.cluster 47).cycle = none ∧ ∀ x ∈ (s.cycleWith 47 0 (fFlag w) (op == 0x39) 5).writes, NoWaiter s 47 x.flg := by
  intro op h
  have hw : ∀ op ∈ [0x39, 0x3A],
      (((core 0xFFF8 (flagIns op 0) [(1, 5)]).coreTurn 47 true).cluster 47).core.wait = none := by decide +kernel
  have hq : ∀ op ∈ [0x39, 0x3A], ∀ q, q < 8 →
      ((((core 0xFFF8 (flagIns op 0) [(1, 5)]).coreTurn 47 true).cluster 47).queue q).head = none := by decide +kernel
  exact ⟨by revert op; unfold Issues; decide +kernel, by revert op; decide +kernel, by revert op; decide +kernel,
    by revert op; decide +kernel, fun _ _ => noWaiter_of (hw op h) (hq op h)⟩

/-- A write of queue 7 stands first in an open hearth cycle, which the core's own write joins. -/
theorem witness_StreamAndFlagInstructions_joined : ∀ op ∈ [0x39, 0x3A],
    let w := flagIns op 0
    let fc : FlagCycle := (({ start := [] } : FlagCycle)).add { rank := 8, flg := 47, set_ := true, v := 9 }
    let s := ((core 0xFFF8 w [(1, 5)]).modCluster 47 fun k => { k with cycle := some fc }).coreTurn 47 true
    Issues s 47 op w ∧ (s.cluster 47).cycle = some fc ∧
    (s.cycleWith 47 0 (fFlag w) (op == 0x39) 5).value (fFlag w) = 9 := by unfold Issues; decide +kernel

theorem witness_StreamAndFlagInstructions_read :
    Issues (issuing 0xFFF8 (flagIns 0x38 0)) 47 0x38 (flagIns 0x38 0) := by unfold Issues; decide +kernel

theorem witness_StreamAndFlagInstructions_wait : ∀ form ∈ [1, 2, 3],
    let w := flagIns 0x3B form
    let s := issuing 0xFFF8 w [(1, 5)]
    let u := turned ((core 0xFFF8 w [(1, 5)]).modCluster 47 fun k => { k with flags := [(47, 5)] })
    let v : W32 := ((s.cluster 47).core.reg (iRa w)).setWidth 32
    Issues s 47 0x3B w ∧ waitHolds (fForm w) (s.flag 47 (fFlag w)) v = false ∧
    Issues u 47 0x3B w ∧ waitHolds (fForm w) (u.flag 47 (fFlag w)) v = true := by
  unfold Issues; decide +kernel

/-- A waiting entry whose dispatch takes 5 off flag word 47 when it is at least 5. -/
def heads (e0 : Word) : QEntry := { entry [] with disp := false, e0 := e0 }
def decWait : Word := 3 * 2 ^ 61 + 47 * 2 ^ 48 + 5

theorem witness_QueuesDispatchAndDeliver_dispatch :
    let s := ((engine 7 [heads decWait]).modCluster 0 fun k => { k with flags := [(47, 5)] }).closeCycle 0
    s.clusterOn 0 = true ∧ ((s.cluster 0).queue 7).head = some (heads decWait) ∧ (s.cluster 0).part.isSome = true ∧
    e0Ok decWait = true ∧ (s.cluster 0).closed = false ∧ s.headHolds 0 (heads decWait) = true ∧
    s.mayDispatch 0 7 (heads decWait) = true ∧ e1Ok (heads decWait).e1 = true ∧ (s.cluster 0).core.wait = none := by
  decide +kernel

theorem witness_QueuesDispatchAndDeliver_tile :
    let e : QEntry := { entry (tileDesc 0) with disp := false }
    let s := (engine 3 [e]).closeCycle 0
    s.tilePresent (tileNo 0 3) = true ∧ mqValid e.desc = true ∧ ((s.cluster 0).queue 3).head = some e ∧
    TileFree s 0 3 ∧ s.mayDispatch 0 3 e = true ∧ s.headHolds 0 e = true := by simp only [tileFree_iff]; decide +kernel

/-- Tile 3 of the cluster is not there, or the tile descriptor is not valid, or the E1 word. -/
theorem witness_QueuesDispatchAndDeliver_notDispatched :
    let e : QEntry := { entry (tileDesc 0) with disp := false }
    let s := ({ engine 3 [e] with build := { Build.reference with tiles := 0 } } : State).closeCycle 0
    let b : QEntry := { entry [] with disp := false }
    let u := (engine 3 [b]).closeCycle 0
    let x : QEntry := { heads 0 with e1 := 3 * 2 ^ 62 }
    let v := (engine 7 [x]).closeCycle 0
    s.clusterOn 0 = true ∧ s.tilePresent (tileNo 0 3) = false ∧ s.mayDispatch 0 3 e = true ∧ s.headHolds 0 e = true ∧
    TileFree s 0 3 ∧ ((u.cluster 0).queue 3).head = some b ∧ u.tilePresent (tileNo 0 3) = true ∧ mqValid b.desc = false ∧
    u.mayDispatch 0 3 b = true ∧ u.headHolds 0 b = true ∧ TileFree u 0 3 ∧ e1Ok x.e1 = false ∧
    v.mayDispatch 0 7 x = true ∧ v.headHolds 0 x = true := by simp only [tileFree_iff]; decide +kernel

theorem witness_QueuesDispatchAndDeliver_blocked :
    let s := (engine 7 [heads decWait]).closeCycle 0
    s.clusterOn 0 = true ∧ ((s.cluster 0).queue 7).head = some (heads decWait) ∧ e0Ok decWait = true ∧
    s.headHolds 0 (heads decWait) = false ∧ (s.cluster 0).closed = false := by decide +kernel

theorem witness_QueuesDispatchAndDeliver_bad :
    let s := (engine 7 [heads (2 ^ 60)]).closeCycle 0
    s.clusterOn 0 = true ∧ ((s.cluster 0).queue 7).head = some (heads (2 ^ 60)) ∧ e0Ok (2 ^ 60) = false := by
  decide +kernel

theorem witness_QueuesDispatchAndDeliver_closed :
    let s := ((engine 7 [heads 0]).modCluster 0 fun k => { k with closed := true }).closeCycle 0
    s.clusterOn 0 = true ∧ ((s.cluster 0).queue 7).head = some (heads 0) ∧ e0Ok 0 = true ∧
    (s.cluster 0).closed = true ∧ s.closedStatus 0 7 (heads 0) ≠ 2 := by decide +kernel

theorem witness_QueuesDispatchAndDeliver_deliver :
    let e : QEntry := { entry [] with ticket := 63, compl := some (5, 255), e1 := 2 * 2 ^ 62 + 47 * 2 ^ 48 + 7 }
    let s := engine 7 [e]
    s.clusterOn 0 = true ∧ s.quiet ∧ ((s.cluster 0).queue 7).entries = e :: [] ∧ e.compl = some (5, 255) ∧
    e.ring = none ∧ e1Ok e.e1 = true ∧ Word.bits e.e1 63 62 ≠ 0 := by unfold State.quiet; decide +kernel

/-- The words of a ring entry of each kind: NOP, PUSH to queue 7, START at 0xFFFC, LOAD of one line to the end of
data SRAM, ABORT of entry 0. -/
def ringWords (kind : Nat) : List Word :=
  BitVec.ofNat 64 (kind * 2 ^ 60 + (if kind = 1 then 7 * 2 ^ 57 else 0)) :: 0 :: 0 :: 0 ::
    (match kind with
      | 2 => 0xFFFC
      | _ => 0) ::
    (match kind with
      | 2 => 7
      | 3 => 2 ^ 63 + 65472 * 2 ^ 16 + 1
      | _ => 0) :: List.replicate 10 0

/-- Ring 15 of partition 0 with one entry, of a kind, in memory. -/
def ringing (kind : Nat) (st : CoreState := .halted) : State :=
  let ws := ringWords kind
  let a := ((engine 7 []).setCtr 0x240F 2 0x0801).setRing (ringKey 0 15) { head := 0, tail := 1 }
  let b := (a.locPut ⟨0, 0, 0⟩ (cleanCol (lineOfBytes (bytesOfWords (ws.take 8))))).locPut ⟨0, 0, 1⟩
    (cleanCol (lineOfBytes (bytesOfWords (ws.drop 8))))
  b.modCore 0 fun k => { k with st := st }

/-- The state once the entry has been read. -/
def ringRead (s : State) : State := (s.fetchLines (s.ringWho 0 15) [⟨1, 0⟩, ⟨1, 64⟩]).1

theorem ringTakes_of {s : State} {kind : Nat} {ws : List Word} (rs : List (Nat × Line))
    (h : (s.ring (ringKey 0 15)).recs = [] ∧ s.ringRuns 0 15 = true ∧ reKind ws = kind
      ∧ reSeq ws = (s.ring (ringKey 0 15)).head ∧ ringEntryOk ws = true)
    (hb : s.odNat (0x2400 + ringKey 0 15) 1
      + 128 * ((s.ring (ringKey 0 15)).head % s.ringSize (ringKey 0 15)) = 0)
    (hf : (s.fetchLines (s.ringWho 0 15) [⟨1, 0⟩, ⟨1, 64⟩]).2 = some rs) (hq : (ringRead s).quiet)
    (hr : (∀ x ∈ rs, x.1 = 0) ∧ ws = rs.flatMap fun x => wordsOfBytes (bytesOfLine x.2)) :
    RingTakes s (ringRead s) 0 15 kind ws := by
  refine ⟨by decide, by decide, h.1, h.2.1, h.2.2.1, h.2.2.2.1, h.2.2.2.2, hq, rs, ?_, hr.1, hr.2⟩
  simp only [hb]
  exact Prod.ext rfl hf

/-- What reading the entry gives. -/
def ringGot (kind : Nat) : List (Nat × Line) :=
  [(0, lineOfBytes (bytesOfWords ((ringWords kind).take 8))), (0, lineOfBytes (bytesOfWords ((ringWords kind).drop 8)))]

theorem witness_RingEntriesAreTaken (kind : Nat) (h : kind ∈ [0, 1, 2, 3, 4]) :
    RingTakes (ringing kind) (ringRead (ringing kind)) 0 15 kind (ringWords kind) :=
  ringTakes_of (ringGot kind) (by revert kind; decide +kernel) (by revert kind; decide +kernel)
    (by revert kind; decide +kernel) (by unfold State.quiet; revert kind; decide +kernel) (by revert kind; decide +kernel)

theorem witness_RingEntriesAreTaken_push : ∀ n ∈ [63, 64],
    let s := (ringing 1).modQueue 0 7 fun q => { q with entries := List.replicate n (entry []) }
    let f := ringRead s
    let c := f.ringCluster (ringKey 0 15)
    (s.ring (ringKey 0 15)).recs = [] ∧ s.ringRuns 0 15 = true ∧ ((f.cluster c).queue (reQueue (ringWords 1))).entries.length = n ∧
    f.pushedLast c (reQueue (ringWords 1)) = false ∧ reCpl (ringWords 1) = 0 := by decide +kernel

/-- The core pushed to the queue in the hearth cycle in which the ring does. -/
theorem witness_RingEntriesAreTaken_pushed : ∀ n ∈ [62, 63],
    let es := List.replicate n (entry [])
    let e := { entry [] with disp := false }
    let s := ((ringing 1).modQueue 0 7 fun q => { q with entries := es ++ [e] }).modCore 0 fun k => { k with pushed := some (7, 31, 5) }
    let f := ringRead s
    (s.ring (ringKey 0 15)).recs = [] ∧ s.ringRuns 0 15 = true ∧ (f.cluster 0).core.pushed = some (7, 31, 5) ∧
    ((f.cluster (f.ringCluster (ringKey 0 15))).queue 7).entries = es ++ [e] ∧ e.ring = none ∧ e.disp = false ∧
    e.compl = none ∧ es.length < 64 := by decide +kernel

theorem witness_RingEntriesAreTaken_idle :
    ((ringRead (ringing 2)).cluster 0).core.idle = true ∧
    ((ringRead (ringing 2 .running)).cluster 0).core.idle = false ∧ (ringing 2 .running).ringRuns 0 15 = true := by
  decide +kernel

theorem witness_RingEntriesAreTaken_load :
    let f := ringRead (ringing 3)
    let g := (f.fetchLines (f.ringWho 0 15)
      ((upTo (reLines (ringWords 3))).map fun i => ⟨1, Word.bits (reW (ringWords 3) 4) 55 0 + 64 * i⟩))
    (f.cluster 0).core.idle = true ∧ g.1.quiet ∧ g.2 = some ((ringGot 3).take 1) := by
  unfold State.quiet; decide +kernel

theorem witness_RingEntriesAreTaken_abort :
    let x : QEntry := { entry [] with disp := false, ring := some { p := 0, r := 15, seq := 0, cpl := 0 } }
    let y := { x with disp := true, compl := some (0, 0) }
    let s := (ringing 4).modQueue 0 7 fun q => { q with entries := [x] }
    let u := (ringing 4).modQueue 0 7 fun q => { q with entries := [y] }
    let seq := Word.bits (reW (ringWords 4) 4) 31 0
    s.findPush 0 0 15 seq = some (7, 0) ∧ s.entry 0 7 0 = some x ∧ x.disp = false ∧ x.compl = none ∧
    u.findPush 0 0 15 seq = some (7, 0) ∧ u.entry 0 7 0 = some y ∧ y.compl ≠ none ∧
    (ringing 4).findPush 0 0 15 seq = none := by decide +kernel

/-- A record for the last word of the loaf's first line goes out at once. -/
theorem witness_RingEntriesAreTaken_record :
    let y := ringRead (ringing 0)
    let y1 := y.setRing (ringKey 0 15) { y.ring (ringKey 0 15) with recs := [(56, 0xFEDCBA9876543210)] }
    let g := (y1.storeLines (y1.ringWho 0 15) [{
        x := ⟨1, 0⟩, data := BitVec.ofNat 512 (0xFEDCBA9876543210 * 2 ^ 448)
        mask := BitVec.ofNat 64 (0xFF * 2 ^ 56) }]).1
    RecordGoes y g 0 15 56 0xFEDCBA9876543210 := by
  unfold RecordGoes State.quiet; decide +kernel

/-- CXL port 3 is up, and its last window serves partition 15. -/
def serving : State :=
  ((up.setCport 3 { link := 2, refclk := true }).setCtr (winIndex 3 15) 1 0xF01).setPart 15 { st := 2 }

theorem witness_DoorbellsAndRestarts_doorbell :
    let s := serving.setCtr 0x24FF 2 0x0801
    s.cxlFitted 3 = true ∧ s.cxlUp 3 = true ∧ s.portServes 3 15 = true ∧ s.ringOn (ringKey 15 15) = true ∧
    (s.ring (ringKey 15 15)).stopped = false ∧ (s.part 15).st ≠ 0 ∧ s.ringSize (ringKey 15 15) = 256 ∧
    (s.ring (ringKey 15 15)).head = 0 ∧ (s.ring (ringKey 15 15)).tail = 0 := by decide +kernel

/-- A write by the module's own service. -/
def own : Acc := { path := 15 }

theorem witness_DoorbellsAndRestarts_ignored :
    serving.cxlUp 3 = true ∧ serving.ringOn (ringKey 15 15) = false ∧
    (let s := (serving.setCtr 0x24FF 2 0x0801).setRing (ringKey 15 15) { stopped := true }
     s.ringOn (ringKey 15 15) = true ∧ (s.ring (ringKey 15 15)).stopped = true) := by decide +kernel

theorem witness_DoorbellsAndRestarts_restart :
    Takes (region.setRing (ringKey 0 15) { stopped := true, tail := 3 }) own (0x2400 + (16 * 0 + 15)) 5 1 := by
  unfold Takes Reaches; decide +kernel

/-! ### Witnesses: flag words, dumps and the fabric -/

theorem witness_FlagWordsDumpsAndCounters_flagN : ∀ n ∈ [0, 47],
    Takes ((core 0 0).openCycle 47) own (0xA100 + 47) (1 + n) 5 ∧ ((core 0 0).cluster 47).part.isSome = true ∧
    ((core 0 0).cluster 47).cycle = none ∧ (core 0 0).quiet := by
  unfold Takes Reaches State.quiet; decide +kernel

theorem witness_FlagWordsDumpsAndCounters_flagAdd :
    let v := BitVec.ofNat 64 (47 * 2 ^ 32 + 1)
    Takes ((core 0 0).openCycle 47) own (0xA100 + 47) 49 v ∧ Word.bits v 37 32 = 47 := by
  unfold Takes Reaches; decide +kernel

theorem witness_FlagWordsDumpsAndCounters_unassigned : ∀ n ∈ [0, 47],
    Takes (up.openCycle 47) own (0xA100 + 47) (1 + n) 5 ∧ (up.cluster 47).part = none ∧ (up.cluster 47).cycle = none ∧
    up.quiet := by
  unfold Takes Reaches State.quiet; decide +kernel

/-- A hearth cycle that has set flag word 47 to 9 is open, and the core waits. -/
def cycling (w : Option CoreWait) (events : BitVec 9 := 0) : State :=
  (core 0 0).modCluster 47 fun k => { k with
    flags := [(47, 9)], cycle := some { start := [], writes := [{ rank := 10, flg := 47, set_ := true, v := 9 }] }
    core := { k.core with wait := w, events := events, st := if w = none then .running else .waiting } }

theorem witness_FlagWordsDumpsAndCounters_close : ∀ x ∈ [(1, 47, 9, true), (3, 47, 9, true), (1, 47, 10, false), (1, 46, 9, false)],
    let s := cycling (some (.flag x.1 x.2.1 (BitVec.ofNat 32 x.2.2.1)))
    (s.cluster 47).cycle.isSome = true ∧ (s.cluster 47).part.isSome = true ∧
    (∀ q, q < 8 → ((s.cluster 47).queue q).head = none) ∧
    (x.2.1 = 47 ∧ waitHolds x.1 (s.flag 47 x.2.1) (BitVec.ofNat 32 x.2.2.1) = true ↔ x.2.2.2 = true) := by decide +kernel

theorem witness_FlagWordsDumpsAndCounters_closeWfe :
    ((cycling (some (.wfe 31 0x100)) 0x100).cluster 47).core.events.toNat &&& 0x100 ≠ 0 ∧
    ((cycling (some (.wfe 31 0x100)) 0xFF).cluster 47).core.events.toNat &&& 0x100 = 0 ∧
    ((cycling none).cluster 47).core.wait = none := by decide +kernel

/-- The head of queue 7 waits for the value that the open hearth cycle has set. -/
theorem witness_FlagWordsDumpsAndCounters_closeHead :
    let e : QEntry := { entry [] with disp := false, e0 := 3 * 2 ^ 61 + 47 * 2 ^ 48 + 9 }
    let s := (cycling none).modQueue 47 7 fun q => { q with entries := [e] }
    ((s.cluster 47).queue 7).head = some e ∧ e0Form e.e0 ≠ 0 ∧ e0Flag e.e0 = 47 ∧
    (∀ j, j < 8 → j ≠ 7 → ((s.cluster 47).queue j).head = none) ∧ (s.cluster 47).core.wait = none ∧ e0Ok e.e0 = true ∧
    (s.cluster 47).closed = false ∧ s.headHolds 47 e = true ∧ s.mayDispatch 47 7 e = true ∧ e1Ok e.e1 = true := by
  decide +kernel

/-- The core of cluster 47 waits on flag word 47 since reset; it is later now. -/
def stuck (late stalled : Bool) : State :=
  let s := (core 0 0).modCore 47 fun k => { k with
    st := .waiting, wait := some (.flag 1 47 9), waitSince := 0, stalled := stalled }
  { s.setCtr 0xA000 1 10 with crust := { s.crust with time := if late then 2000000000 else 0 } }

theorem coreCalm_flag {s : State} {c f n : Nat} {v : W32} (h : (s.cluster c).core.wait = some (.flag f n v)) :
    CoreCalm s c ↔ (s.cluster c).core.stalled = true ∨ s.overdue (s.cluster c).core.waitSince = false := by
  simp [CoreCalm, h]

theorem witness_FlagWordsDumpsAndCounters_watchdog (x : Bool × Bool) (h : x ∈ [(true, false), (true, true), (false, false)]) :
    (stuck x.1 x.2).clusterOn 47 = true ∧ (∀ q, q < 8 → HeadCalm (stuck x.1 x.2) 47 q) ∧
    (CoreCalm (stuck x.1 x.2) 47 ↔ x ≠ (true, false)) := by
  have hh : ∀ q, q < 8 → (((stuck x.1 x.2).cluster 47).queue q).head = none := by revert x; decide +kernel
  refine ⟨by revert x; decide +kernel, fun q hq e a he => by simp [hh q hq] at he, ?_⟩
  rw [coreCalm_flag (f := 1) (n := 47) (v := 9) (by revert x; decide +kernel)]
  revert x; decide +kernel

/-- The head of queue 7 of cluster 0 has been blocked since reset. -/
theorem witness_FlagWordsDumpsAndCounters_watchdogHead :
    let e : QEntry := { heads decWait with blockedSince := some 0 }
    let s := (engine 7 [e]).setCtr 0xA000 1 10
    let u : State := { s with crust := { s.crust with time := 2000000000 } }
    u.clusterOn 0 = true ∧ ((u.cluster 0).queue 7).head = some e ∧ e.blockedSince = some 0 ∧ e.stalled = false ∧
    u.overdue 0 = true ∧ (∀ j, j < 8 → j ≠ 7 → ((u.cluster 0).queue j).head = none) ∧ (u.cluster 0).core.wait = none := by
  decide +kernel

theorem witness_FlagWordsDumpsAndCounters_dump : Takes (core 0 0) own (0xA200 + 15) 3 1 := by
  unfold Takes Reaches; decide +kernel

/-- A held signal to flag word 47 of cluster 47, to set it to 5 after 6 lines. -/
def heldSig (reply : Option (Nat × Frame)) (fq : Option (Nat × Nat)) : HeldSig :=
  { tcluster := 47, tflag := 47, set_ := true, value := 5, count := 6, since := 0, reply := reply, localFq := fq }

/-- A counted signal of module 7's cluster 47 is held, or the counter holds nothing. -/
theorem witness_FlagWordsDumpsAndCounters_timeout :
    let h := heldSig none (some (0, 0))
    let s := { core 0 0 with arr := [(arrKey 7 47, { a := 5, held := some h })] }
    let u := { core 0 0 with arr := [(arrKey 7 47, { a := 5 })] }
    Tab.find s.arr (arrKey 7 47) = some { a := 5, held := some h } ∧ h.reply = none ∧ h.localFq = some (0, 0) ∧
    Tab.find u.arr (arrKey 7 47) = some { a := 5 } := by decide +kernel

/-- In service at position 5 with some ports up; modules 5, 7 and, in another hall, 2055 are members. -/
def net (us : List Nat) : State :=
  let s := up.setCtr 0x6000 1 5
  let m (pos inc : Nat) : Word := pack [(62, 1), (57, 16), (20, inc), (0, pos)]
  { s with fab := { s.fab with
    ports := us.map fun n => (n, { up := true })
    members := [(5, m 5 1), (7, m 7 9), (2055, m 2055 9)] } }

/-- The module at another position, as far as its frames show it. -/
def peer (pos : Nat) : State :=
  { (net []).setCtr 0x6000 1 pos with fab := { (net []).fab with incarnation := 9 } }

/-- A request of a peer, from its port 15 to port 11. -/
def asks (pos op cls nlines epoch opmod : Nat) (addr a0 a1 : Word) (lines : List Line := []) (fq : Bool := false)
    (seq : Nat := 0) : Frame :=
  ((peer pos).address ((peer pos).mkReq op cls nlines 5 47 fq epoch opmod addr a0 a1 lines) 0xFFFFF seq 15 11).sealed

/-- Partition 0's region, with the loafs of the domain's members, and the last line of it written. -/
def home (us : List Nat) : State :=
  let s := ((((net us).setCtr 0x2100 1 0x2503).setCtr 0x2100 2 0).setPart 0 { st := 2 }).setStk 0 { lost := 0 }
  let t := { s with mgmt := { s.mgmt with blobs := [(odKey 0x2600 2, leBytes 4 7)] } }
  let u := t.setHomeRec 65535 { st := 1, epoch := 3 }
  u.locPut ⟨1023, 32767, 63⟩ (cleanCol 0)

/-- One frame of each memory row, to the last word or line of the region or beyond it. -/
def memFrame (op pos epoch lin : Nat) : Frame :=
  asks pos op 3 (if op = 4 then 0 else 1) epoch 0 (fabAddr 0 5 lin) (if op = 4 then 1 else 0) 0
    (if op = 2 ∨ op = 3 then [0] else [])

theorem counts_iff (s : State) (f : Frame) :
    Counts s f ↔ (f.fq = true → f.op = 2 ∨ f.op = 3 →
      ((Tab.find s.arr (arrKey f.srcPos f.cluster)).map fun x => x.held.isNone) = some true) := by
  unfold Counts
  cases Tab.find s.arr (arrKey f.srcPos f.cluster) <;> simp

/-- The frame of each row reaches the loaf's owner, which does not wait. -/
theorem witness_MemoryFramesAtTheirHome : ∀ p ∈ memoryFrames.map Prod.fst,
    let lin := if p = 4 then 2 ^ 37 - 8 else 2 ^ 37 - 64
    let f := memFrame p 7 3 lin
    let s := home [11]
    let x := s.shown 11 f
    f.op = p ∧ Comes s 11 f .request ∧ Fresh s 11 f ∧ (s.port 11).paused = 0 ∧ Counts s f ∧
    s.regionAt f.addrLin = some ⟨0, 0, 37, true⟩ ∧ (s.place' false f.addrLin).isSome = true ∧ s.unused 0 = false ∧
    s.inDomain 0 f.srcPos = true ∧ (s.homeRec (nbits f.addrLin 40 21)).st = 1 ∧
    f.epoch = (s.homeRec (nbits f.addrLin 40 21)).epoch ∧ (s.homeRec (nbits f.addrLin 40 21)).replicable = false ∧
    x.gateAll 31 (.eth 11) (some f.cls) f.addrLin (frameOp f) = false ∧
    (x.homeRun (.eth 11) (some f.cls) f.addrLin (frameOp f)).2.status = 0 := by
  simp only [counts_iff]; unfold Comes Fresh State.quiet State.nothingHeld; decide +kernel

/-- A REDUCE or a WRITE of an FQ, whose lines the home counts. -/
theorem witness_MemoryFramesAtTheirHome_counted : ∀ op ∈ [2, 3],
    let f := asks 7 op 3 1 3 0 (fabAddr 0 5 (2 ^ 37 - 64)) 0 0 [0] true
    let s := { home [11] with arr := [(arrKey 7 47, { a := 5 })] }
    f.op = op ∧ f.fq = true ∧ Comes s 11 f .request ∧ Counts s f := by
  simp only [counts_iff]; unfold Comes State.quiet State.nothingHeld; decide +kernel

/-- A freezing loaf takes no write. -/
theorem witness_MemoryFramesAtTheirHome_freezing : ∀ p ∈ memoryFrames.map Prod.fst,
    let f := memFrame p 7 3 (if p = 4 then 2 ^ 37 - 8 else 2 ^ 37 - 64)
    let s := (home [11]).setHomeRec 65535 { st := 2, epoch := 3 }
    Comes s 11 f .request ∧ Fresh s 11 f ∧ (s.homeRec (nbits f.addrLin 40 21)).st = 2 ∧
    f.epoch = (s.homeRec (nbits f.addrLin 40 21)).epoch := by
  unfold Comes Fresh State.quiet State.nothingHeld; decide +kernel

/-- An earlier request of the column is queued at the stack. -/
theorem witness_MemoryFramesAtTheirHome_waits : ∀ p ∈ memoryFrames.map Prod.fst,
    let f := memFrame p 7 3 (if p = 4 then 2 ^ 37 - 8 else 2 ^ 37 - 64)
    let u := { home [11] with mem := { (home [11]).mem with reqs := [{ lastReq .read with port := 4 }] } }
    Comes u 11 f .request ∧ Fresh u 11 f ∧
    (u.shown 11 f).gateAll 31 (.eth 11) (some f.cls) f.addrLin (frameOp f) = true := by
  unfold Comes Fresh State.quiet State.nothingHeld; decide +kernel

/-- The loaf comes from the sender. -/
theorem witness_MemoryFramesAtTheirHome_incoming : ∀ p ∈ memoryFrames.map Prod.fst,
    let f := memFrame p 7 3 (if p = 4 then 2 ^ 37 - 8 else 2 ^ 37 - 64)
    let s := (home [11]).setHomeRec 65535 { st := 3, epoch := 3 }
    let t := { s with place := { s.place with incoming := [(65535, 7)] } }
    Comes t 11 f .request ∧ (t.homeRec (nbits f.addrLin 40 21)).st = 3 ∧
    f.epoch = (t.homeRec (nbits f.addrLin 40 21)).epoch ∧
    Tab.find t.place.incoming (nbits f.addrLin 40 21) = some f.srcPos := by
  unfold Comes State.quiet State.nothingHeld; decide +kernel

/-- The loaf has moved away and its forward stands. -/
theorem witness_MemoryFramesAtTheirHome_forward : ∀ p ∈ memoryFrames.map Prod.fst,
    let f := memFrame p 7 3 (if p = 4 then 2 ^ 37 - 8 else 2 ^ 37 - 64)
    let u := (home [11]).setHomeRec 65535 { st := 0, fwd := true, fpos := 7, epoch := 3 }
    Comes u 11 f .request ∧ (u.homeRec (nbits f.addrLin 40 21)).st = 0 ∧
    (u.homeRec (nbits f.addrLin 40 21)).fwd = true := by
  unfold Comes State.quiet State.nothingHeld; decide +kernel

/-- Beyond the region; of a stranger to the domain; under another epoch. -/
theorem witness_MemoryFramesAtTheirHome_refused : ∀ p ∈ memoryFrames.map Prod.fst,
    ∀ y ∈ [(7, 3, 2 ^ 37), (2055, 3, 2 ^ 37 - 64), (7, 4, 2 ^ 37 - 64)],
    let f := memFrame p y.1 y.2.1 y.2.2
    let s := home [11]
    f.op = p ∧ Comes s 11 f .request ∧ Fresh s 11 f ∧ (s.port 11).paused = 0 ∧ Counts s f ∧
    (s.regionAt f.addrLin = none ↔ y.2.2 = 2 ^ 37) ∧ s.inDomain 0 f.srcPos = (y.1 == 7) ∧
    (y.2.2 < 2 ^ 37 → s.homeNack f = (if y.2.1 = 3 then none else some 6)) := by
  simp only [counts_iff]; unfold Comes Fresh State.quiet State.nothingHeld; decide +kernel

/-- Cluster 47 of partition 0 takes signals of space 77. -/
def signalled (us : List Nat) (more : List Nat := []) : State :=
  let s := ((home us).setCtr 0x2500 1 77).modCluster 47 fun k => { k with part := some 0, flags := [(47, 6)] }
  more.foldl (fun s c => s.modCluster c fun k => { k with part := some 0 }) s

/-- A signal of cluster 47 of module 7: to cluster 47 and flag `k`, with a space; to add 5 after `m` lines. -/
def sig (op k space m : Nat) : Frame :=
  asks 7 op 0 0 0 0 (fabAddr 7 0 0) (pack [(32, space), (8, 47), (0, k)]) (pack [(32, 5), (0, m)])

theorem witness_SignalAndPlacementFrames_signal : ∀ x ∈ [(47, 77), (48, 77), (47, 78)],
    let f := sig 5 x.1 x.2 0
    let s := signalled [11]
    f.op = 5 ∧ Comes s 11 f .request ∧ Fresh s 11 f ∧ (s.port 11).paused = 0 ∧ Word.bits f.h5 5 0 = x.1 ∧
    (s.cluster 47).cycle = none ∧ s.streamHeld f = false ∧
    (s.signalCheck (Word.bits f.h5 13 8) (Word.bits f.h5 63 32) none = 0 ↔ x.2 = 77) := by
  unfold Comes Fresh State.quiet State.nothingHeld; decide +kernel

theorem witness_SignalAndPlacementFrames_counted : ∀ m ∈ [5, 6],
    let f := sig 6 47 77 m
    let s := { signalled [11] with arr := [(arrKey 7 47, { a := 5 })] }
    f.op = 6 ∧ Comes s 11 f .request ∧ Fresh s 11 f ∧ (s.port 11).paused = 0 ∧ Word.bits f.h5 5 0 = 47 ∧
    s.signalCheck (Word.bits f.h5 13 8) (Word.bits f.h5 63 32) none = 0 ∧ Word.bits f.h6 31 0 = m ∧
    (Tab.get {} s.arr (arrKey f.srcPos f.cluster)) = { a := 5 } ∧
    (Tab.find s.arr (arrKey f.srcPos f.cluster)).isSome = true ∧ s.arr.length < 16384 := by
  unfold Comes Fresh State.quiet State.nothingHeld; decide +kernel

/-- A counted signal of the same stream is in its hold slot. -/
theorem witness_SignalAndPlacementFrames_streamHeld :
    let f := sig 5 47 77 0
    let h := heldSig (some (11, sig 6 47 77 6)) none
    let s := { signalled [11] with arr := [(arrKey 7 47, { a := 5, held := some h })] }
    f.op = 5 ∧ Comes s 11 f .request ∧ Fresh s 11 f ∧ s.streamHeld f = true := by
  unfold Comes Fresh State.quiet State.nothingHeld; decide +kernel

/-- A counter that holds a signal already. -/
theorem witness_SignalAndPlacementFrames_refused :
    let f := sig 6 47 77 6
    let h := heldSig none none
    let s := { signalled [11] with arr := [(arrKey 7 47, { a := 5, held := some h })] }
    f.op = 6 ∧ Comes s 11 f .request ∧ Fresh s 11 f ∧ Word.bits f.h6 31 0 ≠ 0 ∧
    (Tab.get {} s.arr (arrKey f.srcPos f.cluster)).held ≠ none := by
  unfold Comes Fresh State.quiet State.nothingHeld; decide +kernel

/-- A placement frame of partition `q` for loaf 2^35 - 1, homed at `pos` and `loff`. -/
def placing (op kind q from_ pos loff : Nat) : Frame :=
  asks from_ op 0 0 0 0 (fabAddr (if op = 9 then 1 else 0) pos (loff * 2 ^ 21))
    (pack [(60, kind), (56, q), (48, if op = 9 then 9 else 0), (0, 2 ^ 35 - 1)]) 0

/-- The loaf has an entry and a replica here. -/
def placed (us : List Nat) : State :=
  let s := home us
  { s with place := { s.place with
    leaves := [(leafKey 0 (2 ^ 35 - 1), mkEntry 1 true false 8 0 7 12)]
    replicas := [(leafKey 0 (2 ^ 35 - 1), { slot := 3, usable := true })] } }

theorem witness_SignalAndPlacementFrames_dropped : ∀ p ∈ placementFrames.map Prod.snd,
    let f := placing p.1 p.2 0 2055 5 65534
    let s := placed [11]
    f.op = p.1 ∧ (p.1 = 9 → Word.bits f.h5 63 60 = p.2) ∧ Comes s 11 f .request ∧ Fresh s 11 f ∧
    (s.port 11).paused = 0 ∧ s.inDomain (Word.bits f.h5 59 56) f.srcPos = false := by
  unfold Comes Fresh State.quiet State.nothingHeld; decide +kernel

theorem witness_SignalAndPlacementFrames_taken : ∀ x ∈ [(8, 0, 5, 65534), (9, 0, 5, 65534), (9, 0, 5, 65535),
      (9, 0, 5, 65536), (9, 0, 6, 65534), (9, 1, 6, 65534)],
    let f := placing x.1 x.2.1 0 7 x.2.2.1 x.2.2.2
    let s := placed [11]
    f.op = x.1 ∧ (x.1 = 9 → Word.bits f.h5 63 60 = x.2.1) ∧ Comes s 11 f .request ∧ Fresh s 11 f ∧
    (s.port 11).paused = 0 ∧ s.inDomain (Word.bits f.h5 59 56) f.srcPos = true ∧
    ((s.homeRec (f.addrLin / 2 ^ 21)).st = 0 ↔ x.2.2.2 ≠ 65535) ∧
    (s.ownsLoaf (Word.bits f.h5 59 56) (f.addrLin / 2 ^ 21) = true ↔ x.2.2.2 < 65536) ∧
    (f.addrPos = s.pos ↔ x.2.2.1 = 5) ∧ entSt (s.entryOf (Word.bits f.h5 59 56) (Word.bits f.h5 34 0)) = 1 := by
  unfold Comes Fresh State.quiet State.nothingHeld; decide +kernel

/-- A read or write of this module that waits for module 7's answer, sent from port 11 to port 15. -/
def sentTo (us : List Nat) (op : Nat) (src : ReqSrc) : State × Outst :=
  let s := net us
  let q := s.address (s.mkReq op 0 1 7 0x3F false 0 0 (fabAddr 0 7 0) 0 0 (if op = 2 then [0] else [])) 0xFFFFF 65535 11 15
  let o : Outst := {
    id := 4, die := 2, pos := 7, ctr := 0xFFFFF, sgrp := 0, seq := 65535, port := 11, retx := 0, frame := q
    src := src, part := 0, pva := 0, hearth := some 0 }
  let pool := match src with | .line a v => [{ agent := a, pva := v }] | _ => []
  ({ s with
    fab := { s.fab with outst := [o], pool := pool }
    place := { s.place with leaves := [(0, mkEntry 1 true false 0 0 7 0)] } }, o)

/-- Module 7's response. -/
def answered (us : List Nat) (op status : Nat) : Frame :=
  ((peer 7).respFrame 15 (sentTo us 2 (.wline (.lay 0) 0 64)).2.frame op status 0 0 []).sealed

theorem witness_ResponsesEndRequests_write : ∀ x ∈ [(0x10, 0), (0x11, 5)],
    let f := answered [11] x.1 x.2
    let x' := sentTo [11] 2 (.wline (.lay 0) 0 64)
    f.op = x.1 ∧ f.status = x.2 ∧ Comes x'.1 11 f .response ∧ x'.1.matchResp f = some x'.2 ∧
    f.answers x'.2.frame = true := by
  unfold Comes State.quiet State.nothingHeld; decide +kernel

/-- Module 7's answer to a READ. -/
def dataFrame (us : List Nat) : Frame :=
  ((peer 7).respFrame 15 (sentTo us 1 (.line (.lay 0) 64)).2.frame 0x10 0 0 0 [7]).sealed

theorem witness_ResponsesEndRequests_read : ∀ src ∈ [ReqSrc.line (.lay 0) 64, .fq 0 0 0 1],
    let f := dataFrame [11]
    let x := sentTo [11] 1 src
    f.op = 0x10 ∧ Comes x.1 11 f .response ∧ x.1.matchResp f = some x.2 ∧ f.h6 = 0 ∧ x.2.frame.op = 1 ∧
    f.answers x.2.frame = true := by
  unfold Comes State.quiet State.nothingHeld; decide +kernel

theorem witness_ResponsesEndRequests_redirect :
    let f := answered [11] 0x12 0
    let x := sentTo [11] 1 (.line (.lay 0) 64)
    f.op = 0x12 ∧ Comes x.1 11 f .response ∧ x.1.matchResp f = some x.2 ∧ x.1.entryMoved x.2 = false ∧
    f.answers x.2.frame = true := by
  unfold Comes State.quiet State.nothingHeld; decide +kernel

theorem witness_ResponsesEndRequests_busy :
    let f := answered [11] 0x11 0xE1
    let x := sentTo [11] 1 (.line (.lay 0) 64)
    f.op = 0x11 ∧ f.status = 0xE1 ∧ Comes x.1 11 f .response ∧ x.1.matchResp f = some x.2 ∧
    f.answers x.2.frame = true := by
  unfold Comes State.quiet State.nothingHeld; decide +kernel

/-- A COMPLETION with data for a WRITE. -/
theorem witness_ResponsesEndRequests_unsuited :
    let f := dataFrame [11]
    let x := sentTo [11] 2 (.wline (.lay 0) 0 64)
    f.op = 0x10 ∧ Comes x.1 11 f .response ∧ x.1.matchResp f = some x.2 ∧ f.answers x.2.frame = false := by
  unfold Comes State.quiet State.nothingHeld; decide +kernel

theorem witness_ResponsesEndRequests_unmatched : ∀ p ∈ responseRows.map Prod.fst,
    let f := answered [11] p 0
    f.op = p ∧ Comes (net [11]) 11 f .response ∧ (net [11]).matchResp f = none := by
  unfold Comes State.quiet State.nothingHeld; decide +kernel

theorem witness_ControlAndBadFrames_seqNack : ∀ n ∈ [65535, 0],
    let f := ((peer 7).control 0x18 15 5 11 (pack [(16, 0), (0, n)]) 0 []).sealed
    let x := sentTo [11] 2 (.wline (.lay 0) 0 64)
    f.op = 0x18 ∧ Comes x.1 11 f .seqNack ∧
    x.1.unanswered (f.dstPort / 4) f.srcPos (Word.bits f.h5 17 16) = [x.2] ∧ (x.1.port x.2.port).up = true ∧
    (x.1.port x.2.port).paused = 0 ∧ (seqFrom x.2.seq (Word.bits f.h5 15 0) = true ↔ n = 65535) := by
  unfold Comes State.quiet State.nothingHeld; decide +kernel

theorem witness_ControlAndBadFrames_keepalive :
    let f := ((peer 7).control 0x19 15 5 11 0 0x800001 []).sealed
    f.op = 0x19 ∧ Comes (net [11]) 11 f .keepalive := by
  unfold Comes State.quiet State.nothingHeld; decide +kernel

theorem witness_ControlAndBadFrames_bad : ∀ x ∈ [({ memFrame 1 7 3 0 with fcsOk := false }, Arrival.dropped),
      ({ memFrame 1 7 3 0 with etype := 0x88CC }, .ignored), (asks 7 1 0 65 3 0 (fabAddr 0 5 0) 0 0, .faulty),
      (asks 9 0x25 0 0 0 0 0 0 0, .stranger)],
    Comes (net [11]) 11 x.1 x.2 ∧ ((net [11]).port 11).paused = 0 ∧ (x.2 = .stranger → x.1.hasRow = false) := by
  unfold Comes State.quiet State.nothingHeld; decide +kernel

theorem witness_ControlAndBadFrames_stranger : ∀ p ∈ memoryFrames.map Prod.fst,
    (memFrame p 9 3 0).op = p ∧ Comes (net [11]) 11 (memFrame p 9 3 0) .stranger := by
  unfold Comes State.quiet State.nothingHeld; decide +kernel

/-! ### Witnesses: FQ operations, ports, timers, joining and placement -/

/-- An FQ descriptor of operation `op`. -/
def fqDesc (op : Nat) : List Word :=
  [pack [(56, 1), (52, op), (0, if op ≤ 2 then 64 else 0)],
    BitVec.ofNat 64 (if op ≤ 2 then 2 ^ 56 - 64 else if op = 3 then 2 ^ 56 - 8 else 0),
    BitVec.ofNat 64 (if op ≤ 2 then 2 ^ 23 - 64 else if op = 3 then 2 ^ 23 - 8 else 0), 5, 0,
    (if 4 ≤ op then pack [(12, 7), (6, 47), (0, 47)] else 0), (if op = 5 then 3 else 0), 0]

/-- An FQ entry at the head of cluster 47's queue 7. -/
def fqEntry (op : Nat) : QEntry := { entry (fqDesc op) with ticket := 63 }

/-- Cluster 47 of partition 0, whose last loaf lies at module 7, has the entry; no port is up. -/
def asking (op : Nat) : State :=
  let s := (net []).modCluster 47 fun k => { k with part := some 0, queues := [(7, { next := 64, entries := [fqEntry op] })] }
  { s with place := { s.place with leaves := [(leafKey 0 (2 ^ 35 - 1), mkEntry 1 true false 8 0 7 12)] } }

theorem noUpPorts {s : State} (h : s.fab.ports = []) (d : Nat) : s.upPorts d = [] := by
  simp [State.upPorts, State.port, h, Tab.get]

theorem witness_FqOperations : ∀ op ∈ fqRows.map Prod.fst,
    let s := asking op
    let e := fqEntry op
    s.entry 47 7 63 = some e ∧ s.clusterOn 47 = true ∧ fqOp e.desc = op ∧ s.fqMayStart 47 e = true ∧
    fqValid e.desc = true ∧ fqLspace e.desc = 0 ∧ (s.cluster 47).fq = [] ∧ s.quiet ∧ fqParts e.desc = [0] ∧
    (if 4 ≤ op then fqTarget e.desc = 7 ∧ s.position ≠ some 7
      else s.xlate ((s.cluster 47).part.getD 31) (fqRemote e.desc + 64 * 0) (fqOp e.desc != 0)
        = .there 7 (12 * 2 ^ 21 + (2 ^ 21 - if op = 3 then 8 else 64)) 8) ∧
    (s.member 7).isSome = true ∧ s.fab.leaving = false ∧ s.fab.left = false ∧
    s.fab.routes = [] ∧ s.fab.ports = [] := by unfold State.quiet; decide +kernel

/-- A signal to cluster 47 of this module: to the signal space that its partition has, or to a cluster of none. -/
theorem witness_FqOperations_signalHere : ∀ d ∈ [47, 46],
    let desc := (fqDesc 4).set 5 (pack [(12, 5), (6, d), (0, 47)])
    let e := { fqEntry 4 with desc := desc }
    let s := (net []).modCluster 47 fun k => { k with part := some 0, queues := [(7, { next := 64, entries := [e] })] }
    s.entry 47 7 63 = some e ∧ s.clusterOn 47 = true ∧ fqOp desc = 4 ∧ s.fqMayStart 47 e = true ∧ fqValid desc = true ∧
    (s.cluster 47).fq = [] ∧ s.quiet ∧ s.position = some (fqTarget desc) ∧ fqTcluster desc < 48 ∧
    s.fqWritesHeld 47 = false ∧ (s.cluster d).cycle = none ∧
    (s.signalCheck (fqTcluster desc) (s.signalSpace 0) (some 0) = 0 ↔ d = 47) := by unfold State.quiet; decide +kernel

/-- An operation that is answered: its results written, or none to write. -/
theorem witness_FqOperations_complete : ∀ x ∈ [(0, true), (1, false)],
    let o : FqOp := { ticket := 63, desc := fqDesc x.1, got := [(0, 7, false)], wrote := x.2 }
    let s := (asking x.1).modCluster 47 fun k => { k with fq := [o] }
    s.fqOf 47 63 = some o ∧ s.entry 47 7 63 = some (fqEntry x.1) ∧ (fqEntry x.1).compl = none ∧
    s.clusterOn 47 = true ∧ o.ticket = 63 ∧ o.todo = [] ∧ o.out = [] ∧
    (o.wrote = true ∨ o.results = []) ∧ s.settled (.fq 47 63) = true := by decide +kernel

/-- A READ whose line is still to be written to the last line of cluster SRAM. -/
theorem witness_FqOperations_results :
    let o : FqOp := { ticket := 63, desc := fqDesc 0, got := [(0, 7, false)] }
    let s := (asking 0).modCluster 47 fun k => { k with fq := [o] }
    let g := (s.storeLines (s.fqWho 47 63 o.desc) o.results).1
    s.fqOf 47 63 = some o ∧ o.wrote = false ∧ o.results ≠ [] ∧
    s.storeLines (s.fqWho 47 63 o.desc) o.results = (g, some [0]) ∧ g.fqOf 47 63 = some o ∧
    g.entry 47 7 63 = some (fqEntry 0) ∧ g.settled (.fq 47 63) = true := by decide +kernel

theorem witness_PortsAndPauses : ∀ n ∈ [0, 15],
    (net []).ethFitted n = true ∧ (net []).power.main = true ∧ ((net []).port n).up = false ∧ (net []).quiet ∧
    (net [0, 15]).ethFitted n = true ∧ (net [0, 15]).portOn n = true ∧ (net [0, 15]).quiet := by
  unfold State.quiet; decide +kernel

/-- More than 256 KiB of requests of a stream group wait in port 15. -/
def crowded (g : Nat) : State :=
  let f := asks 7 2 (2 * g) 64 0 0 (fabAddr 0 5 0) 0 0 (List.replicate 64 0)
  let s := (net [15]).modPort 15 fun p => { p with xoff0 := g == 0, xoff1 := g == 1 }
  { s with place := { s.place with held := List.replicate 63 (.frame 15 f) } }

theorem witness_PortsAndPauses_xoff : ∀ g ∈ [0, 1],
    (crowded g).ethFitted 15 = true ∧ (crowded g).portOn 15 = true ∧ ((crowded g).port 15).xoff g = true ∧
    (crowded g).bufferHigh 15 g = true := by decide +kernel

/-- The request has been sent again `k` times. -/
def again (k : Nat) : State × Outst :=
  let x := sentTo [11] 2 (.wline (.lay 0) 0 64)
  let o := { x.2 with retx := k }
  ({ x.1 with fab := { x.1.fab with outst := [o] } }, o)

theorem witness_FabricTimers_retransmit : ∀ k ∈ [2, 3],
    let x := again k
    x.1.outstOf 4 = some x.2 ∧ (x.1.port x.2.port).up = true ∧ (x.1.port x.2.port).paused = 0 ∧ x.2.retx = k := by
  decide +kernel

theorem witness_FabricTimers_timeout : ∀ src ∈ [ReqSrc.wline (.lay 0) 0 64, .line (.lay 0) 64, .fq 0 0 0 1],
    let x := sentTo [11] 2 src
    x.1.outstOf 4 = some x.2 ∧ x.2.src = src ∧ x.1.quiet ∧ x.1.nothingHeld := by
  unfold State.quiet State.nothingHeld; decide +kernel

theorem witness_FabricTimers_gap : ∀ g ∈ [0, 1],
    let s := (net [11]).setRx (Frame.rxKey 7 3 g) { expect := 65535, tail := 0 }
    s.power.main = true ∧ levelOf s.pos 7 ≠ 3 ∧ (s.rxStream (Frame.rxKey 7 3 g)).gap = true ∧
    (s.nackPath 7 3 g).map Prod.fst = some 11 ∧ (s.port 11).paused = 0 := by decide +kernel

theorem witness_FabricTimers_keepalive :
    let s := (net [11]).noteActive 2 7
    2 < s.build.ioDies ∧ s.power.main = true ∧ s.recent 2 7 = true ∧ (s.controlPath 2 7).map Prod.fst = some 11 ∧
    (s.port 11).up = true ∧ (s.port 11).paused = 0 := by decide +kernel

theorem witness_FabricTimers_tags :
    let t : TagSpace := { quar := [65535] }
    let s (t : TagSpace) : State := { net [11] with fab := { (net [11]).fab with spaces := [(spaceKey 3 7, t)] } }
    3 < (s t).build.ioDies ∧ (s t).quiet ∧ Tab.find (s t).fab.spaces (spaceKey 3 7) = some t ∧
    (∀ o ∈ (s {}).fab.outst, o.die ≠ 3 ∨ o.pos ≠ 7) ∧
    ((Tab.find (s {}).fab.spaces (spaceKey 3 7)).getD {}).quar = [] ∧ (s {}).quiet := by
  unfold State.quiet; decide +kernel

/-- The module knows its authority; port 11 is up. -/
def joining (j : Nat) : State :=
  let s := ((net [11]).setCtr 0x6000 9 0xABCDEF).setCtr 0x6000 0xB j
  { s with mgmt := { s.mgmt with blobs := [(odKey 0x6000 0xA, [1])] } }

theorem witness_JoiningAndLeaving_announce : ∀ j ∈ [0, 2, 5],
    let s := joining j
    s.fabricOn = true ∧ s.allUp = [11] ∧ (s.port 11).paused = 0 ∧ s.joinSet = true ∧ s.ctr 0x6000 0xB = j := by
  decide +kernel

/-- The last fragment of a message from the authority. -/
def told (op id frag bytes result : Nat) (lines : List Line) : Frame :=
  { (peer 7).control op 15 5 11 (pack [(32, id), (16, frag), (0, frag)]) (pack [(13, result), (0, bytes)]) lines with
    srcMac := 0xABCDEF }.sealed

theorem witness_JoiningAndLeaving_challenge : ∀ j ∈ [2, 3, 4, 5],
    let f := told 0x21 9 0 32 0 [7]
    let s := joining j
    s.ethFitted 11 = true ∧ s.portOn 11 = true ∧ f.op = 0x21 ∧ s.arrival 11 f = .join ∧ fragOk f = true ∧ s.quiet ∧
    s.fabricOn = true ∧ ((s.gather f).2.map List.length) = some 32 ∧ s.ctr 0x6000 0xB = j := by
  unfold State.quiet; decide +kernel

/-- A challenge that this module does not answer, and the first of two fragments. -/
theorem witness_JoiningAndLeaving_still : ∀ x ∈ [(0, 32, 7), (6, 32, 7), (2, 31, 7)],
    let f := told 0x21 9 0 x.2.1 0 [7]
    let s := joining x.1
    s.arrival 11 f = .join ∧ fragOk f = true ∧ ((s.gather f).2.map List.length) = some x.2.1 ∧ s.ctr 0x6000 0xB = x.1 := by
  decide +kernel

theorem witness_JoiningAndLeaving_first :
    let f := Frame.sealed { (peer 7).control 0x21 15 5 11 (pack [(32, 9), (16, 0), (0, 1)]) (pack [(0, 64)]) [7] with
      srcMac := 0xABCDEF }
    (joining 2).arrival 11 f = .join ∧ fragOk f = true ∧ ((joining 2).gather f).2 = none := by decide +kernel

/-- A fragment number beyond the last. -/
theorem witness_JoiningAndLeaving_malformed :
    let f := Frame.sealed { (peer 7).control 0x21 15 5 11 (pack [(32, 9), (16, 1), (0, 0)]) (pack [(0, 32)]) [7] with
      srcMac := 0xABCDEF }
    (joining 2).arrival 11 f = .join ∧ fragOk f = false := by decide +kernel

theorem witness_JoiningAndLeaving_result : ∀ j ∈ [2, 3],
    let f := told 0x23 9 0 0 255 []
    let s := joining j
    s.ethFitted 11 = true ∧ s.portOn 11 = true ∧ f.op = 0x23 ∧ s.arrival 11 f = .join ∧ fragOk f = true ∧ s.quiet ∧
    s.fabricOn = true ∧ (s.gather f).2 = some [] ∧ Word.bits f.h6 20 13 = 255 ∧ s.ctr 0x6000 0xB = j := by
  unfold State.quiet; decide +kernel

theorem updateForm (n : Nat) (h : n = 49919) : (Update.ofBytes (1 :: List.replicate n 0)).isSome = true := by
  have h64 : (1 :: List.replicate n (0 : Byte)).take 64 = 1 :: List.replicate 63 0 := by
    rw [List.take_succ_cons, List.take_replicate]; congr 2; omega
  have hn : ofBeBytes (((1 :: List.replicate 63 (0 : Byte)).drop 16).take 4) = 0 := by decide +kernel
  have hz : (((1 :: List.replicate 63 (0 : Byte)).drop 2).take 6 ++ (1 :: List.replicate 63 (0 : Byte)).drop 20).all (· == 0) = true := by
    decide +kernel
  have h1 : (1 :: List.replicate 63 (0 : Byte)).take 1 == [1] := by decide +kernel
  have h2 : decide (((1 :: List.replicate 63 (0 : Byte)).getD 1 0).toNat ≤ 1) = true := by decide +kernel
  have hl : decide ((1 :: List.replicate n (0 : Byte)).length = 64 + 8 * 0 + 49856) = true := by
    rw [List.length_cons, List.length_replicate, h]; rfl
  unfold Update.ofBytes
  simp only [h64, hn, hz, h1, h2, hl, chunks, List.map_nil, List.all_nil, Bool.and_self, if_true, Option.isSome_some]

/-- The parts of an empty member table but the last. -/
def tableParts (a z y : Bytes) : Tab Bytes :=
  [(0, a), (1, z), (2, z), (3, z), (4, z), (5, z), (6, z), (7, z), (8, z), (9, z), (10, z), (11, z), (12, y)]

theorem tableBytes (q : Nat) (y c : Bytes) (h : q = 4095) (hy : y = List.replicate 704 0) (hc : c = List.replicate 64 0) :
    ∃ n, n = 49919 ∧ (Tab.put (tableParts (1 :: List.replicate q 0) (List.replicate (q + 1) 0) y) 13 c).flatMap Prod.snd
      = 1 :: List.replicate n 0 := by
  refine ⟨q + 11 * (q + 1) + y.length + c.length, by rw [h, hc, hy, List.length_replicate, List.length_replicate], ?_⟩
  have h64 : c = List.replicate c.length 0 := by rw [hc, List.length_replicate]
  have h704 : y = List.replicate y.length 0 := by rw [hy, List.length_replicate]
  rw [h64, h704]
  simp only [tableParts, Tab.put, List.length_replicate, Nat.reduceEqDiff, Nat.reduceLT, if_false]
  simp [List.replicate_append_replicate, ← Nat.add_assoc, -List.reduceReplicate]
  omega

/-- Every fragment but the last of a member table has come. -/
def updating (a z y : Bytes) : State :=
  let s := joining 4
  { s with fab := { s.fab with frags := [{ msgId := 9, op := 0x24, total := 14, parts := tableParts a z y, since := 0 }] } }

/-- The last fragment: 64 bytes of zeros. -/
def lastPart : Frame := told 0x24 9 13 64 0 [0]

theorem witness_JoiningAndLeaving_update (a z y : Bytes) :
    (updating a z y).ethFitted 11 = true ∧ (updating a z y).portOn 11 = true ∧ lastPart.op = 0x24 ∧
    (updating a z y).arrival 11 lastPart = .join ∧ fragOk lastPart = true ∧ (updating a z y).quiet ∧
    (updating a z y).fabricOn = true ∧ (updating a z y).fab.outst = [] := by
  have h : ((updating a z y).ethFitted 11, (updating a z y).portOn 11, (updating a z y).arrival 11 lastPart,
      (updating a z y).fabricOn) = ((joining 4).ethFitted 11, (joining 4).portOn 11, (joining 4).arrival 11 lastPart,
      (joining 4).fabricOn) := rfl
  have g : ((joining 4).ethFitted 11, (joining 4).portOn 11, (joining 4).arrival 11 lastPart, (joining 4).fabricOn)
      = (true, true, Arrival.join, true) := by decide +kernel
  rw [g] at h
  simp only [Prod.mk.injEq] at h
  exact ⟨h.1, h.2.1, by decide +kernel, h.2.2.1, by decide +kernel, ⟨rfl, rfl, rfl⟩, h.2.2.2, rfl⟩

theorem updating_gather (a z y : Bytes) : ((updating a z y).gather lastPart).2
    = some ((Tab.put (tableParts a z y) 13 ((lastPart.lines.flatMap bytesOfLine).take (Frame.msgBytes lastPart))).flatMap
      Prod.snd) := by
  have h1 : Frame.msgId lastPart = 9 := by decide +kernel
  have h2 : lastPart.op = 0x24 := by decide +kernel
  have h3 : Frame.frag lastPart = 13 := by decide +kernel
  simp only [State.gather, updating, h1, h2, h3]
  simp [tableParts, Tab.put]

theorem witness_JoiningAndLeaving_updateForm : ∃ a z y b, ((updating a z y).gather lastPart).2 = some b ∧
    (Update.ofBytes b).isSome = true := by
  obtain ⟨n, hn, h⟩ := tableBytes 4095 (List.replicate 704 0) ((lastPart.lines.flatMap bytesOfLine).take (Frame.msgBytes lastPart)) rfl rfl
    (by decide +kernel)
  exact ⟨_, _, _, _, (updating_gather _ _ _).trans (congrArg some h), updateForm n hn⟩

theorem witness_JoiningAndLeaving_leave : Takes (net [11]) own 0x6000 14 1 := by unfold Takes Reaches; decide +kernel

theorem witness_JoiningAndLeaving_leaveSend :
    let s := { joining 4 with fab := { (joining 4).fab with leaving := true } }
    s.power.main = true ∧ s.fab.leaving = true ∧ s.ctr 0x6000 0xB ≠ 6 ∧ s.fab.outst = [] ∧ s.fab.waiting = [] ∧
    s.fab.dead = [] ∧ s.allUp ≠ [] := by decide +kernel

/-- A LOCAL entry of a loaf of this module; an unmapped one for 0. -/
def localEntry (loff : Nat) : Word := if loff = 0 then 0 else mkEntry 1 true true 0 0 0 loff

/-- One staged record of partition 0, for its last loaf. -/
def staged (loff : Nat) : State :=
  { (home []).setCtr 0x6020 1 13 with place := { (home []).place with stage := [(0, [(0xFFFFFFFFE00000, localEntry loff)])] } }

theorem witness_PlacementCommitsAndFills_commit : ∀ x ∈ [(65534, true), (0, true), (65536, false)],
    let s := staged x.1
    let r : Word × Word := (0xFFFFFFFFE00000, localEntry x.1)
    Takes s own (0x2600 + 0) 7 1 ∧ Tab.get [] s.place.stage 0 = [r] ∧ s.quiet ∧ s.nothingHeld ∧
    (((s.begun own).firstBad 0 (s.begun own).freeLeaves.length [r] 0 []).isNone = x.2) ∧ entSt (localEntry x.1) ≠ 2 := by
  unfold State.quiet State.nothingHeld Takes Reaches; decide +kernel

/-- Partition 15's last loaf is mapped, with a replica. -/
def mapped : State :=
  { up with place := { up.place with
    leaves := [(leafKey 15 (2 ^ 35 - 1), mkEntry 2 false false 8 0 7 12)]
    replicas := [(leafKey 15 (2 ^ 35 - 1), { slot := 0, arrived := upTo 512 })]
    pcache := [(3 * 2048 + pcacheSet 15 (2 ^ 35 - 1), upTo 8)] } }

theorem witness_PlacementCommitsAndFills_fill :
    3 < mapped.build.ioDies ∧ mapped.power.main = true ∧ entSt (mapped.entryOf 15 (2 ^ 35 - 1)) ≠ 0 ∧
    (Tab.find mapped.place.replicas (leafKey 15 (2 ^ 35 - 1))).map
      (fun r => (r.broken, r.arrived.length)) = some (false, 512) := by decide +kernel

/-- Partition 0's last loaf, owned here, may go to module 7. -/
def movable : State :=
  let s := (home []).setCtr 0x2600 9 (7 * 2 ^ 20 + 12)
  { s with place := { s.place with leaves := [(leafKey 0 (2 ^ 35 - 1), mkEntry 1 true true 3 0 0 65535)] } }

theorem witness_MigrationSteps_start : ∀ x ∈ [(2 ^ 56 - 1, false), (0, true)],
    Takes movable own (0x2600 + 0) 10 (BitVec.ofNat 64 x.1) ∧
    (movable.begun own).migRefused 0 (BitVec.ofNat 64 x.1) = x.2 := by unfold Takes Reaches; decide +kernel

/-- The migration of that loaf is at a step. -/
def migrating (step : Nat) : State :=
  ((movable.setHomeRec 65535 { st := if step = 5 then 4 else 2, epoch := 3, fwd := step == 5, fpos := 7 }).setMig 0 {
    loaf := 2 ^ 35 - 1, loff := 65535, tpos := 7, tloff := 12, epoch := 4, step := step })

theorem witness_MigrationSteps_claim :
    let s := migrating 1
    (s.mig 0).map (fun m => (m.step, m.tpos, s.migDrained m)) = some (1, 7, true) ∧ s.power.main = true ∧ s.quiet ∧
    (s.member 7).isSome = true ∧ s.fab.leaving = false ∧ s.fab.left = false ∧ s.fab.routes = [] ∧ s.fab.ports = [] := by
  unfold State.quiet; decide +kernel

/-- The module that the loaf is to go to is a member no more. -/
theorem witness_MigrationSteps_notAsked :
    let s := { migrating 1 with fab := { (migrating 1).fab with members := [] } }
    (s.mig 0).map (fun m => (m.step, m.tpos, s.migDrained m)) = some (1, 7, true) ∧ s.quiet ∧ s.member 7 = none := by
  unfold State.quiet; decide +kernel

/-- A write to the loaf is queued at the stack. -/
theorem witness_MigrationSteps_notDrained :
    let s := { migrating 1 with mem := { (migrating 1).mem with
      reqs := [{ lastReq (.write 5 1 false) with lin := 65535 * 2 ^ 21 }] } }
    (s.mig 0).map s.migDrained = some false := by decide +kernel

theorem witness_MigrationSteps_end : ∀ k ∈ [1, 4, 5],
    let s := migrating k
    (s.mig 0).map Mig.step = some k ∧ s.quiet ∧ s.nothingHeld ∧ (s.homeRec 65535).retire = false := by
  unfold State.quiet State.nothingHeld; decide +kernel

theorem witness_MigrationSteps_incoming : ∀ r ∈ [false, true],
    let s := (home []).setHomeRec 65534 { st := 3, retire := r }
    (s.homeRec 65534).st = 3 ∧ s.quiet ∧ s.nothingHeld ∧ (s.homeRec 65534).retire = r ∧ (s.homeRec 65535).st ≠ 3 := by
  unfold State.quiet State.nothingHeld; decide +kernel

/-! ### Witnesses: hosts, the dictionary and the sets -/

/-- A port whose link is up and whose decoder for window 15 is committed. -/
def portUp : CxlPort := { link := 2, refclk := true, decoders := 0x8000 }

/-- Port 3 serves partition 0's last loaf, at home here, through its last window, with the leaf entry `e`. -/
def hostingAt (ctrl : Nat) (e : Word) : State :=
  let s := ((((home []).setCport 3 portUp).setCtr (winIndex 3 15) 1 ctrl).setCtr (winIndex 3 15) 2
    (2 ^ 56 - 2 ^ 28)).setCtr (winIndex 3 15) 3 1
  { s with place := { s.place with leaves := [(leafKey 0 (2 ^ 35 - 1), e)] } }

def hosting (ctrl : Nat) : State := hostingAt ctrl (mkEntry 1 true true 3 0 0 65535)

/-- The window as `hosting` sets it, at its last line. -/
def lastWin (ctrl : Nat) : WinV where
  k := 15
  part := 0
  cls := nbits ctrl 5 4
  ro := ctrl.testBit 2
  db := ctrl.testBit 1
  pva := 2 ^ 56 - 64

/-- What the statements on a host's access begin with: the port is up, no stop runs, and the window answers. -/
def Opened (s : State) (w : WinV) : Prop :=
  s.cxlFitted 3 = true ∧ s.cxlUp 3 = true ∧ s.therm.stopStep = 0 ∧ s.quiet ∧ s.window 3 (2 ^ 28 - 64) = some w

/-- The state in which the access is translated, and the translation. -/
def looked (s : State) (w : WinV) : State := s.pcacheLook (some 3) w.part (w.pva / 64 * 64)

def lookedUp (s : State) (w : WinV) (write : Bool) : Xl := (looked s w).xlate w.part (w.pva / 64 * 64) write

/-- An access through a window without and with device bias is served here. -/
theorem witness_HostAccesses_serve : ∀ c ∈ [0x31, 0x33], ∀ write ∈ [false, true],
    let s := hosting c
    let w := lastWin c
    Opened s w ∧ s.unused w.part = false ∧ w.db = (c == 0x33) ∧ (s.cport 3).noTrack = false ∧ w.ro = false ∧
    lookedUp s w write = .here (2 ^ 37 - 64) ∧
    (looked s w).gate w.part (.host 3) write (2 ^ 37 - 64) (some w.cls) = false ∧
    s.homeHere w.part (w.pva / 64 * 64) = true ∧ (s.cport 3).victim (2 ^ 37 - 64) = none ∧
    ((looked s w).homeRec (nbits (2 ^ 37 - 64) 40 21)).replicable = false := by
  unfold Opened State.quiet; decide +kernel

/-- The port of `hosting` has given up tracking. -/
def untracked : State := (hosting 3).setCport 3 { portUp with noTrack := true }

theorem witness_HostAccesses_noTrack :
    Opened untracked (lastWin 3) ∧ untracked.unused 0 = false ∧ (lastWin 3).db = true ∧
    (untracked.cport 3).noTrack = true := by unfold Opened State.quiet; decide +kernel

theorem witness_HostAccesses_unused :
    Opened ((hosting 1).setPart 0 { st := 0 }) (lastWin 1) ∧ ((hosting 1).setPart 0 { st := 0 }).unused 0 = true := by
  unfold Opened State.quiet; decide +kernel

theorem witness_HostAccesses_readOnly : Opened (hosting 5) (lastWin 5) ∧ (lastWin 5).ro = true := by
  unfold Opened State.quiet; decide +kernel

theorem witness_HostAccesses_bad : ∀ write ∈ [false, true],
    Opened (hostingAt 1 0) (lastWin 1) ∧ (hostingAt 1 0).unused 0 = false ∧
    lookedUp (hostingAt 1 0) (lastWin 1) write = .bad 1 := by unfold Opened State.quiet; decide +kernel

/-- The loaf's home is another position, which is no member. -/
def homedAway : State := hostingAt 1 (mkEntry 1 true false 3 0 9 65535)

theorem witness_HostAccesses_there : Opened homedAway (lastWin 1) ∧ homedAway.unused 0 = false ∧
    lookedUp homedAway (lastWin 1) false = .there 9 (2 ^ 37 - 64) 3 ∧ (homedAway.member 9).isNone = true := by
  unfold Opened State.quiet; decide +kernel

/-- The loaf is moving, its old home still serving reads. -/
def movingHome : State := (hosting 1).setHomeRec 65535 { st := 2, epoch := 3 }

theorem witness_HostAccesses_hold : Opened movingHome (lastWin 1) ∧ movingHome.unused 0 = false ∧
    (lastWin 1).ro = false ∧ lookedUp movingHome (lastWin 1) true = .hold := by unfold Opened State.quiet; decide +kernel

/-- Port 2 holds the line as its own. -/
def rival : State :=
  (hosting 1).setCport 2 { portUp with tracked := [{ lin := 2 ^ 37 - 64, excl := true, part := 0 }] }

theorem witness_HostAccesses_gate : ∀ write ∈ [false, true],
    Opened rival (lastWin 1) ∧ rival.unused 0 = false ∧ lookedUp rival (lastWin 1) write = .here (2 ^ 37 - 64) ∧
    (looked rival (lastWin 1)).gate 0 (.host 3) write (2 ^ 37 - 64) (some 0) = true := by
  unfold Opened State.quiet; decide +kernel

/-- The tracker's sets are fewer than the lines: some line meets a full set. -/
theorem witness_HostAccesses_victim : ∃ a b, a ≠ b ∧
    CxlPort.victim { portUp with tracked := List.replicate 16 { lin := a, excl := true, part := 0 } } b =
      some { lin := a, excl := true, part := 0 } := by
  obtain ⟨a, b, hne, h⟩ := Finite.exists_ne_map_eq_of_infinite Config.trackSet
  refine ⟨a, b, hne, ?_⟩
  simp [CxlPort.victim, trackedLimit, List.replicate, hne, h]

theorem witness_HostAccesses_stop :
    let s : State := { hosting 1 with therm := { (hosting 1).therm with stopStep := 1 } }
    s.cxlFitted 3 = true ∧ s.cxlUp 3 = true ∧ s.therm.stopStep ≠ 0 := by decide +kernel

/-- Port 3 holds the last line, and its back-invalidation is under way. -/
def snooped (inv : Bool) : State :=
  (hosting 1).setCport 3 { portUp with tracked := [{ lin := 2 ^ 37 - 64, excl := true, part := 0, pend := some inv }] }

theorem witness_HostAccesses_snoop : ∀ inv ∈ [false, true],
    (snooped inv).cxlFitted 3 = true ∧ ((snooped inv).pendingSnoop 3 (2 ^ 37 - 64)).map Tracked.pend = some (some inv) ∧
    (snooped inv).pendingSnoop 3 0 = none ∧ (snooped inv).quiet ∧ (snooped inv).nothingHeld := by
  unfold State.quiet State.nothingHeld; decide +kernel

theorem witness_CxlPortLinksAndMailbox :
    let s := hosting 1
    s.cxlFitted 3 = true ∧ s.cxlUp 3 = true ∧ s.quiet ∧ s.nothingHeld ∧ s.winEnabled 3 15 = true ∧
    s.odNat (winIndex 3 15) 3 = 1 ∧ s.winEnabled 3 0 = false ∧ s.cxlLink 3 ≠ 1 := by
  unfold State.quiet State.nothingHeld; decide +kernel

theorem witness_CxlPortLinksAndMailbox_train :
    (up.setCport 3 { refclk := true }).cxlLink 3 = 1 ∧ up.cxlFitted 3 = true ∧ mailboxOpcodes.contains 0x4600 = false := by
  decide +kernel

theorem witness_EntryWrites_now :
    Takes up own 0xA000 1 5 ∧ isWinEntry 0xA000 = false ∧ ((up.begun own).odRow 0xA000 1).map (fun r =>
      (r.cls, ((up.begun own).actIdent 15 0xA000 1 ((up.begun own).stored r 0xA000 1 5)).isNone)) = some (0, true) := by
  unfold Takes Reaches; decide +kernel

theorem witness_EntryWrites_threshold :
    Takes up own 0x3000 2 5 ∧ isWinEntry 0x3000 = false ∧ up.mem.rowCe = [] ∧ ((up.begun own).odRow 0x3000 2).map (fun r =>
      (r.cls, ((up.begun own).actIdent 15 0x3000 2 ((up.begun own).stored r 0x3000 2 5)).isNone)) = some (0, true) := by
  unfold Takes Reaches; decide +kernel

theorem witness_EntryWrites_later : ∀ x ∈ [(0x3020, 7, 1, 1), (0x201F, 2, 2 ^ 47, 2), (0x6000, 1, 2 ^ 20 - 1, 4)],
    Takes up own x.1 x.2.1 (BitVec.ofNat 64 x.2.2.1) ∧
    ((up.begun own).odRow x.1 x.2.1).map OdRow.cls = some x.2.2.2 ∧ isWinEntry x.1 = false := by
  unfold Takes Reaches; decide +kernel

/-- Every lock group is set. -/
def locked : State := up.setCtr 0x8000 1 0xFFFF

theorem witness_EntryWrites_refused : ∀ x ∈ [(0x9999, 1, 0, 1), (0x8000, 2, 0, 2), (0x7000, 1, 0, 3), (0x6000, 1, 0, 4),
      (0xF000, 1, 0, 4)],
    let s := if x.2.2.2 = 3 then up else locked
    Reaches s own x.1 x.2.1 (BitVec.ofNat 64 x.2.2.1) ∧
    (s.begun own).preStatus 15 x.1 x.2.1 true (BitVec.ofNat 64 x.2.2.1) none = x.2.2.2 := by
  unfold Reaches; decide +kernel

/-- Window 10 stands at an entry, in mode 0 or 1, with or without an open blob. -/
def aimed (index sub : Nat) (mode1 : Bool) (blob : Option Bytes) : State :=
  up.setWin 10 { addr := pack [(48, index), (40, sub), (39, mode1.toNat)], off := 2 ^ 32 - 8, blob := blob }

theorem witness_IndirectWindows_addr : ∀ v ∈ [(0x2600, 2, 0), (0x2600, 2, 8), (0x2010, 1, 0), (0xFFFF, 255, 2 ^ 39 + 1)],
    let s := aimed 0x2600 2 false (some [1])
    Takes s own (0xA300 + 10) 1 (pack [(48, v.1), (40, v.2.1), (0, v.2.2)]) ∧ ((s.begun own).win 10).staging = false ∧
    Word.bits (pack [(48, v.1), (40, v.2.1), (0, v.2.2)]) 63 48 ≠ 0x8050 := by unfold Takes Reaches; decide +kernel

theorem witness_IndirectWindows_data : ∀ o ∈ [false, true],
    let s := aimed 0x2600 2 false (if o then some [] else none)
    let w := (s.begun own).win 10
    Takes s own (0xA300 + 10) 2 7 ∧ w.slots = false ∧ isBlob (s.odType w.index w.sub) = true ∧ w.blob.isSome = o := by
  unfold Takes Reaches; decide +kernel

theorem witness_IndirectWindows_slots :
    let s := aimed 0xA000 1 true none
    let w := (s.begun own).win 10
    let t := (s.begun own).setWin 10 w.next
    Takes s own (0xA300 + 10) 2 7 ∧ w.slots = true ∧ isWinEntry w.index = false ∧
    t.preStatus 15 w.index w.sub true 7 none = 0 ∧ (t.odRow w.index w.sub).map OdRow.cls = some 0 ∧
    (t.actIdent 15 w.index w.sub 7).isNone = true := by unfold Takes Reaches; decide +kernel

theorem witness_IndirectWindows_close : ∀ o ∈ [false, true],
    let d : Bytes := leBytes 4 1 ++ leBytes 4 2
    let s := aimed 0x2600 2 false (if o then some d else none)
    let w := (s.begun own).win 10
    let t := (s.begun own).setWin 10 { w with blob := none }
    Takes s own (0xA300 + 10) 5 1 ∧ w.blob.isSome = o ∧ w.staging = false ∧ w.index < 0x8000 ∧
    t.preStatus 15 w.index w.sub true 0 (some d) = 0 ∧ (t.odRow w.index w.sub).map OdRow.cls = some 2 := by
  unfold Takes Reaches; decide +kernel

theorem witness_EntryWrites_cycle : ∀ q ∈ [0, 15],
    let s := up.tell q 0xA000 1 0
    let a : Acc := { path := 0, same := true }
    a.same = true ∧ s.mgmt.outs.head? = some (.status q (odKey 0xA000 1) 0) ∧ a.path ≤ q := by decide +kernel

theorem witness_IndirectWindows_own : ∀ j ∈ [2, 5],
    let s := aimed 0xA305 j true none
    let w := (s.begun own).win 10
    Takes s own (0xA300 + 10) 2 7 ∧ w.slots = true ∧ isWinEntry w.index = true ∧ w.sub = j := by
  unfold Takes Reaches; decide +kernel

/-- What a read of WIN_DATA finds: the path's rights, the window's mode, the entry's kind and status. -/
def ReadsWin (k : Nat) (s : State) (a : Acc) (may slots blob : Bool) (st : Nat) : Prop :=
  let b : State := { s with mgmt := { s.mgmt with latch4 := Tab.erase s.mgmt.latch4 a.path } }
  let w := b.win k
  let off := if a.path < 6 then a.off else 0
  let z := if a.path < 6 then a.size else 8
  let c := if off + z = 8 then b.setWin k w.next else b
  s.pathFitted a.path = true ∧ s.pathOn a.path = true ∧ b.rights a.path (0xA300 + k) 2 false = may ∧ w.slots = slots ∧
  isBlob (b.odType w.index w.sub) = blob ∧ (if slots then c else b).readStatus a.path w.index w.sub = st

theorem witness_IndirectWindows_read : ∀ x ∈ [(0x2600, 2, false, true, 0), (0xA000, 1, true, false, 0),
      (0x9999, 1, true, false, 1), (0xA000, 1, false, false, 0)],
    ReadsWin 10 (aimed x.1 x.2.1 x.2.2.1 none) own true x.2.2.1 x.2.2.2.1 x.2.2.2.2 := by unfold ReadsWin; decide +kernel

/-- Port 3 reads with four bytes, the upper ones of the window's data, or out of place. -/
theorem witness_IndirectWindows_bar : ∀ o ∈ [0, 2, 4],
    ReadsWin 3 (((aimed 0xA000 1 true none).setWin 3 ((aimed 0xA000 1 true none).win 10)).setCport 3 portUp)
      { path := 3, size := 4, off := o } true true false 0 ∧ decide (o % 4 = 0) = (o != 2) := by
  unfold ReadsWin; decide +kernel

/-- A path without the right to another path's window. -/
theorem witness_IndirectWindows_denied :
    ReadsWin 10 ((aimed 0xA000 1 true none).setCport 3 portUp) { path := 3, size := 4, off := 0 } false true false 0 := by
  unfold ReadsWin; decide +kernel

theorem witness_TriggersAndSets_zero : ∀ x ∈ (triggerRows 15 15).map Prod.snd, Takes up own x.1 x.2 0 := by
  unfold Takes Reaches; decide +kernel

/-- A set with a previous version, in which CLUSTERS of partition 15 had another value. -/
def versioned (prev : Option Nat) : State :=
  let e : Pend := { set_ := 15, cls := 2, key := odKey 0x201F 2, val := 3, blob := none, todo := 0 }
  ((up.setCfgSet 15 { version := 8, prevVer := prev, prev := [(odKey 0x201F 2, 5)] }).setCfgSet 16
    { prevVer := prev, prev := [(odKey 0x6000 1, 5)] }).setPend [e]

theorem witness_TriggersAndSets_sets : ∀ v ∈ [none, some 7],
    ∀ x ∈ (discardRows 15).map Prod.snd ++ (rollbackRows 15).map Prod.snd,
    Takes (versioned v) own x.1 x.2.1 1 ∧ ((versioned v).cfgSet x.2.2).prevVer = v := by
  unfold Takes Reaches; decide +kernel

theorem witness_TriggersAndSets_locks : Takes up own 0x8000 1 0x8001 := by unfold Takes Reaches; decide +kernel

/-- Partition 15, of cluster 47, is at a step of its quiesce. -/
def quiescing (p : Part) (pend : List Pend) (q : Queue) : State :=
  let s := (((up.setCtr 0x2100 1 0x2503).setPart 15 p).modCluster 47 fun k => { k with
    part := some 15, core := { st := .halted }, closed := true, queues := [(7, q)] }).setPend pend
  (s.setCtr 0x201F 1 1).setCtr 0x201F 2 (2 ^ 47)

/-- A queue with nothing in it. -/
def noEntries : Queue := { next := 5 }

theorem witness_QuiesceAndApply_start :
    let s := quiescing { st := 2 } [] noEntries
    Takes s own (0x2010 + 15) 6 1 ∧ (s.part 15).st ≠ 1 ∧ s.clustersOf 15 = [47] := by unfold Takes Reaches; decide +kernel

theorem witness_QuiesceAndApply_limit :
    let s := quiescing { st := 1 } [] noEntries
    (s.part 15).st = 1 ∧ (s.part 15).fromUnused = false ∧ (s.part 15).limited = false ∧ s.quiet ∧
    ∀ c ∈ s.clustersOf 15, s.working c = false := by unfold State.quiet; decide +kernel

theorem witness_QuiesceAndApply_stop :
    let s := quiescing { st := 1 } [] { next := 64, entries := [fqEntry 0] }
    (s.part 15).st = 1 ∧ (s.part 15).fromUnused = false ∧ (s.part 15).limited = false ∧ s.quiet ∧
    s.clustersOf 15 = [47] ∧ (∀ q, q < 8 → ((s.cluster 47).queue q).entries = if q = 7 then [fqEntry 0] else []) ∧
    (fqEntry 0).disp = true ∧ (fqEntry 0).compl = none ∧ (fqEntry 0).aborting = none ∧ s.fqOf 47 63 = none := by
  unfold State.quiet; decide +kernel

/-- A pending write of the partition's set. -/
def pended (index sub v : Nat) : Pend :=
  { set_ := 15, cls := 2, key := odKey index sub, val := BitVec.ofNat 64 v, blob := none, todo := 0 }

theorem witness_QuiesceAndApply_apply : ∀ x ∈ [(0x201F, 2, 1, true), (0x201F, 1, 0, true), (0x201F, 2, 0, false),
      (0x250F, 1, 9, true)],
    let e := pended x.1 x.2.1 x.2.2.1
    let s := quiescing { st := 1 } [e] noEntries
    (s.part 15).st = 1 ∧ (s.part 15).filling = false ∧ (s.part 15).fromUnused = false ∧ (s.part 15).discards = 0 ∧
    (s.mgmt.pend.map Pend.key).Nodup ∧ s.nothingHeld ∧
    (∀ c ∈ s.clustersOf 15, s.working c = false) ∧ s.mgmt.pend = [e] ∧ e.key = odKey x.1 x.2.1 ∧ s.quiet ∧
    ((s.applyPends [e]).validate 15).isNone = x.2.2.2 := by unfold State.quiet State.nothingHeld; decide +kernel

/-- Partition 15 comes out of UNUSED over a stack that has lost its contents. -/
def filling (p : Part) : State :=
  ((((up.setCtr 0x21F0 1 0x2503).setCtr 0x21F0 2 (14 * 2 ^ 37)).setCtr 0x201F 1 1).setCtr 0x201F 2 (2 ^ 47)).setPart 15 p

theorem witness_QuiesceAndApply_toFill :
    let s := filling { st := 1, fromUnused := true }
    (s.part 15).st = 1 ∧ (s.part 15).filling = false ∧ (s.part 15).discards = 0 ∧ (s.part 15).fromUnused = true ∧
    s.mgmt.pend = [] ∧ s.quiet ∧ s.nothingHeld ∧ ((s.applyPends s.mgmt.pend).validate 15).isNone = true ∧
    (s.applyPends s.mgmt.pend).partEnable 15 = true ∧ (s.applyPends s.mgmt.pend).toFill 15 ≠ [] := by
  unfold State.quiet State.nothingHeld; decide +kernel

theorem witness_QuiesceAndApply_other : (up.part 15).st ≠ 1 := by decide +kernel

theorem witness_QuiesceAndApply_fill :
    let s := filling { st := 1, fromUnused := true, filling := true }
    (s.part 15).st = 1 ∧ (s.part 15).filling = true ∧ s.quiet ∧ s.nothingHeld ∧ s.toFill 15 = [14] ∧
    s.isLost 15359 32767 = true := by unfold State.quiet State.nothingHeld; decide +kernel

/-! ### Witnesses: power, temperature, starts, firmware and test -/

/-- In STANDBY after reset, with CONDUCT. -/
def waitsForPower (policy : Nat) : State :=
  { State.reset.setCtr 0x8060 2 policy with power := { State.reset.power with conduct := true } }

theorem witness_PowerInputsAndGovernors_powerGood : ∀ policy ∈ [0, 1],
    let s := waitsForPower policy
    s.power.conduct = true ∧ s.power.good = false ∧ s.power.aux = true ∧ s.odNat 0x8060 2 = policy ∧
    s.crust.svc = .standby ∧ s.crust.modReset = false ∧ s.crust.startHeld = false := by decide +kernel

theorem witness_PowerInputsAndGovernors_inputs :
    up.power.conduct = true ∧ up.power.aux = true ∧ up.power.main = true := by decide +kernel

/-- The main input is on and the auxiliary supply off. -/
def inputOnly : State := { State.reset with power := { State.reset.power with conduct := true, aux := false } }

theorem witness_PowerInputsAndGovernors_off :
    inputOnly.power.conduct = true ∧ inputOnly.power.aux = false ∧ inputOnly.power.good = false ∧
    up.power.good = true ∧ State.reset.power.main = false := by decide +kernel

/-- Measurements of one tick, at `w` watts. -/
def measured (w : Nat) : GovMeas where
  avg1ms := w
  avg10ms := w
  diePower := [50, 50, 50, 50]
  stackPower := List.replicate 16 20
  clockSave := 10
  grantSave := 5
  dutySave := 20
  admits := false

theorem witness_PowerInputsAndGovernors_tick :
    up.power.main = true ∧ up.therm.stopStep = 0 ∧ up.power.jmState = 0 ∧ up.odNat 0x7001 1 = 0 ∧ up.throttled = [] ∧
    (measured 1000).admits = false ∧ (measured 1000).avg1ms ≤ 3200 ∧ up.power.plim = 3200 ∧ 3200 < (measured 3201).avg1ms := by
  decide +kernel

theorem witness_PowerInputsAndGovernors_steps :
    let s := { up with power := { up.power with jmState := 1, pendStep := [(0, 30), (3, 32)] } }
    s.power.jmState = 1 ∧ s.power.pendStep.find? (fun y => y.1 == 3) = some (3, 32) := by decide +kernel

theorem witness_TemperatureAndOrderlyStop_read : ∀ g ∈ [0, 3, 16, 31, 32, 35, 48, 49],
    up.sensorFitted (groupSensors g).1 = true ∧ sensorGroup (groupSensors g).1 = g ∧ up.power.aux = true ∧
    up.sensorPowered (groupSensors g).1 = true ∧ (∀ n ∈ groupList g, (up.sensor n).st = 1) := by decide +kernel

theorem witness_TemperatureAndOrderlyStop_raw :
    let a : SensorRaw := { mC := -40000, code := 0, err := false }
    let b : SensorRaw := { mC := -40001, code := 0, err := false }
    rawBad a = false ∧ a.mC < 45000 ∧ rawBad b = true := by decide +kernel

theorem witness_TemperatureAndOrderlyStop_trim : up.power.main = true ∧ 3 < up.build.ioDies ∧ up.build.ioDies ≤ 4 ∧
    -2000 ≤ up.osc 3 ∧ up.osc 3 ≤ 2000 := by decide +kernel

/-- The prediction is unbounded while the reading does not rise (16 R562). -/
theorem test_rising : (Sensor.rising { hist := [107000, 108000] }) = false ∧ (Sensor.rising { hist := [108000] }) = false ∧
    (Sensor.rising { hist := [108000, 108500, 107000] }) = true := by decide

/-- The orderly stop is at a step. -/
def stopping (step : Nat) (tp : Option Nat) : State :=
  { up with therm := { up.therm with stopStep := step, tp := tp } }

theorem witness_TemperatureAndOrderlyStop_stop :
    (stopping 2 (some 100)).therm.stopStep = 2 ∧ (stopping 2 (some 100)).power.main = true ∧
    (stopping 2 (some 100)).therm.tp.isNone = false ∧ (stopping 0 none).therm.stopStep = 0 ∧
    (stopping 2 none).mem.reqs = [] ∧ (stopping 2 none).quiet ∧ (stopping 2 none).nothingHeld ∧
    (stopping 2 none).fitted 15 = true ∧ ((stopping 2 none).stk 15).unpowered = false := by
  unfold State.quiet State.nothingHeld; decide +kernel

theorem witness_TemperatureAndOrderlyStop_critical :
    let t := { (stopping 5 none).therm with sensors := [(0x1F0, { mC := 108000 })] }
    let s := { stopping 5 none with therm := t }
    s.fitted 15 = true ∧ s.therm.stopStep = 5 ∧ (s.stk 15).unpowered = false ∧ criticalAt 16 ≤ (s.hottest true (16 + 15)).1 ∧
    s.anyValid (16 + 15) = true := by decide +kernel

/-- Without auxiliary power. -/
def dark : State := { State.reset with power := { State.reset.power with aux := false } }

theorem witness_CrustStarts_cold :
    dark.power.aux = false ∧ dark.trust.upd = 0 ∧ (dark.slot 0).st = 3 ∧ (dark.slot 0).img = [] ∧
    dark.trust.fuseSvn ≤ (dark.slot 0).svn ∧ (dark.slot 1).st = 0 := by decide +kernel

theorem witness_CrustStarts_reset : up.power.aux = true ∧ Takes up own 0x8060 1 3 := by
  unfold Takes Reaches; decide +kernel

theorem witness_ModuleResetsAndStarts_request :
    Takes up own 0x8060 1 1 ∧ Takes up own 0x8060 1 2 ∧ up.trust.starter = false ∧ up.mayPreserve = true ∧
    Takes (core 0 0) own 0x8060 1 2 ∧ (core 0 0).trust.starter = false ∧ (core 0 0).mayPreserve = false := by
  unfold Takes Reaches; decide +kernel

/-- The starter's recovery service runs. -/
def rescued : State := { up with trust := { up.trust with starter := true } }

theorem witness_ModuleResetsAndStarts_starter :
    Takes rescued own 0x8060 1 1 ∧ Takes rescued own 0x8060 1 2 ∧ rescued.trust.starter = true := by
  unfold Takes Reaches; decide +kernel

/-- MOD_RESET_N is asserted, with a start policy. -/
def heldReset (policy : Nat) : State :=
  let s := State.reset.setCtr 0x8060 2 policy
  { s with crust := { s.crust with modReset := true }, power := { s.power with good := true } }

theorem witness_ModuleResetsAndStarts_pin :
    up.crust.modReset = false ∧ up.power.aux = true ∧ up.trust.starter = false ∧ up.crust.svc = .service ∧
    State.reset.crust.modReset = false ∧ State.reset.crust.svc = .standby ∧
    ∀ policy ∈ [0, 1], (heldReset policy).crust.modReset = true ∧ (heldReset policy).power.aux = true ∧
      (heldReset policy).odNat 0x8060 2 = policy ∧ (heldReset policy).crust.svc = .standby ∧
      (heldReset policy).power.good = true := by decide +kernel

/-- In STANDBY or STARTING with POWER_GOOD. -/
def powered (svc : Svc) : State :=
  { State.reset with
    power := { State.reset.power with conduct := true, good := true, main := svc == .starting }
    crust := { State.reset.crust with svc := svc } }

theorem witness_ModuleResetsAndStarts_start :
    Takes (powered .standby) own 0x8060 3 1 ∧ (powered .standby).crust.svc = .standby ∧
    (powered .standby).mayStart = true ∧ Takes up own 0x8060 3 1 ∧ up.crust.svc ≠ .standby ∧
    Takes State.reset own 0x8060 3 1 ∧ State.reset.mayStart = false := by unfold Takes Reaches; decide +kernel

theorem witness_ModuleResetsAndStarts_training :
    (powered .starting).crust.svc = .starting ∧ (powered .starting).power.main = true := by decide +kernel

/-- The update and the running slot are in states. -/
def firmware (upd run : Nat) : State :=
  { up with trust := { up.trust with upd := upd, running := 1, slots := [{ img := [1] }, { st := run, svn := 7 }] } }

theorem witness_FirmwareAndAttestation_commit : ∀ u ∈ [0, 1, 2, 3],
    Takes (firmware u 3) own 0x8050 7 1 ∧ (firmware u 3).trust.upd = u ∧ (firmware u 3).trust.slots.length = 2 ∧
    (firmware u 3).trust.running < 2 := by unfold Takes Reaches; decide +kernel

theorem witness_FirmwareAndAttestation_confirm : ∀ st ∈ [2, 3],
    let s := firmware 0 st
    Takes s own 0x8050 8 1 ∧ s.trust.slots.length = 2 ∧ s.trust.running < 2 ∧ (s.slot s.trust.running).st = st := by
  unfold Takes Reaches; decide +kernel

theorem witness_FirmwareAndAttestation_nonce :
    up.pathFitted 15 = true ∧ up.accOn own = true ∧
    up.preStatus 15 0x8020 4 true 0 (some (List.replicate 32 7)) = 0 ∧
    up.preStatus 15 0x8080 1 true 0 (some [1]) = 0 := by decide +kernel

theorem witness_FirmwareAndAttestation_report :
    let s := { up with trust := { up.trust with attSt := 1 } }
    let t := { joining 3 with trust := { (joining 3).trust with joinNonce := some (List.replicate 32 7) } }
    s.trust.joinNonce = none ∧ s.trust.attSt = 1 ∧ t.trust.joinNonce = some (List.replicate 32 7) ∧
    t.allUp.head? = some 11 ∧ (t.port 11).paused = 0 ∧ up.allUp = [] ∧ up.trust.attSt ≠ 1 := by decide +kernel

/-- In TEST, at a level, with or without the rails. -/
def testing (main : Bool) (level step : Nat) : State :=
  { State.reset.odPut 0x8000 1 0 with
    power := { State.reset.power with conduct := true, good := true, main := main }
    crust := { State.reset.crust with svc := .test }
    test := { State.reset.test with power := level, step := step } }

theorem witness_TestCommandsAndSeeds_power : ∀ m ∈ [false, true], ∀ v ∈ [0, 1, 2],
    Takes (testing m 0 0) own 0xF000 1 (BitVec.ofNat 64 v) ∧ (testing m 0 0).power.main = m ∧
    (testing m 0 0).mayStart = true := by unfold Takes Reaches; decide +kernel

theorem witness_TestCommandsAndSeeds_level :
    (testing true 2 2).crust.svc = .test ∧ (testing true 2 2).power.main = true ∧ 3 ≤ (testing true 2 2).test.power + 1 := by
  decide +kernel

theorem witness_TestCommandsAndSeeds_mtest : ∀ x ∈ [(0x141, 3), (0x141, 2), (0x140, 3)],
    let s := testing true 2 x.2
    s.fitted 15 = true ∧ Takes s own (0xF010 + 15) 1 (BitVec.ofNat 64 x.1) ∧ (s.testAt 2 = true ↔ x.2 = 3) := by
  unfold Takes Reaches; decide +kernel

theorem witness_TestCommandsAndSeeds_bist : ∀ x ∈ [(0x1BF, 2), (0x1BF, 1), (0xBF, 2)],
    let s := testing true 1 x.2
    Takes s own 0xF100 1 (BitVec.ofNat 64 x.1) ∧ (s.testAt 1 = true ↔ x.2 = 2) := by
  unfold Takes Reaches; decide +kernel

theorem witness_TestCommandsAndSeeds_running :
    let s := { testing true 2 3 with test := { (testing true 2 3).test with mtest := [(15, 1)], bist := 1 } }
    s.fitted 15 = true ∧ Tab.get 0 s.test.mtest 15 = 1 ∧ s.test.bist = 1 := by decide +kernel

theorem witness_TestCommandsAndSeeds_port :
    (testing true 2 3).ethFitted 15 = true ∧ Takes (testing true 2 3) own (0xF200 + 15) 2 1 := by
  unfold Takes Reaches; decide +kernel

theorem witness_TestCommandsAndSeeds_seed : ∀ i ∈ [0x4000, 0x5000],
    Takes up own i 4 1 ∧ Takes up own i 5 0xFFFFFFFFFFFFFFFF := by unfold Takes Reaches; decide +kernel

/-! ### Witnesses: messages and sessions -/

theorem append_ne (x : Bytes) : x ++ [0] ≠ x := by simp

/-- A message that the module accepts, on MCTP or on crumb. -/
def carrier (mctp : Bool) : Carrier :=
  if mctp then .mctp 8 mctpType mctpVendor else .udp ⟨1, 5000⟩ ⟨up.linkLocal, crumbPort⟩

/-- Crumb session 5 on path 7, whose last message had SEQ 2^32 - 1. -/
def talking : State :=
  let s := up.setCtr 0x8010 1 1
  let r : CrumbMsg := { via := carrier false, h0 := 0, h1 := 0, items := [], tag := [] }
  let x : Session := {
    path := 7, role := 0, sid := 5, key := [1], seq := 2 ^ 32 - 1, last := 0, stored := some r }
  { s with mgmt := { s.mgmt with sessions := [x] } }

/-- The session of `talking`. -/
def spoken : Session := (talking.session 7).getD {
  path := 0, role := 0, sid := 0, key := [], seq := 0, last := 0, stored := none }

/-- A message of one item, with its words, under the session's tag and more bytes. -/
def utters (ty seq : Nat) (items : List Word) (more : Bytes) : CrumbMsg :=
  let m : CrumbMsg := { via := carrier false, h0 := crumbH0 ty 0 1 5, h1 := pack [(32, seq)], items := items, tag := [] }
  { m with tag := sessionTag [1] (crumbBytes m) ++ more }

theorem witness_CrumbMessages_tag (ty seq : Nat) (items : List Word) :
    (utters ty seq items []).tag = sessionTag spoken.key (crumbBytes (utters ty seq items [])) ∧
    (utters ty seq items [0]).tag ≠ sessionTag spoken.key (crumbBytes (utters ty seq items [0])) :=
  ⟨List.append_nil _, append_ne _⟩

theorem witness_CrumbMessages : ∀ x ∈ [(1, 0), (2, 0), (1, 2 ^ 32 - 1), (2, 2 ^ 32 - 1)],
    let w : Word := pack [(48, 0xA000), (40, 1), (36, if x.1 = 2 then 4 else 0)]
    let m := utters x.1 x.2 (if x.1 = 2 then [w, 5] else [w]) []
    talking.servesPath 7 m.via = true ∧ talking.session 7 = some spoken ∧ Word.bits m.h0 63 56 = 1 ∧
    msgSid m.h0 = spoken.sid ∧ Word.bits m.h0 55 48 = x.1 ∧ (seqAfter (msgSeq m.h1) spoken.seq = true ↔ x.2 = 0) ∧
    (msgSeq m.h1 = spoken.seq ↔ x.2 = 2 ^ 32 - 1) ∧ Word.bits m.h0 47 40 = 0 ∧ crumbFormed m x.1 [w] = true ∧
    isWinEntry (Word.bits w 63 48) = false ∧ (x.1 = 2 → Word.bits w 39 36 = talking.odType 0xA000 1) ∧
    talking.preStatus 7 0xA000 1 true 5 none = 0 ∧ spoken.stored.isSome = true ∧
    (talking.odRow 0xA000 1).map (fun e => (e.cls, (talking.actIdent 7 0xA000 1 (talking.stored e 0xA000 1 5)).isNone))
      = some (0, true) := by decide +kernel

theorem witness_CrumbMessages_malformed : ∀ ty ∈ [1, 2],
    let m := utters ty 0 [] []
    Word.bits m.h0 55 48 = ty ∧ seqAfter (msgSeq m.h1) spoken.seq = true ∧ crumbFormed m ty [] = false := by decide +kernel

/-- A session message. -/
def meets (mctp : Bool) (ty sid seq role : Nat) (tag : Bytes) : SessMsg where
  via := carrier mctp
  h0 := crumbH0 ty 0 0 sid
  h1 := pack [(32, seq)]
  body := BitVec.ofNat 8 role :: List.replicate 63 0
  tag := tag

/-- The paths are on or off, OWNER's secret is set, and a family may be limited or have all its sessions. -/
def greeting (on : Nat) (lim : Option Nat) (full : Bool) : State :=
  let s := (up.odPut 0x8010 1 (BitVec.ofNat 64 on)).odPut 0x8010 4 (BitVec.ofNat 64 on)
  let xs : List Session := if full then (upTo 5).map fun k => {
    path := 6 + k, role := 0, sid := 10 + k, key := [], seq := 1, last := 0, stored := none } else []
  { s with mgmt := { s.mgmt with
    secrets := [(0, [3])]
    authC := { limited := lim }
    authM := { limited := lim }
    sessions := xs
    chals := [{ sid := 9, mctp := true, role := 0, nc := [1], nm := [2], since := 0 },
      { sid := 8, mctp := false, role := 0, nc := [1], nm := [2], since := 0 }] } }

theorem witness_SessionHandshake_hello : ∀ mctp ∈ [false, true], ∀ role ∈ [0, 2],
    sessFormed (meets mctp 0x10 0 7 role []) 0x10 = true ∧ msgSid (meets mctp 0x10 0 7 role []).h0 = 0 ∧
    (∀ on ∈ [0, 1], ∀ full ∈ [false, true],
      let s := greeting on none full
      s.power.aux = true ∧ s.accepts mctp (carrier mctp) = true ∧ s.trust.starter = false ∧ (if mctp then s.mctpOn else s.crumbOn) = (on == 1) ∧
      s.roleSecret mctp role = (if role = 0 then some [3] else none) ∧ s.sessionsFull mctp = full ∧
      (s.auth mctp).limited = none) ∧
    ((greeting 1 (some 0) false).auth mctp).limited.isNone = false ∧
    sessRole (meets mctp 0x10 0 7 role []) = role := by decide +kernel

theorem witness_SessionHandshake_tags (k b t : Bytes) :
    (meets false 0x10 0 7 0 (Config.kmac256 k b t 32 ++ [0])).tag ≠ Config.kmac256 k b t 32 ∧
    (meets false 0x10 0 7 0 (Config.kmac256 k b t 32)).tag = Config.kmac256 k b t 32 := ⟨append_ne _, rfl⟩

theorem witness_SessionHandshake_confirm : ∀ mctp ∈ [false, true],
    let s := greeting 1 none false
    let m := meets mctp 0x12 (if mctp then 9 else 8) 1 0 []
    (if mctp then s.mctpOn else s.crumbOn) = true ∧ s.accepts mctp m.via = true ∧ sessFormed m 0x12 = true ∧ msgSeq m.h1 = 1 ∧
    (s.mgmt.chals.find? (fun c => c.sid == msgSid m.h0 && c.mctp == mctp)).map Chal.role = some 0 ∧
    s.roleSecret mctp 0 = some [3] ∧ s.sessionsFull mctp = false := by decide +kernel

theorem witness_SessionHandshake_unknown : ∀ mctp ∈ [false, true],
    let s := greeting 1 none false
    let m := meets mctp 0x12 7 1 0 []
    (if mctp then s.mctpOn else s.crumbOn) = true ∧ s.accepts mctp m.via = true ∧ sessFormed m 0x12 = true ∧ msgSeq m.h1 = 1 ∧
    s.mgmt.chals.find? (fun c => c.sid == msgSid m.h0 && c.mctp == mctp) = none := by decide +kernel

/-- Node 0 of the field network, and carriers that are not the module's. -/
theorem witness_SessionHandshake_dropped :
    ({ up with crust := { up.crust with straps := 0 } } : State).accepts false (carrier false) = false ∧
    (∀ v ∈ [carrier true, .udp ⟨1, 5000⟩ ⟨up.linkLocal + 1, crumbPort⟩, .udp ⟨1, 5000⟩ ⟨up.linkLocal, crumbPort + 1⟩],
      up.accepts false v = false) ∧
    ∀ v ∈ [carrier false, .mctp 8 0x7F mctpVendor, .mctp 8 mctpType 0x1E98], up.accepts true v = false := by decide +kernel

/-- The link-local address of FIELD_MAC 00-1F-3D-00-00-01 by modified EUI-64 (15 R519). -/
theorem test_linkLocal : up.linkLocal = 0xFE80000000000000021F3DFFFE000001 := by decide +kernel

theorem witness_SessionHandshake_close :
    let m := meets false 0x14 5 0 0 []
    talking.servesPath 7 m.via = true ∧ sessFormed m 0x14 = true ∧ talking.session 7 = some spoken ∧
    msgSid m.h0 = spoken.sid ∧ seqAfter (msgSeq m.h1) spoken.seq = true ∧ talking.power.aux = true := by decide +kernel

/-! ### Witnesses: invariants -/

theorem witness_Invariant :
    Machine.Inv { home [11] with pending := [.portDown 11, .preb 15 63 15 0] } ∧ (home [11]).mem.wf = true ∧
    (home [11]).mem ≠ State.reset.mem := by
  unfold Machine.Inv; decide +kernel

/-! ### Well-formedness: one ill-formed command for each kind of unit, and the last of each kind -/

theorem test_wf_stack : (Instr.srx 16 0 0).wf = false ∧ (Instr.srx 15 63 0).wf = true := by decide
theorem test_wf_channel : (Instr.srx 0 64 0).wf = false := by decide
theorem test_wf_bank : (Instr.preb 0 0 16 0).wf = false ∧ (Instr.preb 15 63 15 0).wf = true := by decide
theorem test_wf_row : (Instr.softSpare 0 32768 0).wf = false ∧ (Instr.softSpare 16383 32767 0).wf = true := by decide
theorem test_wf_latch : (Instr.pre 0 0 0 2 0).wf = false ∧ (Instr.pre 15 63 15 1 0).wf = true := by decide
theorem test_wf_moduleBank : (Instr.softSpare 16384 0 0).wf = false := by decide
theorem test_wf_stackPort : (Instr.portRequest 0 8 none 0 .read 0 0 0).wf = false ∧ (Instr.portRequest 15 7 none 0 .read 0 0 0).wf = true := by decide
theorem test_wf_cluster : (Instr.alu 48).wf = false ∧ (Instr.alu 47).wf = true := by decide
theorem test_wf_tile : (Instr.panel 0 4).wf = false ∧ (Instr.panel 47 3).wf = true := by decide
theorem test_wf_queue : (Instr.queueDispatch 0 8).wf = false ∧ (Instr.queueDispatch 47 7).wf = true := by decide
theorem test_wf_partition : (Instr.quiesceApply 16).wf = false ∧ (Instr.quiesceApply 15).wf = true := by decide
theorem test_wf_ring : (Instr.ringNop 0 16).wf = false ∧ (Instr.ringNop 15 15).wf = true := by decide
theorem test_wf_ioDie : (Instr.keepaliveTimer 6 0).wf = false ∧ (Instr.keepaliveTimer 5 1048575).wf = true := by decide
theorem test_wf_hearthDie : (Instr.clockStepEffect 4).wf = false ∧ (Instr.clockStepEffect 3).wf = true := by decide
theorem test_wf_ethPort : (Instr.portUp 24).wf = false ∧ (Instr.portUp 23).wf = true := by decide
theorem test_wf_cxlPort : (Instr.perstNAssert 6).wf = false ∧ (Instr.perstNAssert 5).wf = true := by decide
theorem test_wf_group : (Instr.xoffRepeat 0 2).wf = false ∧ (Instr.xoffRepeat 23 1).wf = true := by decide
theorem test_wf_position : (Instr.keepaliveTimer 0 1048576).wf = false := by decide
theorem test_wf_link : (Instr.routeSwitch 128).wf = false ∧ (Instr.routeSwitch 127).wf = true := by decide
theorem test_wf_tag : (Instr.tagQuarantineExpiry 0 0 65536).wf = false ∧ (Instr.tagQuarantineExpiry 5 1048575 65535).wf = true := by decide
theorem test_wf_flag : (Instr.flagN own 0 48 0 false).wf = false ∧ (Instr.flagN own 47 47 0 true).wf = true := by decide
theorem test_wf_window : (Instr.winAddr own 11 0).wf = false ∧ (Instr.winAddr own 10 0).wf = true := by decide
theorem test_wf_decoder : (Instr.hdmDecoderCommit 0 16 0 0).wf = false ∧ (Instr.hdmDecoderCommit 5 15 0 0).wf = true := by decide
theorem test_wf_accSize : (Instr.odWrite { path := 0, size := 9 } 0 0 0).wf = false ∧ (Instr.odWrite { path := 0, size := 8, off := 7 } 0 0 0).wf = true := by decide
theorem test_wf_accByte : (Instr.odWrite { path := 0, off := 8 } 0 0 0).wf = false := by decide

/-! ### Results from the spec's worked examples -/

/-- The mapping example of 02: stack 5 is a spread region with the reset masks. -/
theorem test_mapping :
    let s := (up.setCtr 0x2150 1 0x2501).setCtr 0x2150 2 0xA000000000
    (s.place' false 0xA74802D6D0).map Prod.fst = some ⟨5506, 0x2D, 0x1B⟩ ∧
    (s.place' false 0xA74802D700).map (fun x => x.1.mbn / 16 % 64) = some 25 := by decide +kernel

/-- The packing example of 06: 0.8, 0.3, 0.19 and -0.07 as block-scaled FP4. -/
theorem test_fp4_block :
    let xs : List W32 := [0x3F4CCCCD, 0x3E99999A, 0x3E428F5C, 0xBD8F5C29]
    chooseScale 0 xs = 0x7C ∧ xs.map (encodeScaled 0 0x7C .nearest) = [7, 4, 3, 9] ∧
    encodeScaled 0 0x7C (.stochastic 0xA3F1) 0x3E99999A = 5 ∧ encodeScaled 0 0x7C (.stochastic 39321) 0x3E99999A = 4 := by
  decide +kernel

/-- The recipe of the example of 04 is valid. -/
theorem test_recipe_example :
    ([0x0830002800000000, 0x0960002800000000, 0x0A30002800000000, 0x0B64002800000000, 0x1800100000000000,
      0x1A08300000000000, 0x7045000000000000, 0x7245000000000000] : List Word).all stepValid = true := by decide +kernel

/-- A clean column reads back, one flipped data bit is corrected, and a poisoned column reads as poisoned (02 R50 to
R52). -/
theorem test_column_check :
    let d : Line := 0x123456789ABCDEF
    (eccRead (cleanCol d)).data = d ∧ (eccRead (cleanCol d)).bad = false ∧
    (eccRead { cleanCol d with data := d ^^^ (1 <<< 511) }).data = d ∧
    (eccRead { cleanCol d with data := d ^^^ (1 <<< 511) }).ce = true ∧ (eccRead (poisonCol d)).bad = true := by
  decide +kernel

/-- What nothing has written reads as poison. -/
theorem test_unwritten : (eccRead (State.reset.dramGet 0 0 0)).bad = true := by decide +kernel

/-- The command answers a next state that has the property. -/
def after (o : Out) (p : State → Bool) : Bool :=
  match o with
  | .next t => p t
  | _ => false

/-- ADDI adds a sign-extended immediate modulo 2^64; x0 stays 0 (10 R327, R332). -/
theorem test_addi : ∀ rd ∈ [0, 31],
    let s := core 0 (0x02 * 2 ^ 26 + rd * 2 ^ 21 + 2 ^ 16 + 0xFFFF) [(1, 0)]
    after (execAddi 47 s) (fun t =>
      (t.cluster 47).core.reg rd == (if rd = 0 then 0 else -1) && (t.cluster 47).core.pc == 4) = true := by
  decide +kernel

/-- A front command is taken, and an empty queue makes time pass. -/
theorem test_step :
    after (step { up with pending := [.oscTrim, .halt 0] }) (fun t => t.pending == [.halt 0] && t.therm.trims == 1) = true ∧
    after (step up) (fun t => t.pending == [] && decide (up.crust.time < t.crust.time)) = true := by decide +kernel

/-- A command to a unit that the build lacks changes nothing. -/
theorem test_missing_unit : exec (.portUp 16) up = .next up := rfl

/-- Entries of a stack that naps and of a CXL port without its clock read NOT_READY in SERVICE (15 R523, R528). -/
theorem test_clock_stopped :
    let s := (up.modStk 15 fun k => { k with nap := true }).modCport 3 fun p => { p with refclk := false }
    ∀ x ∈ [(0x303F, 2, 6), (0x303F, 1, 0), (0x303E, 2, 0), (0x317F, 3, 6), (0x6033, 3, 6), (0x6033, 1, 0)],
      s.readStatus 15 x.1 x.2.1 = x.2.2 := by decide +kernel

/-- The example of 18: lane 5 of module port 13 is received at pins 88 to 90 of HS3. -/
theorem test_pins : hsPin 88 = some .gnd ∧ hsPin 89 = some (.eth 1 5 false true) ∧ hsPin 90 = some (.eth 1 5 false false) ∧
    hsPort 3 (.eth 1 5 false true) = some 13 := by decide

/-- The example of 18: SHELF 3, SLOT 7, NODE 21. -/
theorem test_straps :
    let w := strapWord fun i => [1, 3, 5, 6, 7, 11, 12, 13, 14, 15, 18, 19, 20, 21, 22, 23].contains i
    w = 0x030715 ∧ strapShelf w = 3 ∧ strapSlot w = 7 ∧ strapNode w = 21 := by decide +kernel

theorem witness_StepRunsTheFrontCommand : up.pending = [] := rfl

theorem witness_CanonicalMemoriesThatReadAlikeAreEqual :
    let m := (home []).mem
    m.wf = true ∧ (∀ k, Tab.get blankCol m.dram k = Tab.get blankCol m.dram k) := ⟨by decide +kernel, fun _ => rfl⟩

/-- The state of `witness_Invariant` takes a step. -/
theorem witness_StepKeepsInvariant :
    after (step { home [11] with pending := [.portDown 11, .preb 15 63 15 0] })
      (fun t => t.pending == [.preb 15 63 15 0]) = true := by decide +kernel

end Sys2Proof.Tests
end

namespace Sys2Proof.Machine

/-! ### Operations that several commands share -/

/-- A choice between two answers serves when both do. -/
theorem served_ite {s : State} {c : Prop} [Decidable c] {a b : Out} (ha : Served s a) (hb : Served s b) :
    Served s (if c then a else b) := by
  split
  · exact ha
  · exact hb

section SharedAnswers

variable (s : State)

/-- The commonest answer: the command names a unit, and is taken while its condition holds. -/
theorem served_unitWhen (fits taken : Bool) (s' : State) : Served s (ifUnit s fits (when' taken s s')) :=
  served_ifUnit (served_when' taken s s')

/-- Sprig steps (04 R127): nothing without the step's turn, a stop, or an issue. -/
theorem served_stepIssue (op mbn t : Nat) : Served s (stepIssue op mbn t s) := by
  unfold stepIssue
  refine served_ite (served_next s) (served_ite (served_next s) ?_)
  split
  · exact served_go s _
  · exact served_go s _

theorem served_stepRetireAt (mbn k t : Nat) : Served s (stepRetireAt mbn k t s) := by
  unfold stepRetireAt
  refine served_ite (served_next s) ?_
  split
  · exact served_next s
  · exact served_ite (served_next s) (served_go s _)

theorem served_extIssue (cmd : Nat) (enter : Option Bool) (stk ch : Nat) (w : BitVec 48) (burst : Column) (t : Nat) :
    Served s (s.extIssue cmd enter stk ch w burst t) := served_unitWhen s _ _ _

theorem served_tileCmd (c t cmd : Nat) : Served s (s.tileCmd c t cmd) := served_unitWhen s _ _ _

theorem served_issue (c op : Nat) (fn : Option Nat) (f : State → Nat → State) (join : Bool) :
    Served s (s.issue c op fn f join) := served_unitWhen s _ _ _

theorem served_ringCmd (p r kind : Nat) (f : State → List Word → State) : Served s (s.ringCmd p r kind f) :=
  served_ifUnit (served_go s _)

theorem served_layoutCmd (c mode : Nat) : Served s (s.layoutCmd c mode) := by
  refine served_ifUnit ?_
  split
  · exact served_next s
  · exact served_when' _ s _

theorem served_fqCmd (c ticket op : Nat) : Served s (s.fqCmd c ticket op) := by
  refine served_ifUnit ?_
  split
  · exact served_next s
  · exact served_when' _ s _

theorem served_fqSigCmd (c ticket op : Nat) (more : Bool) : Served s (s.fqSigCmd c ticket op more) := by
  refine served_ifUnit ?_
  split
  · exact served_next s
  · exact served_ite (served_when' _ s _) (served_fqCmd s c ticket op)

theorem served_arrive (n : Nat) (f : Frame) (mine : Bool) : Served s (s.arrive n f mine) := served_unitWhen s _ _ _

theorem served_arriveSig (n : Nat) (f : Frame) (op : Nat) (more : Bool) : Served s (s.arriveSig n f op more) :=
  served_unitWhen s _ _ _

theorem served_joinMsg (n op : Nat) (f : Frame) (k : State → Bytes → State) : Served s (s.joinMsg n op f k) :=
  served_unitWhen s _ _ _

theorem served_mailbox (n code : Nat) (data : List Nat) : Served s (s.mailbox n code data) := served_unitWhen s _ _ _

theorem served_pathWrite (a : Acc) (i j : Nat) (v : Word) : Served s (s.pathWrite a i j v) := served_unitWhen s _ _ _

theorem served_pathFlag (a : Acc) (c j : Nat) (v : Word) (more : Bool) : Served s (s.pathFlag a c j v more) :=
  served_unitWhen s _ _ _

theorem served_pathBlob (a : Acc) (i j : Nat) (b : Bytes) : Served s (s.pathBlob a i j b) := served_unitWhen s _ _ _

end SharedAnswers

/-! ### Commands with several answers of their own -/

section BranchingCommands

variable (s : State)

theorem served_portRequest (stk port : Nat) (cls : Option Nat) (lin : Nat) (kind : ReqKind) (part requester t : Nat) :
    Served s (execPortRequest stk port cls lin kind part requester t s) := by
  unfold execPortRequest
  refine served_ite (served_next s) (served_ite (served_go s _) (served_ite (served_next s) ?_))
  split
  · exact served_go s _
  · refine served_ite (served_next s) (served_ite (served_go s _) (served_ite (served_go s _)
      (served_ite (served_next s) ?_)))
    dsimp only
    split
    · exact served_go s _
    · exact served_ite (served_next s) (served_ite (served_go s _) (served_go s _))

theorem served_urgencyStep (id elapsedNs : Nat) : Served s (execUrgencyStep id elapsedNs s) := by
  unfold execUrgencyStep
  split
  · exact served_go s _
  · exact served_ite (served_go s _) (served_next s)

theorem served_rd (stk ch : Nat) (w : BitVec 48) (id t : Nat) : Served s (execRd stk ch w id t s) := by
  refine served_ifUnit ?_
  split
  · refine served_ite (served_next s) (served_ite (served_go s _) (served_ite ?_ ?_))
    · dsimp only
      split
      · exact served_go s _
      · exact served_go s _
    · split
      · exact served_go s _
      · exact served_go s _
  · exact served_next s

theorem served_wr (stk ch : Nat) (w : BitVec 48) (id t : Nat) : Served s (execWr stk ch w id t s) := by
  refine served_ifUnit ?_
  split
  · dsimp only
    split
    · exact served_next s
    · exact served_ite (served_next s) (served_ite (served_go s _) (served_go s _))
  · exact served_next s

theorem served_softSpare (mbn row t : Nat) : Served s (execSoftSpare mbn row t s) := by
  refine served_ifUnit (served_ite (served_next s) ?_)
  dsimp only
  split
  · exact served_go s _
  · exact served_go s _

theorem served_fqOpComplete (c ticket : Nat) : Served s (execFqOpComplete c ticket s) := by
  refine served_ifUnit ?_
  split
  · exact served_when' _ s _
  · exact served_next s

theorem served_requestTimeout (id : Nat) : Served s (execRequestTimeout id s) := by
  unfold execRequestTimeout
  split
  · exact served_next s
  · exact served_go s _

theorem served_jobComplete (job : Nat) : Served s (execJobComplete job s) := by
  unfold execJobComplete
  split
  · exact served_next s
  · exact served_when' _ s _

theorem served_arrivalCounterFree (pos cl : Nat) : Served s (execArrivalCounterFree pos cl s) := by
  unfold execArrivalCounterFree
  split
  · exact served_next s
  · exact served_when' _ s _

theorem served_countTimeout (pos cl : Nat) : Served s (execCountTimeout pos cl s) := by
  unfold execCountTimeout
  dsimp only
  split
  · exact served_next s
  · split
    · exact served_next s
    · exact served_go s _

theorem served_attestReportReady : Served s (execAttestReportReady s) := by
  unfold execAttestReportReady
  split
  · exact served_go s _
  · exact served_when' _ s _

end BranchingCommands

/-! ### Every command -/

/-- Settles O2, by the forms in which the commands answer: each is `.next` of the state itself, or of an effect on
which `keep` has put build and queue back. -/
theorem everyCommandIsServed : Obligations.EveryCommandIsServed := by
  unfold Obligations.EveryCommandIsServed
  intro i s
  unfold exec
  cases i with
  | portRequest => exact served_portRequest s ..
  | urgencyStep => exact served_urgencyStep s ..
  | rd => exact served_rd s ..
  | wr => exact served_wr s ..
  | softSpare => exact served_softSpare s ..
  | fqOpComplete => exact served_fqOpComplete s ..
  | countTimeout => exact served_countTimeout s ..
  | requestTimeout => exact served_requestTimeout s ..
  | jobComplete => exact served_jobComplete s ..
  | arrivalCounterFree => exact served_arrivalCounterFree s ..
  | attestReportReady => exact served_attestReportReady s
  | stepRetire => exact served_stepRetireAt s ..
  | stepNop | stepUnpack | stepFma | stepAdd | stepMul | stepMax | stepCsel | stepDot | stepFold | stepLoad | stepStore
  | stepWb | stepDrain | stepSets | stepSetp => exact served_stepIssue s ..
  | sprigModeEnter | sprigModeLeave | recipeWrite | operandBcast | sprigRun | sprigDrain | sprigStatus =>
    exact served_extIssue s ..
  | panel | mma | cload | store => exact served_tileCmd s ..
  | halt | alu | addi | andi | ori | xori | shli | shri | sari | slti | lui | lbu | lhu | lwu | ld | sb | sh | sw | sd
  | beq | bne | blt | bge | bltu | bgeu | jmp | call | jr | qpush | qabort | qinfo | spush | sflush | sinfo | frd | fwr
  | fadd | fwait | cyc | odrd | wfe | ifence | whoami => exact served_issue s ..
  | ringPush | ringStart | ringLoad | ringAbort | ringNop => exact served_ringCmd s ..
  | layoutCopy | layoutGather | layoutScatter => exact served_layoutCmd s ..
  | fqRead | fqWrite | fqReduce | fqAtomic => exact served_fqCmd s ..
  | fqSignal | fqCountedSignal => exact served_fqSigCmd s ..
  | read | write | reduce | atomic | replicaInv | placementClaim | placementPublish | completion | nack | redirect
  | seqNack | keepalive => exact served_arrive s ..
  | signal | countedSignal => exact served_arriveSig s ..
  | joinChallenge | joinResult | memberUpdate => exact served_joinMsg s ..
  | getFwInfo | getTimestamp | getSupportedLogs | identifyMemoryDevice | getPartitionInfo | getHealthInfo
  | getPoisonList => exact served_mailbox s ..
  | getEventRecords | getLog => exact served_ite (served_mailbox s ..) (served_mailbox s ..)
  | clearEventRecords => exact served_ite (served_unitWhen s ..) (served_mailbox s ..)
  | unsupportedMailboxCommand => exact served_ite (served_next s) (served_mailbox s ..)
  | odWrite | quiesce | cfgDiscard | cfgRollback | mcfgDiscard | mcfgRollback | ringRestart | placeCommit | migStart
  | srSeedMode | srSeed | leave | dumpNow | locks | start | fwCommit | fwConfirm | moduleReset | preservingReset
  | crustReset | testPower | tileBist => exact served_pathWrite s ..
  | winAddr | winDataWrite | winClose | mtestCtrl | portPrbs => exact served_ifUnit (served_pathWrite s ..)
  | flagN | flagAdd => exact served_ifUnit (served_pathFlag s ..)
  | attestNonce | testUnlock => exact served_pathBlob s ..
  -- of a unit that is there, what the command acts on is found or not
  | nrr | chainInstruction | sprigJob | jobBankBegin | runDoneReport | replicaFillComplete | migClaim
  | migFreezeTimeout | migVacate =>
    refine served_ifUnit ?_
    split
    · exact served_next s
    · exact served_when' _ s _
  | chainComplete | transferComplete =>
    refine served_ifUnit ?_
    split
    · exact served_next s
    · exact served_ite (served_next s) (served_go s _)
  | birsp | biTimeout =>
    refine served_ifUnit ?_
    split
    · exact served_next s
    · exact served_go s _
  | retransmitTimer | joinFragmentTimeout | hotswapConduct => exact served_go s _
  | tagQuarantineExpiry | cxlLinkDown | perstNAssert | perstNRelease | refclkChange | clockStepEffect =>
    exact served_ifUnit (served_go s _)
  | requestAged | gapWaitExpiry | replayWindowFree | joinStart | joinAnnounceTimer | leaveSend | incomingTimeout
  | hello | confirm | challengeTimeout | authRateLimitEnd | powerGood | inputLoss | inputOv | slewInterval
  | governorTick | jmGraceExpiry | drainWindowExpiry | oscTrim | coldStart | lockstepMismatch | crustWatchdogExpiry
  | modResetNAssert | modResetNRelease | trainingComplete | fwVerifyComplete | tileBistComplete | auxiliaryPowerLoss
  | tpElapsed | startFail | testPowerLevelReached => exact served_when' _ s _
  | ucieLinkDown | routeSwitch | act | pre | preb | refpb | sre | srx | mrw | mrr | tokenReturn | refreshInterval
  | refreshWindow | srIdleExpiry | napEntry | scrubDue | scrubCatchUp | runResume | lineResponse | tileCmdComplete
  | queueDispatch | entryDelivery | doorbellWrite | watchdogTest | portUp | portDown | pfcFrame | pauseFrame
  | xoffRepeat | lldpTimer | keepaliveTimer | tagSpaceFree | pcacheMissFill | hostMemRead | hostMemWrite
  | hdmDecoderCommit | setTimestamp | cxlLinkUp | crumbRead | crumbWrite | close | sessionIdleTimeout
  | quiesceDrainLimit | quiesceApply | poisonFillComplete | winDataRead | sensorRead | stackCriticalHoldExpiry
  | mtestComplete | badFrame | illegalInstruction => exact served_unitWhen s ..

/-! ### Every step -/

/-- Every step answers a next state of the same build that has taken the oldest waiting command from the queue. -/
theorem step_build_pending {s t : State} (h : step s = .next t) : t.build = s.build ∧ t.pending = s.pending.tail := by
  unfold step at h
  split at h
  next hq =>
    obtain rfl : s.tick = t := by simpa using h
    simp [hq]
  next c rest hq =>
    obtain ⟨u, hu, hb, hp⟩ := everyCommandIsServed c { s with pending := rest }
    obtain rfl : u = t := by simpa [hu] using h
    exact ⟨hb, by simp [hp, hq]⟩

/-- The invariant speaks of the build and of each waiting command, so it lasts while the build stays and commands only
leave the queue. -/
theorem Inv.of_queue_subset {s t : State} (hi : Inv s) (hb : t.build = s.build) (hq : t.pending ⊆ s.pending) :
    Inv t := by
  obtain ⟨hlegal, hwf⟩ := hi
  exact ⟨hb ▸ hlegal, fun c hc => hwf c (hq hc)⟩

/-- Settles O3, from what a step does to build and queue. -/
theorem stepKeepsInvariant : Obligations.StepKeepsInvariant := by
  unfold Obligations.StepKeepsInvariant
  intro s t hi h
  obtain ⟨hb, hq⟩ := step_build_pending h
  exact ⟨hi.of_queue_subset hb (hq ▸ List.tail_subset s.pending), hb, hq⟩

/-! ### Reset -/

/-- The reference part is UB-s16-i4-A: all stacks, four I/O dies, all 192 tiles (00 R13). -/
theorem Build.reference_legal : Build.reference.legal = true := by decide

/-- Settles O5: the reference part is one that is made, and nothing waits or is written. -/
theorem invariantAtReset : Obligations.InvariantAtReset := by
  unfold Obligations.InvariantAtReset
  exact ⟨⟨Build.reference_legal, fun c hc => absurd hc List.not_mem_nil⟩, rfl⟩

end Sys2Proof.Machine

namespace Sys2Proof.Machine

/-! ### Lost UCIe links (01 R24, R25) -/

section LostLinks

/-- A UCIe link is marked down, its senders have to switch, and the loss is logged with six free words. -/
def State.markDown (s : State) (l : Nat) : State :=
  let s1 : State := { s with
    links := { s.links with down := s.links.down ++ [l], switching := s.links.switching ++ [l] } }
  let s2 := s1.log ((upTo 6).map fun i => Config.freeWord (s.free + i))
  { s2 with free := s2.free + 6 }

/-- A request that was sent to the fabric completes ROUTE_LOST, if it is still outstanding. -/
def State.loseOutst (s : State) (o : Outst) : State :=
  match s.outstOf o.id with
  | some o => s.completeReq o { status := 8 }
  | none => s

variable (s : State) {l : Nat}

@[simp] theorem markDown_down (l : Nat) : (s.markDown l).links.down = s.links.down ++ [l] := rfl
@[simp] theorem markDown_fab (l : Nat) : (s.markDown l).fab = s.fab := rfl

theorem markDown_linkUp (l k : Nat) : (s.markDown l).linkUp k = (s.linkUp k && decide (k ≠ l)) := by
  simp [State.linkUp]

/-- The link is marked down, and no other. -/
theorem markDown_linkUp_self (l : Nat) : (s.markDown l).linkUp l = false := by simp [markDown_linkUp]

theorem markDown_linkUp_ne {k : Nat} (h : k ≠ l) : (s.markDown l).linkUp k = s.linkUp k := by simp [markDown_linkUp, h]

/-- Where no request waits, none is transmitted. -/
theorem pump_noWaiting (h : s.fab.waiting = []) : s.pump = s := by simp [State.pump, State.pumpN, h]

theorem settle_retryHeld_quiet (h : s.quiet) (hh : s.nothingHeld) : s.settle.retryHeld = s := by
  rw [settle_quiet s h, retryHeld_quiet s h hh]

/-- Lines that came over other links do not lose their answers. -/
theorem pool_notLost (h : ∀ x ∈ s.fab.pool, x.way.contains l = false) :
    (s.fab.pool.map fun x => if x.way.contains l && x.status.isNone then { x with status := some 8 } else x)
      = s.fab.pool := by
  rw [List.map_congr_left (g := id) fun x hx => by simp only [h x hx, Bool.false_and]; rfl, List.map_id]

/-- The loss of a link where no request waits or is held and no line is in flight on it: what it does to the requests
of stacks and to those that were sent. -/
theorem linkLost_eq (h : s.quiet) (hh : s.nothingHeld) (hp : ∀ x ∈ s.fab.pool, x.way.contains l = false) :
    s.linkLost l = (((s.fab.outst.filter fun o => o.way.contains l).foldl State.loseOutst
      ((s.mem.reqs.filter fun r => r.route.contains l).foldl State.loseReq (s.markDown l))).settle).retryHeld := by
  obtain ⟨hw, -, -⟩ := h
  obtain ⟨hheld, -⟩ := hh
  have hfab : ({ s.fab with waiting := [], pool := s.fab.pool } : Fabric) = s.fab := by rw [← hw]
  have hplace : ({ s.place with held := [] } : Place) = s.place := by rw [← hheld]
  simp only [State.linkLost, hw, hheld, pool_notLost s hp, List.filter_nil, List.foldl_nil, hfab, hplace]
  rfl

/-- With nothing in flight on it, the loss of a link marks it down and does no more. -/
theorem linkLost_free (h : s.quiet) (hh : s.nothingHeld) (hf : s.linkFree l) : s.linkLost l = s.markDown l := by
  obtain ⟨ho, hp, hr⟩ := hf
  have houts : (s.fab.outst.filter fun o => o.way.contains l) = [] := by simpa using ho
  have hreqs : (s.mem.reqs.filter fun r => r.route.contains l) = [] := by simpa using hr
  rw [linkLost_eq s h hh hp, houts, hreqs]
  exact settle_retryHeld_quiet (s.markDown l) h hh

/-! #### A write of an engine in flight -/

/-- A write of an engine fails with a status: the request leaves the table, and its engine is told. -/
def State.failWrite (s : State) (o : Outst) (a : Agent) (st : Nat) : State :=
  { s.release o with fab := { (s.release o).fab with fails := s.fab.fails ++ [(a, st)] } }

/-- A write of an engine that completes with a failure other than STALE fails for its engine. -/
theorem completeReq_failedWrite {o : Outst} {a : Agent} {v n st : Nat} (h : s.quiet) (hsrc : o.src = .wline a v n)
    (h0 : st ≠ 0) (h6 : st ≠ 6) : s.completeReq o { status := st } = s.failWrite o a st := by
  have hreply : (s.release o).replyTo o { status := st } = s.failWrite o a st := by
    simp [State.replyTo, State.finalReply, State.failWrite, State.release, hsrc, h0, h6]
  have ⟨hw, _, _⟩ := h
  rw [State.completeReq, hreply, pump_noWaiting (s.failWrite o a st) hw, settle_quiet (s.failWrite o a st) h]

/-- The loss of a link on which one write of an engine, the only request sent, is in flight: the write fails
ROUTE_LOST. -/
theorem linkLost_write {o : Outst} {a : Agent} {v n : Nat} (h : s.quiet) (hh : s.nothingHeld) (ho : s.fab.outst = [o])
    (hway : o.way.contains l = true) (hp : ∀ x ∈ s.fab.pool, x.way.contains l = false)
    (hr : ∀ r ∈ s.mem.reqs, r.route.contains l = false) (hsrc : o.src = .wline a v n) :
    s.linkLost l = (s.markDown l).failWrite o a 8 := by
  have houts : (s.fab.outst.filter fun o => o.way.contains l) = [o] := by rw [ho, List.filter_singleton, hway]; rfl
  have hreqs : (s.mem.reqs.filter fun r => r.route.contains l) = [] := by simpa using hr
  have hfound : (s.markDown l).outstOf o.id = some o := by simp [State.outstOf, ho]
  have hlose : (s.markDown l).loseOutst o = (s.markDown l).failWrite o a 8 := by
    simp only [State.loseOutst, hfound]
    exact completeReq_failedWrite (s.markDown l) h hsrc (by decide) (by decide)
  rw [linkLost_eq s h hh hp, houts, hreqs, List.foldl_nil, List.foldl_cons, List.foldl_nil, hlose]
  exact settle_retryHeld_quiet ((s.markDown l).failWrite o a 8) h hh

theorem failWrite_outst {o : Outst} (ho : s.fab.outst = [o]) (a : Agent) (st : Nat) :
    (s.failWrite o a st).fab.outst = [] := by
  simp [State.failWrite, State.release, ho]

/-! #### A queued request of a stack in flight -/

/-- A queued request whose link is lost is carried out unheard or dropped (13 R457). -/
theorem loseReq_reqs {r : PortReq} (h : s.mem.reqs = [r]) :
    (s.loseReq r).mem.reqs = [] ∨ (s.loseReq r).mem.reqs = [{ r with lost := true, route := [] }] := by
  cases hk : Word.bit (Config.freeWord s.free) 0 with
  | false => exact .inl (by simp [State.loseReq, hk, h])
  | true => exact .inr (by simp [State.loseReq, hk, h])

/-- The loss of a link on which the only queued request of a stack is in flight, and nothing else. -/
theorem linkLost_request {r : PortReq} (h : s.quiet) (hh : s.nothingHeld)
    (ho : ∀ o ∈ s.fab.outst, o.way.contains l = false) (hp : ∀ x ∈ s.fab.pool, x.way.contains l = false)
    (hr : s.mem.reqs = [r]) (hroute : r.route.contains l = true) : s.linkLost l = (s.markDown l).loseReq r := by
  have houts : (s.fab.outst.filter fun o => o.way.contains l) = [] := by simpa using ho
  have hreqs : (s.mem.reqs.filter fun r => r.route.contains l) = [r] := by
    rw [hr, List.filter_singleton, hroute]; rfl
  rw [linkLost_eq s h hh hp, houts, hreqs, List.foldl_nil, List.foldl_cons, List.foldl_nil]
  exact settle_retryHeld_quiet ((s.markDown l).loseReq r) h hh

/-! #### The commands -/

variable {s}

/-- UCIE_LINK_DOWN of a link that is up is carried out. -/
theorem completes_ucieLinkDown {t : State} {P : State → Prop} (hfit : s.linkFitted l = true)
    (hmain : s.power.main = true) (hup : s.linkUp l = true) (ht : s.linkLost l = t) (hP : P (keep s t)) :
    Completes (.ucieLinkDown l) s P := by
  refine completes_go (s' := t) ?_ hP
  change execUcieLinkDown l s = _
  simp only [execUcieLinkDown, hfit, hmain, hup, ht, Bool.and_self, ifUnit_true, when'_true]

/-- The senders over a lost link take their new routes. -/
def State.switched (s : State) (l : Nat) : State :=
  { s with links := { s.links with switching := s.links.switching.filter (· != l) } }

theorem switched_switching (s : State) (l : Nat) : (s.switched l).links.switching.contains l = false := by
  simp [State.switched]

/-- ROUTE_SWITCH is carried out once no request is in flight on the lost link. -/
theorem completes_routeSwitch {P : State → Prop} (hfit : s.linkFitted l = true)
    (hsw : s.links.switching.contains l = true) (ho : ∀ o ∈ s.fab.outst, o.way.contains l = false)
    (hr : ∀ r ∈ s.mem.reqs, r.route.contains l = false) (h : s.quiet) (hP : P (keep s (s.switched l))) :
    Completes (.routeSwitch l) s P := by
  have houts : (s.fab.outst.any fun o => o.way.contains l) = false := by simpa using ho
  have hreqs : (s.mem.reqs.any fun r => r.route.contains l) = false := by simpa using hr
  have hsettled : (s.switched l).pump.settle = s.switched l := by
    have ⟨hw, _, _⟩ := h
    rw [pump_noWaiting (s.switched l) hw, settle_quiet (s.switched l) h]
  refine completes_go (s' := s.switched l) ?_ hP
  change execRouteSwitch l s = _
  rw [← hsettled]
  simp only [execRouteSwitch, State.switched, hfit, hsw, houts, hreqs, Bool.not_false, Bool.and_self,
    ifUnit_true, when'_true]

end LostLinks

/-- Settles O14, by what the loss of a link comes to with nothing, one write of an engine, or one queued request in
flight on it; and by the guard of the switch. -/
theorem linkLossAndSwitch : Obligations.LinkLossAndSwitch := by
  unfold Obligations.LinkLossAndSwitch
  refine ⟨?free, ?write, ?request, ?switch⟩
  case free =>
    intro l s hfit hmain hup h hh hf
    exact completes_ucieLinkDown hfit hmain hup (linkLost_free s h hh hf)
      ⟨markDown_linkUp_self s l, fun _ hk => markDown_linkUp_ne s hk, rfl, rfl, rfl, rfl, rfl⟩
  case write =>
    intro l s o a v n hfit hmain hup h hh ho hway hp hr hsrc
    exact completes_ucieLinkDown hfit hmain hup (linkLost_write s h hh ho hway hp hr hsrc)
      ⟨markDown_linkUp_self s l, rfl, failWrite_outst (s.markDown l) ho a 8, rfl, rfl⟩
  case request =>
    intro l s r hfit hmain hup h hh ho hp hr hroute
    exact completes_ucieLinkDown hfit hmain hup (linkLost_request s h hh ho hp hr hroute)
      ⟨markDown_linkUp_self s l, rfl, loseReq_reqs (s.markDown l) hr, rfl, rfl⟩
  case switch =>
    intro l s hfit hsw ho hr h
    exact completes_routeSwitch hfit hsw ho hr h ⟨switched_switching s l, rfl, rfl⟩

end Sys2Proof.Machine

/-! ## O4: every step keeps memory in canonical form

A table is canonical when its keys rise strictly and no listed value is the one that an unlisted key reads as. Only
`Tab.set`, a filter of the table and the emptying of the stacks change the DRAM contents; every other operation leaves
them as they are. The lemmas below say of each operation of the model which of the two it does (`…_dram`: the contents
stay; `…_canon`: the canonical form stays), in the model's own order, so that each rests on those of the operations it
calls; then of each command, and of a tick. -/

namespace Sys2Proof.Machine

/-! ### Canonical tables -/

/-- The DRAM table is in canonical form. -/
def Canonical (d : Tab Column) : Prop := Tab.wf blankCol d = true

@[simp] theorem canonical_nil : Canonical [] := rfl

@[simp] theorem Canonical.set {d : Tab Column} (h : Canonical d) (k : Nat) (v : Column) :
    Canonical (Tab.set blankCol d k v) :=
  Tab.wf_set k v h

@[simp] theorem ite_dram (c : Prop) [Decidable c] (s t : State) :
    (if c then s else t).mem.dram = if c then s.mem.dram else t.mem.dram :=
  apply_ite (fun s : State => s.mem.dram) c s t

@[simp] theorem ite_fst_dram {α : Type} (c : Prop) [Decidable c] (x y : State × α) :
    (if c then x else y).1.mem.dram = if c then x.1.mem.dram else y.1.mem.dram :=
  apply_ite (fun x : State × α => x.1.mem.dram) c x y

@[simp] theorem foldl_dram {α : Type} (f : State → α → State) (hf : ∀ s x, (f s x).mem.dram = s.mem.dram) (l : List α)
    (s : State) : (l.foldl f s).mem.dram = s.mem.dram := by
  induction l generalizing s with
  | nil => rfl
  | cons x l ih => rw [List.foldl_cons, ih, hf]

@[simp] theorem foldl_canon {α : Type} (f : State → α → State)
    (hf : ∀ s x, Canonical s.mem.dram → Canonical (f s x).mem.dram) (l : List α)
    (s : State) (h : Canonical s.mem.dram) : Canonical (l.foldl f s).mem.dram := by
  induction l generalizing s with
  | nil => exact h
  | cons x l ih => exact ih _ (hf _ _ h)

theorem Canonical.congr {d e : Tab Column} (h : Canonical e) (he : d = e) : Canonical d := he ▸ h

theorem Tab.rising_filter {α : Type} {t : Tab α} (p : Nat × α → Bool) (h : Tab.rising t = true) :
    Tab.rising (t.filter p) = true := by
  induction t with
  | nil => rfl
  | cons e t ih =>
    obtain ⟨i, v⟩ := e
    obtain ⟨habove, hr⟩ := (Tab.rising_cons i v t).mp h
    rw [List.filter_cons]
    split
    · exact (Tab.rising_cons i v _).mpr ⟨fun e he => habove e (List.mem_of_mem_filter he), ih hr⟩
    · exact ih hr

theorem Canonical.filter {d : Tab Column} (h : Canonical d) (p : Nat × Column → Bool) : Canonical (d.filter p) := by
  simp only [Canonical, Tab.wf, Bool.and_eq_true, List.all_eq_true] at h ⊢
  exact ⟨Tab.rising_filter p h.1, fun e he => h.2 e (List.mem_of_mem_filter he)⟩

/-- Whichever state a condition picks is canonical when both are. -/
theorem Canonical.ite {c : Prop} [Decidable c] {s t : State} (hs : Canonical s.mem.dram) (ht : Canonical t.mem.dram) :
    Canonical (if c then s else t).mem.dram := by
  split
  · exact hs
  · exact ht

theorem foldl_fst_canon {α β : Type} (f : State × β → α → State × β)
    (hf : ∀ r x, Canonical r.1.mem.dram → Canonical (f r x).1.mem.dram) (l : List α) (r : State × β)
    (h : Canonical r.1.mem.dram) : Canonical (l.foldl f r).1.mem.dram := by
  induction l generalizing r with
  | nil => exact h
  | cons x l ih => exact ih _ (hf _ _ h)

/-- A change of the placement alone, as a rewrite rule, so that home records need not be evaluated. -/
theorem withPlace_dram (s : State) (p : Place) : ({ s with place := p } : State).mem.dram = s.mem.dram := rfl

@[simp] theorem canonical_ite (c : Prop) [Decidable c] (d e : Tab Column) :
    Canonical (if c then d else e) ↔ if c then Canonical d else Canonical e := by
  split <;> rfl

/-! ### Words, counters, the log and the numbered parts of the state -/

@[simp] theorem modBank_dram (s : State) (b : Nat) (f : Bank → Bank) : (s.modBank b f).mem.dram = s.mem.dram := (rfl)

@[simp] theorem modChan_dram (s : State) (k : Nat) (f : Chan → Chan) : (s.modChan k f).mem.dram = s.mem.dram := (rfl)

@[simp] theorem modStk_dram (s : State) (n : Nat) (f : StackC → StackC) :
    (s.modStk n f).mem.dram = s.mem.dram := (rfl)

@[simp] theorem modCluster_dram (s : State) (c : Nat) (f : Cluster → Cluster) :
    (s.modCluster c f).mem.dram = s.mem.dram := (rfl)

@[simp] theorem modPort_dram (s : State) (n : Nat) (f : EthPort → EthPort) :
    (s.modPort n f).mem.dram = s.mem.dram := (rfl)

@[simp] theorem modCport_dram (s : State) (n : Nat) (f : CxlPort → CxlPort) :
    (s.modCport n f).mem.dram = s.mem.dram := (rfl)

@[simp] theorem modPart_dram (s : State) (p : Nat) (f : Part → Part) : (s.modPart p f).mem.dram = s.mem.dram := (rfl)

@[simp] theorem modTile_dram (s : State) (c t : Nat) (f : Tile → Tile) :
    (s.modTile c t f).mem.dram = s.mem.dram := (rfl)

@[simp] theorem modQueue_dram (s : State) (c q : Nat) (f : Queue → Queue) :
    (s.modQueue c q f).mem.dram = s.mem.dram := (rfl)

@[simp] theorem setCtr_dram (s : State) (index sub v : Nat) : (s.setCtr index sub v).mem.dram = s.mem.dram := (rfl)

@[simp] theorem bump_dram (s : State) (index sub n w : Nat) : (s.bump index sub n w).mem.dram = s.mem.dram := (rfl)

@[simp] theorem log_dram (s : State) (ws : List Word) : (s.log ws).mem.dram = s.mem.dram := (rfl)

@[simp] theorem logLimited_dram (s : State) (us k : Nat) (pl : Nat → List Word) :
    (s.logLimited us k pl).mem.dram = s.mem.dram := by
  simp [State.logLimited]

@[simp] theorem crustEvent_dram (s : State) (code detail value : Nat) (value2 : Word) (path role : Nat) :
    (s.crustEvent code detail value value2 path role).mem.dram = s.mem.dram := (rfl)

@[simp] theorem setSvc_dram (s : State) (v : Svc) : (s.setSvc v).mem.dram = s.mem.dram := by simp [State.setSvc]

@[simp] theorem odPut_dram (s : State) (index sub : Nat) (v : Word) :
    (s.odPut index sub v).mem.dram = s.mem.dram := (rfl)

/-! ### Memory stacks and stack controllers -/

@[simp] theorem onJob_dram (s : State) (id : Nat) (f : Job → Job) : (s.onJob id f).mem.dram = s.mem.dram := by
  unfold State.onJob
  split <;> simp

@[simp] theorem onHolder_dram (s : State) (mbn : Nat) (f : Job → Job) : (s.onHolder mbn f).mem.dram = s.mem.dram := by
  unfold State.onHolder
  split <;> simp

@[simp] theorem locPut_canon (s : State) (l : Loc) (c : Column) (h : Canonical s.mem.dram) :
    Canonical (s.locPut l c).mem.dram :=
  locPut_wf l c h

@[simp] theorem takeToken_dram (s : State) (stk back : Nat) : (s.takeToken stk back).mem.dram = s.mem.dram := (rfl)

@[simp] theorem stkEvent_dram (s : State) (code : Nat) (a : EvAt) (e : Option EccOut) (count : Nat) :
    (s.stkEvent code a e count).mem.dram = s.mem.dram := (rfl)

@[simp] theorem spareDue_dram (s : State) : s.spareDue.mem.dram = s.mem.dram := by simp [State.spareDue]

@[simp] theorem writeCol_canon (s : State) (a : EvAt) (d : Line) (mask : BitVec 64) (poison : Bool)
    (h : Canonical s.mem.dram) : Canonical (s.writeCol a d mask poison).1.mem.dram :=
  writeCol_wf a d mask poison h

@[simp] theorem lineWrite_canon (s : State) (o : Origin) (cls : Option Nat) (lin : Nat) (d : Line) (mask : BitVec 64)
    (poison : Bool) (h : Canonical s.mem.dram) : Canonical (s.lineWrite o cls lin d mask poison).1.mem.dram :=
  lineWrite_wf o cls lin d mask poison h

@[simp] theorem modUnit_dram (s : State) (mbn : Nat) (f : SprigUnit → SprigUnit) :
    (s.modUnit mbn f).mem.dram = s.mem.dram := (rfl)

@[simp] theorem sourceSeed_dram (s : State) (index src : Nat) : (s.sourceSeed index src).1.mem.dram = s.mem.dram := by
  simp [State.sourceSeed]

@[simp] theorem bankSource_dram (s : State) (mbn : Nat) : (s.bankSource mbn).1.mem.dram = s.mem.dram := by
  unfold State.bankSource
  split <;> simp

@[simp] theorem applyLatch_canon (s : State) (mbn : Nat) (effs : List StepEffect) (h : Canonical s.mem.dram) :
    Canonical (applyLatch s mbn effs).mem.dram := by
  refine foldl_canon _ (fun s e hs => ?_) effs s h
  split
  · dsimp only
    split <;> simp [hs]
  · exact hs

@[simp] theorem collectCe_dram (s : State) (mbn : Nat) (l : Nat) : (collectCe s mbn l).mem.dram = s.mem.dram := by
  unfold collectCe
  dsimp only
  repeat' split
  all_goals simp

@[simp] theorem extOnBank_canon (s : State) (w : BitVec 48) (burst : Column) (t mbn : Nat) (h : Canonical s.mem.dram) :
    Canonical (extOnBank s w burst t mbn).mem.dram := by
  unfold extOnBank
  dsimp only
  repeat' split
  all_goals simp [h]

@[simp] theorem respond_dram (s : State) (r : PortReq) (status : Nat) (d : Line) (poison : Bool) :
    (s.respond r status d poison).mem.dram = s.mem.dram := by
  simp [State.respond]

@[simp] theorem answer_dram (s : State) (stk port status : Nat) :
    (s.answer stk port status).mem.dram = s.mem.dram := by
  simp [State.answer]

@[simp] theorem callChan_dram (s : State) (stk ch : Nat) : (s.callChan stk ch).mem.dram = s.mem.dram := (rfl)

@[simp] theorem modReq_dram (s : State) (id : Nat) (f : PortReq → PortReq) :
    (s.modReq id f).mem.dram = s.mem.dram := (rfl)

@[simp] theorem tokenTick_dram (s : State) (stk t : Nat) : (s.tokenTick stk t).mem.dram = s.mem.dram := (rfl)

@[simp] theorem jobGoOn_dram (s : State) (mbn : Nat) : (s.jobGoOn mbn).mem.dram = s.mem.dram := by
  simp [State.jobGoOn]

@[simp] theorem jobRowDone_dram (s : State) (mbn t : Nat) : (s.jobRowDone mbn t).mem.dram = s.mem.dram := by
  simp [State.jobRowDone]

@[simp] theorem doAct_dram (s : State) (stk ch bank row t : Nat) :
    (s.doAct stk ch bank row t).mem.dram = s.mem.dram := (rfl)

@[simp] theorem closeLatch_dram (s : State) (mbn l t : Nat) : (s.closeLatch mbn l t).mem.dram = s.mem.dram := by
  simp [State.closeLatch]

@[simp] theorem useRowSlot_dram (s : State) (stk ch t : Nat) : (s.useRowSlot stk ch t).mem.dram = s.mem.dram := (rfl)

@[simp] theorem endHold_dram (s : State) (mbn : Nat) : (s.endHold mbn).mem.dram = s.mem.dram := by
  unfold State.endHold
  dsimp only
  repeat' split
  all_goals simp

@[simp] theorem closeIfOpen_dram (s : State) (mbn l t : Nat) : (s.closeIfOpen mbn l t).mem.dram = s.mem.dram := by
  simp [State.closeIfOpen]

@[simp] theorem useColumn_dram (s : State) (stk ch bank l t : Nat) (read : Bool) :
    (s.useColumn stk ch bank l t read).mem.dram = s.mem.dram := (rfl)

@[simp] theorem hitRun_dram (s : State) (mbn t : Nat) : (s.hitRun mbn t).mem.dram = s.mem.dram := (rfl)

@[simp] theorem pauseRun_dram (s : State) (mbn t : Nat) : (s.pauseRun mbn t).mem.dram = s.mem.dram := by
  simp [State.pauseRun]

@[simp] theorem rebank_dram (s : State) (stk old new bank : Nat) :
    (s.rebank stk old new bank).mem.dram = s.mem.dram := by
  simp [State.rebank]

@[simp] theorem leaveSr_dram (s : State) (stk ch t : Nat) : (s.leaveSr stk ch t).mem.dram = s.mem.dram := by
  simp [State.leaveSr]

@[simp] theorem retireRow_dram (s : State) (mbn row : Nat) : (s.retireRow mbn row).mem.dram = s.mem.dram := (rfl)

@[simp] theorem failRow_dram (s : State) (mbn row : Nat) : (s.failRow mbn row).mem.dram = s.mem.dram := (rfl)

/-! ### Placement entries, frames and their transmission -/

@[simp] theorem setHomeRec_dram (s : State) (loff : Nat) (r : HomeRec) :
    (s.setHomeRec loff r).mem.dram = s.mem.dram := by
  rw [State.setHomeRec]

@[simp] theorem vacate_dram (s : State) (loff : Nat) (keepFwd : Bool) :
    (s.vacate loff keepFwd).mem.dram = s.mem.dram := by
  simp [State.vacate]

@[simp] theorem pcacheLook_dram (s : State) (die : Option Nat) (p pva : Nat) :
    (s.pcacheLook die p pva).mem.dram = s.mem.dram := by
  unfold State.pcacheLook
  split <;> simp

@[simp] theorem pcacheDrop_dram (s : State) (p loaf : Nat) : (s.pcacheDrop p loaf).mem.dram = s.mem.dram := (rfl)

@[simp] theorem noteActive_dram (s : State) (die pos : Nat) : (s.noteActive die pos).mem.dram = s.mem.dram := (rfl)

@[simp] theorem emit_dram (s : State) (n : Nat) (f : Frame) : (s.emit n f).mem.dram = s.mem.dram := by
  simp [State.emit]

@[simp] theorem flushTx_dram (s : State) : s.flushTx.mem.dram = s.mem.dram := by simp [State.flushTx]

@[simp] theorem resend_dram (s : State) (o : Outst) : (s.resend o).mem.dram = s.mem.dram := by simp [State.resend]

@[simp] theorem repath_dram (s : State) (die pos sgrp : Nat) : (s.repath die pos sgrp).mem.dram = s.mem.dram := by
  unfold State.repath
  dsimp only
  repeat' split
  all_goals simp

@[simp] theorem repathLost_dram (s : State) : s.repathLost.mem.dram = s.mem.dram := by simp [State.repathLost]

@[simp] theorem deadReq_dram (s : State) (src : ReqSrc) (st : Nat) : (s.deadReq src st).mem.dram = s.mem.dram := by
  unfold State.deadReq
  split <;> simp

@[simp] theorem sendFirst_dram (s : State) (w : Waiting) (die port dport : Nat) (way : List Nat) :
    (s.sendFirst w die port dport way).mem.dram = s.mem.dram := by
  simp [State.sendFirst]

theorem pickSend_dram {s s1 : State} {ws : List Waiting} {w : Waiting} (h : s.pickSend ws = some (s1, w)) :
    s1.mem.dram = s.mem.dram := by
  unfold State.pickSend at h
  split at h
  · cases h; rfl
  · split at h
    · obtain ⟨_, _, he⟩ := Option.map_eq_some_iff.mp h
      cases he; rfl
    · dsimp only at h
      split at h
      all_goals
        obtain ⟨_, _, he⟩ := Option.map_eq_some_iff.mp h
        cases he; rfl

theorem transmit_dram {s s1 : State} {w : Waiting} (h : s.transmit w = some s1) : s1.mem.dram = s.mem.dram := by
  unfold State.transmit at h
  split at h
  · cases h; simp
  · split at h
    · cases h
    · split at h
      · cases h
      · split at h
        · cases h; simp
        · extract_lets s2 known t mine tag busy full at h
          have hs2 : s2.mem.dram = s.mem.dram := by
            unfold s2
            split
            · split <;> simp
            · rfl
          split at h
          · cases h
          · split at h
            · cases h
            · cases h
              exact (sendFirst_dram ..).trans hs2

@[simp] theorem pumpN_dram (s : State) (fuel : Nat) : (s.pumpN fuel).mem.dram = s.mem.dram := by
  induction fuel generalizing s with
  | zero => rfl
  | succ fuel ih =>
    unfold State.pumpN
    split
    · rfl
    · rename_i s1 w hpick
      rw [ih]
      have hs1 : s1.mem.dram = s.mem.dram := pickSend_dram hpick
      cases hsent : State.transmit _ w with
      | none => exact hs1
      | some s3 => exact (transmit_dram hsent).trans hs1

@[simp] theorem pump_dram (s : State) : s.pump.mem.dram = s.mem.dram := by simp [State.pump]

@[simp] theorem sendReq_dram (s : State) (src : ReqSrc) (hearth : Option Nat) (die pos part pva : Nat) (f : Frame) :
    (s.sendReq src hearth die pos part pva f).mem.dram = s.mem.dram := by
  simp [State.sendReq]

@[simp] theorem putSeen_dram (s : State) (f : Frame) (e : Seen) : (s.putSeen f e).mem.dram = s.mem.dram := by
  unfold State.putSeen
  split <;> simp

@[simp] theorem sendResp_dram (s : State) (n : Nat) (q : Frame) (op status : Nat) (a0 a1 : Word) (lines : List Line) :
    (s.sendResp n q op status a0 a1 lines).mem.dram = s.mem.dram := by
  simp [State.sendResp]

@[simp] theorem fabRespond_dram (s : State) (n : Nat) (q : Frame) (op status : Nat) (a0 a1 : Word) (lines : List Line) :
    (s.fabRespond n q op status a0 a1 lines).mem.dram = s.mem.dram := by
  simp [State.fabRespond]

@[simp] theorem fabAnswer_dram (s : State) (n : Nat) (q : Frame) (status : Nat) (old : Word) :
    (s.fabAnswer n q status old).mem.dram = s.mem.dram := by
  simp [State.fabAnswer]

@[simp] theorem snoop_dram (s : State) (o : Origin) (write : Bool) (lin : Nat) :
    (s.snoop o write lin).mem.dram = s.mem.dram := by
  unfold State.snoop
  split <;> simp

/-! ### Clusters: flag words, queues and signals -/

@[simp] theorem csPut_dram (s : State) (c a : Nat) (d : Line) (mask : BitVec 64) :
    (s.csPut c a d mask).mem.dram = s.mem.dram := (rfl)

@[simp] theorem modCore_dram (s : State) (c : Nat) (f : Core → Core) : (s.modCore c f).mem.dram = s.mem.dram := (rfl)

@[simp] theorem coreEvent_dram (s : State) (c bit : Nat) : (s.coreEvent c bit).mem.dram = s.mem.dram := by
  simp [State.coreEvent]

@[simp] theorem releaseQueue_dram (s : State) (c q : Nat) : (s.releaseQueue c q).mem.dram = s.mem.dram := (rfl)

@[simp] theorem releaseStream_dram (s : State) (c t str : Nat) :
    (s.releaseStream c t str).mem.dram = s.mem.dram := (rfl)

@[simp] theorem setFlag_dram (s : State) (c n : Nat) (v : W32) : (s.setFlag c n v).mem.dram = s.mem.dram := (rfl)

@[simp] theorem modEntry_dram (s : State) (c q ticket : Nat) (f : QEntry → QEntry) :
    (s.modEntry c q ticket f).mem.dram = s.mem.dram := (rfl)

@[simp] theorem complete_dram (s : State) (c q ticket status detail : Nat) :
    (s.complete c q ticket status detail).mem.dram = s.mem.dram := (rfl)

@[simp] theorem noteHeads_dram (s : State) (c : Nat) : (s.noteHeads c).mem.dram = s.mem.dram := (rfl)

@[simp] theorem tileAbsent_dram (s : State) (c t : Nat) (e : QEntry) :
    (s.tileAbsent c t e).mem.dram = s.mem.dram := by
  simp [State.tileAbsent]

@[simp] theorem closeHead_dram (s : State) (c q : Nat) (e : QEntry) : (s.closeHead c q e).mem.dram = s.mem.dram := by
  simp [State.closeHead]

@[simp] theorem dispatchHead_dram (s : State) (c q : Nat) : (s.dispatchHead c q).mem.dram = s.mem.dram := by
  unfold State.dispatchHead
  dsimp only
  split <;> simp

@[simp] theorem evalCore_dram (s : State) (c : Nat) (ns : List Nat) : (s.evalCore c ns).mem.dram = s.mem.dram := by
  unfold State.evalCore
  split <;> simp

@[simp] theorem evalWaits_dram (s : State) (c : Nat) (ns : List Nat) : (s.evalWaits c ns).mem.dram = s.mem.dram := by
  simp only [State.evalWaits, noteHeads_dram, evalCore_dram]
  refine foldl_dram _ (fun s q => ?_) _ s
  split
  · split <;> simp
  · rfl

@[simp] theorem openCycle_dram (s : State) (c : Nat) : (s.openCycle c).mem.dram = s.mem.dram := by
  simp [State.openCycle]

@[simp] theorem closeCycle_dram (s : State) (c : Nat) : (s.closeCycle c).mem.dram = s.mem.dram := by
  unfold State.closeCycle
  split <;> simp

theorem together_dram (s : State) (c : Nat) {f : State → State} (hf : ∀ s, (f s).mem.dram = s.mem.dram) :
    (s.together c f).mem.dram = s.mem.dram := by
  simp [State.together, hf]

@[simp] theorem cycleEnd_dram (s : State) (c : Nat) (more : Bool) : (s.cycleEnd c more).mem.dram = s.mem.dram := by
  simp [State.cycleEnd]

@[simp] theorem dispatchNow_dram (s : State) (c q : Nat) : (s.dispatchNow c q).mem.dram = s.mem.dram := by
  unfold State.dispatchNow
  split <;> simp

@[simp] theorem flagWrite_dram (s : State) (c rank n : Nat) (set_ : Bool) (v : W32) :
    (s.flagWrite c rank n set_ v).mem.dram = s.mem.dram := by
  refine together_dram s c fun s => ?_
  split
  · rfl
  · dsimp only
    split <;> simp

@[simp] theorem deliver_dram (s : State) (c q : Nat) (e : QEntry) (status detail : Nat) :
    (s.deliver c q e status detail).mem.dram = s.mem.dram := by
  refine together_dram s c fun s => ?_
  simp only [noteHeads_dram, releaseQueue_dram, coreEvent_dram]
  repeat' split
  all_goals simp

@[simp] theorem pushEntry_dram (s : State) (c q : Nat) (desc : List Word) (e0 e1 : Word) (ring : Option RingSrc) :
    (s.pushEntry c q desc e0 e1 ring).mem.dram = s.mem.dram := (rfl)

@[simp] theorem signalReject_dram (s : State) (tc tf value pos cl reason count arrived : Nat) :
    (s.signalReject tc tf value pos cl reason count arrived).mem.dram = s.mem.dram := by
  simp [State.signalReject]

@[simp] theorem signalAnswer_dram (s : State) (h : HeldSig) (status : Nat) :
    (s.signalAnswer h status).mem.dram = s.mem.dram := by
  unfold State.signalAnswer
  split
  · simp
  · split <;> rfl

@[simp] theorem applyCounted_dram (s : State) (key : Nat) (h : HeldSig) :
    (s.applyCounted key h).mem.dram = s.mem.dram := by
  simp [State.applyCounted]

@[simp] theorem countLines_dram (s : State) (pos cl lines : Nat) :
    (s.countLines pos cl lines).mem.dram = s.mem.dram := by
  unfold State.countLines
  dsimp only
  repeat' split
  all_goals simp

@[simp] theorem takeCounted_dram (s : State) (pos cl : Nat) (h : HeldSig) :
    (s.takeCounted pos cl h).mem.dram = s.mem.dram := by
  simp [State.takeCounted]

/-! ### Lines at their home, and the lines of the engines -/

@[simp] theorem readLines_dram (s : State) (o : Origin) (cls : Option Nat) (lin n : Nat) :
    (s.readLines o cls lin n).1.mem.dram = s.mem.dram := by
  induction n with
  | zero => rfl
  | succ n ih => exact (lineRead_dram _ _ _ _).trans ih

@[simp] theorem writeLines_canon (s : State) (o : Origin) (cls : Option Nat) (mask lin i : Nat) (ds : List Line)
    (st : Nat) (h : Canonical s.mem.dram) : Canonical (s.writeLines o cls mask lin i ds st).1.mem.dram := by
  induction ds generalizing s lin i st with
  | nil => exact h
  | cons d ds ih => exact ih _ _ _ _ (lineWrite_wf o cls lin d _ _ h)

@[simp] theorem reduceJob_dram (s : State) (mbn : Nat) : (s.reduceJob mbn).mem.dram = s.mem.dram := (rfl)

@[simp] theorem reduceCol_canon (s : State) (a : EvAt) (fn fmt : Nat) (d : Line) (bad : Bool)
    (h : Canonical s.mem.dram) : Canonical (s.reduceCol a fn fmt d bad).1.mem.dram := by
  simp [State.reduceCol, h]

@[simp] theorem reduceLines_canon (s : State) (o : Origin) (cls : Option Nat) (fn fmt mask lin i : Nat)
    (ds : List Line) (st : Nat) (h : Canonical s.mem.dram) :
    Canonical (s.reduceLines o cls fn fmt mask lin i ds st).1.mem.dram := by
  induction ds generalizing s lin i st with
  | nil => exact h
  | cons d ds ih =>
    refine ih _ _ _ _ ?_
    split
    · exact h
    · exact reduceCol_canon _ _ _ _ _ _ h

@[simp] theorem atomicRun_canon (s : State) (o : Origin) (cls : Option Nat) (lin aop : Nat) (x cmp : Word)
    (h : Canonical s.mem.dram) : Canonical (s.atomicRun o cls lin aop x cmp).1.mem.dram := by
  unfold State.atomicRun
  dsimp only
  repeat' split
  all_goals simp [h]

@[simp] theorem homeRun_canon (s : State) (o : Origin) (cls : Option Nat) (lin : Nat) (op : HomeOp)
    (h : Canonical s.mem.dram) : Canonical (s.homeRun o cls lin op).1.mem.dram := by
  unfold State.homeRun
  split <;> simp [h]

@[simp] theorem snoopAll_dram (s : State) (o : Origin) (lin : Nat) (op : HomeOp) :
    (s.snoopAll o lin op).mem.dram = s.mem.dram := by
  simp [State.snoopAll]

@[simp] theorem dropReplica_dram (s : State) (p loaf : Nat) : (s.dropReplica p loaf).mem.dram = s.mem.dram := by
  unfold State.dropReplica
  split <;> simp

@[simp] theorem sendInvs_dram (s : State) (round owner loff loaf : Nat) :
    (s.sendInvs round owner loff loaf).mem.dram = s.mem.dram := by
  simp [State.sendInvs]

@[simp] theorem invRound_dram (s : State) (lin : Nat) : (s.invRound lin).1.mem.dram = s.mem.dram := by
  unfold State.invRound
  extract_lets loff r id s1 p s2
  have hs2 : s2.mem.dram = s.mem.dram := (withPlace_dram s1 _).trans (setHomeRec_dram s loff { r with live := false })
  clear_value s2
  split
  · rfl
  · split
    · rfl
    · split
      · rfl
      · extract_lets s3
        have hs3 : s3.mem.dram = s.mem.dram := (foldl_dram _ (fun s l => sendInvs_dram s _ _ _ _) _ _).trans hs2
        split <;> exact hs3

@[simp] theorem modRound_dram (s : State) (id : Nat) (f : InvRound → InvRound) :
    (s.modRound id f).mem.dram = s.mem.dram := (rfl)

@[simp] theorem finishFrame_dram (s : State) (n : Nat) (f : Frame) (status : Nat) (old : Word) :
    (s.finishFrame n f status old).mem.dram = s.mem.dram := by
  simp [State.finishFrame]

@[simp] theorem serveHere_canon (s : State) (n : Nat) (f : Frame) (h : Canonical s.mem.dram) :
    Canonical (s.serveHere n f).mem.dram := by
  unfold State.serveHere
  dsimp only
  repeat' split
  all_goals simp [h]

@[simp] theorem hold_dram (s : State) (h : HeldReq) : (s.hold h).mem.dram = s.mem.dram := (rfl)

@[simp] theorem forward_dram (s : State) (n : Nat) (f : Frame) (r : HomeRec) :
    (s.forward n f r).mem.dram = s.mem.dram := by
  simp [State.forward]

@[simp] theorem serveFrame_canon (s : State) (n : Nat) (f : Frame) (h : Canonical s.mem.dram) :
    Canonical (s.serveFrame n f).mem.dram := by
  unfold State.serveFrame
  dsimp only
  repeat' split
  all_goals simp [h]

@[simp] theorem underWay_dram (s : State) (w : Who) (pva lin : Nat) (write reduce : Bool) :
    (s.underWay w pva lin write reduce).mem.dram = s.mem.dram := by
  unfold State.underWay
  dsimp only
  repeat' split
  all_goals simp

@[simp] theorem askLine_dram (s : State) (w : Who) (pva pos lin epoch : Nat) :
    (s.askLine w pva pos lin epoch).mem.dram = s.mem.dram := by
  simp [State.askLine]

@[simp] theorem clearPool_dram (s : State) (a : Agent) (used : Nat → Bool) :
    (s.clearPool a used).mem.dram = s.mem.dram := (rfl)

@[simp] theorem readAsk_dram (s : State) (w : Who) (x : Place2) : (s.readAsk w x).mem.dram = s.mem.dram := by
  unfold State.readAsk
  split
  · rfl
  · split
    · split <;> simp
    · simp
    · rfl

@[simp] theorem readOne_dram (s : State) (w : Who) (x : Place2) : (s.readOne w x).1.mem.dram = s.mem.dram := by
  unfold State.readOne
  dsimp only
  repeat' split
  all_goals simp [lineRead_dram]

@[simp] theorem readAll_dram (s : State) (w : Who) (xs : List Place2) : (s.readAll w xs).1.mem.dram = s.mem.dram := by
  induction xs generalizing s with
  | nil => rfl
  | cons x xs ih => exact (ih _).trans (readOne_dram s w x)

@[simp] theorem fetchLines_dram (s : State) (w : Who) (xs : List Place2) :
    (s.fetchLines w xs).1.mem.dram = s.mem.dram := by
  simp [State.fetchLines]

@[simp] theorem writeAsk_dram (s : State) (w : Who) (l : LineW) : (s.writeAsk w l).mem.dram = s.mem.dram := by
  unfold State.writeAsk
  split
  · rfl
  · split
    · split <;> simp
    · split <;> simp
    · rfl

@[simp] theorem afterWrite_dram (s : State) (a : Agent) (lin : Nat) : (s.afterWrite a lin).mem.dram = s.mem.dram := by
  unfold State.afterWrite
  dsimp only
  split <;> simp

@[simp] theorem writeOne_canon (s : State) (w : Who) (l : LineW) (h : Canonical s.mem.dram) :
    Canonical (s.writeOne w l).1.mem.dram := by
  unfold State.writeOne
  dsimp only
  repeat' split
  all_goals simp [h]

@[simp] theorem writeAll_canon (s : State) (w : Who) (ls : List LineW) (h : Canonical s.mem.dram) :
    Canonical (s.writeAll w ls).1.mem.dram := by
  induction ls generalizing s with
  | nil => exact h
  | cons l ls ih => exact ih _ (writeOne_canon s w l h)

@[simp] theorem storeLines_canon (s : State) (w : Who) (ls : List LineW) (h : Canonical s.mem.dram) :
    Canonical (s.storeLines w ls).1.mem.dram := by
  unfold State.storeLines
  split <;> simp [h]

@[simp] theorem holdLines_dram (s : State) (w : Who) (lim : Nat) (xs : List Place2) (got : Held) :
    (s.holdLines w lim xs got).1.mem.dram = s.mem.dram := by
  induction xs generalizing s got with
  | nil => rfl
  | cons x xs ih =>
    unfold State.holdLines
    split
    · exact ih _ _
    · split
      · exact (ih _ _).trans (by simp)
      · exact (ih _ _).trans (by simp)

@[simp] theorem takeFail_dram (s : State) (a : Agent) : (s.takeFail a).1.mem.dram = s.mem.dram := (rfl)

/-! ### Host ports -/

@[simp] theorem hostEvent_dram (s : State) (n dpa k status : Nat) :
    (s.hostEvent n dpa k status).mem.dram = s.mem.dram := (rfl)

@[simp] theorem hostDone_dram (s : State) (n dpa k : Nat) (read : Bool) (status : Nat) (d : Line) (poison : Bool)
    (grant : HostWant) : (s.hostDone n dpa k read status d poison grant).mem.dram = s.mem.dram := by
  simp [State.hostDone]

@[simp] theorem sendSnoop_dram (s : State) (n lin : Nat) (inv : Bool) :
    (s.sendSnoop n lin inv).mem.dram = s.mem.dram := (rfl)

@[simp] theorem track_dram (s : State) (n lin part : Nat) (excl : Bool) :
    (s.track n lin part excl).mem.dram = s.mem.dram := (rfl)

@[simp] theorem serveHostRead_dram (s : State) (n dpa : Nat) (want : HostWant) :
    (s.serveHostRead n dpa want).mem.dram = s.mem.dram := by
  unfold State.serveHostRead
  dsimp only
  repeat' split
  all_goals simp [lineRead_dram]

@[simp] theorem roDrop_dram (s : State) (n dpa : Nat) (w : WinV) : (s.roDrop n dpa w).mem.dram = s.mem.dram := by
  simp [State.roDrop]

@[simp] theorem serveHostWrite_canon (s : State) (n dpa : Nat) (data : Line) (mask : BitVec 64) (poison : Bool)
    (h : Canonical s.mem.dram) : Canonical (s.serveHostWrite n dpa data mask poison).mem.dram := by
  unfold State.serveHostWrite
  dsimp only
  repeat' split
  all_goals simp [h]

/-! ### Matrix tiles -/

@[simp] theorem setTile_dram (s : State) (c t : Nat) (v : Tile) : (s.setTile c t v).mem.dram = s.mem.dram := (rfl)

@[simp] theorem freeLine_dram (s : State) : s.freeLine.1.mem.dram = s.mem.dram := (rfl)

@[simp] theorem badStream_dram (s : State) (c t : Nat) (k : TileCmd) :
    (s.badStream c t k).mem.dram = s.mem.dram := (rfl)

@[simp] theorem askTile_dram (s : State) (c t : Nat) (e : TileEngine) (fuel : Nat) :
    (s.askTile c t e fuel).mem.dram = s.mem.dram := by
  induction fuel generalizing s with
  | zero => rfl
  | succ fuel ih =>
    unfold State.askTile
    dsimp only
    split
    · rfl
    · split
      · rfl
      · split
        · rfl
        · split
          · rw [ih]
            split <;> simp
          · rw [ih]
            rfl

@[simp] theorem tileLine_dram (s : State) (c t : Nat) (e : TileEngine) (k : Nat) :
    (s.tileLine c t e k).mem.dram = s.mem.dram := by
  unfold State.tileLine
  dsimp only
  repeat' split
  all_goals simp

@[simp] theorem tileSource_dram (s : State) (c t : Nat) : (s.tileSource c t).1.mem.dram = s.mem.dram := by
  unfold State.tileSource
  split <;> simp

@[simp] theorem pumpStore_canon (s : State) (c t fuel : Nat) (h : Canonical s.mem.dram) :
    Canonical (s.pumpStore c t fuel).mem.dram := by
  induction fuel generalizing s with
  | zero => exact h
  | succ fuel ih =>
    have hsrc : ∀ k : TileCmd, Canonical (if mqRnd k.desc = 1 then s.tileSource c t else (s, 0)).1.mem.dram := by
      intro k
      split
      · exact Canonical.congr h (tileSource_dram s c t)
      · exact h
    unfold State.pumpStore
    dsimp only
    split
    · exact h
    · rename_i k _
      split
      · exact h
      · split
        · exact h
        · split
          · exact ih _ (Canonical.ite (Canonical.congr (hsrc k) (badStream_dram _ _ _ _)) (hsrc k))
          · have hf := fun w ls => storeLines_canon _ w ls (hsrc k)
            split
            · exact hf _ _
            · exact ih _ (hf _ _)

@[simp] theorem tileWork_dram (s : State) (c t : Nat) (e : TileEngine) :
    (s.tileWork c t e).mem.dram = s.mem.dram := by
  unfold State.tileWork
  dsimp only
  repeat' split
  all_goals simp

@[simp] theorem freeStreams_dram (s : State) (c t : Nat) : (s.freeStreams c t).mem.dram = s.mem.dram := by
  simp [State.freeStreams]

@[simp] theorem dropEntry_dram (s : State) (c t : Nat) (x : QEntry) : (s.dropEntry c t x).mem.dram = s.mem.dram := by
  simp [State.dropEntry]

@[simp] theorem settleDrops_dram (s : State) (c t : Nat) (e : TileEngine) (xs : List QEntry) :
    (s.settleDrops c t e xs).mem.dram = s.mem.dram := by
  induction xs generalizing s with
  | nil => rfl
  | cons x xs ih =>
    unfold State.settleDrops
    repeat' split
    all_goals simp [ih]

@[simp] theorem settleTile_dram (s : State) (c t : Nat) : (s.settleTile c t).mem.dram = s.mem.dram := by
  simp [State.settleTile]

@[simp] theorem pumpTile_canon (s : State) (c t : Nat) (e : TileEngine) (h : Canonical s.mem.dram) :
    Canonical (s.pumpTile c t e).mem.dram := by
  simp [State.pumpTile, h]

@[simp] theorem fixLines_dram (s : State) (c t ticket pbuf : Nat) :
    (s.fixLines c t ticket pbuf).mem.dram = s.mem.dram := by
  simp [State.fixLines]

@[simp] theorem startTile_canon (s : State) (c t cmd : Nat) (h : Canonical s.mem.dram) :
    Canonical (s.startTile c t cmd).mem.dram := by
  unfold State.startTile
  dsimp only
  repeat' split
  all_goals simp [h]

@[simp] theorem stopTile_dram (s : State) (c t : Nat) (e : TileEngine) :
    (s.stopTile c t e).mem.dram = s.mem.dram := by
  unfold State.stopTile
  dsimp only
  repeat' split
  all_goals simp

@[simp] theorem completeTile_canon (s : State) (c t : Nat) (e : TileEngine) (h : Canonical s.mem.dram) :
    Canonical (s.completeTile c t e).mem.dram := by
  unfold State.completeTile
  dsimp only
  split <;> simp [h]

/-! ### Completion of requests and frames that arrive -/

@[simp] theorem modFq_dram (s : State) (c ticket : Nat) (f : FqOp → FqOp) :
    (s.modFq c ticket f).mem.dram = s.mem.dram := (rfl)

@[simp] theorem setMig_dram (s : State) (p : Nat) (m : Mig) : (s.setMig p m).mem.dram = s.mem.dram := (rfl)

@[simp] theorem endMig_dram (s : State) (p st : Nat) : (s.endMig p st).mem.dram = s.mem.dram := (rfl)

@[simp] theorem abandonMig_dram (s : State) (p reason : Nat) : (s.abandonMig p reason).mem.dram = s.mem.dram := by
  unfold State.abandonMig
  split
  · rfl
  · rw [log_dram, endMig_dram, setHomeRec_dram]

@[simp] theorem migCopy_dram (s : State) (p : Nat) (m : Mig) : (s.migCopy p m).mem.dram = s.mem.dram := by
  simp [State.migCopy]

@[simp] theorem pointLoaf_dram (s : State) (p loaf pos loff epoch : Nat) (wr : Bool) :
    (s.pointLoaf p loaf pos loff epoch wr).mem.dram = s.mem.dram := by
  simp [State.pointLoaf]

@[simp] theorem migForward_dram (s : State) (p : Nat) (m : Mig) : (s.migForward p m).mem.dram = s.mem.dram := by
  simp [State.migForward]

@[simp] theorem migPublished_dram (s : State) (p : Nat) : (s.migPublished p).mem.dram = s.mem.dram := by
  unfold State.migPublished
  split <;> simp

@[simp] theorem migReply_dram (s : State) (p step : Nat) (ok : Bool) :
    (s.migReply p step ok).mem.dram = s.mem.dram := by
  unfold State.migReply
  split
  · rfl
  · split
    · rfl
    · split
      · split <;> simp
      · split
        · simp
        · split
          · rfl
          · exact sendReq_dram ..
      · split <;> simp
      · simp

@[simp] theorem fillReply_canon (s : State) (p loaf off : Nat) (r : Reply) (h : Canonical s.mem.dram) :
    Canonical (s.fillReply p loaf off r).mem.dram := by
  unfold State.fillReply
  dsimp only
  repeat' split
  all_goals simp [h]

@[simp] theorem forwardReply_dram (s : State) (n : Nat) (f : Frame) (r : Reply) :
    (s.forwardReply n f r).mem.dram = s.mem.dram := by
  unfold State.forwardReply
  dsimp only
  repeat' split
  all_goals simp

@[simp] theorem wroteBytes_dram (s : State) (a : Agent) (n : Nat) : (s.wroteBytes a n).mem.dram = s.mem.dram := by
  unfold State.wroteBytes
  split <;> simp

@[simp] theorem finalReply_canon (s : State) (src : ReqSrc) (r : Reply) (h : Canonical s.mem.dram) :
    Canonical (s.finalReply src r).mem.dram := by
  unfold State.finalReply
  split <;> simp [h]

@[simp] theorem countOwn_dram (s : State) (src : ReqSrc) (f : Frame) : (s.countOwn src f).mem.dram = s.mem.dram := by
  unfold State.countOwn
  split <;> simp

@[simp] theorem wakeWaiter_canon (s : State) (x : Waiter) (h : Canonical s.mem.dram) :
    Canonical (s.wakeWaiter x).mem.dram := by
  unfold State.wakeWaiter
  split <;> simp [h]

@[simp] theorem endRounds_canon (s : State) (h : Canonical s.mem.dram) : Canonical s.endRounds.mem.dram := by
  unfold State.endRounds
  exact foldl_canon _ (fun s r hs => foldl_canon _ (fun s w hs => wakeWaiter_canon s w hs) _ s hs) _ _ h

@[simp] theorem fillRead_dram (s : State) (src : ReqSrc) (lin : Nat) (r : HomeRes) :
    (s.fillRead src lin r).mem.dram = s.mem.dram := by
  unfold State.fillRead
  split <;> simp

@[simp] theorem runOwn_canon (s : State) (src : ReqSrc) (hearth : Option Nat) (part pva : Nat) (f : Frame)
    (h : Canonical s.mem.dram) : Canonical (s.runOwn src hearth part pva f).mem.dram := by
  have hanswer : ∀ (s : State) (r : Reply), Canonical s.mem.dram →
      Canonical ((s.countOwn src f).finalReply src r).mem.dram :=
    fun s r hs => finalReply_canon _ _ _ (Canonical.congr hs (countOwn_dram s src f))
  unfold State.runOwn
  extract_lets op o answer
  split
  · exact Canonical.ite (hanswer _ _ h) (finalReply_canon _ _ _ h)
  · exact Canonical.congr h (hold_dram _ _)
  · refine Canonical.ite (Canonical.congr h (hold_dram _ _)) (Canonical.congr h (sendReq_dram ..))
  · rename_i lin hx
    refine Canonical.ite (Canonical.congr h (hold_dram _ _)) (Canonical.ite ?_ ?_)
    · exact Canonical.congr h ((hold_dram _ _).trans (snoopAll_dram _ _ _ _))
    · extract_lets r0 r ok v
      have hr : Canonical r.1.mem.dram :=
        Canonical.congr (homeRun_canon s o (some f.cls) lin op h) (fillRead_dram _ _ _ _)
      have hv : Canonical v.1.mem.dram := by
        unfold v
        split
        · exact Canonical.congr hr (invRound_dram _ _)
        · exact hr
      split
      · exact Canonical.congr hv (modRound_dram _ _ _)
      · exact hanswer _ _ hv

@[simp] theorem replyTo_canon (s : State) (o : Outst) (r : Reply) (h : Canonical s.mem.dram) :
    Canonical (s.replyTo o r).mem.dram := by
  unfold State.replyTo
  split
  · split
    · exact runOwn_canon _ _ _ _ _ _ h
    · exact finalReply_canon _ _ _ h
  · exact finalReply_canon _ _ _ h

@[simp] theorem settleN_canon (s : State) (fuel : Nat) (h : Canonical s.mem.dram) :
    Canonical (s.settleN fuel).mem.dram := by
  induction fuel generalizing s with
  | zero => exact h
  | succ fuel ih =>
    unfold State.settleN
    split
    · exact endRounds_canon s h
    · exact ih _ (foldl_canon _ (fun s d hs => finalReply_canon s _ _ hs) _ _ h)

@[simp] theorem settle_canon (s : State) (h : Canonical s.mem.dram) : Canonical s.settle.mem.dram := by
  simp [State.settle, h]

@[simp] theorem release_dram (s : State) (o : Outst) : (s.release o).mem.dram = s.mem.dram := (rfl)

@[simp] theorem completeReq_canon (s : State) (o : Outst) (r : Reply) (h : Canonical s.mem.dram) :
    Canonical (s.completeReq o r).mem.dram := by
  simp [State.completeReq, h]

@[simp] theorem notMember_dram (s : State) (n : Nat) (f : Frame) : (s.notMember n f).mem.dram = s.mem.dram := by
  simp [State.notMember]

@[simp] theorem sendSeqNack_dram (s : State) (n pos dstPort sgrp expect : Nat) :
    (s.sendSeqNack n pos dstPort sgrp expect).mem.dram = s.mem.dram := by
  simp [State.sendSeqNack]

@[simp] theorem sendKeepalive_dram (s : State) (die pos : Nat) : (s.sendKeepalive die pos).mem.dram = s.mem.dram := by
  unfold State.sendKeepalive
  split <;> simp

@[simp] theorem repathTo_dram (s : State) (pos : Nat) : (s.repathTo pos).mem.dram = s.mem.dram := by
  simp [State.repathTo]

@[simp] theorem forget_dram (s : State) (f : Frame) : (s.forget f).mem.dram = s.mem.dram := by
  unfold State.forget
  split <;> simp

@[simp] theorem domainDrop_dram (s : State) (f : Frame) : (s.domainDrop f).mem.dram = s.mem.dram := by
  simp [State.domainDrop]

@[simp] theorem takeInv_dram (s : State) (n : Nat) (f : Frame) : (s.takeInv n f).mem.dram = s.mem.dram := by
  simp [State.takeInv]

@[simp] theorem takeClaim_dram (s : State) (n : Nat) (f : Frame) : (s.takeClaim n f).mem.dram = s.mem.dram := by
  simp [State.takeClaim]

@[simp] theorem ownIncoming_dram (s : State) (f : Frame) : (s.ownIncoming f).mem.dram = s.mem.dram := by
  unfold State.ownIncoming
  extract_lets loff r s1
  exact (withPlace_dram s1 _).trans
    (setHomeRec_dram s loff { r with st := 1, epoch := _, replicable := _, live := _ })

@[simp] theorem takePublish_dram (s : State) (n : Nat) (f : Frame) : (s.takePublish n f).mem.dram = s.mem.dram := by
  simp [State.takePublish]

@[simp] theorem takeSignal_dram (s : State) (n : Nat) (f : Frame) : (s.takeSignal n f).mem.dram = s.mem.dram := by
  simp [State.takeSignal]

@[simp] theorem serveAny_canon (s : State) (n : Nat) (f : Frame) (h : Canonical s.mem.dram) :
    Canonical (s.serveAny n f).mem.dram := by
  unfold State.serveAny
  split <;> simp [h]

@[simp] theorem retryReq_canon (s : State) (x : HeldReq) (h : Canonical s.mem.dram) :
    Canonical (s.retryReq x).mem.dram := by
  unfold State.retryReq
  split <;> simp [h]

@[simp] theorem setHomeSt_dram (s : State) (loff st : Nat) : (s.setHomeSt loff st).mem.dram = s.mem.dram := by
  simp [State.setHomeSt]

@[simp] theorem retryOne_canon (s : State) (r : HeldReq) (h : Canonical s.mem.dram) :
    Canonical (s.retryOne r).mem.dram := by
  unfold State.retryOne
  split
  · exact retryReq_canon s r h
  · simp [h]

@[simp] theorem sendPfc_dram (s : State) (n g : Nat) (on : Bool) : (s.sendPfc n g on).mem.dram = s.mem.dram := by
  simp [State.sendPfc]

@[simp] theorem flowOne_dram (s : State) (n g : Nat) : (s.flowOne n g).mem.dram = s.mem.dram := by
  simp [State.flowOne]

@[simp] theorem flow_dram (s : State) : s.flow.mem.dram = s.mem.dram := by simp [State.flow]

@[simp] theorem retryHeld_canon (s : State) (h : Canonical s.mem.dram) : Canonical s.retryHeld.mem.dram := by
  rw [State.retryHeld, flow_dram]
  exact settle_canon _ (foldl_canon _ retryOne_canon _ _ h)

@[simp] theorem replayDone_canon (s : State) (n : Nat) (f : Frame) (e : Seen) (st : Nat) (old : Word)
    (h : Canonical s.mem.dram) : Canonical (s.replayDone n f e st old).mem.dram := by
  unfold State.replayDone
  split
  · exact serveAny_canon s n f h
  · split
    · simp [h]
    · split <;> simp [h]

@[simp] theorem present_canon (s : State) (n : Nat) (f : Frame) (h : Canonical s.mem.dram) :
    Canonical (s.present n f).mem.dram := by
  unfold State.present
  dsimp only
  split
  · simp [h]
  · split
    · split
      · simp [h]
      · exact serveAny_canon _ n f h
    · split
      · split
        · exact h
        · split
          · split
            · exact replayDone_canon _ _ _ _ _ _ h
            · simp [h]
          · exact serveAny_canon _ n f (by simp [h])
      · exact serveAny_canon _ n f h

@[simp] theorem setRx_dram (s : State) (k : Nat) (v : RxStream) : (s.setRx k v).mem.dram = s.mem.dram := (rfl)

@[simp] theorem drainRx_canon (s : State) (k fuel : Nat) (h : Canonical s.mem.dram) :
    Canonical (s.drainRx k fuel).mem.dram := by
  induction fuel generalizing s with
  | zero => exact h
  | succ fuel ih =>
    unfold State.drainRx
    dsimp only
    split
    · exact h
    · exact ih _ (present_canon _ _ _ h)

@[simp] theorem takeRequest_canon (s : State) (n : Nat) (f : Frame) (h : Canonical s.mem.dram) :
    Canonical (s.takeRequest n f).mem.dram := by
  unfold State.takeRequest
  dsimp only
  repeat' split
  all_goals simp [h]

@[simp] theorem takeResponse_canon (s : State) (f : Frame) (h : Canonical s.mem.dram) :
    Canonical (s.takeResponse f).mem.dram := by
  unfold State.takeResponse
  split
  · exact h
  · split
    · exact h
    · split
      · exact completeReq_canon _ _ _ h
      · exact completeReq_canon _ _ _ h
      · split
        · exact h
        · exact completeReq_canon _ _ _ h

@[simp] theorem takeSeqNack_dram (s : State) (f : Frame) : (s.takeSeqNack f).mem.dram = s.mem.dram := by
  simp [State.takeSeqNack]

@[simp] theorem takeKeepalive_dram (s : State) (n : Nat) (f : Frame) :
    (s.takeKeepalive n f).mem.dram = s.mem.dram := by
  simp [State.takeKeepalive]

@[simp] theorem receive_canon (s : State) (n : Nat) (f : Frame) (h : Canonical s.mem.dram) :
    Canonical (s.receive n f).mem.dram := by
  have hr : Canonical s.retryHeld.mem.dram := retryHeld_canon s h
  unfold State.receive
  dsimp only
  split
  · exact hr
  · exact hr
  · simpa using hr
  · simpa using hr
  · split
    · exact hr
    · split
      · exact hr
      · rw [flow_dram]
        exact settle_canon _ (takeRequest_canon _ _ _ hr)
  · exact retryHeld_canon _ (takeResponse_canon _ _ hr)
  · simpa using hr
  · simpa using hr
  · exact hr

/-! ### Ports, timers and links -/

@[simp] theorem fabLog_dram (s : State) (event port state : Nat) :
    (s.fabLog event port state).mem.dram = s.mem.dram := (rfl)

@[simp] theorem keepaliveAll_dram (s : State) : s.keepaliveAll.mem.dram = s.mem.dram := by simp [State.keepaliveAll]

@[simp] theorem repathPort_dram (s : State) (n : Nat) : (s.repathPort n).mem.dram = s.mem.dram := by
  simp [State.repathPort]

@[simp] theorem portLost_canon (s : State) (n : Nat) (h : Canonical s.mem.dram) :
    Canonical (s.portLost n).mem.dram := by
  simp [State.portLost, h]

@[simp] theorem pfcOne_dram (s : State) (n : Nat) (quanta : List (BitVec 16)) (i : Nat) :
    (s.pfcOne n quanta i).mem.dram = s.mem.dram := (rfl)

@[simp] theorem retransmit_dram (s : State) (id : Nat) : (s.retransmit id).mem.dram = s.mem.dram := by
  unfold State.retransmit
  split <;> simp

@[simp] theorem gapNack_dram (s : State) (pos die sgrp : Nat) : (s.gapNack pos die sgrp).mem.dram = s.mem.dram := by
  unfold State.gapNack
  split <;> simp

@[simp] theorem modSpace_dram (s : State) (key : Nat) (f : TagSpace → TagSpace) :
    (s.modSpace key f).mem.dram = s.mem.dram := by
  unfold State.modSpace
  split <;> simp

@[simp] theorem freeSpace_dram (s : State) (die pos : Nat) : (s.freeSpace die pos).mem.dram = s.mem.dram := (rfl)

@[simp] theorem loseHeld_canon (s : State) (x : HeldReq) (h : Canonical s.mem.dram) :
    Canonical (s.loseHeld x).mem.dram := by
  unfold State.loseHeld
  split <;> simp [h]

@[simp] theorem loseReq_dram (s : State) (r : PortReq) : (s.loseReq r).mem.dram = s.mem.dram := (rfl)

@[simp] theorem linkLost_canon (s : State) (l : Nat) (h : Canonical s.mem.dram) :
    Canonical (s.linkLost l).mem.dram := by
  unfold State.linkLost
  refine retryHeld_canon _ (settle_canon _ ?_)
  refine foldl_canon _ (fun s o hs => ?_) _ _ (foldl_canon _ loseHeld_canon _ _ ?_)
  · split
    · exact completeReq_canon _ _ _ hs
    · exact hs
  · rw [foldl_dram _ loseReq_dram, foldl_dram _ (fun s w => deadReq_dram s _ _)]
    exact h

/-! ### FQ operations, membership and placement -/

@[simp] theorem fqOut_dram (s : State) (c ticket i : Nat) : (s.fqOut c ticket i).mem.dram = s.mem.dram := (rfl)

@[simp] theorem fqSigHere_dram (s : State) (c ticket : Nat) (d : List Word) :
    (s.fqSigHere c ticket d).mem.dram = s.mem.dram := by
  simp [State.fqSigHere]

@[simp] theorem issueData_canon (s : State) (c ticket : Nat) (d : List Word) (i : Nat) (src : ReqSrc) (p : Nat)
    (h : Canonical s.mem.dram) : Canonical (s.issueData c ticket d i src p).mem.dram := by
  unfold State.issueData
  dsimp only
  repeat' split
  all_goals simp [h]

@[simp] theorem issuePart_canon (s : State) (c ticket : Nat) (d : List Word) (i : Nat) (h : Canonical s.mem.dram) :
    Canonical (s.issuePart c ticket d i).mem.dram := by
  unfold State.issuePart
  dsimp only
  repeat' split
  all_goals simp [h]

@[simp] theorem issueFq_canon (s : State) (c ticket : Nat) (h : Canonical s.mem.dram) :
    Canonical (s.issueFq c ticket).mem.dram := by
  unfold State.issueFq
  split
  · exact h
  · exact settle_canon _ (foldl_canon _ (fun s i hs => issuePart_canon s _ _ _ _ hs) _ _ h)

@[simp] theorem startFq_canon (s : State) (c : Nat) (e : QEntry) (h : Canonical s.mem.dram) :
    Canonical (s.startFq c e).mem.dram := by
  unfold State.startFq
  split <;> simp [h]

@[simp] theorem fqRun_canon (s : State) (c : Nat) (e : QEntry) (h : Canonical s.mem.dram) :
    Canonical (s.fqRun c e).mem.dram := by
  unfold State.fqRun
  split
  · exact startFq_canon s c e h
  · split
    · exact issueFq_canon s c _ h
    · exact h

@[simp] theorem endFq_dram (s : State) (c ticket status detail : Nat) :
    (s.endFq c ticket status detail).mem.dram = s.mem.dram := (rfl)

@[simp] theorem closeFq_dram (s : State) (c ticket : Nat) (aborting : Option Nat) :
    (s.closeFq c ticket aborting).mem.dram = s.mem.dram := by
  unfold State.closeFq
  split <;> simp

@[simp] theorem finishFq_canon (s : State) (c : Nat) (o : FqOp) (aborting : Option Nat) (h : Canonical s.mem.dram) :
    Canonical (s.finishFq c o aborting).mem.dram := by
  unfold State.finishFq
  dsimp only
  repeat' split
  all_goals simp [h]

@[simp] theorem sendMsg_dram (s : State) (op port : Nat) (b : Bytes) :
    (s.sendMsg op port b).mem.dram = s.mem.dram := by
  simp [State.sendMsg]

@[simp] theorem setJoin_dram (s : State) (st : Nat) : (s.setJoin st).mem.dram = s.mem.dram := by simp [State.setJoin]

@[simp] theorem announce_dram (s : State) : s.announce.mem.dram = s.mem.dram := by simp [State.announce]

@[simp] theorem gather_dram (s : State) (f : Frame) : (s.gather f).1.mem.dram = s.mem.dram := by simp [State.gather]

@[simp] theorem challenge_dram (s : State) (b : Bytes) : (s.challenge b).mem.dram = s.mem.dram := by
  simp [State.challenge]

@[simp] theorem recordChanged_canon (s : State) (pos : Nat) (h : Canonical s.mem.dram) :
    Canonical (s.recordChanged pos).mem.dram := by
  unfold State.recordChanged
  refine settle_canon _ ?_
  rw [foldl_dram _ (fun s w => deadReq_dram s _ _)]
  refine foldl_canon _ (fun s o hs => replyTo_canon s o _ hs) _ _ ?_
  exact Canonical.congr h (foldl_dram _ release_dram _ _)

@[simp] theorem applyUpdate_canon (s : State) (u : Update) (h : Canonical s.mem.dram) :
    Canonical (s.applyUpdate u).mem.dram := by
  unfold State.applyUpdate
  extract_lets old new keys fab s1 s2
  have hs2 : Canonical s2.mem.dram := Canonical.congr (foldl_canon _ recordChanged_canon keys s1 h) (pump_dram _)
  split
  · exact hs2
  · exact Canonical.ite (Canonical.ite hs2 hs2) (Canonical.ite (Canonical.congr hs2 (setJoin_dram s2 4)) hs2)

@[simp] theorem memberUpdate_canon (s : State) (b : Bytes) (h : Canonical s.mem.dram) :
    Canonical (s.memberUpdate b).mem.dram := by
  unfold State.memberUpdate
  dsimp only
  repeat' split
  all_goals simp [h]

@[simp] theorem sendLeave_dram (s : State) : s.sendLeave.mem.dram = s.mem.dram := by
  unfold State.sendLeave
  split <;> simp

@[simp] theorem putRecord_dram (s : State) (p : Nat) (pva e : Word) :
    (s.putRecord p pva e).mem.dram = s.mem.dram := (rfl)

@[simp] theorem freeEmpty_dram (s : State) : s.freeEmpty.mem.dram = s.mem.dram := (rfl)

@[simp] theorem ownLoaf_dram (s : State) (e : Word) : (s.ownLoaf e).mem.dram = s.mem.dram := by simp [State.ownLoaf]

@[simp] theorem startFill_canon (s : State) (p : Nat) (pva e : Word) (h : Canonical s.mem.dram) :
    Canonical (s.startFill p pva e).mem.dram := by
  unfold State.startFill
  dsimp only
  split
  · exact h
  · exact foldl_canon _ (fun s i hs => runOwn_canon s _ _ _ _ _ hs) _ _ h

@[simp] theorem applyRecords_canon (s : State) (p : Nat) (rs : List (Word × Word)) (h : Canonical s.mem.dram) :
    Canonical (s.applyRecords p rs).mem.dram := by
  unfold State.applyRecords
  refine settle_canon _ (foldl_canon _ (fun s r hs => ?_) _ _ ?_)
  · split
    · exact startFill_canon _ _ _ _ hs
    · exact hs
  · rw [bump_dram]
    rw [withPlace_dram, foldl_dram _ (fun s l => vacate_dram s l false),
      foldl_dram _ (fun s r => ownLoaf_dram s _), freeEmpty_dram,
      foldl_dram _ (fun s r => putRecord_dram s _ _ _)]
    exact h

@[simp] theorem placeCommit_canon (s : State) (p : Nat) (h : Canonical s.mem.dram) :
    Canonical (s.placeCommit p).mem.dram := by
  unfold State.placeCommit
  dsimp only
  split <;> simp [h]

@[simp] theorem migStart_dram (s : State) (p : Nat) (pva : Word) : (s.migStart p pva).mem.dram = s.mem.dram := by
  unfold State.migStart
  dsimp only
  rw [foldl_dram _ (fun s x => by simp), setCtr_dram, setMig_dram, setHomeRec_dram]

/-! ### Vector and layout engines -/

@[simp] theorem vecSource_dram (s : State) (c : Nat) : (s.vecSource c).1.mem.dram = s.mem.dram := by
  unfold State.vecSource
  split <;> simp

@[simp] theorem readBlock_dram (s : State) (c : Nat) (e : QEntry) : (s.readBlock c e).1.mem.dram = s.mem.dram := by
  unfold State.readBlock
  split
  · split <;> rfl
  · rfl

@[simp] theorem endWait_dram (s : State) (c : Nat) : (s.endWait c).mem.dram = s.mem.dram := (rfl)

@[simp] theorem refuseChain_dram (s : State) (c : Nat) (e : QEntry) :
    (s.refuseChain c e).mem.dram = s.mem.dram := (rfl)

@[simp] theorem startChain_canon (s : State) (c : Nat) (e : QEntry) (h : Canonical s.mem.dram) :
    Canonical (s.startChain c e).mem.dram := by
  unfold State.startChain
  dsimp only
  repeat' split
  all_goals simp [h]

@[simp] theorem readOwners_dram (s : State) (w : Who) (vs : List LView) (got : Held) :
    (s.readOwners w vs got).1.mem.dram = s.mem.dram := by
  simp [State.readOwners]

@[simp] theorem setLayStart_dram (s : State) (c : Nat) (b : Option LayStart) :
    (s.setLayStart c b).mem.dram = s.mem.dram := (rfl)

@[simp] theorem refuseLayout_dram (s : State) (c : Nat) (e : QEntry) :
    (s.refuseLayout c e).mem.dram = s.mem.dram := (rfl)

@[simp] theorem startLayout_dram (s : State) (c : Nat) (e : QEntry) : (s.startLayout c e).mem.dram = s.mem.dram := by
  unfold State.startLayout
  dsimp only
  repeat' split
  all_goals simp

@[simp] theorem noteBlock_dram (s : State) (c : Nat) (scaled : Bool) (t : OwnTab) (b st : Nat) (l : Line) :
    (s.noteBlock c scaled t b st l).mem.dram = s.mem.dram := by
  simp [State.noteBlock]

@[simp] theorem noteMoved_dram (s : State) (c p : Nat) (src : Bool) (x : List Int) (loc : GranLoc) :
    (s.noteMoved c p src x loc).mem.dram = s.mem.dram := by
  unfold State.noteMoved
  dsimp only
  repeat' split
  all_goals simp

@[simp] theorem moveGran_canon (s : State) (c k : Nat) (h : Canonical s.mem.dram) :
    Canonical (s.moveGran c k).mem.dram := by
  unfold State.moveGran
  dsimp only
  split
  · exact h
  · split
    · exact h
    · split
      · exact h
      · split
        · have hg := fun w ps => Canonical.congr h (fetchLines_dram s w ps)
          split
          · exact Canonical.congr (hg _ _) (noteBlock_dram _ _ _ _ _ _ _)
          · exact hg _ _
        · refine Canonical.ite h ?_
          generalize hf : List.foldl _ _ _ = f
          have hf : Canonical f.mem.dram := by
            rw [← hf]
            exact Canonical.congr h ((foldl_dram _ (fun s x => noteMoved_dram s _ _ _ _ _) _ _).trans
              (holdLines_dram s _ _ _ _))
          refine Canonical.ite hf ?_
          split
          · exact hf
          · have hm := fun w dx dl => Canonical.congr hf (noteMoved_dram f c w false dx dl)
            refine Canonical.ite (hm _ _ _) ?_
            have hg := fun w ws dx dl => storeLines_canon _ w ws (hm w.p dx dl)
            split
            · exact hg _ _ _ _
            · exact Canonical.ite (hg _ _ _ _) (hg _ _ _ _)

/-! ### The Sprig commands and jobs -/

@[simp] theorem useExt_dram (s : State) (stk ch : Nat) (w : BitVec 48) (t : Nat) :
    (s.useExt stk ch w t).mem.dram = s.mem.dram := (rfl)

@[simp] theorem setJob_dram (s : State) (id : Nat) (j : Job) : (s.setJob id j).mem.dram = s.mem.dram := (rfl)

@[simp] theorem countStatus_dram (s : State) (k : Bank) (mbn : Nat) :
    (s.countStatus k mbn).mem.dram = s.mem.dram := by
  simp [State.countStatus]

@[simp] theorem jobLoaded_dram (s : State) (mbn : Nat) : (s.jobLoaded mbn).mem.dram = s.mem.dram := by
  unfold State.jobLoaded
  dsimp only
  repeat' split
  all_goals simp

@[simp] theorem jobNote_dram (s : State) (w : BitVec 48) (kb : Bank) (mbn t : Nat) :
    (s.jobNote w kb mbn t).mem.dram = s.mem.dram := by
  unfold State.jobNote
  split <;> simp

@[simp] theorem loadTag_dram (s : State) (w : BitVec 48) (mbn : Nat) : (s.loadTag w mbn).mem.dram = s.mem.dram := by
  simp [State.loadTag]

@[simp] theorem extOne_canon (s : State) (w : BitVec 48) (burst : Column) (t mbn : Nat) (h : Canonical s.mem.dram) :
    Canonical (s.extOne w burst t mbn).mem.dram := by
  simp [State.extOne, h]

@[simp] theorem extDone_canon (s : State) (stk ch : Nat) (w : BitVec 48) (burst : Column) (t : Nat)
    (h : Canonical s.mem.dram) : Canonical (s.extDone stk ch w burst t).mem.dram :=
  foldl_canon _ (fun s b hs => extOne_canon s w burst t b hs) _ _ h

@[simp] theorem acceptJob_dram (s : State) (j : Job) : (s.acceptJob j).mem.dram = s.mem.dram := by
  simp [State.acceptJob]

@[simp] theorem checkJob_dram (s : State) (c : Nat) (e : QEntry) (img : Option Image) (oper : Tab PReg) (t : Nat) :
    (s.checkJob c e img oper t).mem.dram = s.mem.dram := by
  unfold State.checkJob
  dsimp only
  repeat' split
  all_goals simp

@[simp] theorem startJob_dram (s : State) (c : Nat) (e : QEntry) (t : Nat) :
    (s.startJob c e t).mem.dram = s.mem.dram := by
  unfold State.startJob
  dsimp only
  repeat' split
  all_goals simp

@[simp] theorem beginBank_canon (s : State) (id : Nat) (j : Job) (mbn t : Nat) (h : Canonical s.mem.dram) :
    Canonical (s.beginBank id j mbn t).mem.dram := by
  simp [State.beginBank, h]

@[simp] theorem takeReport_dram (s : State) (id : Nat) (j : Job) (mbn t : Nat) :
    (s.takeReport id j mbn t).mem.dram = s.mem.dram := (rfl)

@[simp] theorem jobDrains_canon (s : State) (id : Nat) (j : Job) (h : Canonical s.mem.dram) :
    Canonical (s.jobDrains id j).mem.dram := by
  unfold State.jobDrains
  dsimp only
  repeat' split
  all_goals simp [h]

@[simp] theorem jobWritten_dram (s : State) (id : Nat) (j : Job) : (s.jobWritten id j).mem.dram = s.mem.dram := by
  simp [State.jobWritten]

@[simp] theorem jobRecord_canon (s : State) (id : Nat) (j : Job) (h : Canonical s.mem.dram) :
    Canonical (s.jobRecord id j).mem.dram := by
  unfold State.jobRecord
  dsimp only
  repeat' split
  all_goals simp [h]

@[simp] theorem jobCount_dram (s : State) (j : Job) : (s.jobCount j).mem.dram = s.mem.dram := by simp [State.jobCount]

@[simp] theorem jobFinish_dram (s : State) (id : Nat) (j : Job) : (s.jobFinish id j).mem.dram = s.mem.dram := by
  simp [State.jobFinish]

theorem withJob_dram (s : State) (id : Nat) {f : State → Job → State} (hf : ∀ s j, (f s j).mem.dram = s.mem.dram) :
    (s.withJob id f).mem.dram = s.mem.dram := by
  unfold State.withJob
  split
  · rfl
  · exact hf _ _

/-! ### Stops, the sequencer core, queues, rings and dumps -/

@[simp] theorem markStop_dram (s : State) (c q ticket status : Nat) :
    (s.markStop c q ticket status).mem.dram = s.mem.dram := (rfl)

@[simp] theorem stopMq_canon (s : State) (c t : Nat) (x : QEntry) (status : Nat) (h : Canonical s.mem.dram) :
    Canonical (s.stopMq c t x status).mem.dram := by
  unfold State.stopMq
  dsimp only
  repeat' split
  all_goals simp [h]

@[simp] theorem stopVq_dram (s : State) (c : Nat) (x : QEntry) (status : Nat) :
    (s.stopVq c x status).mem.dram = s.mem.dram := by
  unfold State.stopVq
  split <;> simp

@[simp] theorem stopLq_dram (s : State) (c : Nat) (x : QEntry) (status : Nat) :
    (s.stopLq c x status).mem.dram = s.mem.dram := by
  unfold State.stopLq
  split <;> simp

@[simp] theorem stopKq_dram (s : State) (c : Nat) (x : QEntry) (status : Nat) :
    (s.stopKq c x status).mem.dram = s.mem.dram := by
  unfold State.stopKq
  dsimp only
  split <;> simp

@[simp] theorem stopFq_dram (s : State) (c : Nat) (x : QEntry) (status : Nat) :
    (s.stopFq c x status).mem.dram = s.mem.dram := by
  unfold State.stopFq
  split <;> simp

@[simp] theorem afterStop_dram (s : State) (c q : Nat) : (s.afterStop c q).mem.dram = s.mem.dram := by
  simp [State.afterStop]

@[simp] theorem stopEntry_canon (s : State) (c q : Nat) (x : QEntry) (status : Nat) (h : Canonical s.mem.dram) :
    Canonical (s.stopEntry c q x status).mem.dram := by
  unfold State.stopEntry
  rw [afterStop_dram]
  refine Canonical.ite (by simp [h]) ?_
  split
  · simp [h]
  · simp [h]
  · simp [h]
  · simp [h]
  · exact stopMq_canon s c q x status h

@[simp] theorem stopDispatched_canon (s : State) (c status : Nat) (h : Canonical s.mem.dram) :
    Canonical (s.stopDispatched c status).mem.dram := by
  unfold State.stopDispatched
  refine foldl_canon _ (fun s q hs => foldl_canon _ (fun s x hs => ?_) _ s hs) _ s h
  exact Canonical.ite (stopEntry_canon _ _ _ _ _ hs) (by simp [hs])

@[simp] theorem closeQueues_dram (s : State) (c : Nat) : (s.closeQueues c).mem.dram = s.mem.dram := by
  simp [State.closeQueues]

@[simp] theorem abortOne_canon (s : State) (c q ticket : Nat) (h : Canonical s.mem.dram) :
    Canonical (s.abortOne c q ticket).1.mem.dram := by
  unfold State.abortOne
  dsimp only
  repeat' split
  all_goals simp [h]

@[simp] theorem abortAll_canon (s : State) (c q : Nat) (h : Canonical s.mem.dram) :
    Canonical (s.abortAll c q).1.mem.dram :=
  foldl_fst_canon _ (fun r x hr => abortOne_canon r.1 c q x.ticket hr) _ (s, 0) h

@[simp] theorem seqFault_dram (s : State) (c code w : Nat) : (s.seqFault c code w).mem.dram = s.mem.dram := by
  simp [State.seqFault]

theorem seqNext_dram (s : State) (c w : Nat) {f : State → State} (hf : ∀ s, (f s).mem.dram = s.mem.dram) :
    (s.seqNext c w f).mem.dram = s.mem.dram := by
  unfold State.seqNext
  split
  · simp
  · simp [hf]

@[simp] theorem seqJump_dram (s : State) (c w : Nat) (target : Int) (f : Core → Core) :
    (s.seqJump c w target f).mem.dram = s.mem.dram := by
  simp [State.seqJump]

@[simp] theorem putReg_dram (s : State) (c n : Nat) (v : Word) : (s.putReg c n v).mem.dram = s.mem.dram := (rfl)

@[simp] theorem coreTurn_dram (s : State) (c : Nat) (join : Bool) : (s.coreTurn c join).mem.dram = s.mem.dram := by
  simp [State.coreTurn]

@[simp] theorem seqAlu_dram (s : State) (c w : Nat) (v : Word) : (s.seqAlu c w v).mem.dram = s.mem.dram :=
  seqNext_dram s c w fun s => putReg_dram s c _ v

@[simp] theorem seqWrite_dram (s : State) (c a n v : Nat) : (s.seqWrite c a n v).mem.dram = s.mem.dram := by
  unfold State.seqWrite
  split <;> simp

@[simp] theorem seqLoad_dram (s : State) (c w n : Nat) : (s.seqLoad c w n).mem.dram = s.mem.dram := by
  simp [State.seqLoad]

@[simp] theorem seqStore_dram (s : State) (c w n : Nat) : (s.seqStore c w n).mem.dram = s.mem.dram := by
  unfold State.seqStore
  dsimp only
  split
  · simp
  · exact seqNext_dram s c w fun s => seqWrite_dram s c _ n _

@[simp] theorem seqBranch_dram (s : State) (c w : Nat) (taken : Word → Word → Bool) :
    (s.seqBranch c w taken).mem.dram = s.mem.dram := by
  unfold State.seqBranch
  split
  · simp
  · exact seqNext_dram s c w fun s => rfl

@[simp] theorem seqWait_dram (s : State) (c : Nat) (v : CoreWait) : (s.seqWait c v).mem.dram = s.mem.dram := (rfl)

@[simp] theorem pushStream_canon (s : State) (c t str : Nat) (v : Word) (h : Canonical s.mem.dram) :
    Canonical (s.pushStream c t str v).mem.dram := by
  simp [State.pushStream, h]

@[simp] theorem flushStream_dram (s : State) (c t str : Nat) : (s.flushStream c t str).mem.dram = s.mem.dram := by
  simp [State.flushStream]

@[simp] theorem seqFlag_dram (s : State) (c w : Nat) (set_ more : Bool) (rd : Option W32) :
    (s.seqFlag c w set_ more rd).mem.dram = s.mem.dram := by
  unfold State.seqFlag
  split
  · simp
  · rw [cycleEnd_dram]
    refine seqNext_dram s c w fun s => ?_
    dsimp only
    split <;> simp

@[simp] theorem modRing_dram (s : State) (p r : Nat) (f : Ring → Ring) :
    (s.modRing p r f).mem.dram = s.mem.dram := (rfl)

@[simp] theorem ringLog_dram (s : State) (event p r code index w1 : Nat) :
    (s.ringLog event p r code index w1).mem.dram = s.mem.dram := (rfl)

@[simp] theorem recDone_dram (s : State) (p r : Nat) (w : Word) (st : Nat) :
    (s.recDone p r w st).mem.dram = s.mem.dram := by
  simp [State.recDone]

@[simp] theorem ringRecords_canon (s : State) (p r fuel : Nat) (h : Canonical s.mem.dram) :
    Canonical (s.ringRecords p r fuel).mem.dram := by
  induction fuel generalizing s with
  | zero => exact h
  | succ fuel ih =>
    unfold State.ringRecords
    dsimp only
    split
    · exact h
    · split
      · split
        · exact ih _ (by simp [h])
        · exact h
      · have hstored := fun ls => storeLines_canon s (s.ringWho p r) ls h
        split
        · exact hstored _
        · split
          · exact ih _ (by simp [hstored])
          · exact ih _ (hstored _)

@[simp] theorem addRecord_canon (s : State) (p r cpl : Nat) (w : Word) (h : Canonical s.mem.dram) :
    Canonical (s.addRecord p r cpl w).mem.dram := by
  unfold State.addRecord
  split <;> simp [h]

@[simp] theorem deliverHead_canon (s : State) (c q : Nat) (h : Canonical s.mem.dram) :
    Canonical (s.deliverHead c q).mem.dram := by
  unfold State.deliverHead
  dsimp only
  repeat' split
  all_goals simp [h]

@[simp] theorem doorbell_dram (s : State) (p r v : Nat) : (s.doorbell p r v).mem.dram = s.mem.dram := by
  simp [State.doorbell]

@[simp] theorem restartRing_dram (s : State) (p r : Nat) : (s.restartRing p r).mem.dram = s.mem.dram := (rfl)

@[simp] theorem ringStop_dram (s : State) (p r code : Nat) : (s.ringStop p r code).mem.dram = s.mem.dram := (rfl)

@[simp] theorem ringTaken_canon (s : State) (p r : Nat) (ws : List Word) (st detail : Nat) (h : Canonical s.mem.dram) :
    Canonical (s.ringTaken p r ws st detail).mem.dram := by
  simp [State.ringTaken, h]

@[simp] theorem pushBefore_dram (s : State) (p r : Nat) (ws : List Word) :
    (s.pushBefore p r ws).mem.dram = s.mem.dram := by
  unfold State.pushBefore
  dsimp only
  split <;> simp

@[simp] theorem takePush_dram (s : State) (p r : Nat) (same : Bool) (ws : List Word) :
    (s.takePush p r same ws).mem.dram = s.mem.dram := by
  simp [State.takePush]

@[simp] theorem takeStart_canon (s : State) (p r : Nat) (ws : List Word) (h : Canonical s.mem.dram) :
    Canonical (s.takeStart p r ws).mem.dram := by
  unfold State.takeStart
  dsimp only
  split <;> simp [h]

@[simp] theorem takeLoad_canon (s : State) (p r : Nat) (ws : List Word) (h : Canonical s.mem.dram) :
    Canonical (s.takeLoad p r ws).mem.dram := by
  unfold State.takeLoad
  dsimp only
  repeat' split
  all_goals simp [h]

@[simp] theorem takeAbort_canon (s : State) (p r : Nat) (ws : List Word) (h : Canonical s.mem.dram) :
    Canonical (s.takeAbort p r ws).mem.dram := by
  unfold State.takeAbort
  dsimp only
  split <;> simp [h]

@[simp] theorem flagSet_dram (s : State) (c n : Nat) (v : W32) : (s.flagSet c n v).mem.dram = s.mem.dram := by
  simp [State.flagSet]

@[simp] theorem flagAdd'_dram (s : State) (c : Nat) (v : Word) : (s.flagAdd' c v).mem.dram = s.mem.dram := by
  simp [State.flagAdd']

@[simp] theorem takeDump_dram (s : State) (p reason cl q : Nat) :
    (s.takeDump p reason cl q).mem.dram = s.mem.dram := (rfl)

@[simp] theorem stallEvent_dram (s : State) (c q form f v flagval ticket : Nat) :
    (s.stallEvent c q form f v flagval ticket).mem.dram = s.mem.dram := by
  unfold State.stallEvent
  dsimp only
  repeat' split
  all_goals simp

@[simp] theorem testHead_dram (s : State) (c q : Nat) : (s.testHead c q).mem.dram = s.mem.dram := by
  unfold State.testHead
  repeat' split
  all_goals simp

@[simp] theorem testCore_dram (s : State) (c : Nat) : (s.testCore c).mem.dram = s.mem.dram := by
  unfold State.testCore
  dsimp only
  repeat' split
  all_goals simp

/-! ### Rails, sensors and power -/

@[simp] theorem clearMain_dram (s : State) (m : Mem) : (s.clearMain m).mem.dram = m.dram := rfl

@[simp] theorem railsOff_dram (s : State) : s.railsOff.mem.dram = [] := rfl

@[simp] theorem powLog_dram (s : State) (event domain inst sensor : Nat) (temp : Int) (limit : Option Nat) (w2 : Nat) :
    (s.powLog event domain inst sensor temp limit w2).mem.dram = s.mem.dram := (rfl)

@[simp] theorem crossLog_dram (s : State) (event w2 : Nat) : (s.crossLog event w2).mem.dram = s.mem.dram := (rfl)

@[simp] theorem thermalCut_canon (s : State) (reason : Nat) : Canonical (s.thermalCut reason).mem.dram := by
  simp [State.thermalCut]

@[simp] theorem setSensor_dram (s : State) (n : Nat) (x : Sensor) : (s.setSensor n x).mem.dram = s.mem.dram := (rfl)

@[simp] theorem setGroup_dram (s : State) (g : Nat) (x : Group) : (s.setGroup g x).mem.dram = s.mem.dram := (rfl)

@[simp] theorem takeReading_dram (s : State) (n : Nat) (r : SensorRaw) :
    (s.takeReading n r).mem.dram = s.mem.dram := by
  simp [State.takeReading]

@[simp] theorem findStuck_dram (s : State) (g n : Nat) : (s.findStuck g n).mem.dram = s.mem.dram := by
  simp [State.findStuck]

@[simp] theorem logFaults_dram (s s0 : State) (g : Nat) : (s.logFaults s0 g).mem.dram = s.mem.dram := by
  unfold State.logFaults
  dsimp only
  split <;> simp

@[simp] theorem notePeak_dram (s : State) (n : Nat) : (s.notePeak n).mem.dram = s.mem.dram := (rfl)

@[simp] theorem changeBand_dram (s : State) (stk new : Nat) : (s.changeBand stk new).mem.dram = s.mem.dram := by
  simp [State.changeBand]

@[simp] theorem judgeBand_dram (s : State) (g : Nat) (hot : Int) : (s.judgeBand g hot).mem.dram = s.mem.dram := by
  simp [State.judgeBand]

@[simp] theorem judgeThrottle_dram (s : State) (g : Nat) (hot : Int) (sensor : Nat) (crossing : Bool) :
    (s.judgeThrottle g hot sensor crossing).mem.dram = s.mem.dram := by
  simp [State.judgeThrottle]

@[simp] theorem judgeCadence_dram (s : State) (g : Nat) (hot : Int) :
    (s.judgeCadence g hot).mem.dram = s.mem.dram := (rfl)

@[simp] theorem useLife_dram (s : State) (g : Nat) (hot : Int) : (s.useLife g hot).mem.dram = s.mem.dram := (rfl)

@[simp] theorem beginStop_canon (s : State) (cross : Word) (tp : Option Nat) (h : Canonical s.mem.dram) :
    Canonical (s.beginStop cross tp).mem.dram := by
  refine foldl_canon _ (fun s c hs => stopDispatched_canon s c 9 hs) _ _ ?_
  rw [foldl_dram _ (fun s c => closeQueues_dram s c), foldl_dram _ (fun s k => ?_)]
  · exact h
  · split <;> rfl

@[simp] theorem crossing_canon (s : State) (g sensor : Nat) (hot : Int) (tp : Option Nat) (mayCut : Bool)
    (h : Canonical s.mem.dram) : Canonical (s.crossing g sensor hot tp mayCut).mem.dram := by
  unfold State.crossing
  dsimp only
  repeat' split
  all_goals simp [h]

@[simp] theorem judgeCritical_canon (s : State) (g : Nat) (tp : Option Nat) (h : Canonical s.mem.dram) :
    Canonical (s.judgeCritical g tp).mem.dram := by
  unfold State.judgeCritical
  dsimp only
  repeat' split
  all_goals simp [h]

@[simp] theorem enforceNear_dram (s : State) (g : Nat) (hot : Int) : (s.enforceNear g hot).mem.dram = s.mem.dram := by
  simp [State.enforceNear]

@[simp] theorem judgeCoolant_canon (s : State) (g : Nat) (h : Canonical s.mem.dram) :
    Canonical (s.judgeCoolant g).mem.dram := by
  unfold State.judgeCoolant
  dsimp only
  repeat' split
  all_goals simp [h]

@[simp] theorem judgeGroup_canon (s : State) (g : Nat) (tp : Option Nat) (h : Canonical s.mem.dram) :
    Canonical (s.judgeGroup g tp).mem.dram := by
  simp [State.judgeGroup, h]

@[simp] theorem finishReq_canon (s : State) (r : PortReq) (h : Canonical s.mem.dram) :
    Canonical (s.finishReq r).mem.dram := by
  unfold State.finishReq
  dsimp only
  repeat' split
  all_goals simp [h]

@[simp] theorem finishReqs_canon (s : State) (h : Canonical s.mem.dram) : Canonical s.finishReqs.mem.dram :=
  retryHeld_canon _ (foldl_canon _ finishReq_canon _ s h)

@[simp] theorem trimDie_dram (s : State) (die : Nat) : (s.trimDie die).mem.dram = s.mem.dram := (rfl)

@[simp] theorem extend_dram (s : State) (i : Nat) (data : Bytes) : (s.extend i data).mem.dram = s.mem.dram := (rfl)

@[simp] theorem railsOn_dram (s : State) : s.railsOn.mem.dram = s.mem.dram := by simp [State.railsOn]

@[simp] theorem fuseSpares_dram (s : State) : s.fuseSpares.mem.dram = s.mem.dram := (rfl)

@[simp] theorem startUp_dram (s : State) : s.startUp.mem.dram = s.mem.dram := by simp [State.startUp]

@[simp] theorem svcFrom_dram (s : State) (old : Svc) : (s.svcFrom old).mem.dram = s.mem.dram := by
  simp [State.svcFrom]

@[simp] theorem beginStart_dram (s : State) : s.beginStart.mem.dram = s.mem.dram := by simp [State.beginStart]

@[simp] theorem autoStart_dram (s : State) : s.autoStart.mem.dram = s.mem.dram := by simp [State.autoStart]

@[simp] theorem inputLost_canon (s : State) (event : Nat) (h : Canonical s.mem.dram) :
    Canonical (s.inputLost event).mem.dram := by
  unfold State.inputLost
  dsimp only
  repeat' split
  all_goals simp [h]

@[simp] theorem mapGroups_dram (s : State) (f : Group → Group) : (s.mapGroups f).mem.dram = s.mem.dram := (rfl)

@[simp] theorem jmLog_dram (s : State) (event target : Nat) : (s.jmLog event target).mem.dram = s.mem.dram := by
  unfold State.jmLog
  split <;> simp

@[simp] theorem jmTell_dram (s : State) : s.jmTell.mem.dram = s.mem.dram := by simp [State.jmTell]

@[simp] theorem jmEnd_dram (s : State) : s.jmEnd.mem.dram = s.mem.dram := by simp [State.jmEnd]

@[simp] theorem jmRaise_dram (s : State) (p10 l : Nat) : (s.jmRaise p10 l).mem.dram = s.mem.dram := by
  simp [State.jmRaise]

@[simp] theorem jmTick_dram (s : State) (p10 l : Nat) : (s.jmTick p10 l).mem.dram = s.mem.dram := by
  simp [State.jmTick]

@[simp] theorem plimTick_dram (s : State) (p10 l : Nat) : (s.plimTick p10 l).mem.dram = s.mem.dram := (rfl)

@[simp] theorem step'_dram (s : State) (r : Red) (up : Bool) : (s.step' r up).mem.dram = s.mem.dram := by
  unfold State.step'
  split <;> simp

@[simp] theorem reduce_dram (s : State) (m : GovMeas) (excess n : Nat) :
    (s.reduce m excess n).mem.dram = s.mem.dram := by
  induction n generalizing s m excess with
  | zero => rfl
  | succ n ih =>
    unfold State.reduce
    split
    · rfl
    · split
      · rfl
      · exact (ih _ _ _).trans (step'_dram s _ false)

@[simp] theorem undo_dram (s : State) : s.undo.mem.dram = s.mem.dram := by
  unfold State.undo
  split <;> simp

@[simp] theorem governTick_dram (s : State) (m : GovMeas) : (s.governTick m).mem.dram = s.mem.dram := by
  simp [State.governTick]

/-! ### Configuration sets and quiesce -/

@[simp] theorem dropTracking_dram (s : State) (n : Nat) : (s.dropTracking n).mem.dram = s.mem.dram := (rfl)

@[simp] theorem linkOff_canon (s : State) (n : Nat) (reset : Bool) (h : Canonical s.mem.dram) :
    Canonical (s.linkOff n reset).mem.dram := by
  simp [State.linkOff, h]

@[simp] theorem setPend_dram (s : State) (l : List Pend) : (s.setPend l).mem.dram = s.mem.dram := (rfl)

@[simp] theorem modSet_dram (s : State) (p : Nat) (f : CfgSet → CfgSet) :
    (s.modSet p f).mem.dram = s.mem.dram := (rfl)

@[simp] theorem restSet_dram (s : State) (p : Nat) : (s.restSet p).mem.dram = s.mem.dram := (rfl)

@[simp] theorem dropPend_dram (s : State) (p : Nat) : (s.dropPend p).mem.dram = s.mem.dram := (rfl)

@[simp] theorem buffer_dram (s : State) (cls key : Nat) (v : Word) (blob : Option Bytes) :
    (s.buffer cls key v blob).mem.dram = s.mem.dram := (rfl)

@[simp] theorem applyPends_dram (s : State) (ps : List Pend) : (s.applyPends ps).mem.dram = s.mem.dram := by
  refine foldl_dram _ (fun s e => ?_) ps s
  split <;> simp

@[simp] theorem commitSet_dram (s : State) (p : Nat) (ps : List Pend) : (s.commitSet p ps).mem.dram = s.mem.dram := by
  simp [State.commitSet]

@[simp] theorem endCommit_dram (s : State) (p : Nat) (changed : Bool) :
    (s.endCommit p changed).mem.dram = s.mem.dram := by
  simp [State.endCommit]

@[simp] theorem failSet_dram (s : State) (p : Nat) (f : Nat × Nat × Nat) :
    (s.failSet p f).mem.dram = s.mem.dram := (rfl)

@[simp] theorem rollback_dram (s : State) (p : Nat) : (s.rollback p).mem.dram = s.mem.dram := by simp [State.rollback]

@[simp] theorem moduleBoundary_dram (s : State) (p : Nat) : (s.moduleBoundary p).mem.dram = s.mem.dram := by
  unfold State.moduleBoundary
  dsimp only
  repeat' split
  all_goals simp

theorem counting_dram (s : State) (p : Nat) (f : State → State) : (s.counting p f).mem.dram = (f s).mem.dram := rfl

@[simp] theorem startQuiesce_dram (s : State) (p : Nat) : (s.startQuiesce p).mem.dram = s.mem.dram := by
  unfold State.startQuiesce
  split
  · rfl
  · exact (counting_dram _ p _).trans (foldl_dram _ closeQueues_dram _ _)

@[simp] theorem assign_dram (s : State) (p : Nat) : (s.assign p).mem.dram = s.mem.dram := by simp [State.assign]

@[simp] theorem renewRings_dram (s old : State) (p : Nat) : (s.renewRings old p).mem.dram = s.mem.dram := by
  simp [State.renewRings]

@[simp] theorem reopen_canon (s : State) (p : Nat) (ok : Bool) (h : Canonical s.mem.dram) :
    Canonical (s.reopen p ok).mem.dram := by
  simp [State.reopen, h]

@[simp] theorem endApply_canon (s : State) (p : Nat) (h : Canonical s.mem.dram) :
    Canonical (s.endApply p).mem.dram := by
  simp [State.endApply, h]

@[simp] theorem noteDiscards_dram (s : State) (p : Nat) : (s.noteDiscards p).mem.dram = s.mem.dram := by
  simp [State.noteDiscards]

@[simp] theorem fillStack_canon (s : State) (k : Nat) (h : Canonical s.mem.dram) :
    Canonical (s.fillStack k).mem.dram := by
  unfold State.fillStack
  dsimp only
  rw [foldl_dram _ (fun s c => modChan_dram s _ _), modStk_dram]
  exact Canonical.filter h _

/-! ### Resets, starts, firmware and the test state -/

@[simp] theorem newIncarnation_dram (s : State) : s.newIncarnation.mem.dram = s.mem.dram := (rfl)

@[simp] theorem endSession_dram (s : State) (x : Session) (detail : Nat) :
    (s.endSession x detail).mem.dram = s.mem.dram := (rfl)

@[simp] theorem closeDisabled_dram (s : State) : s.closeDisabled.mem.dram = s.mem.dram := by
  simp [State.closeDisabled]

@[simp] theorem dictReset_dram (s : State) : s.dictReset.mem.dram = s.mem.dram := by simp [State.dictReset]

@[simp] theorem resetCommon_dram (s : State) (m : Mem) : (s.resetCommon m).mem.dram = m.dram := by
  unfold State.resetCommon
  dsimp only
  rw [newIncarnation_dram, dictReset_dram]
  rfl

theorem keepStacks_dram (s : State) : s.keepStacks.dram = s.mem.dram := rfl

@[simp] theorem moduleReset_canon (s : State) (preserve : Bool) (h : Canonical s.mem.dram) :
    Canonical (s.moduleReset preserve).mem.dram := by
  have hm : Canonical (if preserve then s.keepStacks else s.mem.off).dram := by
    split
    · exact h
    · exact canonical_nil
  simp [State.moduleReset, hm]

@[simp] theorem setSlot_dram (s : State) (i : Nat) (x : FwSlot) : (s.setSlot i x).mem.dram = s.mem.dram := (rfl)

@[simp] theorem fwEvent_dram (s : State) (detail i : Nat) : (s.fwEvent detail i).mem.dram = s.mem.dram := (rfl)

@[simp] theorem tryBoot_dram (s : State) (is : List Nat) : (s.tryBoot is).mem.dram = s.mem.dram := by
  induction is generalizing s with
  | nil => rfl
  | cons i is ih =>
    unfold State.tryBoot
    dsimp only
    split
    · rfl
    · exact ih _

@[simp] theorem boot_dram (s : State) : s.boot.mem.dram = s.mem.dram := by simp [State.boot]

@[simp] theorem measureCrust_dram (s : State) : s.measureCrust.mem.dram = s.mem.dram := by simp [State.measureCrust]

@[simp] theorem crustStart_dram (s : State) (detail : Nat) (straps : Option (BitVec 24)) :
    (s.crustStart detail straps).mem.dram = [] := by
  unfold State.crustStart
  rw [autoStart_dram, foldl_dram _ (fun s i => fwEvent_dram s 5 i)]
  simp only [ite_dram, crustEvent_dram, ite_self, measureCrust_dram, boot_dram, resetCommon_dram]
  rfl

@[simp] theorem seedLfsrs_dram (s : State) : s.seedLfsrs.mem.dram = s.mem.dram := by simp [State.seedLfsrs]

@[simp] theorem openStage_dram (s : State) : s.openStage.mem.dram = s.mem.dram := (rfl)

@[simp] theorem dropStage_dram (s : State) : s.dropStage.mem.dram = s.mem.dram := (rfl)

@[simp] theorem closeStage_dram (s : State) (b : Bytes) : (s.closeStage b).mem.dram = s.mem.dram := (rfl)

@[simp] theorem confirm_dram (s : State) : s.confirm.mem.dram = s.mem.dram := by simp [State.confirm]

@[simp] theorem attest_dram (s : State) (nonce : Bytes) : (s.attest nonce).mem.dram = s.mem.dram := (rfl)

@[simp] theorem setLocks_dram (s : State) (v : Nat) : (s.setLocks v).mem.dram = s.mem.dram := by simp [State.setLocks]

@[simp] theorem enterTest_dram (s : State) : s.enterTest.mem.dram = s.mem.dram := (rfl)

@[simp] theorem testLevel_canon (s : State) (v : Nat) (h : Canonical s.mem.dram) :
    Canonical (s.testLevel v).mem.dram := by
  unfold State.testLevel
  split <;> simp [h]

@[simp] theorem startMtest_dram (s : State) (stk v : Nat) : (s.startMtest stk v).mem.dram = s.mem.dram := by
  simp [State.startMtest]

@[simp] theorem startBist_dram (s : State) (v : Nat) : (s.startBist v).mem.dram = s.mem.dram := by
  simp [State.startBist]

@[simp] theorem prbs_dram (s : State) (n v : Nat) : (s.prbs n v).mem.dram = s.mem.dram := by simp [State.prbs]

/-! ### The dictionary, Crumb messages and sessions -/

@[simp] theorem reseed_dram (s : State) (engines : Bool) : (s.reseed engines).mem.dram = s.mem.dram := by
  simp [State.reseed]

@[simp] theorem setWin_dram (s : State) (k : Nat) (w : Win) : (s.setWin k w).mem.dram = s.mem.dram := (rfl)

@[simp] theorem putWinAddr_dram (s : State) (path k : Nat) (v : Word) :
    (s.putWinAddr path k v).1.mem.dram = s.mem.dram := by
  simp [State.putWinAddr]

@[simp] theorem actBlob_dram (s : State) (path index sub : Nat) (r : OdRow) (b : Bytes) :
    (s.actBlob path index sub r b).1.mem.dram = s.mem.dram := by
  simp [State.actBlob]

/-- What an action answers, where it answers, is canonical. -/
def CanonicalAnswer (o : Option (State × Nat)) : Prop := ∀ x, o = some x → Canonical x.1.mem.dram

theorem canonicalAnswer_none : CanonicalAnswer none :=
  fun _ h => nomatch h

theorem canonicalAnswer_some {x : State × Nat} (h : Canonical x.1.mem.dram) : CanonicalAnswer (some x) :=
  fun _ hx => Option.some.inj hx ▸ h

theorem CanonicalAnswer.ite {c : Prop} [Decidable c] {o p : Option (State × Nat)} (ho : CanonicalAnswer o)
    (hp : CanonicalAnswer p) : CanonicalAnswer (if c then o else p) := by
  split
  · exact ho
  · exact hp

theorem actIdent_canon (s : State) (path index sub : Nat) (v : Word) (h : Canonical s.mem.dram) :
    CanonicalAnswer (s.actIdent path index sub v) := by
  have hs : ∀ st, CanonicalAnswer (some (s, st)) := fun st => canonicalAnswer_some h
  have hput : Canonical (s.odPut index sub v).mem.dram := Canonical.congr h (odPut_dram ..)
  unfold State.actIdent
  extract_lets n on fire p p' s1 c
  have hfire : ∀ t, Canonical t.mem.dram → CanonicalAnswer (fire t) := fun t ht =>
    canonicalAnswer_some (Canonical.ite ht h)
  clear_value fire
  refine .ite ?set (.ite ?module (.ite ?ring (.ite ?place (.ite ?seed (.ite ?leave (.ite ?limit (.ite ?locks
    (.ite ?slots (.ite ?service (.ite ?flags (.ite ?dump (.ite ?window (.ite ?test (.ite ?mtest (.ite ?bist
    (.ite ?prbs
    canonicalAnswer_none))))))))))))))))
  case set =>
    split
    · exact hfire _ (by simp [h])
    · exact hfire _ (by simp [h])
    · exact .ite (hs _) (hfire _ (by simp [h]))
    · exact canonicalAnswer_none
  case module =>
    split
    · exact hfire _ (by simp [h])
    · exact .ite (hs _) (hfire _ (by simp [h]))
    · exact canonicalAnswer_none
  case ring => exact hfire _ (by simp [h])
  case place =>
    split
    · exact hfire _ (by simp [h])
    · exact .ite (hs _) (canonicalAnswer_some (by simp [h]))
    · exact canonicalAnswer_none
  case seed => exact canonicalAnswer_some (Canonical.congr hput (reseed_dram ..))
  case leave => exact hfire _ h
  case limit => exact canonicalAnswer_some (Canonical.ite hput hput)
  case locks => exact canonicalAnswer_some (by simp [h])
  case slots =>
    split
    · exact .ite (hs _) (hfire _ h)
    · exact .ite (hs _) (hfire _ (by simp [h]))
    · exact canonicalAnswer_none
  case service =>
    split
    · exact .ite (hs _) (.ite (canonicalAnswer_some (by simp [h]))
        (.ite (.ite (canonicalAnswer_some (by simp [h])) (hs _)) (canonicalAnswer_some (by simp))))
    · exact hfire _ (by simp [h])
    · exact canonicalAnswer_none
  case flags => exact canonicalAnswer_some (settle_canon _ (Canonical.ite (by simp [h]) (by simp [h])))
  case dump => exact hfire _ (by simp [h])
  case window => exact canonicalAnswer_some (by simp [h])
  case test => exact canonicalAnswer_some (by simp [h])
  case mtest => exact .ite (hs _) (canonicalAnswer_some (by simp [h]))
  case bist => exact .ite (hs _) (canonicalAnswer_some (by simp [h]))
  case prbs => exact canonicalAnswer_some (by simp [h])

@[simp] theorem odEffect_canon (s : State) (path index sub : Nat) (r : OdRow) (v : Word) (blob : Option Bytes)
    (h : Canonical s.mem.dram) : Canonical (s.odEffect path index sub r v blob).1.mem.dram := by
  unfold State.odEffect
  split
  · simp [h]
  · split
    · simp [h]
    · split
      · rename_i x hx
        exact actIdent_canon s path index sub _ h x hx
      · exact Canonical.ite (by simp [h]) (by simp [h])

@[simp] theorem lockViolation_dram (s : State) (path index sub : Nat) (v : Word) :
    (s.lockViolation path index sub v).mem.dram = s.mem.dram := (rfl)

@[simp] theorem refusal_dram (s : State) (path index sub st : Nat) :
    (s.refusal path index sub st).mem.dram = s.mem.dram := by
  simp [State.refusal]

@[simp] theorem odAccept_canon (s : State) (path index sub : Nat) (sizeOk : Bool) (v : Word) (blob : Option Bytes)
    (h : Canonical s.mem.dram) : Canonical (s.odAccept path index sub sizeOk v blob).1.mem.dram := by
  unfold State.odAccept
  dsimp only
  repeat' split
  all_goals simp [h]

@[simp] theorem readSlot_dram (s : State) (path index sub : Nat) :
    (s.readSlot path index sub).1.mem.dram = s.mem.dram := by
  simp [State.readSlot]

@[simp] theorem winRead_dram (s : State) (path k : Nat) (adv : Bool) :
    (s.winRead path k adv).1.mem.dram = s.mem.dram := by
  simp [State.winRead]

@[simp] theorem winWrite_canon (s : State) (path k : Nat) (v : Word) (h : Canonical s.mem.dram) :
    Canonical (s.winWrite path k v).1.mem.dram := by
  unfold State.winWrite
  dsimp only
  repeat' split
  all_goals simp [h]

@[simp] theorem winEnd_canon (s : State) (path k : Nat) (v : Word) (h : Canonical s.mem.dram) :
    Canonical (s.winEnd path k v).1.mem.dram := by
  unfold State.winEnd
  dsimp only
  repeat' split
  all_goals simp [h]

@[simp] theorem slotWrite_canon (s : State) (path index sub : Nat) (sizeOk : Bool) (v : Word)
    (h : Canonical s.mem.dram) : Canonical (s.slotWrite path index sub sizeOk v).1.mem.dram := by
  unfold State.slotWrite
  dsimp only
  repeat' split
  all_goals simp [h]

@[simp] theorem slotRead_dram (s : State) (path index sub : Nat) :
    (s.slotRead path index sub).1.mem.dram = s.mem.dram := by
  simp [State.slotRead]

@[simp] theorem tell_dram (s : State) (path index sub st : Nat) :
    (s.tell path index sub st).mem.dram = s.mem.dram := (rfl)

@[simp] theorem pathPut_canon (s : State) (a : Acc) (index sub : Nat) (v : Word) (h : Canonical s.mem.dram) :
    Canonical (s.pathPut a index sub v).mem.dram := by
  unfold State.pathPut
  dsimp only
  repeat' split
  all_goals simp [h]

@[simp] theorem authFail_dram (s : State) (mctp : Bool) (path role sid : Nat) :
    (s.authFail mctp path role sid).mem.dram = s.mem.dram := (rfl)

@[simp] theorem crumbGet_dram (s : State) (path : Nat) (w : Word) : (s.crumbGet path w).1.mem.dram = s.mem.dram := by
  simp [State.crumbGet]

@[simp] theorem crumbSet_canon (s : State) (path : Nat) (w v : Word) (h : Canonical s.mem.dram) :
    Canonical (s.crumbSet path w v).1.mem.dram := by
  simp [State.crumbSet, h]

theorem crumbItems_canon (alive : State → Bool) (fs : List (State → State × List Word))
    (hf : ∀ f ∈ fs, ∀ s, Canonical s.mem.dram → Canonical (f s).1.mem.dram) (s : State) (h : Canonical s.mem.dram) :
    Canonical (crumbItems alive fs s).1.mem.dram := by
  induction fs generalizing s with
  | nil => exact h
  | cons f fs ih =>
    unfold crumbItems
    split
    · exact h
    · exact ih (fun g hg => hf g (List.mem_cons_of_mem f hg)) _ (hf f List.mem_cons_self s h)

@[simp] theorem crumbReply_dram (s : State) (x : Session) (r : CrumbMsg) :
    (s.crumbReply x r).mem.dram = s.mem.dram := (rfl)

theorem crumbServe_canon (s : State) (path ty n : Nat) (m : CrumbMsg) (heads : List Word)
    (fs : List (State → State × List Word)) (hf : ∀ f ∈ fs, ∀ s, Canonical s.mem.dram → Canonical (f s).1.mem.dram)
    (h : Canonical s.mem.dram) : Canonical (s.crumbServe path ty n m heads fs).mem.dram := by
  have hitems := fun alive => crumbItems_canon alive fs hf s h
  unfold State.crumbServe
  dsimp only
  refine Canonical.ite h ?_
  split
  · exact Canonical.congr h (bump_dram ..)
  · refine Canonical.ite (Canonical.congr h (bump_dram ..)) (Canonical.ite (by simp [h]) (Canonical.ite ?_ ?_))
    · split
      · exact h
      · exact h
    · refine Canonical.ite h (Canonical.ite (by simp [h]) (Canonical.ite ?_ (hitems _)))
      exact Canonical.congr (hitems _) (crumbReply_dram ..)

@[simp] theorem refuse_dram (s : State) (mctp : Bool) (m : SessMsg) (reason : Nat) :
    (s.refuse mctp m reason).mem.dram = s.mem.dram := (rfl)

@[simp] theorem sendChallenge_dram (s : State) (mctp : Bool) (m : SessMsg) (secret : Bytes) :
    (s.sendChallenge mctp m secret).mem.dram = s.mem.dram := (rfl)

@[simp] theorem accept_dram (s : State) (mctp : Bool) (via : Carrier) (c : Chal) (key : Bytes) :
    (s.accept mctp via c key).mem.dram = s.mem.dram := (rfl)

/-! ### A tick of the idle machine -/

@[simp] theorem tickFull_dram (s : State) : s.tickFull.mem.dram = s.mem.dram := by
  rw [State.tickFull, foldl_dram _ (fun s kc => bump_dram s _ _ _ _)]

@[simp] theorem tickStalls_dram (s : State) : s.tickStalls.mem.dram = s.mem.dram := by simp [State.tickStalls]

@[simp] theorem tickPort_dram (s : State) (n : Nat) : (s.tickPort n).mem.dram = s.mem.dram := by simp [State.tickPort]

@[simp] theorem tickLanes_dram (s : State) (n : Nat) : (s.tickLanes n).mem.dram = s.mem.dram := by
  simp [State.tickLanes]

@[simp] theorem tickEngines_dram (s : State) : s.tickEngines.mem.dram = s.mem.dram := by simp [State.tickEngines]

@[simp] theorem tickRings_canon (s : State) (h : Canonical s.mem.dram) : Canonical s.tickRings.mem.dram := by
  unfold State.tickRings
  exact foldl_canon _ (fun s k hs => Canonical.ite hs (ringRecords_canon s _ _ _ hs)) _ s h

@[simp] theorem tickMain_canon (s : State) (h : Canonical s.mem.dram) : Canonical s.tickMain.mem.dram := by
  unfold State.tickMain
  dsimp only
  refine retryHeld_canon _ (tickRings_canon _ (settle_canon _ ?_))
  rw [pump_dram, flushTx_dram, foldl_dram _ closeCycle_dram, foldl_dram _ (fun s n => by simp), tickEngines_dram,
    tickStalls_dram, tickFull_dram]
  exact h

@[simp] theorem tickAll_canon (s : State) (h : Canonical s.mem.dram) : Canonical s.tickAll.mem.dram := by
  unfold State.tickAll
  dsimp only
  repeat' split
  all_goals simp [h]

@[simp] theorem tick_canon (s : State) (h : Canonical s.mem.dram) : Canonical s.tick.mem.dram := by
  simp [State.tick, h]

/-! ### What a command answers -/

section Outcomes

variable {s s' : State} {o p : Out} {c c' : Bool}

/-- Whatever state a command answers is canonical. -/
def CanonicalOut (o : Out) : Prop := ∀ t, o = .next t → Canonical t.mem.dram

theorem CanonicalOut.next (h : Canonical s.mem.dram) : CanonicalOut (.next s) := fun t ht => by
  cases ht
  exact h

theorem CanonicalOut.go (h : Canonical s'.mem.dram) : CanonicalOut (go s s') := fun t ht => by
  cases ht
  exact h

theorem CanonicalOut.when' (h : Canonical s.mem.dram) (h' : Canonical s'.mem.dram) : CanonicalOut (when' c s s') := by
  cases c
  · exact .next h
  · exact .go h'

theorem CanonicalOut.ifUnit (h : Canonical s.mem.dram) (ho : CanonicalOut o) : CanonicalOut (ifUnit s c o) := by
  cases c
  · exact .next h
  · exact ho

theorem CanonicalOut.unitWhen (h : Canonical s.mem.dram) (h' : Canonical s'.mem.dram) :
    CanonicalOut (Machine.ifUnit s c (Machine.when' c' s s')) :=
  .ifUnit h (.when' h h')

theorem CanonicalOut.ite {q : Prop} [Decidable q] (ho : CanonicalOut o) (hp : CanonicalOut p) :
    CanonicalOut (if q then o else p) := by
  split
  · exact ho
  · exact hp

theorem inCycle_canon (c : Nat) (more : Bool) {f : State → State}
    (hf : ∀ s : State, Canonical s.mem.dram → Canonical (f s).mem.dram) (h : Canonical s.mem.dram) :
    Canonical (s.inCycle c more f).mem.dram := by
  rw [State.inCycle, cycleEnd_dram]
  exact hf _ (Canonical.congr h (openCycle_dram s c))

theorem seqNext_canon (c w : Nat) {f : State → State}
    (hf : ∀ s : State, Canonical s.mem.dram → Canonical (f s).mem.dram) (h : Canonical s.mem.dram) :
    Canonical (s.seqNext c w f).mem.dram :=
  Canonical.ite (Canonical.congr h (seqFault_dram s c 4 w)) (hf s h)

theorem issue_canon (c op : Nat) (fn : Option Nat) {f : State → Nat → State} (join : Bool)
    (hf : ∀ (s : State) (w : Nat), Canonical s.mem.dram → Canonical (f s w).mem.dram) (h : Canonical s.mem.dram) :
    CanonicalOut (s.issue c op fn f join) :=
  .unitWhen h (hf _ _ (Canonical.congr h (coreTurn_dram s c join)))

theorem withJob_canon (id : Nat) {f : State → Job → State}
    (hf : ∀ (s : State) (j : Job), Canonical s.mem.dram → Canonical (f s j).mem.dram) (h : Canonical s.mem.dram) :
    Canonical (s.withJob id f).mem.dram := by
  unfold State.withJob
  split
  · exact h
  · exact hf s _ h

theorem mailbox_canon (n code : Nat) (data : List Nat) (h : Canonical s.mem.dram) :
    CanonicalOut (s.mailbox n code data) :=
  .unitWhen h h

theorem ringCmd_canon (p r kind : Nat) {f : State → List Word → State}
    (hf : ∀ (s : State) (ws : List Word), Canonical s.mem.dram → Canonical (f s ws).mem.dram)
    (h : Canonical s.mem.dram) : CanonicalOut (s.ringCmd p r kind f) := by
  refine .ifUnit h (.go (Canonical.ite (ringRecords_canon s p r 64 h) (settle_canon _ ?_)))
  have hx := fun w xs => Canonical.congr (ringRecords_canon s p r 64 h) (fetchLines_dram _ w xs)
  split
  · exact hx _ _
  · refine Canonical.ite ?_ (Canonical.ite ?_ (Canonical.ite ?_ (Canonical.ite ?_ (hf _ _ (hx _ _)))))
    · exact Canonical.congr (hx _ _) (ringStop_dram ..)
    · exact Canonical.congr (hx _ _) (ringStop_dram ..)
    · exact Canonical.congr (hx _ _) (ringStop_dram ..)
    · exact ringRecords_canon s p r 64 h

theorem joinMsg_canon (n op : Nat) (f : Frame) {k : State → Bytes → State}
    (hk : ∀ (s : State) (b : Bytes), Canonical s.mem.dram → Canonical (k s b).mem.dram)
    (h : Canonical s.mem.dram) : CanonicalOut (s.joinMsg n op f k) := by
  have hg : Canonical ((s.bump (0x6100 + n) 5).gather f).1.mem.dram := by simp [h]
  refine .unitWhen h (Canonical.ite h ?_)
  dsimp only
  split
  · exact hg
  · exact hk _ _ hg

theorem layoutCmd_canon (c mode : Nat) (h : Canonical s.mem.dram) : CanonicalOut (s.layoutCmd c mode) := by
  refine .ifUnit h ?_
  split
  · exact .next h
  · exact .when' h (by simp [h])

theorem fqCmd_canon (c ticket op : Nat) (h : Canonical s.mem.dram) : CanonicalOut (s.fqCmd c ticket op) := by
  refine .ifUnit h ?_
  split
  · exact .next h
  · exact .when' h (fqRun_canon s c _ h)

theorem fqSigCmd_canon (c ticket op : Nat) (more : Bool) (h : Canonical s.mem.dram) :
    CanonicalOut (s.fqSigCmd c ticket op more) := by
  refine .ifUnit h ?_
  split
  · exact .next h
  · exact .ite (.when' h (inCycle_canon _ more (fun s hs => fqRun_canon s c _ hs) h)) (fqCmd_canon c ticket op h)

theorem pathFlag_canon (a : Acc) (c sub : Nat) (v : Word) (more : Bool) (h : Canonical s.mem.dram) :
    CanonicalOut (s.pathFlag a c sub v more) :=
  .unitWhen h (inCycle_canon c more (fun s hs => pathPut_canon s a _ sub v hs) h)

theorem arriveSig_canon (n : Nat) (f : Frame) (op : Nat) (more : Bool) (h : Canonical s.mem.dram) :
    CanonicalOut (s.arriveSig n f op more) :=
  .unitWhen h (inCycle_canon _ more (fun s hs => receive_canon s n f hs) h)

end Outcomes

/-! ### The commands -/

section Commands

variable {s : State}

theorem execArrivalCounterFree_canon {pos cl : Nat} (h : Canonical s.mem.dram) :
    CanonicalOut (execArrivalCounterFree pos cl s) := by
  unfold execArrivalCounterFree
  split
  · exact .next h
  · exact .when' h h

theorem execAttestReportReady_canon (h : Canonical s.mem.dram) :
    CanonicalOut (execAttestReportReady s) := by
  unfold execAttestReportReady
  split
  · refine .go ?_
    dsimp only
    split
    · rw [sendMsg_dram]
      exact h
    · exact h
  · exact .when' h h

theorem execBiTimeout_canon {n lin : Nat} (h : Canonical s.mem.dram) :
    CanonicalOut (execBiTimeout n lin s) := by
  refine .ifUnit h ?_
  split
  · exact .next h
  · exact .go (by simp [h])

theorem execBirsp_canon {n lin : Nat} (h : Canonical s.mem.dram) :
    CanonicalOut (execBirsp n lin s) := by
  refine .ifUnit h ?_
  split
  · exact .next h
  · exact .go (by simp [h])

theorem execChainComplete_canon {c : Nat} (h : Canonical s.mem.dram) :
    CanonicalOut (execChainComplete c s) := by
  refine .ifUnit h ?_
  split
  · exact .next h
  · exact .ite (.next h) (.go (by simp [h]))

theorem execClearEventRecords_canon {n log : Nat} (h : Canonical s.mem.dram) :
    CanonicalOut (execClearEventRecords n log s) :=
  .ite (.unitWhen h h) (mailbox_canon n _ _ h)

theorem execClose_canon {path : Nat} {m : SessMsg} (h : Canonical s.mem.dram) :
    CanonicalOut (execClose path m s) := by
  refine .unitWhen h ?_
  split
  · exact h
  · exact Canonical.ite h (Canonical.ite (by simp [h]) (Canonical.ite (by simp [h]) h))

theorem execCountTimeout_canon {pos cl : Nat} (h : Canonical s.mem.dram) :
    CanonicalOut (execCountTimeout pos cl s) := by
  unfold execCountTimeout
  dsimp only
  split
  · exact .next h
  · split
    · exact .next h
    · exact .go (by simp [h])

theorem execCrumbRead_canon {path : Nat} {m : CrumbMsg} (h : Canonical s.mem.dram) :
    CanonicalOut (execCrumbRead path m s) := by
  refine .unitWhen h (crumbServe_canon s path 1 1 m _ _ (fun f hf s hs => ?_) h)
  obtain ⟨w, -, rfl⟩ := List.mem_map.mp hf
  exact Canonical.congr hs (crumbGet_dram s path w)

theorem execCrumbWrite_canon {path : Nat} {m : CrumbMsg} (h : Canonical s.mem.dram) :
    CanonicalOut (execCrumbWrite path m s) := by
  refine .unitWhen h (crumbServe_canon s path 2 2 m _ _ (fun f hf s hs => ?_) h)
  obtain ⟨p, -, rfl⟩ := List.mem_map.mp hf
  exact crumbSet_canon s path p.1 p.2 hs

theorem execDrainWindowExpiry_canon (h : Canonical s.mem.dram) :
    CanonicalOut (execDrainWindowExpiry s) := by
  have hf : Canonical s.finishReqs.mem.dram := finishReqs_canon s h
  refine .when' h ?_
  dsimp only
  rw [setSvc_dram, clearMain_dram, keepStacks_dram, crossLog_dram]
  exact Canonical.ite (Canonical.congr hf (sendLeave_dram _)) hf

theorem execEntryDelivery_canon {c q : Nat} {more : Bool} (h : Canonical s.mem.dram) :
    CanonicalOut (execEntryDelivery c q more s) :=
  .unitWhen h (settle_canon _ (inCycle_canon c more (fun s hs => deliverHead_canon s c q hs) h))

theorem execFlagAdd_canon {a : Acc} {c : Nat} {v : BitVec 64} {more : Bool} (h : Canonical s.mem.dram) :
    CanonicalOut (execFlagAdd a c v more s) :=
  .ifUnit h (pathFlag_canon a c _ v more h)

theorem execFlagN_canon {a : Acc} {c n : Nat} {v : BitVec 64} {more : Bool} (h : Canonical s.mem.dram) :
    CanonicalOut (execFlagN a c n v more s) :=
  .ifUnit h (pathFlag_canon a c _ v more h)

theorem execFqOpComplete_canon {c ticket : Nat} (h : Canonical s.mem.dram) :
    CanonicalOut (execFqOpComplete c ticket s) := by
  refine .ifUnit h ?_
  split
  · exact .when' h (by simp [h])
  · exact .next h

theorem execFwait_canon {c : Nat} (h : Canonical s.mem.dram) :
    CanonicalOut (execFwait c s) := by
  refine issue_canon _ _ _ _ (fun s w hs => ?_) h
  refine Canonical.ite (by simp [hs]) (Canonical.ite ?_ (by simp [hs]))
  exact seqNext_canon c w (fun s hs => by simp [hs]) hs

theorem execGetEventRecords_canon {n log : Nat} (h : Canonical s.mem.dram) :
    CanonicalOut (execGetEventRecords n log s) :=
  .ite (mailbox_canon n _ _ h) (mailbox_canon n _ _ h)

theorem execGetLog_canon {n log : Nat} (h : Canonical s.mem.dram) : CanonicalOut (execGetLog n log s) :=
  .ite (mailbox_canon n _ _ h) (mailbox_canon n _ _ h)

theorem execHello_canon {mctp : Bool} {m : SessMsg} (h : Canonical s.mem.dram) :
    CanonicalOut (execHello mctp m s) := by
  refine .when' h (Canonical.ite (by simp [h]) (Canonical.ite (by simp [h]) ?_))
  split
  · simp [h]
  · exact Canonical.ite (by simp [h]) (Canonical.ite (by simp [h]) (by simp [h]))

theorem execIfence_canon {c : Nat} (h : Canonical s.mem.dram) : CanonicalOut (execIfence c s) :=
  issue_canon _ _ _ _ (fun s w hs => seqNext_canon c w (fun s hs => by simp [hs]) hs) h

theorem execJobComplete_canon {job : Nat} (h : Canonical s.mem.dram) :
    CanonicalOut (execJobComplete job s) := by
  unfold execJobComplete
  split
  · exact .next h
  · refine .when' h ?_
    dsimp only
    rw [withJob_dram _ _ fun s j => jobFinish_dram s job j]
    refine withJob_canon _ (fun s j hs => jobRecord_canon s job j hs) ?_
    rw [withJob_dram _ _ fun s j => jobWritten_dram s job j]
    exact withJob_canon _ (fun s j hs => jobDrains_canon s job j hs) h

theorem execLineResponse_canon {c : Nat} {port : EnginePort} {k : Nat} (h : Canonical s.mem.dram) :
    CanonicalOut (execLineResponse c port k s) := by
  refine .unitWhen h ?_
  cases port <;> simp [h]

theorem execPoisonFillComplete_canon {p : Nat} (h : Canonical s.mem.dram) :
    CanonicalOut (execPoisonFillComplete p s) :=
  .unitWhen h (endApply_canon _ p (foldl_canon _ fillStack_canon _ s h))

theorem execPortRequest_canon {stk port : Nat} {cls : Option Nat} {lin : Nat} {kind : ReqKind}
    {part requester t : Nat} (h : Canonical s.mem.dram) :
    CanonicalOut (execPortRequest stk port cls lin kind part requester t s) := by
  have hgo := fun st => CanonicalOut.go (s := s) (Canonical.congr h (answer_dram s stk port st))
  unfold execPortRequest
  refine .ite (.next h) (.ite (hgo 3) (.ite (.next h) ?_))
  split
  · exact hgo 3
  · refine .ite (.next h) (.ite (hgo 2) (.ite (hgo 2) (.ite (.next h) ?_)))
    dsimp only
    split
    · exact hgo 8
    · exact .ite (.next h) (.ite (hgo 4) (.go h))

theorem execQabort_canon {c : Nat} (h : Canonical s.mem.dram) :
    CanonicalOut (execQabort c s) := by
  refine issue_canon _ _ _ _ (fun s w hs => seqNext_canon c w (fun s hs => ?_) hs) h
  dsimp only
  split <;> simp [hs]

theorem execQinfo_canon {c : Nat} (h : Canonical s.mem.dram) : CanonicalOut (execQinfo c s) :=
  issue_canon _ _ _ _ (fun s w hs => seqNext_canon c w (fun s hs => by simp [hs]) hs) h

theorem execQpush_canon {c : Nat} (h : Canonical s.mem.dram) :
    CanonicalOut (execQpush c s) := by
  refine issue_canon _ _ _ _ (fun s w hs => ?_) h
  refine Canonical.ite (by simp [hs]) (Canonical.ite (by simp [hs]) (Canonical.ite (by simp [hs])
    (Canonical.ite (by simp [hs]) ?_)))
  exact seqNext_canon c w (fun s hs => by simp [hs]) hs

theorem execQuiesceDrainLimit_canon {p : Nat} (h : Canonical s.mem.dram) :
    CanonicalOut (execQuiesceDrainLimit p s) := by
  refine .unitWhen h (settle_canon _ ?_)
  rw [counting_dram]
  exact foldl_canon _ (fun s c hs => stopDispatched_canon s c 9 hs) _ _ h

theorem execRd_canon {stk ch : Nat} {w : BitVec 48} {id t : Nat} (h : Canonical s.mem.dram) :
    CanonicalOut (execRd stk ch w id t s) := by
  refine .ifUnit h ?_
  split
  · refine .ite (.next h) (.ite (.go (by simp [h])) (.ite ?_ ?_))
    · dsimp only
      split
      · exact .go (by simp [h])
      · exact .go (by simp [h])
    · split
      · exact .go (by simp [h])
      · exact .go (by simp [h])
  · exact .next h

theorem execRequestTimeout_canon {id : Nat} (h : Canonical s.mem.dram) :
    CanonicalOut (execRequestTimeout id s) := by
  unfold execRequestTimeout
  split
  · exact .next h
  · exact .go (retryHeld_canon _ (completeReq_canon _ _ _ h))

theorem execSessionIdleTimeout_canon {path : Nat} (h : Canonical s.mem.dram) :
    CanonicalOut (execSessionIdleTimeout path s) := by
  refine .unitWhen h ?_
  split
  · exact h
  · simp [h]

theorem execSflush_canon {c : Nat} (h : Canonical s.mem.dram) : CanonicalOut (execSflush c s) :=
  issue_canon _ _ _ _ (fun s w hs => seqNext_canon c w (fun s hs => by simp [hs]) hs) h

theorem execSinfo_canon {c : Nat} (h : Canonical s.mem.dram) : CanonicalOut (execSinfo c s) :=
  issue_canon _ _ _ _ (fun s w hs => seqNext_canon c w (fun s hs => by simp [hs]) hs) h

theorem spared_canon (sp : Spare) (asked : List (Nat × Nat)) (ce : Tab (List Nat)) (a : EvAt)
    (h : Canonical s.mem.dram) :
    Canonical (({ s with mem := { s.mem with spares := sp :: s.mem.spares, spareReq := asked, rowCe := ce } } :
      State).stkEvent 0x05 a).mem.dram :=
  Canonical.congr h (stkEvent_dram ..)

theorem execSoftSpare_canon {mbn row t : Nat} (h : Canonical s.mem.dram) :
    CanonicalOut (execSoftSpare mbn row t s) := by
  unfold execSoftSpare
  dsimp only
  refine .ifUnit h (.ite (.next h) ?_)
  split
  · exact .go (by simp [h])
  · refine .go (spared_canon _ _ _ _ ?_)
    refine foldl_canon _ (fun s col hs => copyToSpare_wf _ _ _ col hs) _ _ (Canonical.ite ?_ h)
    exact Canonical.congr h (closeLatch_dram ..)

theorem execSpush_canon {c : Nat} (h : Canonical s.mem.dram) :
    CanonicalOut (execSpush c s) := by
  refine issue_canon _ _ _ _ (fun s w hs => ?_) h
  refine Canonical.ite (seqNext_canon c w (fun s hs => hs) hs) (Canonical.ite (by simp [hs])
    (Canonical.ite (by simp [hs]) ?_))
  exact seqNext_canon c w (fun s hs => pushStream_canon s c _ _ _ hs) hs

theorem execStackCriticalHoldExpiry_canon {stk : Nat} (h : Canonical s.mem.dram) :
    CanonicalOut (execStackCriticalHoldExpiry stk s) := by
  refine .unitWhen h ?_
  rw [modStk_dram]
  exact h.filter _

theorem execStepRetire_canon {mbn k t : Nat} (h : Canonical s.mem.dram) :
    CanonicalOut (execStepRetire mbn k t s) := by
  refine .ite (.next h) ?_
  split
  · exact .next h
  · exact .ite (.next h) (.go (applyLatch_canon s mbn _ h))

theorem execTrainingComplete_canon {failed : BitVec 16} (h : Canonical s.mem.dram) :
    CanonicalOut (execTrainingComplete failed s) := by
  unfold execTrainingComplete
  dsimp only
  refine .when' h ?_
  rw [setSvc_dram, extend_dram, setCtr_dram, newIncarnation_dram, seedLfsrs_dram,
    foldl_dram _ fun s k => crustEvent_dram ..]
  exact h

theorem execTransferComplete_canon {c : Nat} (h : Canonical s.mem.dram) :
    CanonicalOut (execTransferComplete c s) := by
  refine .ifUnit h ?_
  split
  · exact .next h
  · exact .ite (.next h) (.go (by simp [h]))

theorem execUnsupportedMailboxCommand_canon {n opcode : Nat} (h : Canonical s.mem.dram) :
    CanonicalOut (execUnsupportedMailboxCommand n opcode s) :=
  .ite (.next h) (mailbox_canon n _ _ h)

theorem execUrgencyStep_canon {id elapsedNs : Nat} (h : Canonical s.mem.dram) :
    CanonicalOut (execUrgencyStep id elapsedNs s) := by
  unfold execUrgencyStep
  split
  · exact .go h
  · exact .ite (.go h) (.next h)

theorem execWfe_canon {c : Nat} (h : Canonical s.mem.dram) :
    CanonicalOut (execWfe c s) := by
  refine issue_canon _ _ _ _ (fun s w hs => ?_) h
  refine Canonical.ite (by simp [hs]) (Canonical.ite (by simp [hs]) ?_)
  exact seqNext_canon c w (fun s hs => by simp [hs]) hs

theorem execWr_canon {stk ch : Nat} {w : BitVec 48} {id t : Nat} (h : Canonical s.mem.dram) :
    CanonicalOut (execWr stk ch w id t s) := by
  refine .ifUnit h ?_
  split
  · dsimp only
    split
    · exact .next h
    · exact .ite (.next h) (.ite (.go (by simp [h])) (.go (by simp [h])))
  · exact .next h

theorem stepIssue_canon (op mbn t : Nat) (h : Canonical s.mem.dram) : CanonicalOut (stepIssue op mbn t s) := by
  unfold stepIssue
  refine .ite (.next h) (.ite (.next h) ?_)
  split
  · exact .go h
  · exact .go (by split <;> simp [h])

/-- No command takes memory out of its canonical form. -/
theorem exec_canon (i : Instr) (h : Canonical s.mem.dram) : CanonicalOut (exec i s) := by
  unfold exec
  cases i with
  | ucieLinkDown | routeSwitch | act | pre | preb | refpb | srx | refreshWindow | scrubCatchUp | sprigModeEnter
  | sprigModeLeave | recipeWrite | operandBcast | sprigRun | sprigDrain | sprigStatus | srSeedMode | srSeed
  | panel | mma | cload | store | tileCmdComplete | queueDispatch | doorbellWrite | ringRestart | watchdogTest
  | dumpNow | portUp | portDown | read | write | reduce | atomic | replicaInv | placementClaim | placementPublish
  | completion | nack | redirect | seqNack | keepalive | pfcFrame | keepaliveTimer | tagSpaceFree | leave
  | placeCommit | migStart | hostMemRead | hostMemWrite | odWrite | quiesce | cfgDiscard | cfgRollback
  | mcfgDiscard | mcfgRollback | winDataRead | locks | moduleReset | preservingReset | crustReset | start
  | fwCommit | fwConfirm | attestNonce | testUnlock | testPower | tileBist | badFrame | illegalInstruction =>
    exact .unitWhen h (by simp [h])
  | portRequest =>
    exact execPortRequest_canon h
  | urgencyStep =>
    exact execUrgencyStep_canon h
  | requestAged | replayWindowFree | perstNRelease | challengeTimeout | authRateLimitEnd | fwVerifyComplete
  | tileBistComplete =>
    exact .when' h h
  | rd =>
    exact execRd_canon h
  | wr =>
    exact execWr_canon h
  | nrr | runDoneReport | sprigJob | jobBankBegin | chainInstruction | replicaFillComplete | migClaim
  | migFreezeTimeout | migVacate =>
    refine .ifUnit h ?_
    split
    · exact .next h
    · exact .when' h (by simp [h])
  | sre | mrw | mrr | tokenReturn | refreshInterval | srIdleExpiry | napEntry | scrubDue | runResume | pauseFrame
  | xoffRepeat | lldpTimer | pcacheMissFill | hdmDecoderCommit | getFwInfo | getTimestamp | setTimestamp
  | getSupportedLogs | identifyMemoryDevice | getPartitionInfo | getHealthInfo | getPoisonList | mtestComplete
  | cxlLinkUp =>
    exact .unitWhen h h
  | softSpare =>
    exact execSoftSpare_canon h
  | stepNop | stepUnpack | stepFma | stepAdd | stepMul | stepMax | stepCsel | stepDot | stepFold | stepLoad
  | stepStore | stepWb | stepDrain | stepSets | stepSetp =>
    exact stepIssue_canon _ _ _ h
  | stepRetire =>
    exact execStepRetire_canon h
  | jobComplete =>
    exact execJobComplete_canon h
  | lineResponse =>
    exact execLineResponse_canon h
  | chainComplete =>
    exact execChainComplete_canon h
  | layoutCopy | layoutGather | layoutScatter =>
    exact layoutCmd_canon _ _ h
  | transferComplete =>
    exact execTransferComplete_canon h
  | halt | alu | addi | andi | ori | xori | shli | shri | sari | slti | lui | lbu | lhu | lwu | ld | sb | sh | sw
  | sd | beq | bne | blt | bge | bltu | bgeu | jmp | call | jr | frd | fwr | fadd | cyc | odrd | whoami =>
    exact issue_canon _ _ _ _ (fun s w hs => by simp [hs]) h
  | qpush =>
    exact execQpush_canon h
  | qabort =>
    exact execQabort_canon h
  | qinfo =>
    exact execQinfo_canon h
  | spush =>
    exact execSpush_canon h
  | sflush =>
    exact execSflush_canon h
  | sinfo =>
    exact execSinfo_canon h
  | fwait =>
    exact execFwait_canon h
  | wfe =>
    exact execWfe_canon h
  | ifence =>
    exact execIfence_canon h
  | entryDelivery =>
    exact execEntryDelivery_canon h
  | ringPush | ringStart | ringLoad | ringAbort | ringNop =>
    exact ringCmd_canon _ _ _ (fun s ws hs => by simp [hs]) h
  | flagN =>
    exact execFlagN_canon h
  | flagAdd =>
    exact execFlagAdd_canon h
  | countTimeout =>
    exact execCountTimeout_canon h
  | arrivalCounterFree =>
    exact execArrivalCounterFree_canon h
  | fqRead | fqWrite | fqReduce | fqAtomic =>
    exact fqCmd_canon _ _ _ h
  | fqSignal | fqCountedSignal =>
    exact fqSigCmd_canon _ _ _ _ h
  | fqOpComplete =>
    exact execFqOpComplete_canon h
  | signal | countedSignal =>
    exact arriveSig_canon _ _ _ _ h
  | retransmitTimer | joinFragmentTimeout | hotswapConduct =>
    exact .go (by simp [h])
  | requestTimeout =>
    exact execRequestTimeout_canon h
  | gapWaitExpiry | tagQuarantineExpiry | joinStart | joinAnnounceTimer | leaveSend | incomingTimeout
  | cxlLinkDown | perstNAssert | powerGood | inputLoss | inputOv | slewInterval | governorTick | jmGraceExpiry
  | oscTrim | coldStart | lockstepMismatch | crustWatchdogExpiry | modResetNRelease | auxiliaryPowerLoss
  | refclkChange | tpElapsed | startFail | testPowerLevelReached =>
    exact .when' h (by simp [h])
  | joinChallenge | joinResult | memberUpdate =>
    exact joinMsg_canon _ _ _ (fun s b hs => by simp [hs]) h
  | birsp =>
    exact execBirsp_canon h
  | biTimeout =>
    exact execBiTimeout_canon h
  | getEventRecords =>
    exact execGetEventRecords_canon h
  | clearEventRecords =>
    exact execClearEventRecords_canon h
  | getLog =>
    exact execGetLog_canon h
  | crumbRead =>
    exact execCrumbRead_canon h
  | crumbWrite =>
    exact execCrumbWrite_canon h
  | hello =>
    exact execHello_canon h
  | confirm | clockStepEffect | modResetNAssert =>
    refine .when' h ?_
    dsimp only
    repeat' split
    all_goals simp [h]
  | close =>
    exact execClose_canon h
  | sessionIdleTimeout =>
    exact execSessionIdleTimeout_canon h
  | quiesceDrainLimit =>
    exact execQuiesceDrainLimit_canon h
  | quiesceApply | sensorRead =>
    refine .unitWhen h ?_
    dsimp only
    repeat' split
    all_goals simp [h]
  | poisonFillComplete =>
    exact execPoisonFillComplete_canon h
  | winAddr | winDataWrite | winClose | mtestCtrl | portPrbs =>
    exact .ifUnit h (.unitWhen h (by simp [h]))
  | drainWindowExpiry =>
    exact execDrainWindowExpiry_canon h
  | stackCriticalHoldExpiry =>
    exact execStackCriticalHoldExpiry_canon h
  | trainingComplete =>
    exact execTrainingComplete_canon h
  | attestReportReady =>
    exact execAttestReportReady_canon h
  | unsupportedMailboxCommand =>
    exact execUnsupportedMailboxCommand_canon h

end Commands

/-- A step from a canonical state answers a canonical one, whether a command waits or not. -/
theorem step_canon (s : State) (h : Canonical s.mem.dram) : CanonicalOut (step s) := by
  unfold step
  split
  · exact .next (tick_canon s h)
  · exact exec_canon _ h

/-- Settles O4: no command and no tick takes memory out of its canonical form. -/
theorem stepKeepsMemoryCanonical : Obligations.StepKeepsMemoryCanonical := by
  unfold Obligations.StepKeepsMemoryCanonical
  intro s t h hstep
  exact step_canon s h t hstep

end Sys2Proof.Machine

/-! ## O7: the canonical form of a table is unique

Of two canonical tables that read alike, the smaller head key would read as the default in the other table and as a
listed value in its own; so the heads agree, and the tails read alike again. -/

namespace Sys2Proof.Machine

section CanonicalTables

variable {α : Type} {d : α}

theorem Tab.get_cons_same (i : Nat) (v : α) (t : Tab α) : Tab.get d ((i, v) :: t) i = v := by simp [Tab.get, Tab.find]

theorem Tab.get_cons_ne {i k : Nat} (h : k ≠ i) (v : α) (t : Tab α) : Tab.get d ((i, v) :: t) k = Tab.get d t k := by
  simp [Tab.get, Tab.find, h.symm]

theorem Tab.get_of_above {t : Tab α} {k : Nat} (h : Tab.above k t) : Tab.get d t k = d := by
  induction t with
  | nil => rfl
  | cons e t ih =>
    have hk : k < e.1 := h e List.mem_cons_self
    exact (Tab.get_cons_ne hk.ne e.2 t).trans (ih fun e he => h e (List.mem_cons_of_mem _ he))

variable [DecidableEq α]

theorem Tab.wf_cons (i : Nat) (v : α) (t : Tab α) :
    Tab.wf d ((i, v) :: t) = true ↔ Tab.above i t ∧ v ≠ d ∧ Tab.wf d t = true := by
  simp only [Tab.wf, Bool.and_eq_true, Tab.rising_cons, List.all_cons, decide_eq_true_eq]
  tauto

/-- A canonical table reads as its default below its first key. -/
theorem Tab.get_lt_head {i k : Nat} {v : α} {t : Tab α} (h : Tab.wf d ((i, v) :: t) = true) (hk : k < i) :
    Tab.get d ((i, v) :: t) k = d := by
  obtain ⟨habove, -, -⟩ := (Tab.wf_cons i v t).mp h
  rw [Tab.get_cons_ne hk.ne]
  exact Tab.get_of_above fun e he => hk.trans (habove e he)

/-- What a canonical table lists first is not what it would read as unlisted. -/
theorem Tab.get_head_ne {i : Nat} {v : α} {t : Tab α} (h : Tab.wf d ((i, v) :: t) = true) :
    Tab.get d ((i, v) :: t) i ≠ d := by
  obtain ⟨-, hv, -⟩ := (Tab.wf_cons i v t).mp h
  rwa [Tab.get_cons_same]

theorem Tab.eq_of_get_eq {t u : Tab α} (ht : Tab.wf d t = true) (hu : Tab.wf d u = true)
    (h : ∀ k, Tab.get d t k = Tab.get d u k) : t = u := by
  induction t generalizing u with
  | nil =>
    cases u with
    | nil => rfl
    | cons f u => exact absurd (h f.1).symm (Tab.get_head_ne hu)
  | cons e t ih =>
    obtain ⟨i, v⟩ := e
    cases u with
    | nil => exact absurd (h i) (Tab.get_head_ne ht)
    | cons f u =>
      obtain ⟨j, w⟩ := f
      rcases lt_trichotomy i j with hij | rfl | hji
      · exact absurd ((h i).trans (Tab.get_lt_head hu hij)) (Tab.get_head_ne ht)
      · obtain ⟨ht', -, hwt⟩ := (Tab.wf_cons i v t).mp ht
        obtain ⟨hu', -, hwu⟩ := (Tab.wf_cons i w u).mp hu
        have hvw : v = w := by simpa only [Tab.get_cons_same] using h i
        have htu : t = u := ih hwt hwu fun k => by
          by_cases hk : k = i
          · rw [hk, Tab.get_of_above ht', Tab.get_of_above hu']
          · simpa only [Tab.get_cons_ne hk] using h k
        rw [hvw, htu]
      · exact absurd ((h j).symm.trans (Tab.get_lt_head ht hji)) (Tab.get_head_ne hu)

end CanonicalTables

/-- Settles O7: by induction on the two tables, whose heads agree. -/
theorem canonicalMemoriesThatReadAlikeAreEqual : Obligations.CanonicalMemoriesThatReadAlikeAreEqual := by
  unfold Obligations.CanonicalMemoriesThatReadAlikeAreEqual
  intro m n hm hn h
  exact Tab.eq_of_get_eq hm hn h

end Sys2Proof.Machine

/-! ## O8: the row commands of a stack controller

A command is a chain of updates. `Within` says that a part of the chain keeps to the frame of the command, so that the
frame of the whole is the chain of the parts' (`Within.trans`); `ErrOnly` says what counting an error changes. What the
updates leave of the bank, its channel and its stack is said beside, one lemma for each. -/

namespace Sys2Proof.Machine

/-! ### Tables that are updated at one key or in every value -/

theorem Tab.find_set_ne {α : Type} [DecidableEq α] (d : α) (t : Tab α) {k j : Nat} (v : α) (h : j ≠ k) :
    Tab.find (Tab.set d t k v) j = Tab.find t j := by
  unfold Tab.set
  split
  · exact Tab.find_erase_ne t h
  · exact Tab.find_put_ne t v h

theorem Tab.find_map_snd {α β : Type} (f : α → β) (t : Tab α) (k : Nat) :
    Tab.find (t.map fun e => (e.1, f e.2)) k = (Tab.find t k).map f := by
  induction t with
  | nil => rfl
  | cons e t ih =>
    obtain ⟨i, v⟩ := e
    simp only [List.map_cons, Tab.find]
    split
    · rfl
    · exact ih

/-! ### Jobs that a command on one bank keeps -/

section Jobs

variable {s t u : State} {b : Nat}

theorem JobsKept.of_jobs (h : t.mem.jobs = s.mem.jobs) : JobsKept s t b :=
  ⟨fun id => by rw [h], fun id _ => by rw [h]⟩

/-- What holds the bank later held it before. -/
def HoldKept (s t : State) (b : Nat) : Prop := ∀ id, (t.bank b).hold = some id → (s.bank b).hold = some id

theorem HoldKept.of_eq (h : (t.bank b).hold = (s.bank b).hold) : HoldKept s t b := fun _ ht => h ▸ ht

theorem HoldKept.trans (h : HoldKept s t b) (h' : HoldKept t u b) : HoldKept s u b := fun id hu => h id (h' id hu)

theorem JobsKept.trans (h : JobsKept s t b) (h' : JobsKept t u b) (hh : HoldKept s t b) : JobsKept s u b :=
  ⟨fun id => (h'.1 id).trans (h.1 id), fun id hid => (h'.2 id fun ht => hid (hh id ht)).trans (h.2 id hid)⟩

/-- A change of the job that holds the bank keeps the jobs if it stays within the job's place on that bank. -/
theorem JobsKept.put {id : Nat} {j j' : Job} (hold : (s.bank b).hold = some id) (hj : Tab.find s.mem.jobs id = some j)
    (hf : j'.apart b = j.apart b) (ht : t.mem.jobs = Tab.put s.mem.jobs id j') : JobsKept s t b := by
  refine ⟨fun k => ?_, fun k hk => ?_⟩
  · by_cases he : k = id
    · simp [ht, he, hj, hf]
    · rw [ht, Tab.find_put_ne _ _ he]
  · have he : k ≠ id := fun he => hk (he ▸ hold)
    rw [ht, Tab.find_put_ne _ _ he]

theorem JobsKept.onHolder {f : Job → Job} (hf : ∀ j, (f j).apart b = j.apart b) : JobsKept s (s.onHolder b f) b := by
  unfold State.onHolder
  split
  · exact .of_jobs rfl
  · rename_i id hold
    unfold State.onJob
    split
    · exact .of_jobs rfl
    · rename_i j hj
      exact .put hold hj (hf j) rfl

/-- A change of the records of one bank is within the job's place on that bank. -/
theorem Job.apart_setBank (j : Job) (b : Nat) {f : JBank → JBank} (hf : ∀ x : JBank, x.mbn = b → (f x).mbn = b) :
    (j.setBank b f).apart b = j.apart b := by
  have hfilter : ∀ bs : List JBank, (bs.map fun x => if x.mbn = b then f x else x).filter (fun x => x.mbn != b)
      = bs.filter fun x => x.mbn != b := by
    intro bs
    induction bs with
    | nil => rfl
    | cons x bs ih =>
      rw [List.map_cons, List.filter_cons, List.filter_cons, ih]
      by_cases hx : x.mbn = b
      · simp [hx, hf x hx]
      · simp [hx]
  simp only [Job.apart, Job.setBank, hfilter]

theorem Job.walkOn_mbn (j : Job) (k : Bank) (n : Nat) (x : JBank) : (j.walkOn k n x).mbn = x.mbn := by
  induction n generalizing x with
  | zero => rfl
  | succ n ih =>
    unfold Job.walkOn
    split
    · rfl
    · split
      · rfl
      · split
        · exact ih _
        · rfl

end Jobs

/-! ### What counting an error changes -/

section Errors

variable {s t u : State} {n : Nat}

/-- The error counters of a stack controller. -/
def errKeys (n : Nat) : List Nat := [odKey (0x3030 + n) 2, odKey (0x3030 + n) 3]

/-- Nothing but the log, stack `n`'s error counters, the rows' counts and the spare requests has changed. -/
structure ErrOnly (s t : State) (n : Nat) : Prop where
  rest : { t with mem := s.mem, mgmt := s.mgmt, crust := s.crust } = s
  od : OdKept s t (errKeys n)
  mem : { t.mem with rowCe := s.mem.rowCe, spareReq := s.mem.spareReq } = s.mem

theorem OdKept.refl (s : State) (ks : List Nat) : OdKept s s ks := ⟨rfl, fun _ _ => rfl⟩

theorem OdKept.trans {ks : List Nat} (h : OdKept s t ks) (h' : OdKept t u ks) : OdKept s u ks :=
  ⟨(congrArg (fun m : Mgmt => { m with od := s.mgmt.od }) h'.1).trans h.1,
    fun k hk => (h'.2 k hk).trans (h.2 k hk)⟩

theorem OdKept.mono {ks ls : List Nat} (h : OdKept s t ks) (hs : ks ⊆ ls) : OdKept s t ls :=
  ⟨h.1, fun k hk => h.2 k fun hks => hk (hs hks)⟩

theorem OdKept.bump (s : State) {i j m w : Nat} {ks : List Nat} (h : odKey i j ∈ ks) : OdKept s (s.bump i j m w) ks :=
  ⟨rfl, fun _ hk => Tab.find_set_ne _ _ _ fun he => hk (he ▸ h)⟩

theorem ErrOnly.refl (s : State) (n : Nat) : ErrOnly s s n := ⟨rfl, .refl s _, rfl⟩

theorem ErrOnly.trans (h : ErrOnly s t n) (h' : ErrOnly t u n) : ErrOnly s u n where
  rest := (congrArg (fun x : State => { x with mem := s.mem, mgmt := s.mgmt, crust := s.crust }) h'.rest).trans h.rest
  od := h.od.trans h'.od
  mem := (congrArg (fun m : Mem => { m with rowCe := s.mem.rowCe, spareReq := s.mem.spareReq }) h'.mem).trans h.mem

theorem ErrOnly.bump (s : State) {j m : Nat} (h : odKey (0x3030 + n) j ∈ errKeys n) :
    ErrOnly s (s.bump (0x3030 + n) j m) n := ⟨rfl, .bump s h, rfl⟩

theorem ErrOnly.stkEvent (s : State) (code : Nat) (a : EvAt) (e : Option EccOut) (m : Nat) :
    ErrOnly s (s.stkEvent code a e m) n := ⟨rfl, .refl s _, rfl⟩

theorem ErrOnly.askSpare (s : State) (b row : Nat) : ErrOnly s (s.askSpare b row) n := by
  unfold State.askSpare
  split
  · exact .refl s n
  · exact ⟨rfl, .refl s _, rfl⟩

theorem countCe_errOnly (s : State) (m : Nat) (a : EvAt) : ErrOnly s (s.countCe m a) a.loc.stk := by
  unfold State.countCe
  dsimp only
  have hcount : ∀ ce, ErrOnly s { s.bump (0x3030 + a.loc.stk) 2 m with
      mem := { (s.bump (0x3030 + a.loc.stk) 2 m).mem with rowCe := ce } } a.loc.stk := fun ce =>
    (ErrOnly.bump s (by simp [errKeys])).trans ⟨rfl, .refl _ _, rfl⟩
  split
  · exact .refl s _
  · split
    · exact ((hcount _).trans (.stkEvent _ _ _ _ _)).trans (.askSpare _ _ _)
    · exact hcount _

theorem countUe_errOnly (s : State) (code : Option Nat) (a : EvAt) (e : EccOut) :
    ErrOnly s (s.countUe code a e) a.loc.stk := by
  have hcount : ErrOnly s (s.bump (0x3030 + a.loc.stk) 3) a.loc.stk := .bump s (by simp [errKeys])
  cases code with
  | none => exact hcount.trans (.askSpare _ _ _)
  | some c => exact (hcount.trans (.stkEvent _ _ _ _ _)).trans (.askSpare _ _ _)

theorem ErrOnly.banks (h : ErrOnly s t n) : t.mem.banks = s.mem.banks := (congrArg Mem.banks h.mem :)
theorem ErrOnly.bank (h : ErrOnly s t n) (x : Nat) : t.bank x = s.bank x := by unfold State.bank; rw [h.banks]
theorem ErrOnly.chan (h : ErrOnly s t n) (x : Nat) : t.chan x = s.chan x := by
  unfold State.chan; rw [show t.mem.chans = s.mem.chans from (congrArg Mem.chans h.mem :)]
theorem ErrOnly.stk (h : ErrOnly s t n) (x : Nat) : t.stk x = s.stk x := by
  unfold State.stk; rw [show t.mem.stkc = s.mem.stkc from (congrArg Mem.stkc h.mem :)]
theorem ErrOnly.jobs (h : ErrOnly s t n) : t.mem.jobs = s.mem.jobs := (congrArg Mem.jobs h.mem :)
theorem ErrOnly.dram (h : ErrOnly s t n) : t.mem.dram = s.mem.dram := (congrArg Mem.dram h.mem :)
theorem ErrOnly.reqs (h : ErrOnly s t n) : t.mem.reqs = s.mem.reqs := (congrArg Mem.reqs h.mem :)
theorem ErrOnly.resps (h : ErrOnly s t n) : t.mem.resps = s.mem.resps := (congrArg Mem.resps h.mem :)

end Errors

/-! ### The frame of a command, put together from its parts -/

section Frames

variable {s t u : State} {b ck n : Nat} {ks ls : List Nat} {err : Bool}

/-- A part of a command keeps to the command's frame, and gives the bank to no job. -/
def Within (b ck n : Nat) (ks : List Nat) (err : Bool) (s t : State) : Prop :=
  StackFrame s t b ck n ks err ∧ HoldKept s t b

theorem Within.refl (s : State) : Within b ck n ks err s s :=
  ⟨⟨rfl, .refl s _, rfl, ⟨fun _ _ => rfl, fun _ _ => rfl, fun _ _ => rfl⟩, .of_jobs rfl, fun _ => ⟨rfl, rfl, rfl⟩⟩,
    .of_eq rfl⟩

theorem Within.trans (h : Within b ck n ks err s t) (h' : Within b ck n ks err t u) : Within b ck n ks err s u := by
  obtain ⟨⟨hrest, hod, hmem, ⟨hbank, hchan, hstk⟩, hjobs, herr⟩, hhold⟩ := h
  obtain ⟨⟨hrest', hod', hmem', ⟨hbank', hchan', hstk'⟩, hjobs', herr'⟩, hhold'⟩ := h'
  refine ⟨⟨?_, hod.trans hod', ?_, ⟨?_, ?_, ?_⟩, hjobs.trans hjobs' hhold, fun he => ?_⟩, hhold.trans hhold'⟩
  · exact (congrArg (fun x : State => { x with mem := s.mem, mgmt := s.mgmt, crust := s.crust }) hrest').trans hrest
  · exact (congrArg (fun m : Mem => { m with
      banks := s.mem.banks, chans := s.mem.chans, stkc := s.mem.stkc, jobs := s.mem.jobs, dram := s.mem.dram
      reqs := s.mem.reqs, resps := s.mem.resps, rowCe := s.mem.rowCe, spareReq := s.mem.spareReq }) hmem').trans hmem
  · exact fun x hx => (hbank' x hx).trans (hbank x hx)
  · exact fun x hx => (hchan' x hx).trans (hchan x hx)
  · exact fun x hx => (hstk' x hx).trans (hstk x hx)
  · obtain ⟨hc, hr, hsp⟩ := herr he
    obtain ⟨hc', hr', hsp'⟩ := herr' he
    exact ⟨hc'.trans hc, hr'.trans hr, hsp'.trans hsp⟩

/-- A change of the stack side that finds no errors keeps to the frame. -/
theorem Within.of_mem {m : Mem}
    (hm : { m with
      banks := s.mem.banks, chans := s.mem.chans, stkc := s.mem.stkc, jobs := s.mem.jobs, dram := s.mem.dram
      reqs := s.mem.reqs, resps := s.mem.resps } = s.mem)
    (hp : PlaceKept s { s with mem := m } b ck n) (hj : JobsKept s { s with mem := m } b)
    (hh : HoldKept s { s with mem := m } b) : Within b ck n ks err s { s with mem := m } :=
  ⟨⟨rfl, .refl s _, (congrArg (fun x : Mem => { x with rowCe := s.mem.rowCe, spareReq := s.mem.spareReq }) hm), hp, hj,
    fun _ => ⟨rfl, (congrArg Mem.rowCe hm :), (congrArg Mem.spareReq hm :)⟩⟩, hh⟩

theorem within_modBank (s : State) {f : Bank → Bank}
    (hf : (f (s.bank b)).hold = (s.bank b).hold ∨ (f (s.bank b)).hold = none) :
    Within b ck n ks err s (s.modBank b f) := by
  have hbank : (s.modBank b f).bank b = f (s.bank b) := State.bank_setBank_same s b _
  refine .of_mem rfl ⟨fun x hx => ?_, fun _ _ => rfl, fun _ _ => rfl⟩ (.of_jobs rfl) fun id hid => ?_
  · exact (State.bank_setBank s b x _).trans (if_neg hx)
  · replace hid : (f (s.bank b)).hold = some id := hbank ▸ hid
    rcases hf with h | h
    · exact h ▸ hid
    · simp [h] at hid

theorem within_modChan (s : State) (f : Chan → Chan) : Within b ck n ks err s (s.modChan ck f) :=
  .of_mem rfl ⟨fun _ _ => rfl, fun x hx => (State.chan_setChan s ck x _).trans (if_neg hx), fun _ _ => rfl⟩
    (.of_jobs rfl) (.of_eq rfl)

theorem within_modStk (s : State) (f : StackC → StackC) : Within b ck n ks err s (s.modStk n f) :=
  .of_mem rfl ⟨fun _ _ => rfl, fun _ _ => rfl, fun x hx => (State.stk_setStk s n x _).trans (if_neg hx)⟩
    (.of_jobs rfl) (.of_eq rfl)

/-- A change of the jobs alone. -/
theorem within_jobs (s : State) {js : Tab Job} (hj : JobsKept s { s with mem := { s.mem with jobs := js } } b) :
    Within b ck n ks err s { s with mem := { s.mem with jobs := js } } :=
  .of_mem rfl ⟨fun _ _ => rfl, fun _ _ => rfl, fun _ _ => rfl⟩ hj (.of_eq rfl)

theorem within_onHolder (s : State) {f : Job → Job} (hf : ∀ j, (f j).apart b = j.apart b) :
    Within b ck n ks err s (s.onHolder b f) := by
  have hj : JobsKept s (s.onHolder b f) b := .onHolder hf
  revert hj
  unfold State.onHolder
  split
  · exact fun _ => .refl s
  · unfold State.onJob
    split
    · exact fun _ => .refl s
    · exact within_jobs s

theorem within_bump (s : State) {i j m w : Nat} (h : odKey i j ∈ ks) : Within b ck n ks err s (s.bump i j m w) := by
  refine ⟨⟨rfl, .bump s ?_, rfl, ⟨fun _ _ => rfl, fun _ _ => rfl, fun _ _ => rfl⟩, .of_jobs rfl,
    fun _ => ⟨rfl, rfl, rfl⟩⟩, .of_eq rfl⟩
  split
  · exact List.mem_cons_of_mem _ (List.mem_cons_of_mem _ h)
  · exact h

/-- Requests that are answered or go on, and a column that is stored. -/
theorem within_served (s : State) (rs : List PortReq) (as : List Resp) (d : Tab Column) :
    Within b ck n ks err s { s with mem := { s.mem with reqs := rs, resps := as, dram := d } } :=
  .of_mem rfl ⟨fun _ _ => rfl, fun _ _ => rfl, fun _ _ => rfl⟩ (.of_jobs rfl) (.of_eq rfl)

/-- Counting errors keeps to the frame of a command that has found some. -/
theorem ErrOnly.within (h : ErrOnly s t n) (hno : err = false → t = s) : Within b ck n ks err s t := by
  cases err with
  | false => rw [hno rfl]; exact .refl s
  | true =>
    refine ⟨⟨h.rest, h.od.mono (by simp [errKeys]), ?_, ⟨?_, ?_, ?_⟩, .of_jobs h.jobs, nofun⟩, .of_eq (by rw [h.bank])⟩
    · exact congrArg (fun m : Mem => { m with
        banks := s.mem.banks, chans := s.mem.chans, stkc := s.mem.stkc, jobs := s.mem.jobs, dram := s.mem.dram
        reqs := s.mem.reqs, resps := s.mem.resps }) h.mem
    · exact fun x _ => h.bank x
    · exact fun x _ => h.chan x
    · exact fun x _ => h.stk x

/-- What a command leaves that keeps the build and the queue is its own next state. -/
theorem keep_eq (hb : t.build = s.build) (hp : t.pending = s.pending) : keep s t = t := by
  unfold keep
  rw [← hb, ← hp]

/-- How a command whose parts keep to its frame is shown to complete. -/
theorem Within.completes {i : Instr} {P : State → Prop} (h : Within b ck n ks err s t) (hx : exec i s = go s t)
    (p : P t) : Completes i s P := by
  obtain ⟨⟨hrest, -⟩, -⟩ := h
  have hkeep : keep s t = t := keep_eq (congrArg State.build hrest :) (congrArg State.pending hrest :)
  exact completes_go hx (hkeep.symm ▸ p)

end Frames

/-! ### What an update of the job that holds a bank leaves -/

theorem Unserved.trans {s t u : State} (h : Unserved s t) (h' : Unserved t u) : Unserved s u := by
  obtain ⟨hd, hq, hr⟩ := h
  obtain ⟨hd', hq', hr'⟩ := h'
  exact ⟨hd'.trans hd, hq'.trans hq, hr'.trans hr⟩

section OnHolder

variable (s : State) (b : Nat) (f : Job → Job)

/-- An update of the job that holds a bank changes the jobs alone. -/
theorem onHolder_eq : ∃ js, s.onHolder b f = { s with mem := { s.mem with jobs := js } } := by
  unfold State.onHolder
  split
  · exact ⟨_, rfl⟩
  · unfold State.onJob
    split
    · exact ⟨_, rfl⟩
    · exact ⟨_, rfl⟩

@[simp] theorem onHolder_bank (x : Nat) : (s.onHolder b f).bank x = s.bank x := by
  obtain ⟨js, h⟩ := onHolder_eq s b f; rw [h]; rfl
@[simp] theorem onHolder_chan (x : Nat) : (s.onHolder b f).chan x = s.chan x := by
  obtain ⟨js, h⟩ := onHolder_eq s b f; rw [h]; rfl
@[simp] theorem onHolder_stk (x : Nat) : (s.onHolder b f).stk x = s.stk x := by
  obtain ⟨js, h⟩ := onHolder_eq s b f; rw [h]; rfl
@[simp] theorem onHolder_ctr (i j : Nat) : (s.onHolder b f).ctr i j = s.ctr i j := by
  obtain ⟨js, h⟩ := onHolder_eq s b f; rw [h]; rfl
theorem onHolder_unserved : Unserved s (s.onHolder b f) := by
  obtain ⟨js, h⟩ := onHolder_eq s b f; rw [h]; exact ⟨rfl, rfl, rfl⟩

end OnHolder

/-! ### Banks and latches -/

section Banks

variable {k : Bank} {l : Nat}

@[simp] theorem modBank_bank (s : State) (b : Nat) (f : Bank → Bank) : (s.modBank b f).bank b = f (s.bank b) :=
  State.bank_setBank_same s b _
@[simp] theorem modChan_chan (s : State) (ck : Nat) (f : Chan → Chan) : (s.modChan ck f).chan ck = f (s.chan ck) :=
  State.chan_setChan_same s ck _
@[simp] theorem modStk_stk (s : State) (n : Nat) (f : StackC → StackC) : (s.modStk n f).stk n = f (s.stk n) :=
  State.stk_setStk_same s n _

@[simp] theorem modBank_chan (s : State) (b : Nat) (f : Bank → Bank) (x : Nat) :
    (s.modBank b f).chan x = s.chan x := rfl
@[simp] theorem modBank_stk (s : State) (b : Nat) (f : Bank → Bank) (x : Nat) :
    (s.modBank b f).stk x = s.stk x := rfl
@[simp] theorem modChan_stk (s : State) (ck : Nat) (f : Chan → Chan) (x : Nat) :
    (s.modChan ck f).stk x = s.stk x := rfl

@[simp] theorem latch_setLatch (k : Bank) (l : Nat) (v : Latch) : (k.setLatch l v).latch l = v := by
  unfold Bank.setLatch Bank.latch
  split <;> rfl

/-- The latches 0 and 1 of a bank are two. -/
@[simp] theorem latch_setLatch_other (hl : l < 2) (v : Latch) : (k.setLatch l v).latch (1 - l) = k.latch (1 - l) := by
  interval_cases l <;> rfl

@[simp] theorem setNrr_latch (k : Bank) (l x : Nat) (q : List Nat) : (k.setNrr l q).latch x = k.latch x := by
  unfold Bank.setNrr
  split <;> rfl
@[simp] theorem setLatch_nrr (k : Bank) (l x : Nat) (v : Latch) : (k.setLatch l v).nrr x = k.nrr x := by
  unfold Bank.setLatch
  split <;> rfl
@[simp] theorem setNrr_nrr (k : Bank) (l : Nat) (q : List Nat) : (k.setNrr l q).nrr l = q := by
  unfold Bank.setNrr Bank.nrr
  split <;> rfl
@[simp] theorem setNrr_nrr_other {l : Nat} (hl : l < 2) (k : Bank) (q : List Nat) :
    (k.setNrr l q).nrr (1 - l) = k.nrr (1 - l) := by
  interval_cases l <;> rfl

end Banks

/-! ### The job that holds the bank goes on -/

/-- What a row-slot command leaves once its effects on the stack side are done: the job that holds the bank goes on. -/
def State.rowDone (s : State) (b t : Nat) : State := (s.jobRowDone b t).jobGoOn b

section RowDone

variable (s : State) (b c : Nat) {ck n : Nat} {ks : List Nat} {err : Bool}

@[simp] theorem rowDone_bank (x : Nat) : (s.rowDone b c).bank x = s.bank x :=
  (onHolder_bank _ _ _ x).trans (onHolder_bank _ _ _ x)
@[simp] theorem rowDone_chan (x : Nat) : (s.rowDone b c).chan x = s.chan x :=
  (onHolder_chan _ _ _ x).trans (onHolder_chan _ _ _ x)
@[simp] theorem rowDone_stk (x : Nat) : (s.rowDone b c).stk x = s.stk x :=
  (onHolder_stk _ _ _ x).trans (onHolder_stk _ _ _ x)
@[simp] theorem rowDone_ctr (i j : Nat) : (s.rowDone b c).ctr i j = s.ctr i j :=
  (onHolder_ctr _ _ _ i j).trans (onHolder_ctr _ _ _ i j)
theorem rowDone_unserved : Unserved s (s.rowDone b c) := (onHolder_unserved _ _ _).trans (onHolder_unserved _ _ _)

theorem jobRowDone_within : Within b ck n ks err s (s.jobRowDone b c) := within_onHolder s fun _ => rfl

theorem jobGoOn_within : Within b ck n ks err s (s.jobGoOn b) :=
  within_onHolder s fun j => Job.apart_setBank j b fun x hx => (Job.walkOn_mbn j _ _ x).trans hx

theorem rowDone_within : Within b ck n ks err s (s.rowDone b c) :=
  (jobRowDone_within s b c).trans (jobGoOn_within _ b)

end RowDone

/-! ### ACT -/

section Act

variable {s t : State} {b ck n : Nat} {ks : List Nat} {err : Bool}

theorem JobsKept.of_unwaited {s t : State} {b : Nat} (h : JobsWaited s t) : JobsKept s t b := by
  refine ⟨fun id => ?_, fun id _ => h id⟩
  have hmap := congrArg (Option.map fun j : Job => j.apart b) (h id)
  simp only [Option.map_map] at hmap
  exact hmap

/-- A job whose ACTs have waited `d` cycles more. -/
def Job.waited (j : Job) (d : Nat) : Job := { j with res := { j.res with tokenWait := j.res.tokenWait + d } }

theorem tokenTick_jobs (s : State) (n c : Nat) : JobsWaited s (s.tokenTick n c) := fun id => by
  have hfind : Tab.find (s.tokenTick n c).mem.jobs id =
      (Tab.find s.mem.jobs id).map fun j => j.waited (s.jobLag j n c) :=
    Tab.find_map_snd (fun j : Job => j.waited (s.jobLag j n c)) s.mem.jobs id
  rw [hfind, Option.map_map]
  rfl

theorem tokenTick_within (s : State) (c : Nat) (hk : odKey (0x3030 + n) 6 ∈ ks) :
    Within b ck n ks err s (s.tokenTick n c) :=
  ((within_jobs s (.of_unwaited (tokenTick_jobs s n c))).trans (within_bump _ hk)).trans (within_modStk _ _)

theorem doAct_within (s : State) (stk ch bank row c : Nat) (hk : odKey (0x3030 + stk) 6 ∈ ks) :
    Within (mbnOf stk ch bank) (chanKey stk ch) stk ks err s (s.doAct stk ch bank row c) := by
  refine ((((tokenTick_within s c hk).trans (within_modStk _ _)).trans (within_modChan _ _))).trans
    (within_modBank _ (.inl ?_))
  unfold Bank.setNrr Bank.setLatch
  split <;> rfl

end Act

section ActEffects

variable (s : State) (stk ch bank row c : Nat)

theorem doAct_bank : (s.doAct stk ch bank row c).bank (mbnOf stk ch bank) =
    ((s.bank (mbnOf stk ch bank)).setLatch (row / 16384)
      { (s.bank (mbnOf stk ch bank)).latch (row / 16384) with
        row := some (s.physRow (mbnOf stk ch bank) row), logRow := row, actAt := some c, rdAt := none
        wrAt := none }).setNrr
      (row / 16384) (((s.bank (mbnOf stk ch bank)).nrr (row / 16384)).filter
          (fun r => r != s.physRow (mbnOf stk ch bank) row)
        ++ drawnRows (Nat.repeat lfsrStep 16 (s.chan (chanKey stk ch)).lfsr) (s.stk stk).k
          (s.physRow (mbnOf stk ch bank) row)) :=
  modBank_bank _ _ _

theorem doAct_chan : (s.doAct stk ch bank row c).chan (chanKey stk ch) =
    { s.chan (chanKey stk ch) with
      lfsr := Nat.repeat lfsrStep 16 (s.chan (chanKey stk ch)).lfsr, rowSlot := some c
      rowAt := some (bank, row / 16384, c) } := by
  unfold State.doAct
  simp only [modBank_chan, modChan_chan]
  rfl

theorem doAct_stk : (s.doAct stk ch bank row c).stk stk =
    { s.stk stk with
      toks := (s.stk stk).toks ++ [c + tokenHold (s.bandOf (mbnOf stk ch bank))]
      waitAt := max (s.stk stk).waitAt c, now := max (s.stk stk).now c } := by
  unfold State.doAct State.takeToken State.tokenTick
  simp only [modBank_stk, modChan_stk, modStk_stk]
  rfl

theorem doAct_unserved : Unserved s (s.doAct stk ch bank row c) := ⟨rfl, rfl, rfl⟩

end ActEffects

theorem exec_act {s : State} {stk ch bank row c : Nat} (hb : s.hasBank stk ch bank = true)
    (hok : s.actOk stk ch bank row c = true) :
    exec (.act stk ch bank row c) s = go s ((s.doAct stk ch bank row c).rowDone (mbnOf stk ch bank) c) := by
  change execAct stk ch bank row c s = _
  unfold execAct
  rw [hb, hok]
  rfl

/-- The row of an ACT lies in one of the two halves. -/
theorem half_of_actOk {s : State} {stk ch bank row c : Nat} (hok : s.actOk stk ch bank row c = true) :
    row / 16384 < 2 := by
  simp only [State.actOk, Bool.and_eq_true, decide_eq_true_eq] at hok
  omega

/-! ### Closing a latch, as the bank sees it -/

section Latches

/-- The corrected errors that a bank in recipe mode holds for a latch (04 R155). -/
def Bank.heldCe (k : Bank) (l : Nat) : Nat :=
  if k.unit.active then (if l = 0 then k.unit.status.ce0 else k.unit.status.ce1) else 0

/-- The corrected errors that are collected when the latch closes. -/
def Bank.openCe (k : Bank) (l : Nat) : Nat := if k.isOpen l then k.heldCe l else 0

/-- A status word with the corrected errors of a latch taken. -/
def UnitStatus.taken (q : UnitStatus) (l : Nat) : UnitStatus :=
  if l = 0 then { q with ce0 := 0 } else { q with ce1 := 0 }

/-- The bank once the corrected errors that it holds for a latch are collected. -/
def Bank.collected (k : Bank) (l : Nat) : Bank :=
  if k.heldCe l = 0 then k else { k with unit := { k.unit with status := k.unit.status.taken l } }

/-- The bank once a latch is closed at cycle `t`. -/
def Bank.closed (k : Bank) (l t : Nat) : Bank :=
  (k.collected l).setLatch l { k.latch l with row := none, preAt := some t }

/-- The bank once a latch is closed that may not have been open. -/
def Bank.shut (k : Bank) (l t : Nat) : Bank := if k.isOpen l then k.closed l t else k

/-- Only the latches and the status word of a bank have changed. -/
def LatchesOnly (k v : Bank) : Prop :=
  { v with l0 := k.l0, l1 := k.l1, unit := { v.unit with status := k.unit.status } } = k

variable {k v w : Bank} {l t : Nat}

theorem LatchesOnly.refl (k : Bank) : LatchesOnly k k := rfl

theorem LatchesOnly.trans (h : LatchesOnly k v) (h' : LatchesOnly v w) : LatchesOnly k w := by
  unfold LatchesOnly at h
  exact (congrArg (fun x : Bank => { x with
    l0 := k.l0, l1 := k.l1, unit := { x.unit with status := k.unit.status } }) h').trans h

theorem LatchesOnly.hold (h : LatchesOnly k v) : v.hold = k.hold := (congrArg Bank.hold h :)

theorem collected_of_heldCe (h : k.heldCe l = 0) : k.collected l = k := if_pos h

theorem collected_only (k : Bank) (l : Nat) : LatchesOnly k (k.collected l) := by
  unfold Bank.collected
  split
  · exact .refl k
  · rfl

theorem setLatch_only (k : Bank) (l : Nat) (v : Latch) : LatchesOnly k (k.setLatch l v) := by
  unfold Bank.setLatch
  split <;> rfl

theorem closed_only (k : Bank) (l t : Nat) : LatchesOnly k (k.closed l t) :=
  (collected_only k l).trans (setLatch_only _ _ _)

theorem shut_only (k : Bank) (l t : Nat) : LatchesOnly k (k.shut l t) := by
  unfold Bank.shut
  split
  · exact closed_only k l t
  · exact .refl k

@[simp] theorem collected_latch (k : Bank) (l x : Nat) : (k.collected l).latch x = k.latch x := by
  unfold Bank.collected
  split <;> rfl

@[simp] theorem setLatch_unit (k : Bank) (l : Nat) (v : Latch) : (k.setLatch l v).unit = k.unit := by
  unfold Bank.setLatch
  split <;> rfl

theorem closed_latch (k : Bank) (l t : Nat) :
    (k.closed l t).latch l = { k.latch l with row := none, preAt := some t } :=
  latch_setLatch _ _ _

theorem closed_latch_other (hl : l < 2) : (k.closed l t).latch (1 - l) = k.latch (1 - l) :=
  (latch_setLatch_other hl _).trans (collected_latch _ _ _)

theorem closed_unit (k : Bank) (l t : Nat) : (k.closed l t).unit = (k.collected l).unit := setLatch_unit _ _ _

theorem closed_ce (h : 0 < k.heldCe l) :
    (if l = 0 then (k.closed l t).unit.status.ce0 else (k.closed l t).unit.status.ce1) = 0 := by
  rw [closed_unit, Bank.collected, if_neg h.ne', UnitStatus.taken]
  split <;> rfl

/-- The mode, and what is held for the other latch, stay as corrected errors are collected. -/
theorem collected_st (k : Bank) (l : Nat) : (k.collected l).unit.status.st = k.unit.status.st := by
  unfold Bank.collected UnitStatus.taken
  split
  · rfl
  · split <;> rfl

@[simp] theorem shut_active (k : Bank) (l t : Nat) : (k.shut l t).unit.active = k.unit.active := by
  unfold Bank.shut
  split
  · rw [closed_unit, SprigUnit.active, collected_st, SprigUnit.active]
  · rfl

theorem shut_isOpen_one (k : Bank) (t : Nat) : (k.shut 0 t).isOpen 1 = k.isOpen 1 := by
  unfold Bank.shut
  split
  · exact congrArg (fun v : Latch => v.row.isSome) (closed_latch_other (l := 0) (by decide))
  · rfl

theorem shut_heldCe_one (k : Bank) (t : Nat) : (k.shut 0 t).heldCe 1 = k.heldCe 1 := by
  have hce : (k.shut 0 t).unit.status.ce1 = k.unit.status.ce1 := by
    unfold Bank.shut
    split
    · rw [closed_unit, Bank.collected]
      split <;> rfl
    · rfl
  simp [Bank.heldCe, hce]

theorem shut_openCe_one (k : Bank) (t : Nat) : (k.shut 0 t).openCe 1 = k.openCe 1 := by
  rw [Bank.openCe, shut_isOpen_one, shut_heldCe_one, Bank.openCe]

theorem shut_isOpen (k : Bank) (l t : Nat) : (k.shut l t).isOpen l = false := by
  unfold Bank.shut
  split
  · rw [Bank.isOpen, closed_latch]
    rfl
  · rename_i h
    exact Bool.eq_false_of_not_eq_true h

theorem shut_isOpen_zero (k : Bank) (t : Nat) : (k.shut 1 t).isOpen 0 = k.isOpen 0 := by
  unfold Bank.shut
  split
  · exact congrArg (fun v : Latch => v.row.isSome) (closed_latch_other (l := 1) (by decide))
  · rfl

theorem shut_unit (h : k.openCe l = 0) : (k.shut l t).unit = k.unit := by
  unfold Bank.openCe at h
  unfold Bank.shut
  split
  · rename_i hopen
    rw [if_pos hopen] at h
    rw [closed_unit, collected_of_heldCe h]
  · rfl

end Latches

/-! ### Collecting corrected errors (04 R155) -/

section Collect

variable {s : State} {b l n ck t : Nat} {ks : List Nat} {err : Bool}

theorem ceOf_eq (s : State) (b l : Nat) : s.ceOf b l = (s.bank b).openCe l := by
  unfold State.ceOf Bank.openCe Bank.heldCe
  cases (s.bank b).unit.active <;> simp

theorem collectCe_of_none (h : (s.bank b).heldCe l = 0) : collectCe s b l = s := by
  unfold collectCe
  dsimp only
  refine if_pos ?_
  unfold Bank.heldCe at h
  cases ha : (s.bank b).unit.active with
  | true => simp_all
  | false => simp

/-- A job with `n` corrected errors more. -/
def Job.sawCe (j : Job) (n : Nat) : Job := { j with res := { j.res with ceTotal := j.res.ceTotal + n } }

theorem jobEv_loc (s : State) (b row col : Nat) : (s.jobEv b row col).loc = ⟨b, row, col⟩ := by
  unfold State.jobEv
  dsimp only
  split <;> rfl

theorem collectCe_of_some (h : (s.bank b).heldCe l ≠ 0) : collectCe s b l =
    ((s.countCe ((s.bank b).heldCe l) (s.jobEv b ((s.bank b).latch l).logRow 0)).modUnit b fun u =>
      { u with status := u.status.taken l }).onHolder b fun j => j.sawCe ((s.bank b).heldCe l) := by
  have ha : (s.bank b).unit.active = true := by
    by_contra ha
    simp [Bank.heldCe, ha] at h
  have hn : (s.bank b).heldCe l = if l = 0 then (s.bank b).unit.status.ce0 else (s.bank b).unit.status.ce1 := by
    simp [Bank.heldCe, ha]
  unfold collectCe State.onHolder State.onJob State.modUnit
  dsimp only
  rw [← hn, ha, if_neg (by simpa using h), modBank_bank, (countCe_errOnly s _ _).bank]
  split <;> rename_i hold
  · rw [hold]; rfl
  · rw [hold]; rfl

theorem collectCe_bank (s : State) (b l : Nat) : (collectCe s b l).bank b = (s.bank b).collected l := by
  by_cases h : (s.bank b).heldCe l = 0
  · rw [collectCe_of_none h, collected_of_heldCe h]
  · rw [collectCe_of_some h, onHolder_bank, State.modUnit, modBank_bank, (countCe_errOnly s _ _).bank, Bank.collected,
      if_neg h]

theorem collectCe_within (hb : b / 1024 = n) (he : err = false → (s.bank b).heldCe l = 0) :
    Within b ck n ks err s (collectCe s b l) := by
  by_cases h : (s.bank b).heldCe l = 0
  · rw [collectCe_of_none h]
    exact .refl s
  · rw [collectCe_of_some h]
    have hcount : ErrOnly s (s.countCe ((s.bank b).heldCe l) (s.jobEv b ((s.bank b).latch l).logRow 0)) n := by
      have hev := countCe_errOnly s ((s.bank b).heldCe l) (s.jobEv b ((s.bank b).latch l).logRow 0)
      rwa [jobEv_loc, Loc.stk, hb] at hev
    exact ((hcount.within fun hf => absurd (he hf) h).trans (within_modBank _ (.inl rfl))).trans
      (within_onHolder _ fun _ => rfl)

theorem collectCe_chan (s : State) (b l x : Nat) : (collectCe s b l).chan x = s.chan x := by
  by_cases h : (s.bank b).heldCe l = 0
  · rw [collectCe_of_none h]
  · rw [collectCe_of_some h, onHolder_chan]
    exact (countCe_errOnly s _ _).chan x

theorem collectCe_stk (s : State) (b l x : Nat) : (collectCe s b l).stk x = s.stk x := by
  by_cases h : (s.bank b).heldCe l = 0
  · rw [collectCe_of_none h]
  · rw [collectCe_of_some h, onHolder_stk]
    exact (countCe_errOnly s _ _).stk x

theorem collectCe_unserved (s : State) (b l : Nat) : Unserved s (collectCe s b l) := by
  by_cases h : (s.bank b).heldCe l = 0
  · rw [collectCe_of_none h]
    exact ⟨rfl, rfl, rfl⟩
  · rw [collectCe_of_some h]
    have he := countCe_errOnly s ((s.bank b).heldCe l) (s.jobEv b ((s.bank b).latch l).logRow 0)
    exact Unserved.trans ⟨he.dram, he.reqs, he.resps⟩ (onHolder_unserved _ _ _)

@[simp] theorem stkEvent_ctr (s : State) (code : Nat) (a : EvAt) (e : Option EccOut) (m i j : Nat) :
    (s.stkEvent code a e m).ctr i j = s.ctr i j := rfl

@[simp] theorem askSpare_ctr (s : State) (x row i j : Nat) : (s.askSpare x row).ctr i j = s.ctr i j := by
  unfold State.askSpare
  split <;> rfl

theorem countCe_ctr (s : State) {m : Nat} (hm : m ≠ 0) (a : EvAt) :
    (s.countCe m a).ctr (0x3030 + a.loc.stk) 2 = (s.ctr (0x3030 + a.loc.stk) 2 + m) % 2 ^ 64 := by
  rw [← ctr_bump]
  unfold State.countCe
  rw [if_neg hm]
  dsimp only
  split
  · rw [askSpare_ctr, stkEvent_ctr]
    rfl
  · rfl

theorem ctr_lt (s : State) (i j : Nat) : s.ctr i j < 2 ^ 64 := (Tab.get 0 s.mgmt.od (odKey i j)).isLt

theorem collectCe_ctr (hb : b / 1024 = n) (l : Nat) :
    (collectCe s b l).ctr (0x3030 + n) 2 = (s.ctr (0x3030 + n) 2 + (s.bank b).heldCe l) % 2 ^ 64 := by
  by_cases h : (s.bank b).heldCe l = 0
  · rw [collectCe_of_none h, h, Nat.add_zero, Nat.mod_eq_of_lt (ctr_lt _ _ _)]
  · have hc := countCe_ctr s h (s.jobEv b ((s.bank b).latch l).logRow 0)
    rw [jobEv_loc, Loc.stk, hb] at hc
    rw [collectCe_of_some h, onHolder_ctr, ← hc]
    rfl

end Collect

/-! ### PRE and PREB -/

section Close

variable {s : State} {b l n ck t : Nat} {ks : List Nat} {err : Bool}

theorem mbnOf_stk {s : State} {stk ch bank : Nat} (h : s.hasBank stk ch bank = true) :
    mbnOf stk ch bank / 1024 = stk := by
  simp only [State.hasBank, Bool.and_eq_true, decide_eq_true_eq] at h
  unfold mbnOf
  omega

theorem closeLatch_bank (s : State) (b l t : Nat) : (s.closeLatch b l t).bank b = (s.bank b).closed l t := by
  unfold State.closeLatch
  rw [modBank_bank, collectCe_bank, collected_latch]
  rfl

theorem closeLatch_within (hb : b / 1024 = n) (he : err = false → (s.bank b).heldCe l = 0) :
    Within b ck n ks err s (s.closeLatch b l t) := by
  refine (collectCe_within hb he).trans (within_modBank _ (.inl ?_))
  rw [(setLatch_only _ _ _).hold]

theorem closeLatch_chan (s : State) (b l t x : Nat) : (s.closeLatch b l t).chan x = s.chan x := collectCe_chan s b l x

theorem closeLatch_stk (s : State) (b l t x : Nat) : (s.closeLatch b l t).stk x = s.stk x := collectCe_stk s b l x

theorem closeLatch_unserved (s : State) (b l t : Nat) : Unserved s (s.closeLatch b l t) := collectCe_unserved s b l

theorem closeLatch_ctr (hb : b / 1024 = n) (l t : Nat) :
    (s.closeLatch b l t).ctr (0x3030 + n) 2 = (s.ctr (0x3030 + n) 2 + (s.bank b).heldCe l) % 2 ^ 64 :=
  collectCe_ctr hb l

theorem closeIfOpen_bank (s : State) (b l t : Nat) : (s.closeIfOpen b l t).bank b = (s.bank b).shut l t := by
  unfold State.closeIfOpen Bank.shut
  split
  · exact closeLatch_bank s b l t
  · rfl

theorem closeIfOpen_within (hb : b / 1024 = n) (he : err = false → (s.bank b).openCe l = 0) :
    Within b ck n ks err s (s.closeIfOpen b l t) := by
  unfold State.closeIfOpen
  split
  · rename_i hopen
    rw [Bank.openCe, if_pos hopen] at he
    exact closeLatch_within hb he
  · exact .refl s

theorem closeIfOpen_chan (s : State) (b l t x : Nat) : (s.closeIfOpen b l t).chan x = s.chan x := by
  unfold State.closeIfOpen
  split
  · exact closeLatch_chan s b l t x
  · rfl

theorem closeIfOpen_stk (s : State) (b l t x : Nat) : (s.closeIfOpen b l t).stk x = s.stk x := by
  unfold State.closeIfOpen
  split
  · exact closeLatch_stk s b l t x
  · rfl

theorem closeIfOpen_unserved (s : State) (b l t : Nat) : Unserved s (s.closeIfOpen b l t) := by
  unfold State.closeIfOpen
  split
  · exact closeLatch_unserved s b l t
  · exact ⟨rfl, rfl, rfl⟩

theorem closeIfOpen_ctr (s : State) (hb : b / 1024 = n) (l t : Nat) :
    (s.closeIfOpen b l t).ctr (0x3030 + n) 2 = (s.ctr (0x3030 + n) 2 + (s.bank b).openCe l) % 2 ^ 64 := by
  unfold State.closeIfOpen Bank.openCe
  split
  · exact closeLatch_ctr hb l t
  · rw [Nat.add_zero, Nat.mod_eq_of_lt (ctr_lt _ _ _)]

/-- The bank once no job holds it. -/
def Bank.released (k : Bank) : Bank := { k with hold := none }

/-- A hold ends only outside recipe mode, and then the job notes that it has left the bank. -/
theorem endHold_cases (s : State) (b : Nat) :
    (s.endHold b = s ∧ ((s.bank b).hold = none ∨ (s.bank b).unit.active = true)) ∨
    ((s.bank b).unit.active = false ∧ ∃ js, JobsKept s { s with mem := { s.mem with jobs := js } } b
      ∧ s.endHold b = State.modBank { s with mem := { s.mem with jobs := js } } b Bank.released) := by
  unfold State.endHold
  dsimp only
  split
  · rename_i hold
    exact .inl ⟨rfl, .inl hold⟩
  · rename_i id hold
    split
    · rename_i ha
      exact .inl ⟨rfl, .inr ha⟩
    · rename_i ha
      refine .inr ⟨Bool.eq_false_of_not_eq_true ha, ?_⟩
      split
      · exact ⟨s.mem.jobs, .of_jobs rfl, rfl⟩
      · rename_i j hj
        refine ⟨_, .put hold hj ?_ rfl, rfl⟩
        exact Job.apart_setBank j b (f := fun x => { x with phase := .left }) fun _ hx => hx

theorem endHold_bank (s : State) (b : Nat) : (s.endHold b).bank b =
    { s.bank b with hold := if (s.bank b).unit.active then (s.bank b).hold else none } := by
  rcases endHold_cases s b with ⟨h, hold | ha⟩ | ⟨ha, js, -, h⟩
  · rw [h, hold, ite_self, ← hold]
  · rw [h, ha]
    rfl
  · rw [h, modBank_bank, ha]
    rfl

theorem endHold_within (s : State) (b : Nat) : Within b ck n ks err s (s.endHold b) := by
  rcases endHold_cases s b with ⟨h, -⟩ | ⟨-, js, hj, h⟩
  · rw [h]
    exact .refl s
  · rw [h]
    exact (within_jobs s hj).trans (within_modBank _ (.inr rfl))

theorem endHold_chan (s : State) (b x : Nat) : (s.endHold b).chan x = s.chan x := by
  rcases endHold_cases s b with ⟨h, -⟩ | ⟨-, js, -, h⟩
  · rw [h]
  · rw [h]
    rfl

theorem endHold_stk (s : State) (b x : Nat) : (s.endHold b).stk x = s.stk x := by
  rcases endHold_cases s b with ⟨h, -⟩ | ⟨-, js, -, h⟩
  · rw [h]
  · rw [h]
    rfl

theorem endHold_ctr (s : State) (b i j : Nat) : (s.endHold b).ctr i j = s.ctr i j := by
  rcases endHold_cases s b with ⟨h, -⟩ | ⟨-, js, -, h⟩
  · rw [h]
  · rw [h]
    rfl

theorem endHold_unserved (s : State) (b : Nat) : Unserved s (s.endHold b) := by
  rcases endHold_cases s b with ⟨h, -⟩ | ⟨-, js, -, h⟩
  · rw [h]
    exact ⟨rfl, rfl, rfl⟩
  · rw [h]
    exact ⟨rfl, rfl, rfl⟩

theorem useRowSlot_within (s : State) (stk ch t : Nat) :
    Within b (chanKey stk ch) n ks err s (s.useRowSlot stk ch t) := within_modChan s _

theorem useRowSlot_unserved (s : State) (stk ch t : Nat) : Unserved s (s.useRowSlot stk ch t) := ⟨rfl, rfl, rfl⟩
@[simp] theorem useRowSlot_bank (s : State) (stk ch t x : Nat) : (s.useRowSlot stk ch t).bank x = s.bank x := rfl
@[simp] theorem useRowSlot_stk (s : State) (stk ch t x : Nat) : (s.useRowSlot stk ch t).stk x = s.stk x := rfl
@[simp] theorem useRowSlot_ctr (s : State) (stk ch t i j : Nat) : (s.useRowSlot stk ch t).ctr i j = s.ctr i j := rfl
@[simp] theorem useRowSlot_chan (s : State) (stk ch t : Nat) : (s.useRowSlot stk ch t).chan (chanKey stk ch) =
    { s.chan (chanKey stk ch) with rowSlot := some t } := modChan_chan s _ _

end Close

/-! ### What PREB leaves -/

/-- What PREB leaves of a state. -/
def State.prebDone (s : State) (stk ch b t : Nat) : State :=
  ((((s.jobRowDone b t).closeIfOpen b 0 t).closeIfOpen b 1 t).endHold b).useRowSlot stk ch t

/-- The bank once both latches are shut. -/
def Bank.shutBoth (k : Bank) (t : Nat) : Bank := (k.shut 0 t).shut 1 t

theorem shutBoth_only (k : Bank) (t : Nat) : LatchesOnly k (k.shutBoth t) := (shut_only k 0 t).trans (shut_only _ 1 t)

theorem shutBoth_isOpen_zero (k : Bank) (t : Nat) : (k.shutBoth t).isOpen 0 = false :=
  (shut_isOpen_zero _ t).trans (shut_isOpen k 0 t)

theorem shutBoth_isOpen_one (k : Bank) (t : Nat) : (k.shutBoth t).isOpen 1 = false := shut_isOpen _ 1 t

theorem shutBoth_active (k : Bank) (t : Nat) : (k.shutBoth t).unit.active = k.unit.active :=
  (shut_active _ 1 t).trans (shut_active k 0 t)

theorem shutBoth_unit {k : Bank} (h0 : k.openCe 0 = 0) (h1 : k.openCe 1 = 0) (t : Nat) : (k.shutBoth t).unit = k.unit :=
  (shut_unit ((shut_openCe_one k t).trans h1)).trans (shut_unit h0)

/-- A hold that ends besides is no other change. -/
theorem LatchesOnly.rehold {k v : Bank} (h : LatchesOnly k v) (o : Option Nat) :
    { ({ v with hold := o } : Bank) with
      l0 := k.l0, l1 := k.l1, hold := k.hold, unit := { v.unit with status := k.unit.status } } = k :=
  congrArg (fun x : Bank => { x with hold := k.hold }) h

section Preb

variable (s : State) (stk ch b t : Nat)

theorem prebDone_bank : (s.prebDone stk ch b t).bank b =
    { (s.bank b).shutBoth t with hold := if (s.bank b).unit.active then (s.bank b).hold else none } := by
  rw [State.prebDone, useRowSlot_bank, endHold_bank, closeIfOpen_bank, closeIfOpen_bank, State.jobRowDone,
    onHolder_bank, ← Bank.shutBoth, shutBoth_active, (shutBoth_only _ t).hold]

theorem prebDone_chan : (s.prebDone stk ch b t).chan (chanKey stk ch) =
    { s.chan (chanKey stk ch) with rowSlot := some t } := by
  rw [State.prebDone, useRowSlot_chan, endHold_chan, closeIfOpen_chan, closeIfOpen_chan, State.jobRowDone,
    onHolder_chan]

theorem prebDone_stk (x : Nat) : (s.prebDone stk ch b t).stk x = s.stk x := by
  rw [State.prebDone, useRowSlot_stk, endHold_stk, closeIfOpen_stk, closeIfOpen_stk, State.jobRowDone, onHolder_stk]

theorem prebDone_unserved : Unserved s (s.prebDone stk ch b t) :=
  (onHolder_unserved _ _ _).trans ((closeIfOpen_unserved _ b 0 t).trans ((closeIfOpen_unserved _ b 1 t).trans
    ((endHold_unserved _ b).trans (useRowSlot_unserved _ stk ch t))))

/-- The errors of both latches are counted, one after the other. -/
theorem prebDone_ctr (hb : b / 1024 = stk) : (s.prebDone stk ch b t).ctr (0x3030 + stk) 2 =
    (s.ctr (0x3030 + stk) 2 + (s.bank b).openCe 0 + (s.bank b).openCe 1) % 2 ^ 64 := by
  rw [State.prebDone, useRowSlot_ctr, endHold_ctr, closeIfOpen_ctr _ hb, closeIfOpen_ctr _ hb, closeIfOpen_bank,
    shut_openCe_one, State.jobRowDone, onHolder_ctr, onHolder_bank, Nat.mod_add_mod]

theorem prebDone_within {ks : List Nat} {err : Bool} (hb : b / 1024 = stk)
    (he : err = false → (s.bank b).openCe 0 = 0 ∧ (s.bank b).openCe 1 = 0) :
    Within b (chanKey stk ch) stk ks err s (s.prebDone stk ch b t) := by
  have hrow : (s.jobRowDone b t).bank b = s.bank b := onHolder_bank _ _ _ _
  refine ((((jobRowDone_within s b t).trans (closeIfOpen_within hb fun hf => ?_)).trans
    (closeIfOpen_within hb fun hf => ?_)).trans (endHold_within _ b)).trans (useRowSlot_within _ stk ch t)
  · rw [hrow]
    exact (he hf).1
  · rw [closeIfOpen_bank, shut_openCe_one, hrow]
    exact (he hf).2

end Preb

theorem exec_pre {s : State} {stk ch bank l c : Nat} (hb : s.hasBank stk ch bank = true) (hl : l < 2)
    (hr : s.chanReady stk ch c = true) (hopen : (s.bank (mbnOf stk ch bank)).isOpen l = true)
    (hslot : since (s.chan (chanKey stk ch)).rowSlot 1 c = true) (htime : s.closeTiming (mbnOf stk ch bank) l c = true)
    (hrun : (s.bank (mbnOf stk ch bank)).running l = false) (hturn : s.preTurn stk ch bank l c = true) :
    exec (.pre stk ch bank l c) s =
      go s (((s.closeLatch (mbnOf stk ch bank) l c).useRowSlot stk ch c).rowDone (mbnOf stk ch bank) c) := by
  change execPre stk ch bank l c s = _
  unfold execPre
  dsimp only
  rw [hb, decide_eq_true hl, hr, hopen, hslot, htime, hrun, hturn]
  rfl

theorem exec_preb {s : State} {stk ch bank c : Nat} (hb : s.hasBank stk ch bank = true)
    (hr : s.chanReady stk ch c = true)
    (hslot : since (s.chan (chanKey stk ch)).rowSlot 1 c = true) (htime : s.prebTiming (mbnOf stk ch bank) c = true)
    (hturn : s.prebTurn stk ch bank c = true) :
    exec (.preb stk ch bank c) s = go s (s.prebDone stk ch (mbnOf stk ch bank) c) := by
  change execPreb stk ch bank c s = _
  unfold execPreb
  dsimp only
  rw [hb, hr, hslot, htime, hturn]
  rfl

/-- Settles O8: each of the three commands is a chain of updates within its frame. -/
theorem rowsOpenAndClose : Obligations.RowsOpenAndClose := by
  unfold Obligations.RowsOpenAndClose
  refine ⟨fun stk ch bank row c s hb hok => ?act, fun stk ch bank l c s hb hl hr hopen hslot htime hrun hturn => ?pre,
    fun stk ch bank c s hb hr hslot htime hturn => ?preb⟩
  case act =>
    have hl : row / 16384 < 2 := half_of_actOk hok
    have hw := (doAct_within s stk ch bank row c (ks := [odKey (0x3030 + stk) 6]) (err := false) (by simp)).trans
      (rowDone_within _ _ c)
    refine hw.completes (exec_act hb hok) ?_
    have hserved : Unserved s ((s.doAct stk ch bank row c).rowDone (mbnOf stk ch bank) c) :=
      (doAct_unserved s stk ch bank row c).trans (rowDone_unserved _ _ _)
    simp only [rowDone_bank, rowDone_chan, rowDone_stk, doAct_bank, doAct_chan, doAct_stk, setNrr_latch, latch_setLatch,
      latch_setLatch_other hl, setNrr_nrr, setNrr_nrr_other hl, setLatch_nrr, true_and]
    refine ⟨?_, hserved, hw.1⟩
    unfold Bank.setNrr Bank.setLatch
    split <;> rfl
  case pre =>
    have hce : s.ceOf (mbnOf stk ch bank) l = (s.bank (mbnOf stk ch bank)).heldCe l :=
      (ceOf_eq s _ l).trans (if_pos hopen)
    have hn := mbnOf_stk hb
    have hclose : Within (mbnOf stk ch bank) (chanKey stk ch) stk [] (decide (0 < s.ceOf (mbnOf stk ch bank) l)) s
        (s.closeLatch (mbnOf stk ch bank) l c) := closeLatch_within hn (by rw [← hce]; simp)
    have hw := (hclose.trans (useRowSlot_within _ stk ch c)).trans (rowDone_within _ _ c)
    refine hw.completes (exec_pre hb hl hr hopen hslot htime hrun hturn) ?_
    have hserved := (closeLatch_unserved s (mbnOf stk ch bank) l c).trans
      ((useRowSlot_unserved _ stk ch c).trans (rowDone_unserved _ (mbnOf stk ch bank) c))
    simp only [rowDone_bank, rowDone_chan, rowDone_stk, rowDone_ctr, useRowSlot_bank, useRowSlot_chan, useRowSlot_stk,
      useRowSlot_ctr, closeLatch_bank, closeLatch_chan, closeLatch_stk, closed_latch, closed_latch_other hl, hce,
      true_and, closeLatch_ctr hn]
    refine ⟨fun h => ?_, fun h => ⟨closed_ce h, trivial⟩, closed_only _ _ _, hserved, hce ▸ hw.1⟩
    rw [closed_unit, collected_of_heldCe h]
  case preb =>
    have hn := mbnOf_stk hb
    have hw : Within (mbnOf stk ch bank) (chanKey stk ch) stk []
        (decide (0 < s.ceOf (mbnOf stk ch bank) 0 + s.ceOf (mbnOf stk ch bank) 1)) s
        (s.prebDone stk ch (mbnOf stk ch bank) c) := prebDone_within s stk ch _ c hn fun hf => by
      simpa [ceOf_eq] using hf
    refine hw.completes (exec_preb hb hr hslot htime hturn) ?_
    dsimp only
    rw [prebDone_bank, prebDone_chan, prebDone_stk, prebDone_ctr _ _ _ _ _ hn, ceOf_eq, ceOf_eq]
    exact ⟨shutBoth_isOpen_zero _ c, shutBoth_isOpen_one _ c, rfl, fun h0 h1 => shutBoth_unit h0 h1 c, fun _ => rfl,
      (shutBoth_only _ c).rehold _, rfl, rfl, prebDone_unserved s stk ch _ c, by simpa only [ceOf_eq] using hw.1⟩

end Sys2Proof.Machine

/-! ## O9: the column commands of a stack controller

RD and WR record a burst, read or store a column, and answer the request or let it keep what was read. The frame is put
together as for the row commands; `Passed` says what the bank keeps meanwhile, `Answered` what the requester hears. -/

namespace Sys2Proof.Machine

/-! ### What a request keeps of its bank as it is served -/

section Passed

variable {s t u : State} {b n m : Nat}

/-- The contents of memory, what is open in bank `b`, its unit and its debt, and stack controller `n` are the same. -/
structure Passed (b n : Nat) (s t : State) : Prop where
  dram : DramSame s t
  isOpen : ∀ l, (t.bank b).isOpen l = (s.bank b).isOpen l
  unit : (t.bank b).unit = (s.bank b).unit
  debt : (t.bank b).debt = (s.bank b).debt
  stk : t.stk n = s.stk n

theorem Passed.trans (h : Passed b n s t) (h' : Passed b n t u) : Passed b n s u where
  dram := h'.dram.trans h.dram
  isOpen l := (h'.isOpen l).trans (h.isOpen l)
  unit := h'.unit.trans h.unit
  debt := h'.debt.trans h.debt
  stk := h'.stk.trans h.stk

theorem Passed.of_bank (hd : t.mem.dram = s.mem.dram) (hb : t.bank b = s.bank b) (hs : t.stk n = s.stk n) :
    Passed b n s t := ⟨hd, fun _ => by rw [hb], by rw [hb], by rw [hb], hs⟩

theorem ErrOnly.passed (h : ErrOnly s t m) : Passed b n s t := .of_bank h.dram (h.bank b) (h.stk n)

end Passed

/-! ### A column burst -/

section Column

variable (s : State) (stk ch bank l t : Nat) (read : Bool)

theorem useColumn_within {ks : List Nat} {err : Bool} :
    Within (mbnOf stk ch bank) (chanKey stk ch) stk ks err s (s.useColumn stk ch bank l t read) :=
  (within_modChan s _).trans (within_modBank _ (.inl (setLatch_only _ _ _).hold))

theorem useColumn_eccAt (x : Loc) : (s.useColumn stk ch bank l t read).eccAt x = s.eccAt x := rfl

/-- The times of a latch say nothing of what is open. -/
theorem setLatch_isOpen (k : Bank) (l x : Nat) {v : Latch} (hv : v.row = (k.latch l).row) :
    (k.setLatch l v).isOpen x = k.isOpen x := by
  unfold Bank.isOpen Bank.setLatch Bank.latch at *
  split <;> split <;> simp_all

theorem useColumn_passed (n : Nat) : Passed (mbnOf stk ch bank) n s (s.useColumn stk ch bank l t read) := by
  refine ⟨rfl, fun x => ?_, ?_, ?_, rfl⟩
  · rw [State.useColumn, modBank_bank]
    exact setLatch_isOpen _ l x (by split <;> rfl)
  · rw [State.useColumn, modBank_bank]
    exact setLatch_unit _ _ _
  · rw [State.useColumn, modBank_bank]
    exact (congrArg Bank.debt (setLatch_only _ _ _) :)

/-- A burst leaves what is lost of the channel as it is. -/
theorem useColumn_isLost (m row : Nat) : (s.useColumn stk ch bank l t read).isLost m row = s.isLost m row := by
  have hchan : ∀ x, ((s.useColumn stk ch bank l t read).chan x).lost = (s.chan x).lost := fun x => by
    rw [State.useColumn, modBank_chan, State.modChan, State.chan_setChan]
    split
    · subst_vars
      rfl
    · rfl
  unfold State.isLost
  rw [hchan]
  rfl

end Column

/-! ### What a read, a merge and scrub's read answer -/

section Reads

variable (s : State)

theorem countedCe_errOnly (a : EvAt) (c : Bool) : ErrOnly s (if c then s.countCe 1 a else s) a.loc.stk := by
  split
  · exact countCe_errOnly s 1 a
  · exact .refl s _

theorem readCol_errOnly (a : EvAt) : ErrOnly s (s.readCol a).1 a.loc.stk := by
  unfold State.readCol
  dsimp only
  split
  · exact .refl s _
  · generalize s.eccAt a.loc = e
    have hce := countedCe_errOnly s a e.ce
    generalize (if e.ce = true then s.countCe 1 a else s) = s1 at hce
    have hue := hce.trans (countUe_errOnly s1 (some 1) a e)
    split
    · exact hue
    · split
      · exact hce
      · exact hce

theorem readCol_clean {a : EvAt} (h : s.isLost a.loc.mbn a.loc.row = true ∨
    ((s.eccAt a.loc).ce = false ∧ (s.eccAt a.loc).ue = false)) : (s.readCol a).1 = s := by
  unfold State.readCol
  dsimp only
  split
  · rfl
  · rename_i hlost
    obtain ⟨hce, hue⟩ := h.resolve_left hlost
    rw [hce, hue]
    split
    · contradiction
    · split <;> rfl

theorem readCol_answer (a : EvAt) : (s.readCol a).2 =
    if s.isLost a.loc.mbn a.loc.row || (s.eccAt a.loc).ue || (s.eccAt a.loc).poison then (4, 0)
    else (0, (s.eccAt a.loc).data) := by
  unfold State.readCol
  dsimp only
  cases s.isLost a.loc.mbn a.loc.row
  · cases (s.eccAt a.loc).ue
    · cases (s.eccAt a.loc).poison <;> rfl
    · rfl
  · rfl

theorem mergeCol_errOnly (a : EvAt) (d : Line) (m : BitVec 64) : ErrOnly s (s.mergeCol a d m).1 a.loc.stk := by
  unfold State.mergeCol
  dsimp only
  generalize s.eccAt a.loc = e
  have hce := countedCe_errOnly s a e.ce
  generalize (if e.ce = true then s.countCe 1 a else s) = s1 at hce
  have hue := hce.trans (countUe_errOnly s1 (some 3) a e)
  have hpoison := hce.trans (.stkEvent s1 3 a (some e) 0)
  split
  · exact hue
  · split
    · exact hpoison
    · exact hce

theorem mergeCol_clean {a : EvAt} (hce : (s.eccAt a.loc).ce = false) (hue : (s.eccAt a.loc).ue = false)
    (hp : (s.eccAt a.loc).poison = false) (d : Line) (m : BitVec 64) : (s.mergeCol a d m).1 = s := by
  simp [State.mergeCol, hce, hue, hp]

theorem mergeCol_answer (a : EvAt) (d : Line) (m : BitVec 64) : (s.mergeCol a d m).2 =
    (mergeLine (s.eccAt a.loc).data d m, (s.eccAt a.loc).ue || (s.eccAt a.loc).poison) := by
  unfold State.mergeCol
  dsimp only
  cases (s.eccAt a.loc).ue
  · cases (s.eccAt a.loc).poison <;> rfl
  · rfl

theorem maintEv_loc (l : Loc) : (s.maintEv l).loc = l := rfl

theorem scrubRead_errOnly (r : PortReq) : ErrOnly s (s.scrubRead r).1 r.loc.stk := by
  have hce := countCe_errOnly s 1 (s.maintEv r.loc)
  have hue := countUe_errOnly s (some 2) (s.maintEv r.loc) (s.eccAt r.loc)
  rw [maintEv_loc] at hce hue
  unfold State.scrubRead
  dsimp only
  generalize s.eccAt r.loc = e at hue
  generalize s.maintEv r.loc = a at hce hue
  split
  · exact .refl s _
  · split
    · exact hue
    · split
      · exact hce
      · split
        · exact hce
        · exact .refl s _

theorem scrubRead_clean {r : PortReq} (h : s.isLost r.mbn r.row = true ∨
    ((s.eccAt r.loc).ce = false ∧ (s.eccAt r.loc).ue = false)) : (s.scrubRead r).1 = s := by
  unfold State.scrubRead
  dsimp only
  split
  · rfl
  · rename_i hlost
    obtain ⟨hce, hue⟩ := h.resolve_left hlost
    simp [hce, hue]

/-- Scrub writes back an uncorrectable column poisoned and a corrected unpoisoned one clean. -/
theorem scrubRead_back {r : PortReq} (hlost : s.isLost r.mbn r.row = false)
    (h : (s.eccAt r.loc).ue = true ∨ ((s.eccAt r.loc).ce = true ∧ (s.eccAt r.loc).poison = false)) :
    (s.scrubRead r).2 = some (if (s.eccAt r.loc).ue then poisonCol (s.eccAt r.loc).data
      else cleanCol (s.eccAt r.loc).data) := by
  unfold State.scrubRead
  dsimp only
  rw [hlost]
  cases hue : (s.eccAt r.loc).ue with
  | true => rfl
  | false =>
    obtain ⟨hce, hp⟩ := h.resolve_left (by simp [hue])
    rw [hce, hp]
    rfl

theorem scrubRead_done {r : PortReq} (h : s.isLost r.mbn r.row = true ∨
    ((s.eccAt r.loc).ue = false ∧ ((s.eccAt r.loc).ce = false ∨ (s.eccAt r.loc).poison = true))) :
    (s.scrubRead r).2 = none := by
  unfold State.scrubRead
  dsimp only
  split
  · rfl
  · rename_i hlost
    obtain ⟨hue, hce | hp⟩ := h.resolve_left hlost
    · simp [hue, hce]
    · simp only [hue, hp]
      cases (s.eccAt r.loc).ce <;> rfl

end Reads

/-! ### The answer of a request -/

section Respond

variable {s t : State} {b n ck : Nat} {ks : List Nat} {err : Bool} {r : PortReq}

/-- A job that has let a request by. -/
def Job.letBy (j : Job) : Job := { j with res := { j.res with interleaved := j.res.interleaved + 1 } }

/-- A request served between two runs is counted on the job that holds the bank, and changes nothing else. -/
theorem interleave_eq (s : State) (b : Nat) :
    s.interleave b = if (s.bank b).unit.status.st = .idle then s.onHolder b Job.letBy else s := by
  unfold State.interleave State.onHolder State.onJob
  dsimp only
  cases (s.bank b).hold with
  | none => simp
  | some id =>
    dsimp only [Option.bind_some]
    cases Tab.find s.mem.jobs id with
    | none => simp
    | some j =>
      by_cases hst : (s.bank b).unit.status.st = .idle
      · simp only [hst, Option.map_some, ne_eq, not_true, if_false, if_true]
        rfl
      · simp [hst]

theorem interleave_within (s : State) (b : Nat) : Within b ck n ks err s (s.interleave b) := by
  rw [interleave_eq]
  split
  · exact within_onHolder s fun _ => rfl
  · exact .refl s

theorem interleave_bank (s : State) (b x : Nat) : (s.interleave b).bank x = s.bank x := by
  rw [interleave_eq]
  split
  · exact onHolder_bank s b _ x
  · rfl

theorem interleave_stk (s : State) (b x : Nat) : (s.interleave b).stk x = s.stk x := by
  rw [interleave_eq]
  split
  · exact onHolder_stk s b _ x
  · rfl

theorem interleave_ctr (s : State) (b i j : Nat) : (s.interleave b).ctr i j = s.ctr i j := by
  rw [interleave_eq]
  split
  · exact onHolder_ctr s b _ i j
  · rfl

theorem interleave_unserved (s : State) (b : Nat) : Unserved s (s.interleave b) := by
  rw [interleave_eq]
  split
  · exact onHolder_unserved s b _
  · exact ⟨rfl, rfl, rfl⟩

/-- The port's entry of the dictionary, and what it counts of the requests answered. -/
def PortReq.portKey (r : PortReq) : Nat := 0x3100 + 8 * r.stk + r.port

/-- The counters of a request's port. -/
def PortReq.portKeys (r : PortReq) : List Nat := [odKey r.portKey 3, odKey r.portKey 4]

/-- A state once an answered request is counted on its port, and once more when it was aged as far as it goes. -/
def State.countServed (s : State) (r : PortReq) : State :=
  if r.step = 3 then (s.bump r.portKey 3).bump r.portKey 4 else s.bump r.portKey 3

theorem respond_eq (s : State) (r : PortReq) (st : Nat) (d : Line) (p : Bool) : s.respond r st d p =
    { (s.interleave r.mbn).countServed r with mem := { (s.interleave r.mbn).mem with
        reqs := (s.interleave r.mbn).mem.reqs.filter fun q => q.id != r.id
        resps := if r.lost then (s.interleave r.mbn).mem.resps
          else { id := r.id, status := st, data := d, poison := p } :: (s.interleave r.mbn).mem.resps } } := by
  unfold State.respond State.countServed
  dsimp only
  split <;> rfl

theorem portKey_ne (r : PortReq) : odKey r.portKey 3 ≠ odKey r.portKey 4 := by
  unfold odKey
  omega

/-- The counters of the ports lie above the error counters of the stacks. -/
theorem portKey_not_err (r : PortReq) (hn : n < 16) {j : Nat} : odKey r.portKey j ∉ errKeys n := by
  simp only [errKeys, odKey, PortReq.portKey, List.mem_cons, List.not_mem_nil, or_false]
  omega

theorem ctr_of_find (h : Tab.find t.mgmt.od (odKey i j) = Tab.find s.mgmt.od (odKey i j)) : t.ctr i j = s.ctr i j := by
  unfold State.ctr Tab.get
  rw [h]

theorem ErrOnly.ctr (h : ErrOnly s t n) {i j : Nat} (hk : odKey i j ∉ errKeys n) : t.ctr i j = s.ctr i j :=
  ctr_of_find (h.od.2 _ hk)

theorem bump_ctr_ne (s : State) {i j k l m w : Nat} (h : odKey i j ≠ odKey k l) :
    (s.bump k l m w).ctr i j = s.ctr i j :=
  ctr_of_find (Tab.find_set_ne _ _ _ h)

theorem countServed_within (s : State) (r : PortReq) : Within b ck n r.portKeys err s (s.countServed r) := by
  have hserved : Within b ck n r.portKeys err s (s.bump r.portKey 3) := within_bump s (by simp [PortReq.portKeys])
  unfold State.countServed
  split
  · exact hserved.trans (within_bump _ (by simp [PortReq.portKeys]))
  · exact hserved

theorem countServed_served (s : State) (r : PortReq) :
    (s.countServed r).ctr r.portKey 3 = (s.ctr r.portKey 3 + 1) % 2 ^ 64 := by
  unfold State.countServed
  split
  · rw [bump_ctr_ne _ (portKey_ne r), ctr_bump]
  · exact ctr_bump _ _ _ _

theorem countServed_aged (s : State) {r : PortReq} (h : r.step ≠ 3) :
    (s.countServed r).ctr r.portKey 4 = s.ctr r.portKey 4 := by
  rw [State.countServed, if_neg h, bump_ctr_ne _ (portKey_ne r).symm]

theorem countServed_rest (s : State) (r : PortReq) : { s.countServed r with mgmt := s.mgmt } = s := by
  unfold State.countServed
  split <;> rfl

end Respond

/-! ### What a served request leaves -/

section Answered

variable {s t u : State} {b n ck : Nat} {ks : List Nat} {err : Bool} {r : PortReq}

theorem respond_within (s : State) (r : PortReq) (st : Nat) (d : Line) (p : Bool) (hb : r.mbn = b) :
    Within b ck n r.portKeys err s (s.respond r st d p) := by
  have hrest : ((s.interleave r.mbn).countServed r).mem = (s.interleave r.mbn).mem :=
    (congrArg State.mem (countServed_rest _ r) :)
  subst hb
  rw [respond_eq, ← hrest]
  exact ((interleave_within s r.mbn).trans (countServed_within _ r)).trans (within_served _ _ _ _)

theorem respond_passed (s : State) (r : PortReq) (st : Nat) (d : Line) (p : Bool) :
    Passed b n s (s.respond r st d p) := by
  rw [respond_eq]
  obtain ⟨hd, -, -⟩ := interleave_unserved s r.mbn
  exact .of_bank hd (interleave_bank s r.mbn b) (interleave_stk s r.mbn n)

/-- Request `r` has been answered with status `st` and data `d`, unless its link is lost, and counted on its port. -/
structure Answered (s t : State) (r : PortReq) (st : Nat) (d : Line) : Prop where
  reqs : t.mem.reqs = s.mem.reqs.filter fun q => q.id != r.id
  resps : t.mem.resps =
    (if r.lost then [] else [({ id := r.id, status := st, data := d, poison := false } : Resp)]) ++ s.mem.resps
  served : t.ctr r.portKey 3 = (s.ctr r.portKey 3 + 1) % 2 ^ 64
  aged : r.step ≠ 3 → t.ctr r.portKey 4 = s.ctr r.portKey 4

theorem respond_answered (s : State) (r : PortReq) (st : Nat) (d : Line) :
    Answered s (s.respond r st d false) r st d := by
  obtain ⟨-, hq, hr⟩ := interleave_unserved s r.mbn
  rw [respond_eq]
  refine ⟨?_, ?_, ?_, fun h => ?_⟩
  · exact congrArg _ hq
  · show (if r.lost = true then _ else _) = _
    rw [hr]
    cases r.lost <;> rfl
  · exact (countServed_served _ r).trans (by rw [interleave_ctr])
  · exact (countServed_aged _ h).trans (by rw [interleave_ctr])

/-- Requests, answers and counters of the ports are as they were when the request is answered. -/
theorem Answered.of_same {st : Nat} {d : Line} (h : Answered t u r st d) (hq : t.mem.reqs = s.mem.reqs)
    (hr : t.mem.resps = s.mem.resps) (hc : ∀ j, t.ctr r.portKey j = s.ctr r.portKey j) : Answered s u r st d where
  reqs := h.reqs.trans (by rw [hq])
  resps := h.resps.trans (by rw [hr])
  served := h.served.trans (by rw [hc])
  aged h3 := (h.aged h3).trans (hc 4)

theorem modReq_within (s : State) (id : Nat) (f : PortReq → PortReq) : Within b ck n ks err s (s.modReq id f) :=
  within_served s _ _ _

theorem modReq_passed (s : State) (id : Nat) (f : PortReq → PortReq) : Passed b n s (s.modReq id f) :=
  .of_bank rfl rfl rfl

theorem hitRun_within (s : State) (c : Nat) : Within b ck n ks err s (s.hitRun b c) := within_modBank s (.inl rfl)

theorem hitRun_unit (s : State) (b c : Nat) : ((s.hitRun b c).bank b).unit = unitStop (s.bank b).unit 4 c :=
  congrArg Bank.unit (modBank_bank s b _)

theorem locPut_within (s : State) (l : Loc) (v : Column) : Within b ck n ks err s (s.locPut l v) :=
  within_served s _ _ _

end Answered

/-! ### The channel's RD and WR -/

section Exec

variable {s : State} {cmd stk ch bank id c : Nat} {w : BitVec 48} {r : PortReq}

/-- The word is a RD or a WR to the bank for the request named, and the column slot takes it. -/
structure ColTaken (cmd : Nat) (s : State) (stk ch bank id c : Nat) (w : BitVec 48) (r : PortReq) : Prop where
  fitted : s.fitted stk = true
  chan : ch < 64
  on : colBank w = some bank
  word : colWord cmd w = true
  found : s.mem.reqs.find? (fun q => q.id == id) = some r
  ok : s.colOk r stk ch bank (colLatch w) (colColumn w) c = true

theorem ColTaken.id_eq (h : ColTaken cmd s stk ch bank id c w r) : r.id = id := by
  simpa using List.find?_some h.found

theorem ColTaken.mbn_eq (h : ColTaken cmd s stk ch bank id c w r) : r.mbn = mbnOf stk ch bank := by
  have hok := h.ok
  simp only [State.colOk, Bool.and_eq_true, beq_iff_eq] at hok
  tauto

theorem ColTaken.stk_lt (h : ColTaken cmd s stk ch bank id c w r) : stk < 16 := by
  have hf := h.fitted
  simp only [State.fitted, Bool.and_eq_true, decide_eq_true_eq] at hf
  exact hf.1

theorem ColTaken.bank_lt (h : ColTaken cmd s stk ch bank id c w r) : bank < 16 := by
  have hmem := List.mem_of_find?_eq_some h.on
  simpa [upTo] using hmem

theorem ColTaken.mbn_stk (h : ColTaken cmd s stk ch bank id c w r) : r.mbn / 1024 = stk := by
  have hch := h.chan
  have hbank := h.bank_lt
  rw [h.mbn_eq, mbnOf]
  omega

/-- A write to a lost segment is held until the fill, and takes no column slot (03 R108). -/
theorem ColTaken.not_lost (h : ColTaken cmd s stk ch bank id c w r) (hk : r.kind ≠ .read) :
    s.isLost (mbnOf stk ch bank) r.row = false := by
  rw [← h.mbn_eq]
  have hok := h.ok
  simp only [State.colOk, State.colReady, State.servable, State.heldByFill, Bool.and_eq_true, Bool.not_eq_true',
    Bool.and_eq_false_iff, bne_eq_false_iff_eq] at hok
  tauto

/-- The state once a column burst of request `r` has been recorded. -/
def State.burst (s : State) (stk ch bank c : Nat) (w : BitVec 48) (read : Bool) : State :=
  s.useColumn stk ch bank (colLatch w) c read

/-- A partial write that keeps the merged bytes for its WR, marked when the column read was bad. -/
def PortReq.merged (q : PortReq) (x : Line × Bool) : PortReq :=
  { q with merge := some { data := x.1, check := 0 }, mergeBad := x.2 }

theorem exec_rd (stk ch : Nat) (w : BitVec 48) (id c : Nat) (s : State) :
    exec (.rd stk ch w id c) s = execRd stk ch w id c s := rfl
theorem exec_wr (stk ch : Nat) (w : BitVec 48) (id c : Nat) (s : State) :
    exec (.wr stk ch w id c) s = execWr stk ch w id c s := rfl

theorem exec_rd_busy (h : ColTaken 1 s stk ch bank id c w r) (hr : r.reads = true)
    (hbusy : (s.bank (mbnOf stk ch bank)).unit.busy = true) : exec (.rd stk ch w id c) s =
      go s (((s.burst stk ch bank c w true).hitRun (mbnOf stk ch bank) c).respond r 4 0 false) := by
  simp [exec_rd, execRd, h.fitted, h.chan, h.on, h.found, h.word, hr, h.ok, hbusy, State.burst]

theorem exec_rd_read (h : ColTaken 1 s stk ch bank id c w r) (hr : r.reads = true)
    (hbusy : (s.bank (mbnOf stk ch bank)).unit.busy = false) (hs : r.scrub = false) (hk : r.kind = .read) :
    exec (.rd stk ch w id c) s =
      go s ((((s.burst stk ch bank c w true).readCol r.at').1).respond r
        ((s.burst stk ch bank c w true).readCol r.at').2.1 ((s.burst stk ch bank c w true).readCol r.at').2.2
        false) := by
  simp [exec_rd, execRd, h.fitted, h.chan, h.on, h.found, h.word, hr, h.ok, hbusy, hs, hk, State.burst]

theorem exec_rd_merge (h : ColTaken 1 s stk ch bank id c w r) (hr : r.reads = true)
    (hbusy : (s.bank (mbnOf stk ch bank)).unit.busy = false) (hs : r.scrub = false)
    {d : Line} {m : BitVec 64} {p : Bool} (hk : r.kind = .write d m p) : exec (.rd stk ch w id c) s =
      go s (((s.burst stk ch bank c w true).mergeCol r.at' d m).1.modReq id fun q =>
        q.merged ((s.burst stk ch bank c w true).mergeCol r.at' d m).2) := by
  simp [exec_rd, execRd, h.fitted, h.chan, h.on, h.found, h.word, hr, h.ok, hbusy, hs, hk, State.burst,
    PortReq.merged]

theorem exec_rd_scrub_done (h : ColTaken 1 s stk ch bank id c w r) (hr : r.reads = true)
    (hbusy : (s.bank (mbnOf stk ch bank)).unit.busy = false) (hs : r.scrub = true)
    (hx : ((s.burst stk ch bank c w true).scrubRead r).2 = none) : exec (.rd stk ch w id c) s =
      go s (((s.burst stk ch bank c w true).scrubRead r).1.respond r 0 0 false) := by
  unfold State.burst at hx
  simp [exec_rd, execRd, h.fitted, h.chan, h.on, h.found, h.word, hr, h.ok, hbusy, hs, hx, State.burst]

theorem exec_rd_scrub_back (h : ColTaken 1 s stk ch bank id c w r) (hr : r.reads = true)
    (hbusy : (s.bank (mbnOf stk ch bank)).unit.busy = false) (hs : r.scrub = true) {v : Column}
    (hx : ((s.burst stk ch bank c w true).scrubRead r).2 = some v) : exec (.rd stk ch w id c) s =
      go s (((s.burst stk ch bank c w true).scrubRead r).1.modReq id fun q => { q with merge := some v }) := by
  unfold State.burst at hx
  simp [exec_rd, execRd, h.fitted, h.chan, h.on, h.found, h.word, hr, h.ok, hbusy, hs, hx, State.burst]

theorem exec_wr_busy (h : ColTaken 2 s stk ch bank id c w r) (hr : r.reads = false) (hv : r.stores ≠ none)
    (hbusy : (s.bank (mbnOf stk ch bank)).unit.busy = true) : exec (.wr stk ch w id c) s =
      go s (((s.burst stk ch bank c w false).hitRun (mbnOf stk ch bank) c).respond r 4 0 false) := by
  obtain ⟨v, hv⟩ := Option.ne_none_iff_exists'.mp hv
  simp [exec_wr, execWr, h.fitted, h.chan, h.on, h.found, hv, h.word, hr, h.ok, hbusy, State.burst]

theorem exec_wr_store (h : ColTaken 2 s stk ch bank id c w r) (hr : r.reads = false) {v : Column}
    (hv : r.stores = some v) (hbusy : (s.bank (mbnOf stk ch bank)).unit.busy = false) : exec (.wr stk ch w id c) s =
      go s (((s.burst stk ch bank c w false).locPut r.loc v).respond r (if r.mergeBad then 4 else 0) 0 false) := by
  simp [exec_wr, execWr, h.fitted, h.chan, h.on, h.found, hv, h.word, hr, h.ok, hbusy, State.burst]

end Exec

/-- A column stored clean or poisoned reads so (02 R50, R51). -/
theorem eccRead_storeCol_poison (d : Line) (p : Bool) : (eccRead (storeCol d p)).poison = p := by
  cases p with
  | false => simp [eccRead, storeCol, cleanCol]
  | true => simp [eccRead, storeCol, poisonCol, poisonPattern]

/-! ### What RD and WR leave -/

section Commands

variable {s : State} {cmd stk ch bank id c : Nat} {w : BitVec 48} {r : PortReq}

theorem Completes.imp {i : Instr} {P Q : State → Prop} (h : Completes i s P) (hi : ∀ t, P t → Q t) :
    Completes i s Q := by
  obtain ⟨t, ht, hp⟩ := h
  exact ⟨t, ht, hi t hp⟩

theorem burst_within (s : State) (stk ch bank c : Nat) (w : BitVec 48) (read : Bool) {ks : List Nat} {err : Bool} :
    Within (mbnOf stk ch bank) (chanKey stk ch) stk ks err s (s.burst stk ch bank c w read) :=
  useColumn_within s stk ch bank _ c read

theorem burst_passed (s : State) (stk ch bank c : Nat) (w : BitVec 48) (read : Bool) (n : Nat) :
    Passed (mbnOf stk ch bank) n s (s.burst stk ch bank c w read) :=
  useColumn_passed s stk ch bank _ c read n

/-- The read of the request's column in bank `b` finds an error. -/
def State.errAt (s : State) (b : Nat) (r : PortReq) : Bool :=
  !s.isLost b r.row && ((s.eccAt r.loc).ce || (s.eccAt r.loc).ue || (s.eccAt r.loc).poison)

theorem clean_of_errAt {b : Nat} (h : s.errAt b r = false) : s.isLost b r.row = true ∨
    (s.eccAt r.loc).ce = false ∧ (s.eccAt r.loc).ue = false ∧ (s.eccAt r.loc).poison = false := by
  unfold State.errAt at h
  cases hl : s.isLost b r.row <;> simp_all

/-- A RD has kept to its frame and has left the bank and its stack as they were. -/
def RdFrame (stk ch bank : Nat) (r : PortReq) (ks : List Nat) (s u : State) : Prop :=
  Within (mbnOf stk ch bank) (chanKey stk ch) stk ks (s.errAt (mbnOf stk ch bank) r) s u
    ∧ Passed (mbnOf stk ch bank) stk s u

theorem RdFrame.parts {ks : List Nat} {u : State} (h : RdFrame stk ch bank r ks s u) :
    DramSame s u ∧ StackFrame s u (mbnOf stk ch bank) (chanKey stk ch) stk ks (s.errAt (mbnOf stk ch bank) r)
      ∧ (∀ l, (u.bank (mbnOf stk ch bank)).isOpen l = (s.bank (mbnOf stk ch bank)).isOpen l)
      ∧ (u.bank (mbnOf stk ch bank)).unit = (s.bank (mbnOf stk ch bank)).unit
      ∧ (u.bank (mbnOf stk ch bank)).debt = (s.bank (mbnOf stk ch bank)).debt ∧ u.stk stk = s.stk stk := by
  obtain ⟨⟨hframe, -⟩, hp⟩ := h
  exact ⟨hp.dram, hframe, hp.isOpen, hp.unit, hp.debt, hp.stk⟩

/-- A burst changes nothing that a read of the column depends on. -/
theorem burst_eccAt (s : State) (stk ch bank c : Nat) (w : BitVec 48) (read : Bool) (l : Loc) :
    (s.burst stk ch bank c w read).eccAt l = s.eccAt l :=
  useColumn_eccAt s stk ch bank _ c read l

theorem ColTaken.burst_isLost (h : ColTaken cmd s stk ch bank id c w r) (read : Bool) :
    (s.burst stk ch bank c w read).isLost r.mbn r.row = s.isLost (mbnOf stk ch bank) r.row := by
  rw [h.mbn_eq]
  exact useColumn_isLost s stk ch bank _ c read _ r.row

/-- A request that is answered once its column has been read: the frame, and what the requester hears. -/
theorem answer_after_read (h : ColTaken 1 s stk ch bank id c w r) {t : State}
    (ht : ErrOnly (s.burst stk ch bank c w true) t r.loc.stk)
    (hclean : s.errAt (mbnOf stk ch bank) r = false → t = s.burst stk ch bank c w true) (st : Nat) (d : Line) :
    RdFrame stk ch bank r r.portKeys s (t.respond r st d false) ∧ Answered s (t.respond r st d false) r st d := by
  have hstk : r.loc.stk = stk := h.mbn_stk
  rw [hstk] at ht
  refine ⟨⟨?_, ?_⟩, ?_⟩
  · exact ((burst_within s stk ch bank c w true).trans (ht.within hclean)).trans
      (respond_within t r st d false h.mbn_eq)
  · exact ((burst_passed s stk ch bank c w true stk).trans ht.passed).trans (respond_passed t r st d false)
  · exact (respond_answered t r st d).of_same ht.reqs ht.resps fun j => ht.ctr (portKey_not_err r h.stk_lt)

/-- A request that keeps what its read gave for its WR: the frame. -/
theorem keep_after_read (h : ColTaken 1 s stk ch bank id c w r) {t : State}
    (ht : ErrOnly (s.burst stk ch bank c w true) t r.loc.stk)
    (hclean : s.errAt (mbnOf stk ch bank) r = false → t = s.burst stk ch bank c w true)
    (f : PortReq → PortReq) {ks : List Nat} :
    RdFrame stk ch bank r ks s (t.modReq id f)
      ∧ (t.modReq id f).mem.reqs = s.mem.reqs.map (fun q => if q.id = id then f q else q)
      ∧ (t.modReq id f).mem.resps = s.mem.resps := by
  have hstk : r.loc.stk = stk := h.mbn_stk
  rw [hstk] at ht
  refine ⟨⟨?_, ?_⟩, ?_, ht.resps⟩
  · exact ((burst_within s stk ch bank c w true).trans (ht.within hclean)).trans (modReq_within t id f)
  · exact ((burst_passed s stk ch bank c w true stk).trans ht.passed).trans (modReq_passed t id f)
  · exact congrArg (List.map _) ht.reqs

theorem rd_read (h : ColTaken 1 s stk ch bank id c w r) (hr : r.reads = true)
    (hbusy : (s.bank (mbnOf stk ch bank)).unit.busy = false) (hs : r.scrub = false) (hk : r.kind = .read) :
    Completes (.rd stk ch w id c) s fun u =>
      RdFrame stk ch bank r r.portKeys s u
        ∧ if s.isLost (mbnOf stk ch bank) r.row || (s.eccAt r.loc).ue || (s.eccAt r.loc).poison then Answered s u r 4 0
          else Answered s u r 0 (s.eccAt r.loc).data := by
  have hclean : s.errAt (mbnOf stk ch bank) r = false →
      ((s.burst stk ch bank c w true).readCol r.at').1 = s.burst stk ch bank c w true := by
    intro he
    refine readCol_clean _ ((clean_of_errAt he).imp ?_ ?_)
    · exact (h.burst_isLost true).trans
    · rintro ⟨hce, hue, -⟩
      exact ⟨(congrArg EccOut.ce (burst_eccAt s stk ch bank c w true r.loc)).trans hce,
        (congrArg EccOut.ue (burst_eccAt s stk ch bank c w true r.loc)).trans hue⟩
  have hdone := answer_after_read h (readCol_errOnly _ r.at') hclean
  have hans : ((s.burst stk ch bank c w true).readCol r.at').2 =
      if s.isLost (mbnOf stk ch bank) r.row || (s.eccAt r.loc).ue || (s.eccAt r.loc).poison then (4, 0)
      else (0, (s.eccAt r.loc).data) := by
    rw [readCol_answer, show r.at'.loc = r.loc from rfl, burst_eccAt, show r.loc.mbn = r.mbn from rfl,
      show r.loc.row = r.row from rfl, h.burst_isLost]
  obtain ⟨hframe, ha⟩ := hdone ((s.burst stk ch bank c w true).readCol r.at').2.1
    ((s.burst stk ch bank c w true).readCol r.at').2.2
  refine hframe.1.completes (exec_rd_read h hr hbusy hs hk) ⟨hframe, ?_⟩
  split
  · rename_i hbad
    rw [hans, if_pos hbad] at ha ⊢
    exact ha
  · rename_i hgood
    rw [hans, if_neg hgood] at ha ⊢
    exact ha

theorem rd_merge (h : ColTaken 1 s stk ch bank id c w r) (hr : r.reads = true)
    (hbusy : (s.bank (mbnOf stk ch bank)).unit.busy = false) (hs : r.scrub = false)
    {d : Line} {m : BitVec 64} {p : Bool} (hk : r.kind = .write d m p) : Completes (.rd stk ch w id c) s fun u =>
      RdFrame stk ch bank r [] s u
        ∧ u.mem.reqs = s.mem.reqs.map (fun q => if q.id = id then
          q.merged (mergeLine (s.eccAt r.loc).data d m, (s.eccAt r.loc).ue || (s.eccAt r.loc).poison) else q)
        ∧ u.mem.resps = s.mem.resps := by
  have hecc := burst_eccAt s stk ch bank c w true r.loc
  have hans : ((s.burst stk ch bank c w true).mergeCol r.at' d m).2 =
      (mergeLine (s.eccAt r.loc).data d m, (s.eccAt r.loc).ue || (s.eccAt r.loc).poison) := by
    rw [mergeCol_answer, show r.at'.loc = r.loc from rfl, hecc]
  have hclean : s.errAt (mbnOf stk ch bank) r = false →
      ((s.burst stk ch bank c w true).mergeCol r.at' d m).1 = s.burst stk ch bank c w true := by
    intro he
    obtain ⟨hce, hue, hp⟩ := (clean_of_errAt he).resolve_left (by simp [h.not_lost (by simp [hk])])
    rw [← hecc] at hce hue hp
    exact mergeCol_clean _ hce hue hp d m
  have hkeep := keep_after_read h (mergeCol_errOnly _ r.at' d m) hclean (fun q => q.merged
    (mergeLine (s.eccAt r.loc).data d m, (s.eccAt r.loc).ue || (s.eccAt r.loc).poison)) (ks := [])
  have hexec := exec_rd_merge h hr hbusy hs hk
  rw [hans] at hexec
  exact hkeep.1.1.completes hexec hkeep

theorem scrub_clean (h : ColTaken 1 s stk ch bank id c w r) (he : s.errAt (mbnOf stk ch bank) r = false) :
    ((s.burst stk ch bank c w true).scrubRead r).1 = s.burst stk ch bank c w true := by
  have hecc := burst_eccAt s stk ch bank c w true r.loc
  refine scrubRead_clean _ ((clean_of_errAt he).imp ?_ ?_)
  · exact (h.burst_isLost true).trans
  · rintro ⟨hce, hue, -⟩
    exact ⟨(congrArg EccOut.ce hecc).trans hce, (congrArg EccOut.ue hecc).trans hue⟩

theorem rd_scrub_back (h : ColTaken 1 s stk ch bank id c w r) (hr : r.reads = true)
    (hbusy : (s.bank (mbnOf stk ch bank)).unit.busy = false) (hs : r.scrub = true)
    (hlost : s.isLost (mbnOf stk ch bank) r.row = false)
    (hbad : (s.eccAt r.loc).ue = true ∨ ((s.eccAt r.loc).ce = true ∧ (s.eccAt r.loc).poison = false)) :
    Completes (.rd stk ch w id c) s fun u =>
      RdFrame stk ch bank r r.portKeys s u
        ∧ u.mem.reqs = s.mem.reqs.map (fun q => if q.id = id then
          { q with merge := some (if (s.eccAt r.loc).ue then poisonCol (s.eccAt r.loc).data
              else cleanCol (s.eccAt r.loc).data) } else q)
        ∧ u.mem.resps = s.mem.resps := by
  have hback : ((s.burst stk ch bank c w true).scrubRead r).2 = some (if (s.eccAt r.loc).ue then
      poisonCol (s.eccAt r.loc).data else cleanCol (s.eccAt r.loc).data) := by
    rw [← burst_eccAt s stk ch bank c w true r.loc] at hbad ⊢
    exact scrubRead_back _ ((h.burst_isLost true).trans hlost) hbad
  have hkeep := keep_after_read h (scrubRead_errOnly _ r) (scrub_clean h) (fun q => { q with
    merge := some (if (s.eccAt r.loc).ue then poisonCol (s.eccAt r.loc).data else cleanCol (s.eccAt r.loc).data) })
    (ks := r.portKeys)
  exact hkeep.1.1.completes (exec_rd_scrub_back h hr hbusy hs hback) hkeep

theorem rd_scrub_done (h : ColTaken 1 s stk ch bank id c w r) (hr : r.reads = true)
    (hbusy : (s.bank (mbnOf stk ch bank)).unit.busy = false) (hs : r.scrub = true)
    (hgood : s.isLost (mbnOf stk ch bank) r.row = true ∨
      ((s.eccAt r.loc).ue = false ∧ ((s.eccAt r.loc).ce = false ∨ (s.eccAt r.loc).poison = true))) :
    Completes (.rd stk ch w id c) s fun u =>
      RdFrame stk ch bank r r.portKeys s u ∧ Answered s u r 0 0 := by
  have hnone : ((s.burst stk ch bank c w true).scrubRead r).2 = none := by
    rw [← burst_eccAt s stk ch bank c w true r.loc, ← h.burst_isLost true] at hgood
    exact scrubRead_done _ hgood
  have hdone := answer_after_read h (scrubRead_errOnly _ r) (scrub_clean h) 0 0
  exact hdone.1.1.completes (exec_rd_scrub_done h hr hbusy hs hnone) hdone

/-- Scrub has nothing to write back exactly where it does not keep a column for its WR. -/
theorem scrub_done_iff (lost ue ce poison : Bool) : (lost = true ∨ (ue = false ∧ (ce = false ∨ poison = true))) ↔
    ¬ (lost = false ∧ (ue = true ∨ (ce = true ∧ poison = false))) := by
  revert lost ue ce poison
  decide

theorem wr_store (h : ColTaken 2 s stk ch bank id c w r) (hr : r.reads = false) {v : Column} (hv : r.stores = some v)
    (hbusy : (s.bank (mbnOf stk ch bank)).unit.busy = false) : Completes (.wr stk ch w id c) s fun u =>
      Within (mbnOf stk ch bank) (chanKey stk ch) stk r.portKeys false s u
        ∧ u.mem.dram = Tab.set blankCol s.mem.dram
          (dramKey (mbnOf stk ch bank) (s.physRow (mbnOf stk ch bank) r.row) r.col) v
        ∧ (∀ l, (u.bank (mbnOf stk ch bank)).isOpen l = (s.bank (mbnOf stk ch bank)).isOpen l)
        ∧ (u.bank (mbnOf stk ch bank)).unit = (s.bank (mbnOf stk ch bank)).unit ∧ u.stk stk = s.stk stk
        ∧ Answered s u r (if r.mergeBad then 4 else 0) 0 := by
  have hb : r.mbn = mbnOf stk ch bank := h.mbn_eq
  have hburst := burst_passed s stk ch bank c w false stk
  generalize ht : (s.burst stk ch bank c w false).locPut r.loc v = t
  have hput : Within (mbnOf stk ch bank) (chanKey stk ch) stk r.portKeys false (s.burst stk ch bank c w false) t :=
    ht ▸ locPut_within _ r.loc v
  have hdone := respond_passed (b := mbnOf stk ch bank) (n := stk) t r (if r.mergeBad then 4 else 0) 0 false
  have hw := ((burst_within s stk ch bank c w false).trans hput).trans
    (respond_within t r (if r.mergeBad then 4 else 0) 0 false hb)
  refine hw.completes (ht ▸ exec_wr_store h hr hv hbusy) ⟨hw, hdone.dram.trans ?_, fun l => (hdone.isOpen l).trans ?_,
    hdone.unit.trans ?_, hdone.stk.trans ?_, ?_⟩
  · rw [← ht, ← hb]
    rfl
  · rw [← ht]
    exact hburst.isOpen l
  · rw [← ht]
    exact hburst.unit
  · rw [← ht]
    exact hburst.stk
  · rw [← ht]
    exact (respond_answered _ r _ 0).of_same rfl rfl fun _ => rfl

theorem hit_run (h : ColTaken cmd s stk ch bank id c w r) (read : Bool) :
    let u := ((s.burst stk ch bank c w read).hitRun (mbnOf stk ch bank) c).respond r 4 0 false
    Within (mbnOf stk ch bank) (chanKey stk ch) stk r.portKeys false s u
      ∧ (u.bank (mbnOf stk ch bank)).unit = unitStop (s.bank (mbnOf stk ch bank)).unit 4 c ∧ DramSame s u
      ∧ Answered s u r 4 0 := by
  have hb : r.mbn = mbnOf stk ch bank := h.mbn_eq
  have hburst := burst_passed s stk ch bank c w read stk
  have hdone := fun t => respond_passed (b := mbnOf stk ch bank) (n := stk) t r 4 0 false
  refine ⟨((burst_within s stk ch bank c w read).trans (hitRun_within _ c)).trans (respond_within _ r 4 0 false hb),
    (hdone _).unit.trans ?_, (hdone _).dram, (respond_answered _ r 4 0).of_same rfl rfl fun _ => rfl⟩
  rw [hitRun_unit, hburst.unit]

end Commands

/-- Settles O9: a RD reads once, and then answers or keeps what it read; a WR stores; a run that is hit stops. -/
theorem columnCommands : Obligations.ColumnCommands := by
  unfold Obligations.ColumnCommands
  refine ⟨fun stk ch bank id c w s r hf hch hon hword hfound hreads hok hbusy => ?rd,
    fun stk ch bank id c w s r v hf hch hon hword hfound hreads hv hok hbusy => ?wr,
    fun stk ch bank id c w s r hf hch hon hword hfound hv hok hbusy => ?busy⟩
  case rd =>
    have h : ColTaken 1 s stk ch bank id c w r := ⟨hf, hch, hon, hword, hfound, hok⟩
    obtain rfl := h.id_eq
    refine ⟨fun hs hk => ?read, fun d m p hs hk => ?merge, fun hs => ?scrub⟩
    case read =>
      refine (rd_read h hreads hbusy hs hk).imp fun u ⟨hframe, ha⟩ => ⟨hframe.parts, ?_⟩
      split at ha
      · exact (if_pos ‹_›).mpr ⟨ha.reqs, ha.resps, ha.served, ha.aged⟩
      · exact (if_neg ‹_›).mpr ⟨ha.reqs, ha.resps, ha.served, ha.aged⟩
    case merge =>
      exact (rd_merge h hreads hbusy hs hk).imp fun u ⟨hframe, hreqs, hresps⟩ => ⟨hframe.parts, hresps, hreqs⟩
    case scrub =>
      have hiff := scrub_done_iff (s.isLost (mbnOf stk ch bank) r.row) (s.eccAt r.loc).ue (s.eccAt r.loc).ce
        (s.eccAt r.loc).poison
      by_cases hback : s.isLost (mbnOf stk ch bank) r.row = false ∧
          ((s.eccAt r.loc).ue = true ∨ ((s.eccAt r.loc).ce = true ∧ (s.eccAt r.loc).poison = false))
      · exact (rd_scrub_back h hreads hbusy hs hback.1 hback.2).imp fun u ⟨hframe, hreqs, hresps⟩ =>
          ⟨hframe.parts, fun _ _ => ⟨hreqs, hresps⟩, fun hdone => absurd hback (hiff.mp hdone)⟩
      · exact (rd_scrub_done h hreads hbusy hs (hiff.mpr hback)).imp fun u ⟨hframe, ha⟩ =>
          ⟨hframe.parts, fun hlost hbad => absurd ⟨hlost, hbad⟩ hback,
            fun _ => ⟨ha.reqs, ha.resps, ha.served, ha.aged⟩⟩
  case wr =>
    have h : ColTaken 2 s stk ch bank id c w r := ⟨hf, hch, hon, hword, hfound, hok⟩
    obtain rfl := h.id_eq
    refine (wr_store h hreads hv hbusy).imp fun u ⟨hw, hdram, hopen, hunit, hstk, ha⟩ =>
      ⟨?_, fun k hk => ?_, fun hm d m p hk => ?_, ha.reqs, ha.resps, hunit, hopen, hstk, hw.1⟩
    · rw [hdram, Tab.get_set_same]
    · rw [hdram, Tab.get_set_ne _ _ _ hk]
    · have hcol : v = storeCol d p := by simpa [PortReq.stores, hm, hk, eq_comm] using hv
      exact ⟨hcol ▸ eccRead_storeCol_poison d p, hcol⟩
  case busy =>
    have h : ColTaken (if r.reads then 1 else 2) s stk ch bank id c w r := ⟨hf, hch, hon, hword, hfound, hok⟩
    obtain rfl := h.id_eq
    have hexec : exec (if r.reads then .rd stk ch w r.id c else .wr stk ch w r.id c) s =
        go s (((s.burst stk ch bank c w r.reads).hitRun (mbnOf stk ch bank) c).respond r 4 0 false) := by
      cases hr : r.reads with
      | true => exact exec_rd_busy (by simpa [hr] using h) hr hbusy
      | false => exact exec_wr_busy (by simpa [hr] using h) hr (hv hr) hbusy
    obtain ⟨hw, hunit, hdram, ha⟩ := hit_run h r.reads
    refine hw.completes hexec ⟨?_, ?_, ?_, ?_, ha.reqs, ha.resps, hdram, hw.1⟩
    all_goals
      rw [hunit]
      rfl

end Sys2Proof.Machine

/-! ## O10: refresh, neighbour refresh, debts, tokens and REF values -/

namespace Sys2Proof.Machine

/-! ### A paused run, as the bank sees it -/

section Pause

/-- The bank once a REFPB at cycle `t` has paused its run, if it has one (03 R99). -/
def Bank.paused (k : Bank) (t : Nat) : Bank :=
  if k.unit.status.st ≠ .running then k
  else { k with unit := { k.unit with
    status := { k.unit.status with st := .paused }
    run := { k.unit.run with
      reopen := (upTo 2).filterMap fun l => if k.isOpen l then some (l, (k.latch l).logRow) else none
      pauses := k.unit.run.pauses + 1, pauseAt := some t, ghosts := k.unit.recent.take 40 } } }

variable {k v : Bank} {t : Nat} {s : State} {b ck n x : Nat} {ks : List Nat} {err : Bool}

/-- Only the status word and the run of a bank's unit have changed. -/
def RunOnly (k v : Bank) : Prop := { v with unit := { v.unit with status := k.unit.status, run := k.unit.run } } = k

theorem paused_only (k : Bank) (t : Nat) : RunOnly k (k.paused t) := by
  unfold Bank.paused RunOnly
  split <;> rfl

theorem paused_of_not_running (h : k.unit.status.st ≠ .running) : k.paused t = k := if_pos h

theorem paused_st (h : k.unit.status.st = .running) : (k.paused t).unit.status.st = .paused := by
  rw [Bank.paused, if_neg (not_not_intro h)]

theorem paused_reopen (h : k.unit.status.st = .running) : (k.paused t).unit.run.reopen =
    (upTo 2).filterMap fun l => if k.isOpen l then some (l, (k.latch l).logRow) else none := by
  rw [Bank.paused, if_neg (not_not_intro h)]

/-- A paused run stays in recipe mode and holds its corrected errors. -/
theorem paused_openCe (k : Bank) (t l : Nat) : (k.paused t).openCe l = k.openCe l := by
  unfold Bank.paused
  split
  · rfl
  · rename_i h
    simp only [ne_eq, not_not] at h
    simp only [Bank.openCe, Bank.isOpen, Bank.latch, Bank.heldCe, SprigUnit.active, h]
    rfl

theorem modBank_unserved (s : State) (b : Nat) (f : Bank → Bank) : Unserved s (s.modBank b f) := ⟨rfl, rfl, rfl⟩

theorem pauseRun_eq (s : State) (b t : Nat) : s.pauseRun b t =
    if (s.bank b).unit.status.st ≠ .running then s
    else (s.modBank b fun k => k.paused t).onHolder b fun j => { j with res := { j.res with pauses := j.res.pauses + 1 } } := by
  unfold State.pauseRun
  dsimp only
  split
  · rfl
  · rename_i h
    simp only [State.modUnit, State.modBank, Bank.paused, if_neg h]

theorem pauseRun_within : Within b ck n ks err s (s.pauseRun b t) := by
  rw [pauseRun_eq]
  split
  · exact .refl s
  · exact (within_modBank s (.inl (congrArg Bank.hold (paused_only _ t) :))).trans (within_onHolder _ fun _ => rfl)

theorem pauseRun_bank (s : State) (b t : Nat) : (s.pauseRun b t).bank b = (s.bank b).paused t := by
  rw [pauseRun_eq]
  split
  · rw [paused_of_not_running ‹_›]
  · rw [onHolder_bank, modBank_bank]

theorem pauseRun_chan (s : State) (b t x : Nat) : (s.pauseRun b t).chan x = s.chan x := by
  rw [pauseRun_eq]
  split
  · rfl
  · rw [onHolder_chan, modBank_chan]

theorem pauseRun_stk (s : State) (b t x : Nat) : (s.pauseRun b t).stk x = s.stk x := by
  rw [pauseRun_eq]
  split
  · rfl
  · rw [onHolder_stk, modBank_stk]

theorem pauseRun_unserved (s : State) (b t : Nat) : Unserved s (s.pauseRun b t) := by
  rw [pauseRun_eq]
  split
  · exact ⟨rfl, rfl, rfl⟩
  · exact Unserved.trans ⟨rfl, rfl, rfl⟩ (onHolder_unserved _ _ _)

end Pause

/-! ### Tokens -/

section Tokens

variable (s : State) (n t : Nat)

@[simp] theorem tokenTick_bank (x : Nat) : (s.tokenTick n t).bank x = s.bank x := rfl
@[simp] theorem tokenTick_chan (x : Nat) : (s.tokenTick n t).chan x = s.chan x := rfl
theorem tokenTick_unserved : Unserved s (s.tokenTick n t) := ⟨rfl, rfl, rfl⟩
theorem tokenTick_stk : (s.tokenTick n t).stk n =
    { s.stk n with waitAt := max (s.stk n).waitAt t, now := max (s.stk n).now t } := modStk_stk _ _ _

@[simp] theorem takeToken_bank (a x : Nat) : (s.takeToken n a).bank x = s.bank x := rfl
@[simp] theorem takeToken_chan (a x : Nat) : (s.takeToken n a).chan x = s.chan x := rfl
@[simp] theorem takeToken_stk (a : Nat) : (s.takeToken n a).stk n = { s.stk n with toks := (s.stk n).toks ++ [a] } :=
  modStk_stk _ _ _
theorem takeToken_unserved (a : Nat) : Unserved s (s.takeToken n a) := ⟨rfl, rfl, rfl⟩

end Tokens

/-! ### REFPB -/

section Refpb

variable (s : State) (stk ch b t : Nat)

/-- The bank once its latches are shut and the next step of its counter is refreshed. -/
def Bank.refreshed (k : Bank) (t : Nat) : Bank :=
  { k.shutBoth t with
    debt := (k.shutBoth t).debt - 1, refStep := ((k.shutBoth t).refStep + 1) % 8196, refAt := some t, band := 0 }

/-- What REFPB leaves of a state, but for the count of forced refreshes. -/
def State.refreshed (s : State) (stk ch b t : Nat) : State :=
  (((((((s.tokenTick stk t).pauseRun b t).takeToken stk (t + tokenHold (s.bandOf b))).closeIfOpen b 0 t).closeIfOpen
    b 1 t).modBank b fun k =>
      { k with debt := k.debt - 1, refStep := (k.refStep + 1) % 8196, refAt := some t, band := 0 })).useRowSlot stk ch t

theorem refreshed_bank : (s.refreshed stk ch b t).bank b = ((s.bank b).paused t).refreshed t := by
  simp only [State.refreshed, useRowSlot_bank, modBank_bank, closeIfOpen_bank, takeToken_bank, pauseRun_bank,
    tokenTick_bank, Bank.refreshed, Bank.shutBoth]

theorem refreshed_chan : (s.refreshed stk ch b t).chan (chanKey stk ch) =
    { s.chan (chanKey stk ch) with rowSlot := some t } := by
  simp only [State.refreshed, useRowSlot_chan, modBank_chan, closeIfOpen_chan, takeToken_chan, pauseRun_chan,
    tokenTick_chan]

theorem refreshed_stk : (s.refreshed stk ch b t).stk stk = { s.stk stk with
    toks := (s.stk stk).toks ++ [t + tokenHold (s.bandOf b)]
    waitAt := max (s.stk stk).waitAt t, now := max (s.stk stk).now t } := by
  simp only [State.refreshed, useRowSlot_stk, modBank_stk, closeIfOpen_stk, takeToken_stk, pauseRun_stk, tokenTick_stk]

theorem refreshed_unserved : Unserved s (s.refreshed stk ch b t) :=
  (tokenTick_unserved s stk t).trans ((pauseRun_unserved _ b t).trans ((takeToken_unserved _ stk _).trans
    ((closeIfOpen_unserved _ b 0 t).trans ((closeIfOpen_unserved _ b 1 t).trans
      ((modBank_unserved _ b _).trans (useRowSlot_unserved _ stk ch t))))))

theorem refreshed_within {ks : List Nat} {err : Bool} (hb : b / 1024 = stk) (hk : odKey (0x3030 + stk) 6 ∈ ks)
    (he : err = false → (s.bank b).openCe 0 = 0 ∧ (s.bank b).openCe 1 = 0) :
    Within b (chanKey stk ch) stk ks err s (s.refreshed stk ch b t) := by
  have hce : ∀ a l, ((((s.tokenTick stk t).pauseRun b t).takeToken stk a).bank b).openCe l = (s.bank b).openCe l :=
    fun a l => by rw [takeToken_bank, pauseRun_bank, tokenTick_bank, paused_openCe]
  refine ((((((tokenTick_within s t hk).trans pauseRun_within).trans (within_modStk _ _)).trans
    (closeIfOpen_within hb fun hf => ?_)).trans (closeIfOpen_within hb fun hf => ?_)).trans
    (within_modBank _ (.inl rfl))).trans (useRowSlot_within _ stk ch t)
  · exact (hce _ 0).trans (he hf).1
  · rw [closeIfOpen_bank, shut_openCe_one]
    exact (hce _ 1).trans (he hf).2

/-- A REFPB counts when it was forced. -/
def State.countForced (s : State) (stk : Nat) (f : Bool) : State := if f then s.bump (0x3030 + stk) 4 else s

end Refpb

section RefreshedBank

variable (k : Bank) (t : Nat)

theorem shut_st (l : Nat) : (k.shut l t).unit.status.st = k.unit.status.st := by
  unfold Bank.shut
  split
  · rw [closed_unit, collected_st]
  · rfl

theorem shutBoth_st : (k.shutBoth t).unit.status.st = k.unit.status.st := (shut_st _ t 1).trans (shut_st k t 0)

theorem shutBoth_run : (k.shutBoth t).unit.run = k.unit.run :=
  (congrArg (fun x : Bank => x.unit.run) (shutBoth_only k t) :)

theorem refreshed_isOpen_zero : (k.refreshed t).isOpen 0 = false := shutBoth_isOpen_zero k t
theorem refreshed_isOpen_one : (k.refreshed t).isOpen 1 = false := shutBoth_isOpen_one k t
theorem refreshed_st : (k.refreshed t).unit.status.st = k.unit.status.st := shutBoth_st k t
theorem refreshed_run : (k.refreshed t).unit.run = k.unit.run := shutBoth_run k t

theorem paused_refreshed_debt : ((k.paused t).refreshed t).debt = k.debt - 1 := by
  have hpause : (k.paused t).debt = k.debt := (congrArg Bank.debt (paused_only k t) :)
  have hshut : ((k.paused t).shutBoth t).debt = (k.paused t).debt := (congrArg Bank.debt (shutBoth_only _ t) :)
  rw [Bank.refreshed, hshut, hpause]

theorem paused_refreshed_refStep : ((k.paused t).refreshed t).refStep = (k.refStep + 1) % 8196 := by
  have hpause : (k.paused t).refStep = k.refStep := (congrArg Bank.refStep (paused_only k t) :)
  have hshut : ((k.paused t).shutBoth t).refStep = (k.paused t).refStep :=
    (congrArg Bank.refStep (shutBoth_only _ t) :)
  rw [Bank.refreshed, hshut, hpause]

/-- Of a bank a refresh changes the latches, its account of refreshes, and the unit's status word. -/
theorem refreshed_only : { k.refreshed t with
    l0 := k.l0, l1 := k.l1, debt := k.debt, refStep := k.refStep, refAt := k.refAt, band := k.band
    unit := { (k.refreshed t).unit with status := k.unit.status } } = k :=
  congrArg (fun x : Bank => { x with refAt := k.refAt, band := k.band, debt := k.debt, refStep := k.refStep })
    (shutBoth_only k t)

/-- A pause before it changes the unit's run besides. -/
theorem paused_refreshed_unit :
    { ((k.paused t).refreshed t).unit with status := k.unit.status, run := k.unit.run } = k.unit := by
  have hrun : RunOnly k (k.paused t) := paused_only k t
  unfold RunOnly at hrun
  have h := congrArg Bank.unit (refreshed_only (k.paused t) t)
  exact (congrArg (fun x : SprigUnit => { x with status := k.unit.status, run := k.unit.run }) h).trans
    (congrArg Bank.unit hrun)

theorem paused_refreshed_rest : { (k.paused t).refreshed t with
    l0 := k.l0, l1 := k.l1, debt := k.debt, refStep := k.refStep, refAt := k.refAt, band := k.band
    unit := k.unit } = k := by
  have hrefresh := refreshed_only (k.paused t) t
  have hpause : RunOnly k (k.paused t) := paused_only k t
  generalize (k.paused t).refreshed t = v at hrefresh ⊢
  unfold RunOnly at hpause
  rw [← hrefresh] at hpause
  exact (congrArg (fun x : Bank => { x with
    l0 := k.l0, l1 := k.l1, debt := k.debt, refStep := k.refStep, refAt := k.refAt, band := k.band
    unit := k.unit }) hpause :)

end RefreshedBank

theorem countForced_within {s : State} {b ck n : Nat} {ks : List Nat} {err : Bool} (f : Bool)
    (hk : odKey (0x3030 + n) 4 ∈ ks) : Within b ck n ks err s (s.countForced n f) := by
  cases f with
  | false => exact .refl s
  | true => exact within_bump s hk

theorem countForced_mem (s : State) (n : Nat) (f : Bool) : (s.countForced n f).mem = s.mem := by cases f <;> rfl

theorem countForced_ctr (s : State) (n : Nat) (f : Bool) :
    (s.countForced n f).ctr (0x3030 + n) 4 = (s.ctr (0x3030 + n) 4 + if f then 1 else 0) % 2 ^ 64 := by
  cases f with
  | false => exact (Nat.mod_eq_of_lt (ctr_lt s _ _)).symm
  | true => exact ctr_bump s _ _ 1

theorem exec_refpb {s : State} {stk ch bank t : Nat} (hb : s.hasBank stk ch bank = true)
    (hready : s.chanReady stk ch t = true) (hdue : s.refDue (mbnOf stk ch bank) = true)
    (htime : s.refTiming stk ch bank t = true)
    (htok : s.tokenFree stk (s.forced (mbnOf stk ch bank)) = true) (hturn : s.refTurn stk ch bank t = true) :
    exec (.refpb stk ch bank t) s =
      go s ((s.refreshed stk ch (mbnOf stk ch bank) t).countForced stk (s.forced (mbnOf stk ch bank))) := by
  change execRefpb stk ch bank t s = _
  unfold execRefpb
  dsimp only
  rw [hb, hready, hdue, htime, htok, hturn]
  rfl

theorem bank_of_mem {s t : State} (h : t.mem = s.mem) (x : Nat) : t.bank x = s.bank x := by unfold State.bank; rw [h]
theorem chan_of_mem {s t : State} (h : t.mem = s.mem) (x : Nat) : t.chan x = s.chan x := by unfold State.chan; rw [h]
theorem stk_of_mem {s t : State} (h : t.mem = s.mem) (x : Nat) : t.stk x = s.stk x := by unfold State.stk; rw [h]
theorem Unserved.of_mem {s t : State} (h : t.mem = s.mem) : Unserved s t := by unfold Unserved; simp only [h, and_self]

/-- A counter that a command of the frame does not name. -/
theorem StackFrame.ctr {s t : State} {b ck n i j : Nat} {ks : List Nat} {err : Bool} (h : StackFrame s t b ck n ks err)
    (hk : odKey i j ∉ if err then odKey (0x3030 + n) 2 :: odKey (0x3030 + n) 3 :: ks else ks) : t.ctr i j = s.ctr i j := by
  obtain ⟨-, ⟨-, hod⟩, -⟩ := h
  exact ctr_of_find (hod _ hk)

/-! ### NRR -/

section Bump

variable (s : State) (i j m w x : Nat)

@[simp] theorem bump_bank : (s.bump i j m w).bank x = s.bank x := rfl
@[simp] theorem bump_chan : (s.bump i j m w).chan x = s.chan x := rfl
@[simp] theorem bump_stk : (s.bump i j m w).stk x = s.stk x := rfl
@[simp] theorem modStk_bank (f : StackC → StackC) : (s.modStk i f).bank x = s.bank x := rfl
@[simp] theorem modStk_chan (f : StackC → StackC) : (s.modStk i f).chan x = s.chan x := rfl

end Bump

section Nrr

variable (s : State) (stk ch bank half t : Nat) (rest : List Nat)

/-- What NRR leaves of a state: the neighbour rows `rest` of the half still wait. -/
def State.nrrDone : State :=
  (((((s.tokenTick stk t).takeToken stk (t + tokenHold (s.bandOf (mbnOf stk ch bank)))).modChan (chanKey stk ch) fun c =>
    { c with rowSlot := some t, rowAt := some (bank, half, t) }).modBank (mbnOf stk ch bank) fun k =>
      (k.setLatch half { k.latch half with nrrAt := some t }).setNrr half rest)).bump (0x3030 + stk) 5

theorem setNrr_hold (k : Bank) (l : Nat) (q : List Nat) : (k.setNrr l q).hold = k.hold := by
  unfold Bank.setNrr
  split <;> rfl

theorem nrrDone_within : Within (mbnOf stk ch bank) (chanKey stk ch) stk
    [odKey (0x3030 + stk) 5, odKey (0x3030 + stk) 6] false s (s.nrrDone stk ch bank half t rest) := by
  refine ((((tokenTick_within s t (by simp)).trans (within_modStk _ _)).trans (within_modChan _ _)).trans
    (within_modBank _ (.inl ?_))).trans (within_bump _ (by simp))
  rw [setNrr_hold, (setLatch_only _ _ _).hold]

theorem nrrDone_bank : (s.nrrDone stk ch bank half t rest).bank (mbnOf stk ch bank) =
    ((s.bank (mbnOf stk ch bank)).setLatch half
      { (s.bank (mbnOf stk ch bank)).latch half with nrrAt := some t }).setNrr half rest := by
  rw [State.nrrDone, bump_bank, modBank_bank]
  rfl

theorem nrrDone_chan : (s.nrrDone stk ch bank half t rest).chan (chanKey stk ch) =
    { s.chan (chanKey stk ch) with rowSlot := some t, rowAt := some (bank, half, t) } := by
  rw [State.nrrDone, bump_chan, modBank_chan, modChan_chan, takeToken_chan, tokenTick_chan]

theorem nrrDone_stk : (s.nrrDone stk ch bank half t rest).stk stk = { s.stk stk with
    toks := (s.stk stk).toks ++ [t + tokenHold (s.bandOf (mbnOf stk ch bank))]
    waitAt := max (s.stk stk).waitAt t, now := max (s.stk stk).now t } := by
  rw [State.nrrDone, bump_stk, modBank_stk, modChan_stk, takeToken_stk, tokenTick_stk]

theorem tokenTick_ctr {j : Nat} (hj : j < 256) (h : j ≠ 6) :
    (s.tokenTick stk t).ctr (0x3030 + stk) j = s.ctr (0x3030 + stk) j :=
  ctr_setCtr_ne _ (by decide) hj (by simpa using h)

theorem nrrDone_ctr :
    (s.nrrDone stk ch bank half t rest).ctr (0x3030 + stk) 5 = (s.ctr (0x3030 + stk) 5 + 1) % 2 ^ 64 := by
  rw [State.nrrDone, ctr_bump]
  exact congrArg (fun n => (n + 1) % 2 ^ 64) (tokenTick_ctr s stk t (by decide) (by decide))

theorem nrrDone_unserved : Unserved s (s.nrrDone stk ch bank half t rest) := ⟨rfl, rfl, rfl⟩

theorem exec_nrr {s : State} {stk ch bank half t row : Nat} {rest : List Nat} (hb : s.hasBank stk ch bank = true)
    (hl : half < 2) (hq : (s.bank (mbnOf stk ch bank)).nrr half = row :: rest) (hready : s.chanReady stk ch t = true)
    (htime : s.rowTiming stk ch bank half t = true) (htok : s.tokenFree stk (decide (3 ≤ rest.length)) = true)
    (hturn : s.nrrTurn stk ch bank half t = true) :
    exec (.nrr stk ch bank half t) s = go s (s.nrrDone stk ch bank half t rest) := by
  change execNrr stk ch bank half t s = _
  unfold execNrr
  dsimp only
  rw [hb, decide_eq_true hl, hq]
  dsimp only
  rw [hready, htime, htok, hturn]
  rfl

end Nrr

/-! ### Refresh intervals -/

section Interval

variable (s : State) (stk b e t : Nat)

/-- An interval of a bank has ended at `e`, by cycle `t`. -/
def State.intervalDone : State :=
  (s.modBank b fun k => { k with debt := k.debt + 1, intAt := e }).modStk stk fun k => { k with now := max k.now t }

theorem intervalDone_within {ck : Nat} : Within b ck stk [] false s (s.intervalDone stk b e t) :=
  (within_modBank s (.inl rfl)).trans (within_modStk _ _)

theorem intervalDone_bank : (s.intervalDone stk b e t).bank b = { s.bank b with debt := (s.bank b).debt + 1, intAt := e } := by
  rw [State.intervalDone, modStk_bank, modBank_bank]

theorem intervalDone_stk : (s.intervalDone stk b e t).stk stk = { s.stk stk with now := max (s.stk stk).now t } :=
  modStk_stk _ _ _

theorem exec_refreshInterval {s : State} {stk ch bank t : Nat} (hb : s.hasBank stk ch bank = true)
    (hon : s.stackOn stk = true) (hsr : (s.chan (chanKey stk ch)).sr = false)
    (he : (s.bank (mbnOf stk ch bank)).intAt + refInterval (s.bandOf (mbnOf stk ch bank)) ≤ 8 * t) :
    exec (.refreshInterval stk ch bank t) s = go s (s.intervalDone stk (mbnOf stk ch bank)
      ((s.bank (mbnOf stk ch bank)).intAt + refInterval (s.bandOf (mbnOf stk ch bank))) t) := by
  change execRefreshInterval stk ch bank t s = _
  unfold execRefreshInterval
  dsimp only
  rw [hb, hon, hsr, decide_eq_true he]
  rfl

end Interval

/-! ### Tokens that come back -/

section Return

variable (s : State) (stk t : Nat)

theorem dropBack_append {p r : List Nat} {a t : Nat} (hp : ∀ x ∈ p, t < x) (ha : a ≤ t) :
    dropBack t (p ++ a :: r) = p ++ r := by
  induction p with
  | nil => exact if_pos ha
  | cons x p ih =>
    have hx : ¬ x ≤ t := Nat.not_le.mpr (hp x (by simp))
    rw [List.cons_append, dropBack, if_neg hx, ih fun y hy => hp y (by simp [hy]), List.cons_append]

/-- The first token that is back by cycle `t` has come back. -/
def State.tokenBack : State := (s.tokenTick stk t).modStk stk fun k => { k with toks := dropBack t k.toks }

theorem tokenBack_within {b ck : Nat} : Within b ck stk [odKey (0x3030 + stk) 6] false s (s.tokenBack stk t) :=
  (tokenTick_within s t (by simp)).trans (within_modStk _ _)

theorem tokenBack_stk : (s.tokenBack stk t).stk stk = { s.stk stk with
    toks := dropBack t (s.stk stk).toks, waitAt := max (s.stk stk).waitAt t, now := max (s.stk stk).now t } := by
  rw [State.tokenBack, modStk_stk, tokenTick_stk]

theorem tokenBack_jobs : JobsWaited s (s.tokenBack stk t) := tokenTick_jobs s stk t

theorem exec_tokenReturn {s : State} {stk t a : Nat} {p r : List Nat} (hf : s.fitted stk = true)
    (htoks : (s.stk stk).toks = p ++ a :: r) (ha : a ≤ t) :
    exec (.tokenReturn stk t) s = go s (s.tokenBack stk t) := by
  have hany : ((s.stk stk).toks.any fun a => decide (a ≤ t)) = true := by simp [htoks, ha]
  change execTokenReturn stk t s = _
  unfold execTokenReturn
  rw [hf, hany]
  rfl

end Return

/-! ### Values put into force (15 R501) -/

section Values

variable {s t : State} {i j k l : Nat} {v : Word}

theorem Tab.find_set_same {α : Type} [DecidableEq α] (d : α) (t : Tab α) (k : Nat) (v : α) :
    Tab.find (Tab.set d t k v) k = if v = d then none else some v := by
  unfold Tab.set
  split
  · exact Tab.find_erase_same t k
  · exact Tab.find_put_same t k v

/-- An entry's value depends on what is listed for it, the build and the straps alone. -/
theorem odVal_of_find (hf : Tab.find t.mgmt.od (odKey i j) = Tab.find s.mgmt.od (odKey i j)) (hb : t.build = s.build)
    (hc : t.crust.straps = s.crust.straps) : t.odVal i j = s.odVal i j := by
  unfold State.odVal
  rw [hf, odRow_congr hb]
  simp only [odDefault_congr hb hc]

/-- The entries of two states read the same. -/
def SameValues (s t : State) : Prop :=
  t.mgmt.od = s.mgmt.od ∧ t.build = s.build ∧ t.crust.straps = s.crust.straps

theorem SameValues.odVal (h : SameValues s t) (i j : Nat) : t.odVal i j = s.odVal i j := odVal_congr h.1 h.2.1 h.2.2 i j

theorem odPut_odVal_same (s : State) (i j : Nat) (v : Word) : (s.odPut i j v).odVal i j = v := by
  have hrow : ∀ d, (s.odPut i j v).odDefault d i j = s.odDefault d i j := fun d => odDefault_congr rfl rfl d i j
  unfold State.odVal
  rw [odRow_congr (t := s.odPut i j v) (s := s) rfl]
  simp only [hrow]
  by_cases hk : odKey i j = odKey 0x8010 2
  · simp [State.odPut, hk]
  · simp only [State.odPut, if_neg hk, Tab.find_set_same]
    split_ifs with hv
    · exact hv.symm
    · rfl

theorem odPut_find_ne (s : State) (v : Word) (h : odKey k l ≠ odKey i j) :
    Tab.find (s.odPut i j v).mgmt.od (odKey k l) = Tab.find s.mgmt.od (odKey k l) := by
  unfold State.odPut
  dsimp only
  split
  · exact Tab.find_put_ne _ _ h
  · exact Tab.find_set_ne _ _ _ h

theorem odPut_od_congr (h : SameValues s t) (i j : Nat) (v : Word) :
    (t.odPut i j v).mgmt.od = (s.odPut i j v).mgmt.od := by
  obtain ⟨ho, hb, hc⟩ := h
  simp only [State.odPut, ho, odRow_congr hb, odDefault_congr hb hc]

theorem odKey_div_mod (k : Nat) : odKey (k / 256) (k % 256) = k := by
  unfold odKey
  omega

/-- One pending write put into force. -/
def State.putPend (s : State) (e : Pend) : State :=
  match e.blob with
  | some b => { s with mgmt := { s.mgmt with blobs := Tab.put s.mgmt.blobs e.key b } }
  | none => s.odPut (e.key / 256) (e.key % 256) e.val

theorem applyPends_cons (s : State) (e : Pend) (es : List Pend) : s.applyPends (e :: es) = (s.putPend e).applyPends es :=
  rfl

/-- Only values and blobs of the dictionary have changed. -/
def ValuesOnly (s t : State) : Prop := { t with mgmt := { t.mgmt with od := s.mgmt.od, blobs := s.mgmt.blobs } } = s

theorem putPend_only (s : State) (e : Pend) : ValuesOnly s (s.putPend e) := by
  unfold State.putPend
  split <;> rfl

theorem ValuesOnly.trans {u : State} (h : ValuesOnly s t) (h' : ValuesOnly t u) : ValuesOnly s u := by
  unfold ValuesOnly at h h' ⊢
  exact (congrArg (fun x : State => { x with mgmt := { x.mgmt with od := s.mgmt.od, blobs := s.mgmt.blobs } }) h').trans h

theorem applyPends_only (s : State) (es : List Pend) : ValuesOnly s (s.applyPends es) := by
  induction es generalizing s with
  | nil => rfl
  | cons e es ih => exact (putPend_only s e).trans (ih (s.putPend e))

theorem ValuesOnly.build (h : ValuesOnly s t) : t.build = s.build := (congrArg State.build h :)
theorem ValuesOnly.crust (h : ValuesOnly s t) : t.crust = s.crust := (congrArg State.crust h :)

theorem putPend_odVal_ne (s : State) (e : Pend) (h : e.key ≠ odKey i j) : (s.putPend e).odVal i j = s.odVal i j := by
  unfold State.putPend
  split
  · exact odVal_congr rfl rfl rfl i j
  · refine odVal_of_find (odPut_find_ne s _ ?_) rfl rfl
    rw [odKey_div_mod]
    exact h.symm

/-- An entry that no write names keeps its value. -/
theorem applyPends_odVal_ne (s : State) {es : List Pend} (h : ∀ e ∈ es, e.key ≠ odKey i j) :
    (s.applyPends es).odVal i j = s.odVal i j := by
  induction es generalizing s with
  | nil => rfl
  | cons e es ih =>
    rw [applyPends_cons, ih (s.putPend e) fun x hx => h x (by simp [hx]), putPend_odVal_ne s e (h e (by simp))]

/-- An entry that one write names takes its value. -/
theorem applyPends_odVal_mem (s : State) {es : List Pend} {e : Pend} (he : e ∈ es) (hb : e.blob = none)
    (hone : ∀ x ∈ es, x.key = e.key → x = e) : (s.applyPends es).odVal (e.key / 256) (e.key % 256) = e.val := by
  induction es generalizing s with
  | nil => simp at he
  | cons x es ih =>
    rw [applyPends_cons]
    by_cases hmem : e ∈ es
    · exact ih (s.putPend x) hmem fun y hy => hone y (by simp [hy])
    · obtain rfl : e = x := by simpa [hmem] using he
      rw [applyPends_odVal_ne]
      · simp only [State.putPend, hb]
        exact odPut_odVal_same s _ _ _
      · intro y hy hkey
        rw [odKey_div_mod] at hkey
        exact hmem (hone y (by simp [hy]) hkey ▸ hy)

theorem putPend_od_congr (h : SameValues s t) (e : Pend) : SameValues (s.putPend e) (t.putPend e) := by
  obtain ⟨ho, hb, hc⟩ := h
  have hs := putPend_only s e
  have ht := putPend_only t e
  refine ⟨?_, ?_, ?_⟩
  · unfold State.putPend
    split
    · exact ho
    · exact odPut_od_congr ⟨ho, hb, hc⟩ _ _ _
  · rw [ht.build, hs.build, hb]
  · rw [ht.crust, hs.crust, hc]

/-- What the writes put into force depends on the values before alone. -/
theorem applyPends_od_congr (h : SameValues s t) (es : List Pend) : SameValues (s.applyPends es) (t.applyPends es) := by
  induction es generalizing s t with
  | nil => exact h
  | cons e es ih => exact ih (putPend_od_congr h e)

end Values

/-! ### Boundaries of a set (15 R504) -/

section Sets

variable (s : State) (p : Nat) (es : List Pend)

/-- Only the values, the pending writes and the sets' records of the dictionary have changed, and the log. -/
structure SetsOnly (s t : State) : Prop where
  rest : { t with mgmt := s.mgmt, crust := s.crust } = s
  mgmt : { t.mgmt with
    od := s.mgmt.od, blobs := s.mgmt.blobs, pend := s.mgmt.pend, sets := s.mgmt.sets } = s.mgmt
  crust : { t.crust with
    log := s.crust.log, logSeq := s.crust.logSeq, plog := s.crust.plog, plogNext := s.crust.plogNext } = s.crust

variable {s} in
theorem SetsOnly.trans {t u : State} (h : SetsOnly s t) (h' : SetsOnly t u) : SetsOnly s u where
  rest := (congrArg (fun x : State => { x with mgmt := s.mgmt, crust := s.crust }) h'.rest).trans h.rest
  mgmt := (congrArg (fun m : Mgmt => { m with
    od := s.mgmt.od, blobs := s.mgmt.blobs, pend := s.mgmt.pend, sets := s.mgmt.sets }) h'.mgmt).trans h.mgmt
  crust := (congrArg (fun c : Crust => { c with
    log := s.crust.log, logSeq := s.crust.logSeq, plog := s.crust.plog, plogNext := s.crust.plogNext }) h'.crust).trans
      h.crust

theorem modSet_only (f : CfgSet → CfgSet) : SetsOnly s (s.modSet p f) := ⟨rfl, rfl, rfl⟩
theorem setPend_only : SetsOnly s (s.setPend es) := ⟨rfl, rfl, rfl⟩
theorem log_only (ws : List Word) : SetsOnly s (s.log ws) := ⟨rfl, rfl, rfl⟩

variable {s} in
theorem ValuesOnly.sets {t : State} (h : ValuesOnly s t) : SetsOnly s t where
  rest := (congrArg (fun x : State => { x with mgmt := s.mgmt, crust := s.crust }) h :)
  mgmt := (congrArg (fun x : State => { x.mgmt with pend := s.mgmt.pend, sets := s.mgmt.sets }) h :)
  crust := (congrArg (fun x : State => { x.crust with
    log := s.crust.log, logSeq := s.crust.logSeq, plog := s.crust.plog, plogNext := s.crust.plogNext }) h :)

variable {s} in
theorem SetsOnly.straps {t : State} (h : SetsOnly s t) : t.crust.straps = s.crust.straps :=
  (congrArg Crust.straps h.crust :)
variable {s} in
theorem SetsOnly.build {t : State} (h : SetsOnly s t) : t.build = s.build := (congrArg State.build h.rest :)

variable {s} in
theorem SetsOnly.values {t : State} (h : SetsOnly s t) (ho : t.mgmt.od = s.mgmt.od) : SameValues s t :=
  ⟨ho, h.build, h.straps⟩

@[simp] theorem modSet_cfgSet (f : CfgSet → CfgSet) : (s.modSet p f).cfgSet p = f (s.cfgSet p) :=
  State.cfgSet_setCfgSet_same s p _
@[simp] theorem log_cfgSet (ws : List Word) (q : Nat) : (s.log ws).cfgSet q = s.cfgSet q := rfl

/-- What a boundary puts into force of the writes `es` is what they put into force at once. -/
theorem commitSet_values : SameValues (s.applyPends es) (s.commitSet p es) := by
  unfold State.commitSet
  split
  · rename_i h
    subst h
    exact ⟨rfl, rfl, rfl⟩
  · refine applyPends_od_congr ?_ es
    exact ⟨rfl, rfl, rfl⟩

theorem commitSet_only : SetsOnly s (s.commitSet p es) := by
  unfold State.commitSet
  split
  · exact modSet_only s p _
  · exact ((modSet_only s p _).trans (setPend_only _ _)).trans (applyPends_only _ es).sets

theorem commitSet_version : ((s.commitSet p es).cfgSet p).version = (s.cfgSet p).version := by
  unfold State.commitSet
  split
  · rw [modSet_cfgSet]
  · generalize hx : (s.modSet p fun g => { g with
      st := .applying
      prev := s.mgmt.od.filter fun kv => s.versionedKey p kv.1
      prevBlob := s.mgmt.blobs.filter fun kv => s.versionedKey p kv.1 }) = x
    have hsets : ∀ l, ((x.setPend l).applyPends es).mgmt.sets = x.mgmt.sets := fun l =>
      (congrArg (fun x : State => x.mgmt.sets) (applyPends_only (x.setPend l) es) :)
    show (Tab.get {} ((x.setPend _).applyPends es).mgmt.sets p).version = _
    rw [hsets, ← State.cfgSet, ← hx, modSet_cfgSet]

/-- The writes put into force wait no longer. -/
theorem commitSet_pend : (s.commitSet p es).mgmt.pend = s.mgmt.pend.filter fun e => !es.any fun x => x.key == e.key := by
  unfold State.commitSet
  split
  · rename_i h
    subst h
    exact (List.filter_eq_self.mpr fun _ _ => rfl).symm
  · exact (congrArg (fun x : State => x.mgmt.pend) (applyPends_only _ es) :)

theorem restSet_only : SetsOnly s (s.restSet p) := modSet_only s p _

theorem endCommit_only (c : Bool) : SetsOnly s (s.endCommit p c) := by
  unfold State.endCommit
  cases c with
  | false => exact restSet_only s p
  | true => exact ((modSet_only s p _).trans (log_only _ _)).trans (restSet_only _ p)

theorem endCommit_od (c : Bool) : (s.endCommit p c).mgmt.od = s.mgmt.od := by cases c <;> rfl
theorem endCommit_pend (c : Bool) : (s.endCommit p c).mgmt.pend = s.mgmt.pend := by cases c <;> rfl

theorem endCommit_version (c : Bool) : ((s.endCommit p c).cfgSet p).version =
    if c then ((s.cfgSet p).version + 1) % 2 ^ 32 else (s.cfgSet p).version := by
  cases c <;> simp [State.endCommit, State.restSet, wrapAdd]

theorem endCommit_prevVer : ((s.endCommit p true).cfgSet p).prevVer = some (s.cfgSet p).version := by
  simp [State.endCommit, State.restSet]

end Sets

/-! ### The refresh window (03 R629) -/

section Window

variable (s : State) (stk : Nat)

/-- A pending REF write. -/
def Pend.ref (e : Pend) : Bool := e.cls == 1

/-- A pending write once stack `stk` has taken it, if it is a REF write. -/
def Pend.takenBy (stk : Nat) (e : Pend) : Pend :=
  if e.ref then { e with todo := e.todo &&& ~~~BitVec.ofNat 16 (2 ^ stk) } else e

/-- The REF writes that wait for a stack. -/
def State.refsFor : List Pend := s.mgmt.pend.filter fun e => e.ref && e.todo.getLsbD stk

/-- The stack takes the values of these writes. -/
def State.takeRefs (es : List Pend) : State :=
  es.foldl (fun s e => s.modStk stk fun k => k.take (e.key % 256) e.val.toNat) s

/-- The state once a stack has taken the REF writes that wait for it. -/
def State.windowed : State :=
  (s.takeRefs stk (s.refsFor stk)).setPend ((s.takeRefs stk (s.refsFor stk)).mgmt.pend.map (Pend.takenBy stk))

/-- The REF writes that wait for no stack in use. -/
def State.refsDone : List Pend := s.mgmt.pend.filter fun e => e.ref && (e.todo &&& ~~~s.mem.fenced) == 0

/-- Only the controller of one stack has changed. -/
structure StkOnly (s t : State) (stk : Nat) : Prop where
  rest : { t with mem := { t.mem with stkc := s.mem.stkc } } = s
  stk : ∀ k, k ≠ stk → t.stk k = s.stk k

variable {s stk} in
theorem StkOnly.trans {t u : State} (h : StkOnly s t stk) (h' : StkOnly t u stk) : StkOnly s u stk where
  rest := (congrArg (fun x : State => { x with mem := { x.mem with stkc := s.mem.stkc } }) h'.rest).trans h.rest
  stk k hk := (h'.stk k hk).trans (h.stk k hk)

theorem modStk_only (f : StackC → StackC) : StkOnly s (s.modStk stk f) stk :=
  ⟨rfl, fun k hk => (State.stk_setStk s stk k _).trans (if_neg hk)⟩

theorem takeRefs_only (es : List Pend) : StkOnly s (s.takeRefs stk es) stk := by
  induction es generalizing s with
  | nil => exact ⟨rfl, fun _ _ => rfl⟩
  | cons e es ih => exact (modStk_only s stk _).trans (ih _)

theorem takeRefs_stk (es : List Pend) : (s.takeRefs stk es).stk stk =
    es.foldl (fun k e => k.take (e.key % 256) e.val.toNat) (s.stk stk) := by
  induction es generalizing s with
  | nil => rfl
  | cons e es ih =>
    show ((s.modStk stk _).takeRefs stk es).stk stk = _
    rw [ih, modStk_stk]
    rfl

theorem windowed_stk : (s.windowed stk).stk stk =
    (s.refsFor stk).foldl (fun k e => k.take (e.key % 256) e.val.toNat) (s.stk stk) := takeRefs_stk s stk _

theorem windowed_stk_ne {k : Nat} (h : k ≠ stk) : (s.windowed stk).stk k = s.stk k := (takeRefs_only s stk _).stk k h

/-- A refresh window changes the stack's controller and the writes that wait. -/
theorem windowed_rest : { s.windowed stk with
    mem := { (s.windowed stk).mem with stkc := s.mem.stkc }
    mgmt := { (s.windowed stk).mgmt with pend := s.mgmt.pend } } = s :=
  (congrArg (fun x : State => { x with mgmt := { x.mgmt with pend := s.mgmt.pend } })
    (takeRefs_only s stk (s.refsFor stk)).rest :)

theorem windowed_pend : (s.windowed stk).mgmt.pend = s.mgmt.pend.map (Pend.takenBy stk) := by
  have hpend : (s.takeRefs stk (s.refsFor stk)).mgmt.pend = s.mgmt.pend :=
    (congrArg (fun x : State => x.mgmt.pend) (takeRefs_only s stk _).rest :)
  exact congrArg (List.map (Pend.takenBy stk)) hpend

theorem windowed_fenced : (s.windowed stk).mem.fenced = s.mem.fenced :=
  (congrArg (fun x : State => x.mem.fenced) (windowed_rest s stk) :)

theorem windowed_values : SameValues s (s.windowed stk) :=
  ⟨(congrArg (fun x : State => x.mgmt.od) (windowed_rest s stk) :),
    (congrArg (fun x : State => x.build) (windowed_rest s stk) :),
    (congrArg (fun x : State => x.crust.straps) (windowed_rest s stk) :)⟩

theorem windowed_sets : (s.windowed stk).mgmt.sets = s.mgmt.sets :=
  (congrArg (fun x : State => x.mgmt.sets) (windowed_rest s stk) :)

theorem exec_refreshWindow {s : State} {stk : Nat} (hf : s.fitted stk = true) (hon : s.stackOn stk = true)
    (hnap : (s.stk stk).nap = false) : exec (.refreshWindow stk) s =
      go s (if (s.windowed stk).refsDone = [] then s.windowed stk
        else ((s.windowed stk).commitSet 16 (s.windowed stk).refsDone).endCommit 16 true) := by
  have htaken : (fun e : Pend => if e.cls = 1 then { e with todo := e.todo &&& ~~~BitVec.ofNat 16 (2 ^ stk) } else e)
      = Pend.takenBy stk := by
    funext e
    simp [Pend.takenBy, Pend.ref]
  change execRefreshWindow stk s = _
  unfold execRefreshWindow
  rw [hf, hon, hnap, htaken]
  rfl

/-- The state after a refresh window, with what no stack waits for in force. -/
def State.afterWindow : State :=
  if (s.windowed stk).refsDone = [] then s.windowed stk
  else ((s.windowed stk).commitSet 16 (s.windowed stk).refsDone).endCommit 16 true

theorem windowDone_only :
    SetsOnly (s.windowed stk) (((s.windowed stk).commitSet 16 (s.windowed stk).refsDone).endCommit 16 true) :=
  (commitSet_only _ 16 _).trans (endCommit_only _ 16 true)

theorem afterWindow_only : SetsOnly (s.windowed stk) (s.afterWindow stk) := by
  unfold State.afterWindow
  split
  · exact ⟨rfl, rfl, rfl⟩
  · exact windowDone_only s stk

theorem refsDone_windowed : (s.windowed stk).refsDone =
    (s.mgmt.pend.map (Pend.takenBy stk)).filter fun e => e.ref && (e.todo &&& ~~~s.mem.fenced) == 0 := by
  rw [State.refsDone, windowed_pend, windowed_fenced]

variable {s stk}

theorem SetsOnly.mem {t : State} (h : SetsOnly s t) : t.mem = s.mem := (congrArg State.mem h.rest :)

theorem afterWindow_waits (h : (s.windowed stk).refsDone = []) :
    (s.afterWindow stk).mgmt = { s.mgmt with pend := s.mgmt.pend.map (Pend.takenBy stk) }
      ∧ { s.afterWindow stk with mem := s.mem, mgmt := s.mgmt } = s := by
  have hrest := windowed_rest s stk
  rw [State.afterWindow, if_pos h]
  refine ⟨?_, (congrArg (fun x : State => { x with mem := s.mem, mgmt := s.mgmt }) hrest :)⟩
  rw [← windowed_pend]
  exact (congrArg (fun x : State => { x.mgmt with pend := (s.windowed stk).mgmt.pend }) hrest :)

theorem afterWindow_version (h : (s.windowed stk).refsDone ≠ []) :
    ((s.afterWindow stk).cfgSet 16).version = ((s.cfgSet 16).version + 1) % 2 ^ 32 := by
  have hset : (s.windowed stk).cfgSet 16 = s.cfgSet 16 := by
    unfold State.cfgSet
    rw [windowed_sets]
  rw [State.afterWindow, if_neg h, endCommit_version, if_pos rfl, commitSet_version, hset]

theorem afterWindow_pend (h : (s.windowed stk).refsDone ≠ []) : (s.afterWindow stk).mgmt.pend =
    (s.mgmt.pend.map (Pend.takenBy stk)).filter fun e => !(s.windowed stk).refsDone.any fun x => x.key == e.key := by
  rw [State.afterWindow, if_neg h, endCommit_pend, commitSet_pend, windowed_pend]

theorem afterWindow_odVal (h : (s.windowed stk).refsDone ≠ []) (i j : Nat) :
    (s.afterWindow stk).odVal i j = ((s.windowed stk).applyPends (s.windowed stk).refsDone).odVal i j := by
  have hend := (endCommit_only ((s.windowed stk).commitSet 16 (s.windowed stk).refsDone) 16 true).values
    (endCommit_od _ 16 true)
  rw [State.afterWindow, if_neg h, hend.odVal, (commitSet_values _ 16 _).odVal]

end Window

/-- How a command that changes neither build nor queue is shown to complete. -/
theorem completes_kept {i : Instr} {s t : State} {P : State → Prop} (hx : exec i s = go s t)
    (hb : t.build = s.build) (hp : t.pending = s.pending) (p : P t) : Completes i s P :=
  completes_go hx ((keep_eq hb hp).symm ▸ p)

/-- Everything of the stack side but a bank and a stack controller is as it was. -/
theorem intervalDone_rest (s : State) (stk b e t : Nat) {ck : Nat} :
    (s.intervalDone stk b e t).chan ck = s.chan ck ∧ (s.intervalDone stk b e t).mem.jobs = s.mem.jobs
      ∧ Unserved s (s.intervalDone stk b e t) := by
  refine ⟨?_, rfl, rfl, rfl, rfl⟩
  rw [State.intervalDone, modStk_chan, modBank_chan]

/-- The clause of the end of a refresh interval. -/
theorem refreshInterval_completes {s : State} {stk ch bank t e : Nat} (hb : s.hasBank stk ch bank = true)
    (hon : s.stackOn stk = true) (hsr : (s.chan (chanKey stk ch)).sr = false)
    (he : (s.bank (mbnOf stk ch bank)).intAt + refInterval (s.bandOf (mbnOf stk ch bank)) = e) (hle : e ≤ 8 * t) :
    Completes (.refreshInterval stk ch bank t) s fun u =>
      u.bank (mbnOf stk ch bank)
          = { s.bank (mbnOf stk ch bank) with debt := (s.bank (mbnOf stk ch bank)).debt + 1, intAt := e }
        ∧ u.stk stk = { s.stk stk with now := max (s.stk stk).now t }
        ∧ u.chan (chanKey stk ch) = s.chan (chanKey stk ch) ∧ u.mem.jobs = s.mem.jobs ∧ Unserved s u
        ∧ StackFrame s u (mbnOf stk ch bank) (chanKey stk ch) stk [] false := by
  subst he
  have hw := intervalDone_within s stk (mbnOf stk ch bank)
    ((s.bank (mbnOf stk ch bank)).intAt + refInterval (s.bandOf (mbnOf stk ch bank))) t (ck := chanKey stk ch)
  obtain ⟨hchan, hjobs, hun⟩ := intervalDone_rest s stk (mbnOf stk ch bank)
    ((s.bank (mbnOf stk ch bank)).intAt + refInterval (s.bandOf (mbnOf stk ch bank))) t (ck := chanKey stk ch)
  refine hw.completes (exec_refreshInterval hb hon hsr hle) ⟨?_, ?_, hchan, hjobs, hun, hw.1⟩
  · rw [intervalDone_bank]
  · rw [intervalDone_stk]


theorem modStk_stk_ne (s : State) {stk k : Nat} (f : StackC → StackC) (hk : k ≠ stk) :
    (s.modStk stk f).stk k = s.stk k :=
  (State.stk_setStk s stk k _).trans (if_neg hk)

theorem tokenTick_stk_ne (s : State) {stk k : Nat} (t : Nat) (hk : k ≠ stk) : (s.tokenTick stk t).stk k = s.stk k := by
  rw [State.tokenTick, modStk_stk_ne _ _ hk, bump_stk]
  rfl

theorem tokenBack_stk_ne (s : State) {stk k : Nat} (t : Nat) (hk : k ≠ stk) : (s.tokenBack stk t).stk k = s.stk k := by
  rw [State.tokenBack, modStk_stk_ne _ _ hk, tokenTick_stk_ne s t hk]

theorem tokenTick_rest (s : State) (stk t : Nat) :
    { (s.tokenTick stk t).mem with stkc := s.mem.stkc, jobs := s.mem.jobs } = s.mem
      ∧ { s.tokenTick stk t with mem := s.mem, mgmt := s.mgmt } = s := ⟨rfl, rfl⟩

theorem tokenBack_rest (s : State) (stk t : Nat) :
    { (s.tokenBack stk t).mem with stkc := s.mem.stkc, jobs := s.mem.jobs } = s.mem
      ∧ { s.tokenBack stk t with mem := s.mem, mgmt := s.mgmt } = s := tokenTick_rest s stk t

/-- Settles O10: REFPB, NRR and the ends of intervals are chains of updates within their frame; a token that comes
back and a refresh window change one stack controller, the window also what waits and is in force. -/
theorem refreshesDebtsAndTokens : Obligations.RefreshesDebtsAndTokens := by
  unfold Obligations.RefreshesDebtsAndTokens
  refine ⟨fun stk ch bank t s hb hready hdue htime htok hturn => ?refpb,
    fun stk ch bank half t row rest s hb hl hq hready htime htok hturn => ?nrr,
    fun stk ch bank t s hb hon hsr => ?interval, fun stk t a p r s hf htoks hp ha => ?token,
    fun stk s hf hon hnap => ?window⟩
  case refpb =>
    have hn := mbnOf_stk hb
    have hce : decide (0 < s.ceOf (mbnOf stk ch bank) 0 + s.ceOf (mbnOf stk ch bank) 1) = false →
        (s.bank (mbnOf stk ch bank)).openCe 0 = 0 ∧ (s.bank (mbnOf stk ch bank)).openCe 1 = 0 := fun hf => by
      simpa [ceOf_eq] using hf
    have hw : Within (mbnOf stk ch bank) (chanKey stk ch) stk [odKey (0x3030 + stk) 4, odKey (0x3030 + stk) 6]
        (decide (0 < s.ceOf (mbnOf stk ch bank) 0 + s.ceOf (mbnOf stk ch bank) 1)) s
        ((s.refreshed stk ch (mbnOf stk ch bank) t).countForced stk (s.forced (mbnOf stk ch bank))) :=
      (refreshed_within s stk ch _ t hn (by simp) hce).trans (countForced_within _ (by simp))
    have hctr : (s.refreshed stk ch (mbnOf stk ch bank) t).ctr (0x3030 + stk) 4 = s.ctr (0x3030 + stk) 4 :=
      (refreshed_within s stk ch _ t (ks := [odKey (0x3030 + stk) 6]) (err := true) hn (by simp) nofun).1.ctr
        (by simp [odKey])
    have hmem := countForced_mem (s.refreshed stk ch (mbnOf stk ch bank) t) stk (s.forced (mbnOf stk ch bank))
    refine hw.completes (exec_refpb hb hready hdue htime htok hturn) ?_
    dsimp only
    rw [bank_of_mem hmem, chan_of_mem hmem, stk_of_mem hmem, refreshed_bank, refreshed_chan, refreshed_stk,
      countForced_ctr, hctr]
    refine ⟨refreshed_isOpen_zero _ t, refreshed_isOpen_one _ t, paused_refreshed_debt _ t,
      paused_refreshed_refStep _ t, rfl, rfl, fun hrun => ?_, fun hrun => ?_, paused_refreshed_unit _ t,
      paused_refreshed_rest _ t, rfl, rfl, rfl, rfl, (refreshed_unserved s stk ch _ t).trans (.of_mem hmem), hw.1⟩
    · rw [refreshed_st, refreshed_run]
      exact ⟨paused_st hrun, paused_reopen hrun⟩
    · rw [refreshed_st, refreshed_run, paused_of_not_running hrun]
      exact ⟨rfl, rfl⟩
  case nrr =>
    have hw := nrrDone_within s stk ch bank half t rest
    refine hw.completes (exec_nrr hb hl hq hready htime htok hturn) ?_
    simp only [nrrDone_bank, nrrDone_chan, nrrDone_stk, nrrDone_ctr, setNrr_nrr, setNrr_nrr_other hl, setLatch_nrr,
      setNrr_latch, latch_setLatch, latch_setLatch_other hl, true_and]
    refine ⟨?_, nrrDone_unserved s stk ch bank half t rest, hw.1⟩
    unfold Bank.setNrr Bank.setLatch
    split <;> rfl
  case interval =>
    exact fun hle => refreshInterval_completes hb hon hsr rfl hle
  case token =>
    obtain ⟨⟨-, hod, -, -, -, -⟩, -⟩ := tokenBack_within s stk t (b := 0) (ck := 0)
    obtain ⟨hmem, hrest⟩ := tokenBack_rest s stk t
    refine completes_kept (exec_tokenReturn hf htoks ha) (congrArg State.build hrest :) (congrArg State.pending hrest :)
      ⟨?_, ?_, fun k hk => tokenBack_stk_ne s t hk, tokenBack_jobs s stk t, hmem, hod, hrest⟩
    · rw [tokenBack_stk, htoks, dropBack_append hp ha]
    · rw [tokenBack_stk]
  case window =>
    intro ref mine rest done
    have hdone : (s.windowed stk).refsDone = done := refsDone_windowed s stk
    have hafter := afterWindow_only s stk
    have hrest := windowed_rest s stk
    have hmem : { (s.windowed stk).mem with stkc := s.mem.stkc } = s.mem := (congrArg State.mem hrest :)
    have hbuild : (s.windowed stk).build = s.build := (congrArg State.build hrest :)
    have hpending : (s.windowed stk).pending = s.pending := (congrArg State.pending hrest :)
    have hstays : { s.afterWindow stk with mem := s.mem, mgmt := s.mgmt, crust := s.crust } = s :=
      (congrArg (fun x : State => { x with mem := s.mem, mgmt := s.mgmt, crust := s.crust }) hafter.rest).trans
        (congrArg (fun x : State => { x with mem := s.mem, mgmt := s.mgmt, crust := s.crust }) hrest)
    refine completes_kept (exec_refreshWindow hf hon hnap) (congrArg State.build hstays :)
      (congrArg State.pending hstays :) ⟨?_, fun k hk => ?_, ?_, fun hd => ?_, fun hd => ⟨?_, ?_, ?_, ?_, hstays⟩⟩
    · exact (stk_of_mem hafter.mem stk).trans (windowed_stk s stk)
    · exact (stk_of_mem hafter.mem k).trans (windowed_stk_ne s stk hk)
    · exact (congrArg (fun m : Mem => { m with stkc := s.mem.stkc }) hafter.mem).trans hmem
    · exact afterWindow_waits (hdone.trans hd)
    · exact afterWindow_version (hdone ▸ hd)
    · rw [← hdone]
      exact afterWindow_pend (hdone ▸ hd)
    · intro e he hblob hone
      rw [← hdone] at he hone
      exact (afterWindow_odVal (hdone ▸ hd) _ _).trans (applyPends_odVal_mem _ he hblob hone)
    · intro i j _ hne
      rw [← hdone] at hne
      exact (afterWindow_odVal (hdone ▸ hd) i j).trans
        ((applyPends_odVal_ne _ hne).trans ((windowed_values s stk).odVal i j))

end Sys2Proof.Machine

/-! ## O11: self-refresh, nap and DRAM mode registers -/

namespace Sys2Proof.Machine

/-! ### Guards that hold -/

/-- A command of a unit that the build fits, whose conditions hold, does what it says. -/
theorem ifUnit_when (s t : State) {c d : Bool} (hc : c = true) (hd : d = true) : ifUnit s c (when' d s t) = go s t := by
  rw [hc, hd]
  rfl

theorem fits_and_lt {s : State} {stk ch n : Nat} (hf : s.fitted stk = true) (hch : ch < n) :
    (s.fitted stk && decide (ch < n)) = true := by
  simp [hf, hch]

/-- How a command that changes only the stack side is shown to complete. -/
theorem OnlyMem.completes {i : Instr} {s t : State} {P : State → Prop} (h : OnlyMem s t) (hx : exec i s = go s t)
    (p : P t) : Completes i s P :=
  completes_kept hx (congrArg State.build h :) (congrArg State.pending h :) p

/-! ### A channel and its banks -/

section Channel

variable (s : State) (stk ch ck : Nat)

/-- A change of one channel's record leaves everything else. -/
theorem modChan_frame (f : Chan → Chan) : OnlyMem s (s.modChan ck f)
    ∧ { (s.modChan ck f).mem with chans := s.mem.chans } = s.mem ∧ ∀ k, k ≠ ck → (s.modChan ck f).chan k = s.chan k :=
  ⟨rfl, rfl, fun k hk => (State.chan_setChan s ck k _).trans (if_neg hk)⟩

theorem mem_chanBanks {stk ch m : Nat} : m ∈ chanBanks stk ch ↔ ∃ b < 16, mbnOf stk ch b = m := by
  simp [chanBanks, upTo]

theorem chanBanks_nodup : (chanBanks stk ch).Nodup :=
  List.nodup_range.map fun a b h => by simpa [mbnOf] using h

/-- Each bank of a list once: what a pass of steps leaves of the banks, when each step changes its own bank by `f`. -/
theorem foldl_bank {g : State → Nat → State} {f : Bank → Bank}
    (hg : ∀ s b m, (g s b).bank m = if m = b then f (s.bank m) else s.bank m) {bs : List Nat} (hnd : bs.Nodup) (m : Nat) :
    (bs.foldl g s).bank m = if m ∈ bs then f (s.bank m) else s.bank m := by
  induction bs generalizing s with
  | nil => rfl
  | cons b bs ih =>
    obtain ⟨hb, hbs⟩ := List.nodup_cons.mp hnd
    rw [List.foldl_cons, ih _ hbs, hg]
    by_cases hm : m = b
    · subst hm
      rw [if_neg hb, if_pos rfl, if_pos List.mem_cons_self]
    · simp [hm]

theorem modBank_bank_ite (b m : Nat) (f : Bank → Bank) :
    (s.modBank b f).bank m = if m = b then f (s.bank m) else s.bank m := by
  refine (State.bank_setBank s b m _).trans ?_
  split
  · subst_vars
    rfl
  · rfl

theorem foldl_modBank_only (f : Bank → Bank) (bs : List Nat) :
    OnlyMem s (bs.foldl (fun s b => s.modBank b f) s)
      ∧ { (bs.foldl (fun s b => s.modBank b f) s).mem with banks := s.mem.banks } = s.mem := by
  induction bs generalizing s with
  | nil => exact ⟨rfl, rfl⟩
  | cons b bs ih =>
    obtain ⟨hrest, hmem⟩ := ih (s.modBank b f)
    exact ⟨(congrArg (fun x : State => { x with mem := s.mem }) hrest :),
      (congrArg (fun m : Mem => { m with banks := s.mem.banks }) hmem :)⟩

end Channel

/-! ### Self-refresh -/

section SelfRefresh

variable {s : State} {stk ch t : Nat}

/-- The channel's record once it is out of self-refresh. -/
def Chan.left (c : Chan) (t : Nat) : Chan := { c with sr := false, wake := false, srxAt := some t, rowSlot := some t }

/-- The bank once its channel is out of self-refresh. -/
def Bank.left (k : Bank) (t : Nat) : Bank := { k with debt := 0, band := 0, intAt := 8 * t }

theorem leaveSr_eq : s.leaveSr stk ch t =
    (chanBanks stk ch).foldl (fun s b => s.modBank b fun k => k.left t) (s.modChan (chanKey stk ch) fun c => c.left t) :=
  rfl

theorem leaveSr_only : OnlyMem s (s.leaveSr stk ch t)
    ∧ { (s.leaveSr stk ch t).mem with chans := s.mem.chans, banks := s.mem.banks } = s.mem := by
  rw [leaveSr_eq]
  generalize chanBanks stk ch = bs
  obtain ⟨hrest, hmem⟩ := foldl_modBank_only (s.modChan (chanKey stk ch) fun c => c.left t) (fun k => k.left t) bs
  exact ⟨(congrArg (fun x : State => { x with mem := s.mem }) hrest :),
    (congrArg (fun m : Mem => { m with chans := s.mem.chans, banks := s.mem.banks }) hmem :)⟩

theorem leaveSr_chan (k : Nat) : (s.leaveSr stk ch t).chan k =
    (s.modChan (chanKey stk ch) fun c => c.left t).chan k := by
  rw [leaveSr_eq]
  generalize chanBanks stk ch = bs
  have hmem := (foldl_modBank_only (s.modChan (chanKey stk ch) fun c => c.left t) (fun k => k.left t) bs).2
  exact (congrArg (fun m : Mem => Tab.get ({} : Chan) m.chans k) hmem :)

theorem leaveSr_bank (m : Nat) : (s.leaveSr stk ch t).bank m =
    if m ∈ chanBanks stk ch then (s.bank m).left t else s.bank m := by
  have hnd := chanBanks_nodup stk ch
  rw [leaveSr_eq]
  generalize chanBanks stk ch = bs at hnd
  exact foldl_bank _ (fun s b m => modBank_bank_ite s b m _) hnd m

theorem exec_srIdleExpiry (hf : s.fitted stk = true) (hch : ch < 64) (hon : s.stackOn stk = true)
    (hsr : (s.chan (chanKey stk ch)).sr = false) (hod : s.odNat 0x3020 2 ≠ 0) (hidle : s.chanIdle stk ch = true) :
    exec (.srIdleExpiry stk ch t) s = go s (s.modChan (chanKey stk ch) fun c => { c with srPend := true }) :=
  ifUnit_when _ _ (fits_and_lt hf hch) (by simp [hon, hsr, hod, hidle])

theorem exec_sre (hf : s.fitted stk = true) (hch : ch < 64) (hready : s.chanReady stk ch t = true)
    (hpend : (s.chan (chanKey stk ch)).srPend = true) (hclosed : s.latchesClosed stk ch = true)
    (hslot : since (s.chan (chanKey stk ch)).rowSlot 1 t = true)
    (hbanks : ∀ b, b < 16 → let k := s.bank (mbnOf stk ch b)
      k.debt ≤ 0 ∧ k.unit.active = false ∧ k.hold = none ∧ since k.leaveAt 2 t = true) :
    exec (.sre stk ch t) s = go s (s.enterSr stk ch t) := by
  have hall : ((chanBanks stk ch).all fun b => decide ((s.bank b).debt ≤ 0) && !(s.bank b).unit.active
      && (s.bank b).hold.isNone && since (s.bank b).leaveAt 2 t) = true := by
    refine List.all_eq_true.mpr fun m hm => ?_
    obtain ⟨b, hb, rfl⟩ := mem_chanBanks.mp hm
    obtain ⟨hdebt, hact, hhold, hleave⟩ := hbanks b hb
    simp [hdebt, hact, hhold, hleave]
  exact ifUnit_when _ _ (fits_and_lt hf hch) (by rw [hready, hpend, hclosed, hslot, hall]; rfl)

theorem exec_srx (hf : s.fitted stk = true) (hch : ch < 64) (hon : s.stackOn stk = true)
    (hsr : (s.chan (chanKey stk ch)).sr = true) (hnap : (s.stk stk).nap = false)
    (hsince : since (s.chan (chanKey stk ch)).srAt 13 t = true)
    (hasked : (s.chan (chanKey stk ch)).scrubWake = true ∨ (s.chan (chanKey stk ch)).wake = true
      ∨ s.chanAsked stk ch = true) : exec (.srx stk ch t) s = go s (s.leaveSr stk ch t) :=
  ifUnit_when _ _ (fits_and_lt hf hch) (by simpa [hon, hsr, hnap, hsince, or_assoc] using hasked)

end SelfRefresh

/-! ### Mode registers and nap -/

section Modes

variable {s : State} {stk ch t : Nat}

/-- A row command slot of the channel is free, and every latch closed. -/
theorem exec_mrw (hf : s.fitted stk = true) (hch : ch < 64) (hready : s.chanReady stk ch t = true)
    (hclosed : s.latchesClosed stk ch = true) (hslot : since (s.chan (chanKey stk ch)).rowSlot 1 t = true) (reg : Nat)
    (v : BitVec 32) : exec (.mrw stk ch reg v t) s =
      go s (s.modChan (chanKey stk ch) fun c => { c with modes := Tab.set 0 c.modes reg v, rowSlot := some t }) :=
  ifUnit_when _ _ (fits_and_lt hf hch) (by rw [hready, hclosed, hslot]; rfl)

/-- A mode register has been read. -/
def State.modeRead (s : State) (stk ch reg t : Nat) : State :=
  { s.useRowSlot stk ch t with mem := { (s.useRowSlot stk ch t).mem with
      mrrs := (reg, Tab.get 0 (s.chan (chanKey stk ch)).modes reg) :: (s.useRowSlot stk ch t).mem.mrrs } }

theorem modeRead_chan (reg k : Nat) : (s.modeRead stk ch reg t).chan k = (s.useRowSlot stk ch t).chan k := rfl

theorem exec_mrr (hf : s.fitted stk = true) (hch : ch < 64) (hready : s.chanReady stk ch t = true)
    (hclosed : s.latchesClosed stk ch = true) (hslot : since (s.chan (chanKey stk ch)).rowSlot 1 t = true) (reg : Nat) :
    exec (.mrr stk ch reg t) s = go s (s.modeRead stk ch reg t) :=
  ifUnit_when _ _ (fits_and_lt hf hch) (by rw [hready, hclosed, hslot]; rfl)

theorem exec_napEntry (hf : s.fitted stk = true) (hon : s.stackOn stk = true) (hod : s.odNat 0x3020 3 = 1)
    (hchans : ∀ ch, ch < 64 → let c := s.chan (chanKey stk ch)
      c.sr = true ∧ c.wake = false ∧ s.chanAsked stk ch = false ∧ c.srUs + 1000 < s.crust.time) :
    exec (.napEntry stk) s = go s (s.modStk stk fun k => { k with nap := true }) := by
  have hall : ((upTo 64).all fun ch => let c := s.chan (chanKey stk ch)
      c.sr && !c.wake && !s.chanAsked stk ch && decide (c.srUs + 1000 < s.crust.time)) = true := by
    refine List.all_eq_true.mpr fun ch hch => ?_
    obtain ⟨hsr, hwake, hasked, hus⟩ := hchans ch (List.mem_range.mp hch)
    simp [hsr, hwake, hasked, hus]
  exact ifUnit_when _ _ hf (by rw [hon, hod, hall]; rfl)

end Modes

/-- Settles O11: each command changes the record of one channel or stack; SRX also passes over the channel's 16
distinct banks. -/
theorem channelStatesAndModes : Obligations.ChannelStatesAndModes := by
  unfold Obligations.ChannelStatesAndModes
  refine ⟨fun stk ch t s hf hch => ⟨fun hon hsr hod hidle => ?idle, fun hready hpend hclosed hslot hbanks => ?sre,
    fun hon hsr hnap hsince hasked => ?srx,
    fun hready hclosed hslot => ⟨fun reg v => ?mrw, fun reg => ?mrr⟩⟩, fun stk s hf hon hod hchans => ?nap⟩
  case idle =>
    exact completes_kept (exec_srIdleExpiry hf hch hon hsr hod hidle) rfl rfl
      ⟨modChan_chan _ _ _, modChan_frame _ _ _⟩
  case sre =>
    refine completes_kept (exec_sre hf hch hready hpend hclosed hslot hbanks) rfl rfl ⟨modChan_frame _ _ _, ?_⟩
    rw [State.enterSr, modChan_chan]
    exact ⟨rfl, rfl, rfl, rfl, rfl⟩
  case srx =>
    obtain ⟨hrest, hmem⟩ := leaveSr_only (s := s) (stk := stk) (ch := ch) (t := t)
    have hchan : (s.leaveSr stk ch t).chan (chanKey stk ch) = (s.chan (chanKey stk ch)).left t := by
      rw [leaveSr_chan, modChan_chan]
    refine hrest.completes (exec_srx hf hch hon hsr hnap hsince hasked) ?_
    rw [hchan]
    refine ⟨rfl, rfl, rfl, fun b hb => ?_, fun m hm => ?_, fun k hk => ?_, hrest, hmem⟩
    · rw [leaveSr_bank, if_pos (mem_chanBanks.mpr ⟨b, hb, rfl⟩)]
      rfl
    · rw [leaveSr_bank, if_neg fun h => ?_]
      obtain ⟨b, hb, rfl⟩ := mem_chanBanks.mp h
      exact hm b hb rfl
    · rw [leaveSr_chan]
      exact (modChan_frame s _ _).2.2 k hk
  case mrw =>
    refine completes_kept (exec_mrw hf hch hready hclosed hslot reg v) rfl rfl ?_
    rw [modChan_chan]
    exact ⟨fun g => Tab.get_set 0 _ reg g v, rfl, modChan_frame _ _ _⟩
  case mrr =>
    refine completes_kept (exec_mrr hf hch hready hclosed hslot reg) rfl rfl ⟨rfl, ?_, fun k hk => ?_, rfl, rfl⟩
    · rw [modeRead_chan, useRowSlot_chan]
    · exact (modeRead_chan reg k).trans ((modChan_frame s _ _).2.2 k hk)
  case nap =>
    exact completes_kept (exec_napEntry hf hon hod hchans) rfl rfl
      ⟨modStk_stk _ _ _, fun k hk => modStk_stk_ne _ _ hk, rfl, rfl⟩

end Sys2Proof.Machine

/-! ## O13: requests at a stack controller -/

namespace Sys2Proof.Machine

/-! ### The outcomes of a request at a port -/

/-- The request that a port queues for a place of its stack. -/
def State.newReq (s : State) (stk port : Nat) (cls : Option Nat) (lin : Nat) (kind : ReqKind) (requester t : Nat) (l : Loc)
    (p : Nat) (way : List Nat) : PortReq where
  id := s.mem.nextId
  cyc := t
  stk := stk
  port := port
  cls := s.servedClass stk port cls
  step := 0
  aged := false
  lin := lin
  mbn := l.mbn
  row := l.row
  col := l.col
  kind := kind
  part := p
  requester := requester
  merge := none
  mergeBad := false
  route := way

/-- What becomes of a request for a place that it may use: routes and lost segments decide. -/
def State.routeReq (s : State) (stk port : Nat) (cls : Option Nat) (lin : Nat) (kind : ReqKind) (requester t : Nat)
    (l : Loc) (p : Nat) : Out :=
  match s.pathTo (originOf port requester) stk with
  | none => go s (s.answer stk port 8)
  | some way =>
    if s.switchWait (wayTo s.linkWas (originOf port requester) stk) then .next s
    else if s.isLost l.mbn l.row && kind == .read then go s (s.answer stk port 4)
    else go s (s.enqueue (s.newReq stk port cls lin kind requester t l p way))

section PortRequest

variable {s : State} {stk port : Nat} {cls : Option Nat} {lin : Nat} {kind : ReqKind} {part requester t : Nat} {l : Loc}
  {p : Nat}

theorem stackOn_iff : s.stackOn stk = true ↔
    s.power.main = true ∧ s.fitted stk = true ∧ s.fenced stk = false ∧ (s.stk stk).unpowered = false := by
  simp [State.stackOn, and_assoc]

theorem lt_of_fitted (h : s.fitted stk = true) : stk < 16 := by
  simp only [State.fitted, Bool.and_eq_true, decide_eq_true_eq] at h
  exact h.1

/-- A request at an absent or fenced stack is unbacked, whatever it asks. -/
theorem exec_portRequest_noStack (hstk : stk < 16) (hport : port < 8)
    (h : s.fitted stk = false ∨ s.fenced stk = true) :
    exec (.portRequest stk port cls lin kind part requester t) s = go s (s.answer stk port 3) := by
  change execPortRequest .. = _
  have hoff : (!s.fitted stk || s.fenced stk) = true := by simpa using h
  rw [execPortRequest, if_neg (by simp [hstk, hport]), if_pos hoff]

/-- At a stack that is on, and on a port of its own, the place that is asked decides. -/
theorem exec_portRequest_on (hport : port < 8) (hon : s.stackOn stk = true)
    (hrule : s.portRule stk port requester = true) :
    exec (.portRequest stk port cls lin kind part requester t) s =
      match s.place' (port == 7) lin with
      | none => go s (s.answer stk port 3)
      | some (l, p) =>
        if l.stk ≠ stk then .next s
        else if port ≠ 7 && decide (p < 16) && s.unused p then go s (s.answer stk port 2)
        else if port ≠ 7 && port ≠ 4 && s.localReach part lin ≠ 0 then go s (s.answer stk port 2)
        else if port ≠ 7 && decide (p < 16) && p ≠ part && (s.part p).st == 1 then .next s
        else s.routeReq stk port cls lin kind requester t l p := by
  obtain ⟨-, hfit, hfen, -⟩ := stackOn_iff.mp hon
  change execPortRequest .. = _
  rw [execPortRequest, if_neg (by simp [lt_of_fitted hfit, hport]), if_neg (by simp [hfit, hfen]),
    if_neg (by simp [hon, hrule])]
  rfl

/-- The region of the place may be used: not of an UNUSED partition. -/
theorem portUsed (h : port = 7 ∨ 16 ≤ p ∨ s.unused p = false) :
    ¬ (port ≠ 7 && decide (p < 16) && s.unused p) = true := by
  simp only [ne_eq, decide_not, Bool.and_eq_true, Bool.not_eq_true', decide_eq_false_iff_not, decide_eq_true_eq]
  rintro ⟨⟨hport, hp⟩, hun⟩
  rcases h with h | h | h
  · exact hport h
  · omega
  · exact absurd (h.symm.trans hun) nofun

theorem portReaches (h : port = 7 ∨ port = 4 ∨ s.localReach part lin = 0) :
    ¬ (port ≠ 7 && port ≠ 4 && s.localReach part lin ≠ 0) = true := by
  simpa [or_iff_not_imp_left] using h

theorem portSettled (h : port = 7 ∨ 16 ≤ p ∨ p = part ∨ (s.part p).st ≠ 1) :
    ¬ (port ≠ 7 && decide (p < 16) && p ≠ part && (s.part p).st == 1) = true := by
  simp only [ne_eq, decide_not, Bool.and_eq_true, Bool.not_eq_true', decide_eq_false_iff_not, decide_eq_true_eq,
    beq_iff_eq]
  rintro ⟨⟨⟨hport, hp⟩, hpart⟩, hst⟩
  rcases h with h | h | h | h
  · exact hport h
  · omega
  · exact hpart h
  · exact h hst

theorem exec_portRequest_open (hport : port < 8) (hon : s.stackOn stk = true)
    (hrule : s.portRule stk port requester = true) (hplace : s.place' (port == 7) lin = some (l, p)) (hl : l.stk = stk)
    (hused : port = 7 ∨ 16 ≤ p ∨ s.unused p = false) (hreach : port = 7 ∨ port = 4 ∨ s.localReach part lin = 0)
    (hset : port = 7 ∨ 16 ≤ p ∨ p = part ∨ (s.part p).st ≠ 1) :
    exec (.portRequest stk port cls lin kind part requester t) s =
      s.routeReq stk port cls lin kind requester t l p := by
  rw [exec_portRequest_on hport hon hrule, hplace]
  dsimp only
  rw [if_neg (not_not.mpr hl), if_neg (portUsed hused), if_neg (portReaches hreach), if_neg (portSettled hset)]

end PortRequest

/-! ### What an answer and a queued request leave -/

section Answer

variable (s : State) (stk port st : Nat)

theorem answer_mem : (s.answer stk port st).mem = { s.mem with
    resps := { id := s.mem.nextId, status := st, data := 0, poison := false } :: s.mem.resps
    nextId := s.mem.nextId + 1 } := by
  unfold State.answer
  dsimp only
  split <;> rfl

theorem answer_rest : { s.answer stk port st with mem := s.mem, mgmt := s.mgmt } = s := by
  unfold State.answer
  dsimp only
  split <;> rfl

/-- Of the dictionary an answer changes the port's count of requests alone. -/
theorem answer_od : OdKept s (s.answer stk port st) [odKey (0x3100 + 8 * stk + port) 3] := by
  unfold State.answer
  dsimp only
  split
  · exact .refl s _
  · exact .bump s List.mem_cons_self

theorem answer_completes {i : Instr} (hx : exec i s = go s (s.answer stk port st)) : Completes i s fun u =>
    u.mem.resps = { id := s.mem.nextId, status := st, data := 0, poison := false } :: s.mem.resps
      ∧ u.mem.nextId = s.mem.nextId + 1
      ∧ { u.mem with resps := s.mem.resps, nextId := s.mem.nextId } = s.mem
      ∧ OdKept s u [odKey (0x3100 + 8 * stk + port) 3] ∧ { u with mem := s.mem, mgmt := s.mgmt } = s := by
  have hrest := answer_rest s stk port st
  refine completes_kept hx (congrArg State.build hrest :) (congrArg State.pending hrest :) ?_
  rw [answer_mem]
  exact ⟨rfl, rfl, rfl, answer_od s stk port st, hrest⟩

theorem callChan_stk (ch k : Nat) :
    (s.callChan stk ch).stk k = if k = stk then { s.stk stk with nap := false } else s.stk k :=
  State.stk_setStk s stk k _

theorem callChan_chan (ch k : Nat) : (s.callChan stk ch).chan k = if k = chanKey stk ch then
    { s.chan (chanKey stk ch) with srPend := false, wake := (s.chan (chanKey stk ch)).sr } else s.chan k :=
  State.chan_setChan (s.modStk stk fun k => { k with nap := false }) (chanKey stk ch) k _

end Answer

/-! ### Waiting requests and jobs -/

section Waiting

variable (s : State) (id ns : Nat)

/-- No command of the job has issued. -/
def Job.fresh (id : Nat) (j : Job) : Bool := j.arrived = id && j.banks.all fun b => b.phase == .waiting

theorem Job.fresh_iff (j : Job) : j.fresh id = true ↔ j.arrived = id ∧ ∀ b ∈ j.banks, b.phase = .waiting := by
  simp [Job.fresh]

theorem modJobs_find (f : Job → Job) (k : Nat) : Tab.find (s.modJobs id f).mem.jobs k =
    (Tab.find s.mem.jobs k).map fun j =>
      if j.arrived = id ∧ (∀ b ∈ j.banks, b.phase = .waiting) then f j else j := by
  refine (Tab.find_map_snd (fun j => if j.fresh id then f j else j) s.mem.jobs k).trans ?_
  simp only [Job.fresh_iff]

theorem exec_urgencyStep_none (h : s.mem.reqs.find? (fun q => q.id == id) = none) :
    exec (.urgencyStep id ns) s = go s (s.modJobs id fun j =>
      if (s.odVal (0x3100 + 8 * (j.first / 1024) + 5) 1).getLsbD 0 then
        { j with step := max j.step (urgency ns (s.odNat (0x3100 + 8 * (j.first / 1024) + 5) 2)) } else j) := by
  change execUrgencyStep id ns s = _
  rw [execUrgencyStep, h]

theorem exec_urgencyStep_some {r : PortReq} (h : s.mem.reqs.find? (fun q => q.id == id) = some r)
    (haged : (s.odVal (0x3100 + 8 * r.stk + r.port) 1).getLsbD 0 = true) :
    exec (.urgencyStep id ns) s = go s (s.modReq id fun q =>
      { q with step := max q.step (urgency ns (s.odNat (0x3100 + 8 * r.stk + r.port) 2)) }) := by
  change execUrgencyStep id ns s = _
  rw [execUrgencyStep, h]
  exact if_pos haged

theorem exec_requestAged (h : s.odNat 0x3020 1 ≤ ns) : exec (.requestAged id ns) s =
    go s ((s.modReq id fun r => { r with aged := true }).modJobs id fun j => { j with aged := true }) :=
  if_pos (decide_eq_true h)

end Waiting

/-- Settles O13: the outcomes in the order in which a port tests for them; an answer leaves the queue, a queued request
everything but its stack's and its channel's state. -/
theorem portRequests : Obligations.PortRequests := by
  unfold Obligations.PortRequests
  refine ⟨fun stk port cls lin kind part requester t l p way s hport hon hrule hplace hl hused hreach hset hpath hwait
    hlost => ?queued, fun id ns s => ⟨fun r hr haged => ?urgent, fun hr => ?urgentJob, fun hns => ?aged⟩,
    fun stk port cls lin kind part requester t s st hstk hport h => answer_completes s stk port st ?_⟩
  case queued =>
    have hread : ¬ (s.isLost l.mbn l.row && kind == .read) = true := by
      rcases hlost with h | h <;> simp [h]
    refine completes_kept (t := s.enqueue (s.newReq stk port cls lin kind requester t l p way)) ?_ rfl rfl ⟨rfl, rfl, ?_, ?_, fun k hk => ?_, fun k hk => ?_, rfl, rfl⟩
    · rw [exec_portRequest_open hport hon hrule hplace hl hused hreach hset, State.routeReq, hpath]
      dsimp only
      rw [if_neg (by simp [hwait]), if_neg hread]
    · exact (callChan_stk _ _ _ _).trans (if_pos rfl)
    · exact (callChan_chan _ _ _ _).trans (if_pos rfl)
    · exact (callChan_stk _ _ _ _).trans (if_neg hk)
    · exact (callChan_chan _ _ _ _).trans (if_neg hk)
  case urgent =>
    exact completes_kept (exec_urgencyStep_some s id ns hr haged) rfl rfl ⟨rfl, rfl, rfl⟩
  case urgentJob =>
    refine completes_kept (exec_urgencyStep_none s id ns hr) rfl rfl ⟨fun k => ?_, rfl, rfl⟩
    rw [modJobs_find]
    simp only [ite_and]
  case aged =>
    exact completes_kept (exec_requestAged s id ns hns) rfl rfl ⟨rfl, fun k => modJobs_find _ id _ k, rfl, rfl⟩
  obtain ⟨hoff, rfl⟩ | ⟨hon, hrule, ⟨hplace, rfl⟩ | ⟨l, p, hplace, hl, h⟩⟩ := h
  · exact exec_portRequest_noStack hstk hport hoff
  · rw [exec_portRequest_on hport hon hrule, hplace]
  obtain ⟨h7, hp, hun, rfl⟩ | ⟨hused, h7, h4, hreach, rfl⟩ | ⟨hused, hreach, hset, h⟩ := h
  · rw [exec_portRequest_on hport hon hrule, hplace]
    dsimp only
    rw [if_neg (not_not.mpr hl), if_pos (by simp [h7, hp, hun])]
  · rw [exec_portRequest_on hport hon hrule, hplace]
    dsimp only
    rw [if_neg (not_not.mpr hl), if_neg (portUsed hused), if_pos (by simp [h7, h4, hreach])]
  rw [exec_portRequest_open hport hon hrule hplace hl hused hreach hset, State.routeReq]
  obtain ⟨hpath, rfl⟩ | ⟨hpath, hwait, hlost, rfl, rfl⟩ := h
  · rw [hpath]
  · obtain ⟨way, hway⟩ := Option.ne_none_iff_exists'.mp hpath
    rw [hway]
    dsimp only
    rw [if_neg (by simp [hwait]), if_pos (by simp [hlost])]

end Sys2Proof.Machine

/-! ## O16: SPRIG_RUN, resuming a run and the done report -/

namespace Sys2Proof.Machine

/-! ### SPRIG_RUN on one unit (04 R125, R126) -/

section UnitRun

variable (u : SprigUnit) (w : BitVec 48) (d : Option Line) (t : Nat)

/-- A step of the run, FIRST to LAST, that is invalid. -/
def runBad (u : SprigUnit) (w : BitVec 48) (i : Nat) : Bool :=
  decide (Word.bits w 26 22 ≤ i) && decide (i ≤ Word.bits w 21 17) && !stepValid (Tab.get 0 u.recipe i)

theorem runBad_iff {i : Nat} : runBad u w i = true ↔
    Word.bits w 26 22 ≤ i ∧ i ≤ Word.bits w 21 17 ∧ stepValid (Tab.get 0 u.recipe i) = false := by
  simp [runBad, and_assoc]

/-- A run changes pointers, cursors and status alone. -/
theorem unitRun_rest : { unitRun u w d t with ptrs := u.ptrs, run := u.run, status := u.status } = u := rfl

theorem unitRun_cursors : (unitRun u w d t).run.first = Word.bits w 26 22
    ∧ (unitRun u w d t).run.last = Word.bits w 21 17 ∧ (unitRun u w d t).run.iter = Word.bits w 16 5 := ⟨rfl, rfl, rfl⟩

theorem unitRun_status : (unitRun u w d t).status = match (upTo 32).find? (runBad u w) with
    | some i => { u.status with st := .stopped, endc := 1, step := i, iterDone := 0 }
    | none => { u.status with st := .running, step := Word.bits w 26 22, iterDone := 0 } := rfl

theorem unitRun_iterDone : (unitRun u w d t).status.iterDone = 0 := by
  rw [unitRun_status]
  split <;> rfl

theorem unitRun_starts (h : ∀ i, Word.bits w 26 22 ≤ i → i ≤ Word.bits w 21 17 → stepValid (Tab.get 0 u.recipe i) = true) :
    (unitRun u w d t).status.st = .running ∧ (unitRun u w d t).status.step = Word.bits w 26 22 := by
  have hnone : (upTo 32).find? (runBad u w) = none := by
    refine List.find?_eq_none.mpr fun i _ hbad => ?_
    obtain ⟨hfirst, hlast, hinv⟩ := (runBad_iff u w).mp hbad
    exact absurd (hinv.symm.trans (h i hfirst hlast)) nofun
  rw [unitRun_status, hnone]
  exact ⟨rfl, rfl⟩

theorem unitRun_stops {i : Nat} (hfirst : Word.bits w 26 22 ≤ i) (hlast : i ≤ Word.bits w 21 17)
    (hinv : stepValid (Tab.get 0 u.recipe i) = false)
    (hvalid : ∀ j, Word.bits w 26 22 ≤ j → j < i → stepValid (Tab.get 0 u.recipe j) = true) :
    (unitRun u w d t).status.st = .stopped ∧ (unitRun u w d t).status.endc = 1 ∧ (unitRun u w d t).status.step = i := by
  have hlt : Word.bits w 21 17 < 32 := Nat.mod_lt _ (by decide)
  have hsome : (upTo 32).find? (runBad u w) = some i := by
    refine List.find?_range_eq_some.mpr ⟨(runBad_iff u w).mpr ⟨hfirst, hlast, hinv⟩, List.mem_range.mpr (by omega),
      fun j hj => ?_⟩
    rw [Bool.not_eq_true', ← Bool.not_eq_true, runBad_iff]
    rintro ⟨hfirst', -, hinv'⟩
    exact absurd (hinv'.symm.trans (hvalid j hfirst' hj)) nofun
  rw [unitRun_status, hsome]
  exact ⟨rfl, rfl, rfl⟩

end UnitRun

/-! ### SPRIG_RUN on a channel (05 R172) -/

section SprigRun

variable {s : State} {stk ch t : Nat} {w : BitVec 48} {burst : Column}

/-- The payload that SPRIG_RUN loads pointers from. -/
def runPayload (w : BitVec 48) (burst : Column) : Option Line := if Word.bit w 4 then some (eccRead burst).data else none

/-- A bank once SPRIG_RUN has come to it. -/
def Bank.sprigRun (k : Bank) (w : BitVec 48) (burst : Column) (t : Nat) : Bank :=
  { k with unit := if extTaken k.unit w burst then unitRun k.unit w (runPayload w burst) t else unitProtocol k.unit }

theorem jobNote_bank_of_run (hw : extCmd w = 0x13) (s : State) (kb : Bank) (b m : Nat) :
    (s.jobNote w kb b t).bank m = s.bank m := by
  unfold State.jobNote
  rw [hw]
  exact (onHolder_bank _ b _ m).trans (onHolder_bank s b _ m)

theorem extOnBank_run (hw : extCmd w = 0x13) (s : State) (b : Nat) (h : extTaken (s.bank b).unit w burst = true) :
    extOnBank s w burst t b = s.modUnit b fun u => unitRun u w (runPayload w burst) t := by
  simp only [extOnBank, h, hw]
  rfl

theorem extOnBank_protocol (s : State) (b : Nat) (h : extTaken (s.bank b).unit w burst = false) :
    extOnBank s w burst t b = s.modUnit b unitProtocol := by
  simp only [extOnBank, h]
  rfl

theorem extOne_bank_of_run (hw : extCmd w = 0x13) (s : State) (b m : Nat) :
    (s.extOne w burst t b).bank m = if m = b then (s.bank m).sprigRun w burst t else s.bank m := by
  have hload (x : State) : x.loadTag w b = x := if_neg (by rw [hw]; decide)
  cases htaken : extTaken (s.bank b).unit w burst with
  | false =>
    rw [State.extOne, if_neg (by simp [htaken]), extOnBank_protocol s b htaken, State.modUnit, modBank_bank_ite]
    split
    · subst_vars
      rw [Bank.sprigRun, htaken]
      rfl
    · rfl
  | true =>
    rw [State.extOne, if_pos htaken, hload, jobNote_bank_of_run hw, extOnBank_run hw s b htaken, State.modUnit,
      modBank_bank_ite]
    split
    · subst_vars
      rw [Bank.sprigRun, htaken]
      rfl
    · rfl

theorem extBanks_nodup (stk ch : Nat) (w : BitVec 48) : (extBanks stk ch w).Nodup :=
  (List.nodup_range.filter _).map fun a b h => by simpa using h

theorem extDone_bank_of_run (hw : extCmd w = 0x13) {b : Nat} (hb : b ∈ extBanks stk ch w) :
    (s.extDone stk ch w burst t).bank b = (s.bank b).sprigRun w burst t := by
  have hpass := foldl_bank (s.useExt stk ch w t) (g := fun s b => s.extOne w burst t b)
    (f := fun k => k.sprigRun w burst t) (extOne_bank_of_run hw) (extBanks_nodup stk ch w) b
  rw [if_pos hb] at hpass
  exact hpass

theorem exec_sprigRun (hf : s.fitted stk = true) (hch : ch < 64) (htakes : s.extTakes 0x13 none stk ch w burst t = true) :
    exec (.sprigRun stk ch w burst t) s = go s (s.extDone stk ch w burst t) :=
  ifUnit_when _ _ (fits_and_lt hf hch) htakes

theorem extTaken_run (hw : extCmd w = 0x13) (hformed : extFormed w = true) (hburst : extBadBurst w burst = false)
    {u : SprigUnit} (hu : u.status.st = .idle ∨ u.status.st = .stopped) : extTaken u w burst = true := by
  have hacc : extAccepted u w = true := by
    simp only [extAccepted, hw]
    rcases hu with h | h <;> rw [h] <;> rfl
  rw [extTaken, hformed, hacc, hburst]
  rfl

end SprigRun

/-! ### Resuming a run (04 R130) -/

theorem exec_runResume {s : State} {mbn t : Nat} (hm : mbn < 16384) (hon : s.stackOn (mbn / 1024) = true)
    (hst : (s.bank mbn).unit.status.st = .paused)
    (hrows : ∀ x ∈ (s.bank mbn).unit.run.reopen,
      runNames (s.bank mbn).unit (s.bank mbn).unit.run.first (s.bank mbn).unit.run.last x.1 = true →
      (s.bank mbn).isOpen x.1 = true ∧ ((s.bank mbn).latch x.1).logRow = x.2 ∧
      since ((s.bank mbn).latch x.1).actAt (tRCD (s.bandOf mbn)) t = true) :
    exec (.runResume mbn t) s = go s (s.modUnit mbn fun u => unitResume u t) := by
  have hfit : (decide (mbn < 16384) && s.fitted (mbn / 1024)) = true := by simp [hm, (stackOn_iff.mp hon).2.1]
  have hall : ((s.bank mbn).unit.run.reopen.all fun x =>
      !runNames (s.bank mbn).unit (s.bank mbn).unit.run.first (s.bank mbn).unit.run.last x.1 ||
        ((s.bank mbn).isOpen x.1 && ((s.bank mbn).latch x.1).logRow == x.2
          && since ((s.bank mbn).latch x.1).actAt (tRCD (s.bandOf mbn)) t)) = true := by
    simpa [or_iff_not_imp_left, and_assoc] using hrows
  exact ifUnit_when _ _ hfit (by rw [hon, hst, hall]; rfl)

theorem modBank_onlyBank (s : State) (b : Nat) (f : Bank → Bank) : OnlyBank s (s.modBank b f) b :=
  ⟨rfl, rfl, fun m hm => (modBank_bank_ite s b m f).trans (if_neg hm)⟩

/-! ### The done report (05 R176) -/

section Report

variable (s : State) (id mbn t : Nat) (j : Job)

/-- Going on along the walk leaves whether a run has ended. -/
theorem Job.walkOn_ran (j : Job) (k : Bank) (n : Nat) (x : JBank) : (j.walkOn k n x).ran = x.ran := by
  induction n generalizing x with
  | zero => rfl
  | succ n ih =>
    unfold Job.walkOn
    split
    · rfl
    split
    · rfl
    split
    · exact ih _
    · rfl

theorem Job.bankRec_setBank {j : Job} {b : JBank} {f : JBank → JBank} (hb : j.bankRec mbn = some b)
    (hf : ∀ x, x.mbn = mbn → (f x).mbn = mbn) : (j.setBank mbn f).bankRec mbn = some (f b) := by
  have hkey (x : JBank) : ((if x.mbn = mbn then f x else x).mbn == mbn) = (x.mbn == mbn) := by
    split
    next h => simp [h, hf x h]
    next => rfl
  have hmbn : b.mbn = mbn := by simpa using List.find?_some hb
  have hfind : (j.banks.map fun x => if x.mbn = mbn then f x else x).find? (fun x => x.mbn == mbn)
      = some (if b.mbn = mbn then f b else b) := by
    rw [List.find?_map, Option.map_eq_some_iff]
    refine ⟨b, ?_, rfl⟩
    rw [← hb, Job.bankRec]
    congr 1
    funext x
    exact hkey x
  rw [if_pos hmbn] at hfind
  exact hfind

/-- The bank of a report that has been taken. -/
def Bank.reported (k : Bank) (t : Nat) : Bank := { k with unit := { k.unit with run := { k.unit.run with reportAt := some t } } }

/-- What a job keeps of the first run that stopped. -/
def Job.resReported (j : Job) (q : UnitStatus) (mbn : Nat) : JobRes :=
  if q.st == .stopped && !j.res.stopped then
    { j.res with stopped := true, endc := q.endc, step := q.step, stopBank := mbn } else j.res

/-- The job's record of a bank whose run has been reported. -/
def Job.bankReported (j : Job) (k : Bank) (b : JBank) : JBank :=
  let stopped := k.unit.status.st == .stopped
  let b1 := { b with
    ran := false
    stopped := stopped
    stat := stopped || k.unit.status.poison || k.unit.status.ue || k.unit.status.ce0 != 0 || k.unit.status.ce1 != 0 }
  if stopped || j.stop.isSome then { b1 with phase := .draining } else j.settled k { b1 with seg := b.seg + 1 }

/-- The job that has taken a report. -/
def Job.reported (j : Job) (k : Bank) (mbn : Nat) : Job :=
  { j with res := j.resReported k.unit.status mbn }.setBank mbn (j.bankReported k)

theorem takeReport_eq : s.takeReport id j mbn t =
    (s.modBank mbn fun k => k.reported t).setJob id (j.reported ((s.bank mbn).reported t) mbn) := by
  have hbank : (s.modBank mbn fun k => k.reported t).bank mbn = (s.bank mbn).reported t := modBank_bank _ _ _
  rw [← hbank]
  rfl

theorem setJob_bank (m : Nat) : (s.setJob id j).bank m = s.bank m := rfl

theorem Job.bankReported_mbn (k : Bank) (b : JBank) : (j.bankReported k b).mbn = b.mbn := by
  unfold Job.bankReported
  dsimp only
  split
  · rfl
  · exact Job.walkOn_mbn j k _ _

theorem Job.bankReported_ran (k : Bank) (b : JBank) : (j.bankReported k b).ran = false := by
  unfold Job.bankReported
  dsimp only
  split
  · rfl
  · exact Job.walkOn_ran j k _ _

theorem Job.bankReported_phase {k : Bank} (b : JBank) (h : k.unit.status.st = .stopped) :
    (j.bankReported k b).phase = .draining := by
  unfold Job.bankReported
  rw [h]
  rfl

theorem Job.resReported_stopped {q : UnitStatus} (h : q.st = .stopped) : (j.resReported q mbn).stopped = true
    ∧ (j.res.stopped = false → (j.resReported q mbn).endc = q.endc ∧ (j.resReported q mbn).step = q.step
      ∧ (j.resReported q mbn).stopBank = mbn) := by
  cases hs : j.res.stopped <;> simp [Job.resReported, h, hs]

theorem Job.resReported_of_ne {q : UnitStatus} (h : q.st ≠ .stopped) : j.resReported q mbn = j.res := by
  simp [Job.resReported, h]

theorem Job.reported_bankRec {j : Job} {k : Bank} {b : JBank} (hb : j.bankRec mbn = some b) :
    (j.reported k mbn).bankRec mbn = some (j.bankReported k b) :=
  Job.bankRec_setBank (j := { j with res := j.resReported k.unit.status mbn }) mbn hb
    fun x hx => (Job.bankReported_mbn j k x).trans hx

theorem Job.reported_apart (k : Bank) : (j.reported k mbn).apart mbn =
    { j.apart mbn with res := ((j.reported k mbn).apart mbn).res } := by
  have happ := Job.apart_setBank { j with res := j.resReported k.unit.status mbn } mbn
    (f := j.bankReported k) fun x hx => (Job.bankReported_mbn j k x).trans hx
  rw [Job.reported, happ]
  rfl

theorem exec_runDoneReport {s : State} {mbn t id : Nat} {j : Job} {b : JBank} (hm : mbn < 16384)
    (hon : s.stackOn (mbn / 1024) = true) (hhold : (s.bank mbn).hold = some id) (hj : Tab.find s.mem.jobs id = some j)
    (hb : j.bankRec mbn = some b) (hran : b.ran = true) (hbusy : (s.bank mbn).unit.busy = false)
    (hfly : (s.bank mbn).unit.fly = [])
    (ht : max (s.bank mbn).unit.run.retireAt (s.bank mbn).unit.run.stopAt + 2 = t) :
    exec (.runDoneReport mbn t) s = go s (s.takeReport id j mbn t) := by
  have hfit : (decide (mbn < 16384) && s.fitted (mbn / 1024)) = true := by simp [hm, (stackOn_iff.mp hon).2.1]
  have hheld : (s.bank mbn).hold.bind (fun id => (Tab.find s.mem.jobs id).map fun j => (id, j)) = some (id, j) := by
    simp [hhold, hj]
  change execRunDoneReport mbn t s = _
  unfold execRunDoneReport
  rw [hheld]
  exact ifUnit_when _ _ hfit (by simp [hon, hb, hran, hbusy, hfly, ht])

end Report

/-- Settles O16: on each bank of the mask SPRIG_RUN is the unit's own start, of which the first invalid step decides; a
resumed run changes the unit alone, and a report the bank's unit and the job that holds it. -/
theorem runsStartResumeAndReport : Obligations.RunsStartResumeAndReport := by
  unfold Obligations.RunsStartResumeAndReport
  refine ⟨fun stk ch t w burst s hf hch htakes hw hformed hburst => ?start, fun mbn t s hm hon hst hrows => ?resume,
    fun mbn t id s j b hm hon hhold hj hb hran hbusy hfly ht => ?report⟩
  case start =>
    refine completes_go (exec_sprigRun hf hch htakes) fun b hb hst => ?_
    have hbank : (keep s (s.extDone stk ch w burst t)).bank b
        = { s.bank b with unit := unitRun (s.bank b).unit w (runPayload w burst) t } := by
      refine (extDone_bank_of_run hw hb).trans ?_
      rw [Bank.sprigRun, extTaken_run hw hformed hburst hst]
      rfl
    obtain ⟨hfirst, hlast, hiter⟩ := unitRun_cursors (s.bank b).unit w (runPayload w burst) t
    rw [hbank]
    refine ⟨unitRun_rest _ _ _ _, fun hbit => ?_, hfirst, hlast, hiter, unitRun_iterDone _ _ _ _,
      unitRun_starts _ w _ _, fun i => unitRun_stops _ w _ _, rfl⟩
    rw [runPayload, hbit]
    rfl
  case resume =>
    refine completes_kept (exec_runResume hm hon hst hrows) rfl rfl ?_
    dsimp only
    rw [State.modUnit, modBank_bank]
    exact ⟨rfl, rfl, rfl, rfl, rfl, modBank_onlyBank s mbn _⟩
  case report =>
    have hx := exec_runDoneReport hm hon hhold hj hb hran hbusy hfly ht
    rw [takeReport_eq] at hx
    refine completes_kept hx rfl rfl
      ⟨⟨j.reported ((s.bank mbn).reported t) mbn, j.bankReported ((s.bank mbn).reported t) b, ?_,
        Job.reported_bankRec mbn hb, Job.bankReported_ran j _ b, fun hst => ?_, fun hst => ?_,
        Job.reported_apart mbn j _⟩, fun o ho => ?_, ?_, fun m hm => ?_, rfl, rfl⟩
    · exact Tab.find_put_same _ id _
    · obtain ⟨hstop, hfirst⟩ := Job.resReported_stopped mbn j (q := ((s.bank mbn).reported t).unit.status) hst
      exact ⟨Job.bankReported_phase j b hst, hstop, hfirst⟩
    · exact Job.resReported_of_ne mbn j (q := ((s.bank mbn).reported t).unit.status) hst
    · exact Tab.find_put_ne _ _ ho
    · rw [setJob_bank, modBank_bank]
      rfl
    · rw [setJob_bank]
      exact (modBank_onlyBank s mbn _).2.2 m hm

end Sys2Proof.Machine

/-! ## O52: quiesce, apply and poison fill of a partition -/

namespace Sys2Proof.Machine

/-! ### Work within one cluster -/

/-- What each step of a pass keeps, in a reflexive and transitive sense, the pass keeps. -/
theorem foldl_relates {α β : Type} {R : β → β → Prop} (hrefl : ∀ b, R b b) (htrans : ∀ a b c, R a b → R b c → R a c)
    {g : β → α → β} (hg : ∀ b a, R b (g b a)) (b : β) (l : List α) : R b (l.foldl g b) := by
  induction l generalizing b with
  | nil => exact hrefl b
  | cons a l ih =>
    rw [List.foldl_cons]
    exact htrans _ _ _ (hg b a) (ih (g b a))

section ClusterWork

variable {s t u : State} {c : Nat}

/-- Only one cluster, the dictionary and the log have changed; the partitions are as they were, and the cluster's queues
are open or closed as before. -/
structure ClusterWork (s t : State) (c : Nat) : Prop where
  rest : { t with mgmt := s.mgmt, clusters := s.clusters, crust := s.crust } = s
  parts : t.mgmt.parts = s.mgmt.parts
  others : ∀ d, d ≠ c → t.cluster d = s.cluster d
  closed : (t.cluster c).closed = (s.cluster c).closed

theorem ClusterWork.refl (s : State) (c : Nat) : ClusterWork s s c := ⟨rfl, rfl, fun _ _ => rfl, rfl⟩

theorem ClusterWork.trans (h : ClusterWork s t c) (h' : ClusterWork t u c) : ClusterWork s u c where
  rest := (congrArg (fun x : State => { x with mgmt := s.mgmt, clusters := s.clusters, crust := s.crust }) h'.rest).trans
    h.rest
  parts := h'.parts.trans h.parts
  others d hd := (h'.others d hd).trans (h.others d hd)
  closed := h'.closed.trans h.closed

theorem cluster_modCluster (s : State) (c d : Nat) (f : Cluster → Cluster) :
    (s.modCluster c f).cluster d = if d = c then f (s.cluster d) else s.cluster d := by
  refine (State.cluster_setCluster s c d _).trans ?_
  split
  · subst_vars
    rfl
  · rfl

theorem modCluster_work (s : State) (c : Nat) {f : Cluster → Cluster} (hf : ∀ k, (f k).closed = k.closed) :
    ClusterWork s (s.modCluster c f) c where
  rest := rfl
  parts := rfl
  others d hd := (cluster_modCluster s c d f).trans (if_neg hd)
  closed := by rw [cluster_modCluster, if_pos rfl, hf]

theorem modQueue_work (s : State) (c q : Nat) (f : Queue → Queue) : ClusterWork s (s.modQueue c q f) c :=
  modCluster_work s c fun _ => rfl

theorem modTile_work (s : State) (c q : Nat) (f : Tile → Tile) : ClusterWork s (s.modTile c q f) c :=
  modCluster_work s c fun _ => rfl

theorem modCore_work (s : State) (c : Nat) (f : Core → Core) : ClusterWork s (s.modCore c f) c :=
  modCluster_work s c fun _ => rfl

theorem bump_work (s : State) (c i j n w : Nat) : ClusterWork s (s.bump i j n w) c := ⟨rfl, rfl, fun _ _ => rfl, rfl⟩

theorem logLimited_work (s : State) (c us k : Nat) (f : Nat → List Word) : ClusterWork s (s.logLimited us k f) c := by
  unfold State.logLimited
  dsimp only
  split
  · exact ⟨rfl, rfl, fun _ _ => rfl, rfl⟩
  · split
    · exact ⟨rfl, rfl, fun _ _ => rfl, rfl⟩
    · exact ⟨rfl, rfl, fun _ _ => rfl, rfl⟩

theorem foldl_work {α : Type} {g : State → α → State} (hg : ∀ s a, ClusterWork s (g s a) c) (s : State) (l : List α) :
    ClusterWork s (l.foldl g s) c :=
  foldl_relates (R := fun s t => ClusterWork s t c) (fun s => .refl s c) (fun _ _ _ h h' => h.trans h') hg s l

theorem modEntry_work (s : State) (c q ticket : Nat) (f : QEntry → QEntry) : ClusterWork s (s.modEntry c q ticket f) c :=
  modQueue_work s c q fun k => k.modEntry ticket f

theorem complete_work (s : State) (c q ticket st d : Nat) : ClusterWork s (s.complete c q ticket st d) c :=
  modEntry_work s c q ticket _

theorem noteHeads_work (s : State) (c : Nat) : ClusterWork s (s.noteHeads c) c :=
  modCluster_work s c fun _ => rfl

theorem tileAbsent_work (s : State) (c q : Nat) (e : QEntry) : ClusterWork s (s.tileAbsent c q e) c :=
  (bump_work s c _ 6 1 32).trans (logLimited_work _ c _ _ _)

theorem closeHead_work (s : State) (c q : Nat) (e : QEntry) : ClusterWork s (s.closeHead c q e) c := by
  unfold State.closeHead
  dsimp only
  split
  · exact (complete_work s c q _ _ 0).trans (tileAbsent_work _ c q e)
  · exact complete_work s c q _ _ 0

theorem freeStreams_work (s : State) (c t : Nat) : ClusterWork s (s.freeStreams c t) c := by
  refine foldl_work (fun s i => ?_) s (upTo 3)
  split
  · exact modCore_work s c _
  · exact .refl s c

theorem dropEntry_work (s : State) (c t : Nat) (x : QEntry) : ClusterWork s (s.dropEntry c t x) c := by
  unfold State.dropEntry
  split
  · exact (modTile_work s c t _).trans (modEntry_work _ c t x.ticket _)
  · exact .refl s c

theorem settleDrops_work (s : State) (c t : Nat) (e : TileEngine) (xs : List QEntry) :
    ClusterWork s (s.settleDrops c t e xs) c := by
  induction xs generalizing s with
  | nil => exact .refl s c
  | cons x xs ih =>
    unfold State.settleDrops
    split
    · exact ih s
    split
    · split
      · split
        · exact .refl s c
        · exact ih s
      · exact ih s
    · split
      · exact .refl s c
      · exact (dropEntry_work s c t x).trans (ih _)

theorem settleTile_work (s : State) (c t : Nat) : ClusterWork s (s.settleTile c t) c :=
  (foldl_work (fun s e => settleDrops_work s c t e _) s _).trans (freeStreams_work _ c t)

theorem afterStop_work (s : State) (c q : Nat) : ClusterWork s (s.afterStop c q) c := by
  unfold State.afterStop
  split
  · exact (settleTile_work s c q).trans (noteHeads_work _ c)
  · exact noteHeads_work s c

end ClusterWork

/-! ### Closing the queues of clusters (10 R346) -/

section Closing

variable {s t u : State}

/-- The queues of some clusters have been closed; the other clusters and the partitions are as they were. -/
structure Closed (s t : State) (cs : List Nat) : Prop where
  rest : { t with mgmt := s.mgmt, clusters := s.clusters, crust := s.crust } = s
  parts : t.mgmt.parts = s.mgmt.parts
  others : ∀ d, d ∉ cs → t.cluster d = s.cluster d
  closed : ∀ c ∈ cs, (t.cluster c).closed = true

/-- The entries that wait in a queue are discarded. -/
def State.closeQueue (s : State) (c q : Nat) : State :=
  ((((s.cluster c).queue q).entries.filter fun x => !x.disp && x.compl.isNone).foldl
    (fun s x => s.closeHead c q x) s).afterStop c q

theorem closeQueue_work (s : State) (c q : Nat) : ClusterWork s (s.closeQueue c q) c :=
  (foldl_work (fun s x => closeHead_work s c q x) s _).trans (afterStop_work _ c q)

theorem closeQueues_eq (s : State) (c : Nat) : s.closeQueues c =
    (upTo 8).foldl (fun s q => s.closeQueue c q) (s.modCluster c fun k => { k with closed := true }) := rfl

theorem ClusterWork.closing {c : Nat} (h : ClusterWork (s.modCluster c fun k => { k with closed := true }) t c) :
    Closed s t [c] := by
  have hset (d : Nat) := cluster_modCluster s c d fun k => { k with closed := true }
  refine ⟨(congrArg (fun x : State => { x with clusters := s.clusters }) h.rest :), h.parts, fun d hd => ?_, fun d hd => ?_⟩
  · have hne : d ≠ c := by simpa using hd
    exact (h.others d hne).trans ((hset d).trans (if_neg hne))
  · obtain rfl : d = c := by simpa using hd
    rw [h.closed, hset, if_pos rfl]

theorem Closed.cons {c : Nat} {cs : List Nat} (h : Closed s t [c]) (h' : Closed t u cs) : Closed s u (c :: cs) where
  rest := (congrArg (fun x : State => { x with mgmt := s.mgmt, clusters := s.clusters, crust := s.crust }) h'.rest).trans
    h.rest
  parts := h'.parts.trans h.parts
  others d hd := by
    obtain ⟨hne, hmem⟩ := not_or.mp (mt List.mem_cons.mpr hd)
    exact (h'.others d hmem).trans (h.others d (by simpa using hne))
  closed d hd := by
    by_cases hmem : d ∈ cs
    · exact h'.closed d hmem
    · obtain rfl : d = c := by simpa [hmem] using hd
      rw [h'.others d hmem]
      exact h.closed d (by simp)

theorem closeQueues_closed (s : State) (c : Nat) : Closed s (s.closeQueues c) [c] := by
  rw [closeQueues_eq]
  exact (foldl_work (fun s q => closeQueue_work s c q) _ (upTo 8)).closing

theorem closeAll_closed (s : State) (cs : List Nat) : Closed s (cs.foldl (fun s c => s.closeQueues c) s) cs := by
  induction cs generalizing s with
  | nil => exact ⟨rfl, rfl, fun _ _ => rfl, nofun⟩
  | cons c cs ih =>
    rw [List.foldl_cons]
    exact (closeQueues_closed s c).cons (ih (s.closeQueues c))

end Closing

/-! ### The start of a quiesce (15 R511) -/

section StartQuiesce

variable {s : State} {p : Nat}

theorem part_modPart (s : State) (p q : Nat) (f : Part → Part) :
    (s.modPart p f).part q = if q = p then f (s.part q) else s.part q := by
  refine (State.part_setPart s p q _).trans ?_
  split
  · subst_vars
    rfl
  · rfl

/-- Counting what a step discards changes the partition's record after the step. -/
theorem counting_eq (s : State) (p : Nat) (f : State → State) : s.counting p f =
    (f s).modPart p fun x => { x with discards := x.discards + ((f s).discarded p - s.discarded p) } := rfl

/-- A partition that begins its quiesce. -/
def Part.quiescing (x : Part) : Part :=
  { x with st := 1, fromUnused := x.st == 0, limited := false, discards := 0, filling := false, changed := false }

theorem startQuiesce_running (h : (s.part p).st = 1) : s.startQuiesce p = s := if_pos h

theorem startQuiesce_eq (h : (s.part p).st ≠ 1) : s.startQuiesce p =
    (s.modPart p Part.quiescing).counting p fun s => (s.clustersOf p).foldl (fun s c => s.closeQueues c) s := if_neg h

/-- What the start of a quiesce leaves. -/
structure Quiesced (s t : State) (p : Nat) : Prop where
  st : (t.part p).st = 1
  parts : ∀ q, q ≠ p → t.part q = s.part q
  closed : ∀ c ∈ s.clustersOf p, (t.cluster c).closed = true
  others : ∀ c, c ∉ s.clustersOf p → t.cluster c = s.cluster c
  rest : { t with mgmt := s.mgmt, clusters := s.clusters, crust := s.crust } = s

theorem Closed.quiesced {t : State} {f : Part → Part} (h : Closed (s.modPart p Part.quiescing) t (s.clustersOf p))
    (hf : ∀ x, (f x).st = x.st) : Quiesced s (t.modPart p f) p := by
  have hpart (q : Nat) : t.part q = if q = p then (s.part q).quiescing else s.part q := by
    rw [State.part, h.parts]
    exact part_modPart s p q _
  refine ⟨?_, fun q hq => ?_, h.closed, h.others, (congrArg (fun x : State => { x with mgmt := s.mgmt }) h.rest :)⟩
  · rw [part_modPart, if_pos rfl, hf, hpart, if_pos rfl]
    rfl
  · rw [part_modPart, if_neg hq, hpart, if_neg hq]

theorem startQuiesce_quiesced (h : (s.part p).st ≠ 1) : Quiesced s (s.startQuiesce p) p := by
  rw [startQuiesce_eq h, counting_eq]
  exact (closeAll_closed (s.modPart p Part.quiescing) (s.clustersOf p)).quiesced fun _ => rfl

/-- The entry that begins a quiesce. -/
def quiesceRow : OdRow := ⟨0x2010, 16, 6, 1, 1, .wo, 0, 0, allMask, 0, 1⟩

theorem odRows_quiesce : ∀ p < 16, odRows.find? (fun r => r.covers (0x2010 + p) 6) = some quiesceRow := by decide

theorem odFits_partition (s : State) (hp : p < 16) : s.odFits (0x2010 + p) = true := by
  interval_cases p <;> rfl

theorem odRow_quiesce (s : State) (hp : p < 16) : s.odRow (0x2010 + p) 6 = some quiesceRow := by
  rw [State.odRow, if_pos (odFits_partition s hp), odRows_quiesce p hp]

theorem exec_quiesce {a : Acc} (hp : p < 16) (h : Takes s a (0x2010 + p) 6 1) :
    exec (.quiesce a p 1) s = go s (((s.begun a).startQuiesce p).tell a.path (0x2010 + p) 6 0) := by
  have hact : (s.begun a).actIdent a.path (0x2010 + p) 6 ((s.begun a).stored quiesceRow (0x2010 + p) 6 1)
      = some ((s.begun a).startQuiesce p, 0) := by
    have hstored : (s.begun a).stored quiesceRow (0x2010 + p) 6 1 = 1 := rfl
    have hrange : (decide (0x2010 ≤ 0x2010 + p) && decide (0x2010 + p < 0x2020)) = true := by
      simp
      omega
    rw [hstored, State.actIdent]
    dsimp only
    rw [if_pos hrange, Nat.add_sub_cancel_left]
    rfl
  have hwin : isWinEntry (0x2010 + p) = false := by
    simp [isWinEntry]
    omega
  change execQuiesce a p 1 s = _
  rw [execQuiesce, Nat.mod_eq_of_lt hp]
  exact pathWrite_acts s h hwin (odRow_quiesce _ hp) rfl hact

theorem begun_only (s : State) (a : Acc) : OnlyMgmt s (s.begun a) ∧ (s.begun a).mgmt.parts = s.mgmt.parts
    ∧ (s.begun a).mgmt.outs = s.mgmt.outs := by
  unfold State.begun
  split <;> exact ⟨rfl, rfl, rfl⟩

end StartQuiesce

/-! ### Stopping what still runs (15 R511) -/

section Limit

variable {s : State} {c p : Nat}

/-- The dispatched entries of a queue that have not completed. -/
def State.atWork (s : State) (c q : Nat) : List QEntry :=
  ((s.cluster c).queue q).entries.filter fun x => x.disp && x.compl.isNone

/-- Stop one entry that is at work. -/
def State.stopOne (s : State) (c q status : Nat) (x : QEntry) : State :=
  if x.aborting.isNone then s.stopEntry c q x status
  else if q = 6 then s.stopKq c x status
  else s.markStop c q x.ticket status

/-- Stop every entry of a queue that is at work. -/
def State.stopQueue (s : State) (c status q : Nat) : State :=
  (s.atWork c q).foldl (fun s x => s.stopOne c q status x) s

theorem stopDispatched_eq (s : State) (c status : Nat) :
    s.stopDispatched c status = (upTo 8).foldl (fun s q => s.stopQueue c status q) s := rfl

theorem stopQueue_idle {q : Nat} (h : s.atWork c q = []) (status : Nat) : s.stopQueue c status q = s := by
  rw [State.stopQueue, h, List.foldl_nil]

theorem foldl_id {α β : Type} {g : β → α → β} {b : β} {l : List α} (h : ∀ a ∈ l, g b a = b) : l.foldl g b = b := by
  induction l with
  | nil => rfl
  | cons a l ih => rw [List.foldl_cons, h a (by simp), ih fun x hx => h x (by simp [hx])]

theorem Tab.mem_of_find {α : Type} {t : Tab α} {k : Nat} {v : α} (h : Tab.find t k = some v) : (k, v) ∈ t := by
  induction t with
  | nil => exact absurd h nofun
  | cons e t ih =>
    obtain ⟨i, w⟩ := e
    rw [Tab.find] at h
    split at h
    · obtain rfl : w = v := Option.some.inj h
      subst_vars
      exact List.mem_cons_self
    · exact List.mem_cons_of_mem _ (ih h)

/-- A cluster without an entry at work has none in any of its queues. -/
theorem atWork_of_idle (h : s.working c = false) (q : Nat) : s.atWork c q = [] := by
  unfold State.atWork Cluster.queue Tab.get
  cases hq : Tab.find (s.cluster c).queues q with
  | none => rfl
  | some k =>
    refine List.filter_eq_nil_iff.mpr fun x hx hwork => ?_
    have hany : s.working c = true := List.any_eq_true.mpr ⟨(q, k), Tab.mem_of_find hq, List.any_eq_true.mpr ⟨x, hx, hwork⟩⟩
    exact absurd (h.symm.trans hany) nofun

theorem stopDispatched_idle (h : s.working c = false) (status : Nat) : s.stopDispatched c status = s := by
  rw [stopDispatched_eq]
  exact foldl_id fun q _ => stopQueue_idle (atWork_of_idle h q) status

/-- A partition whose drain limit has passed. -/
def Part.atLimit (x : Part) : Part := { x with limited := true }

/-- The partition once its drain limit has passed, what ran having been stopped. -/
def State.limitPassed (s : State) (p : Nat) : State :=
  (s.modPart p Part.atLimit).counting p fun s =>
    (s.clustersOf p).foldl (fun s c => s.stopDispatched c 9) s

theorem exec_quiesceDrainLimit (hp : p < 16) (hst : (s.part p).st = 1) (hun : (s.part p).fromUnused = false)
    (hlim : (s.part p).limited = false) : exec (.quiesceDrainLimit p) s = go s (s.limitPassed p).settle :=
  ifUnit_when _ _ (decide_eq_true hp) (by rw [hst, hun, hlim]; rfl)

theorem limitPassed_idle (h : ∀ c ∈ s.clustersOf p, s.working c = false) :
    s.limitPassed p = (s.modPart p Part.atLimit).modPart p fun x =>
      { x with discards := x.discards + 0 } := by
  have hstop : ((s.modPart p Part.atLimit).clustersOf p).foldl (fun s c => s.stopDispatched c 9)
      (s.modPart p Part.atLimit) = s.modPart p Part.atLimit :=
    foldl_id fun c hc => stopDispatched_idle (s := s.modPart p Part.atLimit) (h c hc) 9
  rw [State.limitPassed, counting_eq, hstop, Nat.sub_self]

/-- A change of a partition's record leaves nothing to settle. -/
theorem settle_modPart (h : s.quiet) (f : Part → Part) : (s.modPart p f).settle = s.modPart p f := settle_quiet _ h

theorem drainLimit_idle (hp : p < 16) (hst : (s.part p).st = 1) (hun : (s.part p).fromUnused = false)
    (hlim : (s.part p).limited = false) (hq : s.quiet) (h : ∀ c ∈ s.clustersOf p, s.working c = false) :
    Completes (.quiesceDrainLimit p) s fun u => u.part p = { s.part p with limited := true }
      ∧ (∀ q, q ≠ p → u.part q = s.part q) ∧ u.clusters = s.clusters ∧ OnlyMgmt s u := by
  have hx := exec_quiesceDrainLimit hp hst hun hlim
  rw [limitPassed_idle h, settle_modPart (s := s.modPart p Part.atLimit) hq] at hx
  refine completes_kept hx rfl rfl ⟨?_, fun q hqp => ?_, rfl, rfl⟩
  · rw [part_modPart, if_pos rfl, part_modPart, if_pos rfl]
    rfl
  · rw [part_modPart, if_neg hqp, part_modPart, if_neg hqp]

end Limit

/-! ### One FQ entry at work -/

section OneEntry

variable {s : State} {c p : Nat} {x : QEntry}

/-- The entry once it has completed DISCARDED. -/
def QEntry.discarded (x : QEntry) : QEntry := { x with compl := some (9, 0) }

theorem queue_modQueue (s : State) (c q r : Nat) (f : Queue → Queue) : ((s.modQueue c q f).cluster c).queue r =
    if r = q then f ((s.cluster c).queue r) else (s.cluster c).queue r := by
  rw [State.modQueue, cluster_modCluster, if_pos rfl]
  refine (Tab.get_set _ _ _ _ _).trans ?_
  split
  · subst_vars
    rfl
  · rfl

theorem complete_single (hent : ((s.cluster c).queue 7).entries = [x]) (hc : x.compl = none) :
    (((s.complete c 7 x.ticket 9 0).cluster c).queue 7).entries = [x.discarded] := by
  rw [State.complete, State.modEntry, queue_modQueue, if_pos rfl]
  simp only [Queue.modEntry, hent, List.map_cons, List.map_nil, if_pos, hc]
  rfl

theorem Tab.get_mapV {α : Type} (d : α) (f : α → α) (t : Tab α) (k : Nat) (hd : f d = d) :
    Tab.get d (Tab.mapV f t) k = f (Tab.get d t k) := by
  rw [Tab.get, Tab.mapV, Tab.find_map_snd, Tab.get]
  cases Tab.find t k with
  | none => exact hd.symm
  | some v => rfl

/-- What is noted of the heads of queues leaves a queue without a head. -/
theorem noteHeads_queue (q : Nat) (h : ((s.cluster c).queue q).head = none) :
    ((s.noteHeads c).cluster c).queue q = (s.cluster c).queue q := by
  rw [State.noteHeads, cluster_modCluster, if_pos rfl]
  unfold Cluster.queue at h ⊢
  rw [Tab.get_mapV _ _ _ _ rfl]
  simp only [h]

theorem afterStop_fq (s : State) (c : Nat) : s.afterStop c 7 = s.noteHeads c := by
  have hrow : ¬ 7 < 4 := by decide
  rw [State.afterStop, if_neg hrow]

theorem stopEntry_fq (s : State) (c : Nat) (hd : x.disp = true) :
    s.stopEntry c 7 x 9 = (s.stopFq c x 9).afterStop c 7 := by
  have hdisp : ¬ (!x.disp) = true := by simp [hd]
  unfold State.stopEntry
  rw [if_neg hdisp]
  rfl

theorem stopFq_none (hfq : s.fqOf c x.ticket = none) : s.stopFq c x 9 = s.complete c 7 x.ticket 9 0 := by
  rw [State.stopFq, hfq]

theorem stopOne_fq (hd : x.disp = true) (ha : x.aborting = none) (hfq : s.fqOf c x.ticket = none) :
    s.stopOne c 7 9 x = (s.complete c 7 x.ticket 9 0).noteHeads c := by
  have hnone : x.aborting.isNone = true := by rw [ha]; rfl
  rw [State.stopOne, if_pos hnone, stopEntry_fq s c hd, stopFq_none hfq, afterStop_fq]

theorem stopDispatched_single (hent : ∀ q, q < 8 → ((s.cluster c).queue q).entries = if q = 7 then [x] else [])
    (hd : x.disp = true) (hc : x.compl = none) (ha : x.aborting = none) (hfq : s.fqOf c x.ticket = none) :
    s.stopDispatched c 9 = (s.complete c 7 x.ticket 9 0).noteHeads c := by
  have hidle (q : Nat) (hq : q ∈ upTo 7) : s.stopQueue c 9 q = s := by
    have hlt : q < 7 := List.mem_range.mp hq
    refine stopQueue_idle ?_ 9
    rw [State.atWork, hent q (by omega), if_neg (by omega), List.filter_nil]
  have hlast : s.atWork c 7 = [x] := by
    rw [State.atWork, hent 7 (by omega), if_pos rfl]
    simp [hd, hc]
  have hrange : upTo 8 = upTo 7 ++ [7] := List.range_succ
  rw [stopDispatched_eq, hrange, List.foldl_append, foldl_id (l := upTo 7) hidle, List.foldl_cons, List.foldl_nil, State.stopQueue, hlast,
    List.foldl_cons, List.foldl_nil, stopOne_fq hd ha hfq]

/-- What a cluster's single FQ entry and its partition have become at the drain limit. -/
theorem limitPassed_single (hone : s.clustersOf p = [c])
    (hent : ∀ q, q < 8 → ((s.cluster c).queue q).entries = if q = 7 then [x] else []) (hd : x.disp = true)
    (hc : x.compl = none) (ha : x.aborting = none) (hfq : s.fqOf c x.ticket = none) :
    ∃ n, s.limitPassed p = (((s.modPart p Part.atLimit).complete c 7 x.ticket 9 0).noteHeads
      c).modPart p fun x => { x with discards := x.discards + n } := by
  have hone' : (s.modPart p Part.atLimit).clustersOf p = [c] := hone
  rw [State.limitPassed, counting_eq, hone', List.foldl_cons, List.foldl_nil,
    stopDispatched_single (s := s.modPart p Part.atLimit) hent hd hc ha hfq]
  exact ⟨_, rfl⟩

theorem entry_single {s : State} (hent : ((s.cluster c).queue 7).entries = [x]) : s.entry c 7 x.ticket = some x := by
  rw [State.entry, hent, List.find?_cons_of_pos]
  exact beq_self_eq_true x.ticket

theorem noteHeads_single (hent : ((s.cluster c).queue 7).entries = [x]) (hd : x.disp = true) :
    (((s.noteHeads c).cluster c).queue 7).entries = [x] := by
  have hhead : ((s.cluster c).queue 7).head = none := by
    rw [Queue.head, hent]
    simp [hd]
  rw [noteHeads_queue 7 hhead, hent]

theorem drainLimit_single (hp : p < 16) (hst : (s.part p).st = 1) (hun : (s.part p).fromUnused = false)
    (hlim : (s.part p).limited = false) (hq : s.quiet) (hone : s.clustersOf p = [c])
    (hent : ∀ q, q < 8 → ((s.cluster c).queue q).entries = if q = 7 then [x] else []) (hd : x.disp = true)
    (hc : x.compl = none) (ha : x.aborting = none) (hfq : s.fqOf c x.ticket = none) :
    Completes (.quiesceDrainLimit p) s fun u => (u.part p).limited = true
      ∧ (u.entry c 7 x.ticket).bind QEntry.compl = some (9, 0) ∧ (u.part p).st = 1 := by
  obtain ⟨n, hn⟩ := limitPassed_single hone hent hd hc ha hfq
  have hx := exec_quiesceDrainLimit hp hst hun hlim
  rw [hn, settle_modPart (s := ((s.modPart p Part.atLimit).complete c 7 x.ticket 9 0).noteHeads c)
    hq] at hx
  have hpart : ((((s.modPart p Part.atLimit).complete c 7 x.ticket 9 0).noteHeads
      c).modPart p fun x => { x with discards := x.discards + n }).part p
      = { s.part p with limited := true, discards := (s.part p).discards + n } := by
    rw [part_modPart, if_pos rfl]
    exact congrArg (fun x : Part => { x with discards := x.discards + n })
      ((part_modPart s p p Part.atLimit).trans (if_pos rfl))
  have hseven : ((s.cluster c).queue 7).entries = [x] := hent 7 (by decide)
  have hdone := noteHeads_single (complete_single (s := s.modPart p Part.atLimit) hseven hc)
    (x := x.discarded) hd
  refine completes_kept hx rfl rfl ⟨?_, ?_, ?_⟩
  · rw [hpart]
  · exact congrArg (Option.bind · QEntry.compl) (entry_single (s := ((s.modPart p Part.atLimit).complete c 7 x.ticket 9 0).noteHeads c) hdone)
  · rw [hpart]
    exact hst

end OneEntry

/-! ### A partition that is not in a quiesce -/

section NotQuiescing

variable {s : State} {p : Nat}

theorem ifUnit_when_not (s t : State) {c d : Bool} (hd : d = false) : ifUnit s c (when' d s t) = .next s := by
  rw [hd]
  cases c <;> rfl

theorem notQuiescing_completes (hst : (s.part p).st ≠ 1) : (Completes (.quiesceDrainLimit p) s fun u => u = s)
    ∧ (Completes (.quiesceApply p) s fun u => u = s) ∧ Completes (.poisonFillComplete p) s fun u => u = s := by
  have hno : ((s.part p).st == 1) = false := by simpa using hst
  exact ⟨⟨s, ifUnit_when_not s _ (by rw [hno]; rfl), rfl⟩, ⟨s, ifUnit_when_not s _ (by rw [hno]; rfl), rfl⟩,
    ⟨s, ifUnit_when_not s _ (by rw [hno]; rfl), rfl⟩⟩

end NotQuiescing

/-! ### Clusters, rings and partitions put in order (15 R511) -/

section Reassigned

variable {s t u : State}

/-- Only clusters, rings and the records of partitions have changed. -/
def Reassigned (s t : State) : Prop :=
  { t with clusters := s.clusters, rings := s.rings, mgmt := { t.mgmt with parts := s.mgmt.parts } } = s

theorem Reassigned.trans (h : Reassigned s t) (h' : Reassigned t u) : Reassigned s u := by
  unfold Reassigned at h h' ⊢
  exact (congrArg (fun x : State =>
    { x with clusters := s.clusters, rings := s.rings, mgmt := { x.mgmt with parts := s.mgmt.parts } }) h').trans h

theorem modPart_reassigned (s : State) (p : Nat) (f : Part → Part) : Reassigned s (s.modPart p f) := rfl
theorem setPart_reassigned (s : State) (p : Nat) (x : Part) : Reassigned s (s.setPart p x) := rfl

/-- Only clusters have changed. -/
def ClustersOnly (s t : State) : Prop := { t with clusters := s.clusters } = s

/-- Only rings have changed. -/
def RingsOnly (s t : State) : Prop := { t with rings := s.rings } = s

theorem ClustersOnly.trans (h : ClustersOnly s t) (h' : ClustersOnly t u) : ClustersOnly s u := by
  unfold ClustersOnly at h h' ⊢
  exact (congrArg (fun x : State => { x with clusters := s.clusters }) h').trans h

theorem RingsOnly.trans (h : RingsOnly s t) (h' : RingsOnly t u) : RingsOnly s u := by
  unfold RingsOnly at h h' ⊢
  exact (congrArg (fun x : State => { x with rings := s.rings }) h').trans h

theorem foldl_clustersOnly {g : State → Nat → State} (hg : ∀ s a, ClustersOnly s (g s a)) (s : State) (l : List Nat) :
    ClustersOnly s (l.foldl g s) :=
  foldl_relates (R := ClustersOnly) (fun _ => rfl) (fun _ _ _ => ClustersOnly.trans) hg s l

theorem foldl_ringsOnly {g : State → Nat → State} (hg : ∀ s a, RingsOnly s (g s a)) (s : State) (l : List Nat) :
    RingsOnly s (l.foldl g s) :=
  foldl_relates (R := RingsOnly) (fun _ => rfl) (fun _ _ _ => RingsOnly.trans) hg s l

theorem ClustersOnly.reassigned (h : ClustersOnly s t) : Reassigned s t :=
  (congrArg (fun x : State => { x with rings := s.rings, mgmt := { x.mgmt with parts := s.mgmt.parts } }) h :)
theorem RingsOnly.reassigned (h : RingsOnly s t) : Reassigned s t :=
  (congrArg (fun x : State => { x with clusters := s.clusters, mgmt := { x.mgmt with parts := s.mgmt.parts } }) h :)
theorem ClustersOnly.part (h : ClustersOnly s t) (p : Nat) : t.part p = s.part p :=
  (congrArg (fun x : State => x.part p) h :)
theorem RingsOnly.part (h : RingsOnly s t) (p : Nat) : t.part p = s.part p :=
  (congrArg (fun x : State => x.part p) h :)
theorem RingsOnly.cluster (h : RingsOnly s t) (c : Nat) : t.cluster c = s.cluster c :=
  (congrArg (fun x : State => x.cluster c) h :)

theorem Reassigned.values (h : Reassigned s t) : SameValues s t :=
  ⟨(congrArg (fun x : State => x.mgmt.od) h :), (congrArg State.build h :), (congrArg (fun x : State => x.crust.straps) h :)⟩
theorem Reassigned.pend (h : Reassigned s t) : t.mgmt.pend = s.mgmt.pend := (congrArg (fun x : State => x.mgmt.pend) h :)
theorem Reassigned.mem (h : Reassigned s t) : t.mem = s.mem := (congrArg State.mem h :)
theorem Reassigned.crust (h : Reassigned s t) : t.crust = s.crust := (congrArg State.crust h :)
theorem Reassigned.build (h : Reassigned s t) : t.build = s.build := (congrArg State.build h :)
theorem Reassigned.pending (h : Reassigned s t) : t.pending = s.pending := (congrArg State.pending h :)
theorem Reassigned.cfgSet (h : Reassigned s t) (p : Nat) : t.cfgSet p = s.cfgSet p :=
  (congrArg (fun x : State => x.cfgSet p) h :)

theorem Reassigned.quiet (h : Reassigned s t) (hq : s.quiet) : t.quiet := by
  unfold Reassigned at h
  rw [← h] at hq
  exact hq

theorem Reassigned.nothingHeld (h : Reassigned s t) (hh : s.nothingHeld) : t.nothingHeld := by
  unfold Reassigned at h
  rw [← h] at hh
  exact hh

/-- Each cluster of a list once: what a pass of steps leaves, when each step changes its own cluster. -/
theorem foldl_cluster {g : State → Nat → State} {f : Nat → Cluster → Cluster}
    (hg : ∀ s b m, (g s b).cluster m = if m = b then f m (s.cluster m) else s.cluster m) (s : State) {cs : List Nat}
    (hnd : cs.Nodup) (m : Nat) : (cs.foldl g s).cluster m = if m ∈ cs then f m (s.cluster m) else s.cluster m := by
  induction cs generalizing s with
  | nil => rfl
  | cons c cs ih =>
    obtain ⟨hc, hcs⟩ := List.nodup_cons.mp hnd
    rw [List.foldl_cons, ih _ hcs, hg]
    by_cases hm : m = c
    · subst hm
      rw [if_neg hc, if_pos rfl, if_pos List.mem_cons_self]
    · simp [hm]

end Reassigned

/-! ### Clusters leave and join -/

section Assign

variable (s : State) (p : Nat)

/-- The clusters that the partition is to have. -/
def State.clustersNew (s : State) (p : Nat) : Nat := if s.partEnable p then s.clustersOd p else 0

/-- A cluster once it has left or joined partition `p`, as it is to be of it or not. -/
def Cluster.assigned (k : Cluster) (p : Nat) (join : Bool) : Cluster :=
  if (k.part == some p) && !join then k.clear none
  else if !(k.part == some p) && join then k.clear (some p)
  else k

theorem assigned_part (k : Cluster) (join : Bool) : (k.assigned p join).part = some p ↔ join = true := by
  unfold Cluster.assigned
  by_cases h : k.part = some p <;> cases join <;> simp [h, Cluster.clear]

/-- One cluster leaves or joins. -/
def State.assignOne (s : State) (p new c : Nat) : State :=
  let mine := (s.cluster c).part == some p
  if mine && !new.testBit c then s.modCluster c fun k => k.clear none
  else if !mine && new.testBit c then s.modCluster c fun k => k.clear (some p)
  else s

theorem assign_eq : s.assign p = (upTo 48).foldl (fun t c => t.assignOne p (s.clustersNew p) c) s := rfl

theorem assignOne_only (new c : Nat) : ClustersOnly s (s.assignOne p new c) := by
  unfold State.assignOne
  dsimp only
  split
  · rfl
  split <;> rfl

theorem assignOne_cluster (new c d : Nat) : (s.assignOne p new c).cluster d =
    if d = c then (s.cluster d).assigned p (new.testBit d) else s.cluster d := by
  unfold State.assignOne
  dsimp only
  by_cases hd : d = c
  · subst hd
    rw [if_pos rfl, Cluster.assigned]
    split
    · rw [cluster_modCluster, if_pos rfl]
    split
    · rw [cluster_modCluster, if_pos rfl]
    · rfl
  · rw [if_neg hd]
    split
    · rw [cluster_modCluster, if_neg hd]
    split
    · rw [cluster_modCluster, if_neg hd]
    · rfl

theorem assign_only : ClustersOnly s (s.assign p) := by
  rw [assign_eq]
  exact foldl_clustersOnly (fun t c => assignOne_only t p _ c) s (upTo 48)

theorem assign_part {c : Nat} (hc : c < 48) : ((s.assign p).cluster c).part = some p ↔
    s.partEnable p = true ∧ (s.clustersOd p).testBit c = true := by
  have hcluster := foldl_cluster (f := fun d k => k.assigned p ((s.clustersNew p).testBit d))
    (fun t c d => assignOne_cluster t p (s.clustersNew p) c d) s (cs := upTo 48) List.nodup_range c
  rw [← assign_eq, if_pos (show c ∈ upTo 48 from List.mem_range.mpr hc)] at hcluster
  rw [hcluster, assigned_part, State.clustersNew]
  split
  next h => simp [h]
  next h => simp [h]

/-- One ring of the partition starts anew, where it is enabled or changes. -/
def State.renewOne (s old : State) (p r : Nat) : State :=
  let k := ringKey p r
  if s.ringOn k && (!old.ringOn k || s.odVal (0x2400 + k) 1 != old.odVal (0x2400 + k) 1 || s.ringSize k != old.ringSize k) then
    s.modRing p r fun g => { g with head := 0, tail := 0, stopped := false }
  else s

theorem renewRings_eq (old : State) : s.renewRings old p = (upTo 16).foldl (fun t r => t.renewOne old p r) s := rfl

theorem renewOne_only (old : State) (r : Nat) : RingsOnly s (s.renewOne old p r) := by
  unfold State.renewOne
  dsimp only
  split <;> rfl

theorem renewRings_only (old : State) : RingsOnly s (s.renewRings old p) := by
  rw [renewRings_eq]
  exact foldl_ringsOnly (fun t r => renewOne_only t p old r) s (upTo 16)

end Assign

/-! ### What depends on the values in force alone -/

section Values

variable {s t : State}

theorem SameValues.trans {u : State} (h : SameValues s t) (h' : SameValues t u) : SameValues s u :=
  ⟨h'.1.trans h.1, h'.2.1.trans h.2.1, h'.2.2.trans h.2.2⟩

theorem SameValues.odNat (h : SameValues s t) (i j : Nat) : t.odNat i j = s.odNat i j := by
  rw [State.odNat, State.odNat, h.odVal]

theorem SameValues.partEnable (h : SameValues s t) (p : Nat) : t.partEnable p = s.partEnable p := by
  rw [State.partEnable, State.partEnable, h.odNat]

theorem SameValues.clustersOd (h : SameValues s t) (p : Nat) : t.clustersOd p = s.clustersOd p := by
  rw [State.clustersOd, State.clustersOd, h.odNat]

theorem SameValues.regions (h : SameValues s t) : t.regions = s.regions := by
  unfold State.regions
  simp only [h.1, h.odNat]

/-- Which stacks are to be filled depends on the values and the memory. -/
theorem SameValues.toFill (h : SameValues s t) (hm : t.mem = s.mem) (p : Nat) : t.toFill p = s.toFill p := by
  have hb : t.build = s.build := h.2.1
  unfold State.toFill State.fitted State.fenced State.stk State.chan
  simp only [h.regions, hm, hb]

end Values

/-! ### The partition reopens (15 R511) -/

section Reopen

variable {s : State} {p : Nat} {ok : Bool}

/-- The state in which a partition reopens. -/
def State.restSt (s : State) (p : Nat) (ok : Bool) : Nat :=
  if ok then (if s.partEnable p then 2 else 0) else if (s.part p).fromUnused then 0 else 2

/-- The partition's record, and its clusters, once it has reopened. -/
def State.opened (s : State) (p : Nat) (ok : Bool) : State :=
  (s.clustersOf p).foldl (fun s c => s.modCluster c fun k => { k with closed := false })
    (s.setPart p { st := s.restSt p ok, dumpAt := (s.part p).dumpAt })

theorem opened_clustersOnly :
    ClustersOnly (s.setPart p { st := s.restSt p ok, dumpAt := (s.part p).dumpAt }) (s.opened p ok) :=
  foldl_clustersOnly (g := fun s c => s.modCluster c fun k => { k with closed := false }) (fun _ _ => rfl) _ _

theorem opened_reassigned : Reassigned s (s.opened p ok) :=
  (setPart_reassigned s p _).trans (opened_clustersOnly).reassigned

theorem reopen_eq (hq : s.quiet) (hh : s.nothingHeld) : s.reopen p ok = s.opened p ok :=
  retryHeld_quiet (s.opened p ok) (opened_reassigned.quiet hq) (opened_reassigned.nothingHeld hh)

theorem opened_part : ((s.opened p ok).part p).st = s.restSt p ok := by
  rw [opened_clustersOnly.part, State.part_setPart_same]

theorem clustersOf_nodup (s : State) (p : Nat) : (s.clustersOf p).Nodup := List.nodup_range.filter _

theorem mem_clustersOf {c : Nat} : c ∈ s.clustersOf p ↔ c < 48 ∧ (s.cluster c).part = some p := by
  simp [State.clustersOf, upTo]

theorem opened_cluster (c : Nat) : (s.opened p ok).cluster c =
    if c ∈ s.clustersOf p then { s.cluster c with closed := false } else s.cluster c :=
  foldl_cluster (f := fun _ k => { k with closed := false }) (fun s c d => cluster_modCluster s c d _)
    (s.setPart p { st := s.restSt p ok, dumpAt := (s.part p).dumpAt }) (clustersOf_nodup s p) c

theorem opened_cluster_part (c : Nat) : ((s.opened p ok).cluster c).part = (s.cluster c).part := by
  rw [opened_cluster]
  split <;> rfl

theorem opened_cluster_closed {c : Nat} (hc : c < 48) (h : ((s.opened p ok).cluster c).part = some p) :
    ((s.opened p ok).cluster c).closed = false := by
  rw [opened_cluster_part] at h
  rw [opened_cluster, if_pos (mem_clustersOf.mpr ⟨hc, h⟩)]

end Reopen

/-! ### A set that breaks a rule (15 R504, R506) -/

section Fail

variable {s : State} {p : Nat} {f : Nat × Nat × Nat}

theorem log_logs (s : State) {ws : List Word} (h : ws.length ≤ 6) : Logs s (s.log ws) ws := by
  refine ⟨rfl, rfl, logEntry s ws, List.getLast?_concat, ?_⟩
  show ((ws ++ List.replicate 6 0).take 6).take ws.length = ws
  rw [List.take_take, Nat.min_eq_left h, List.take_left]

/-- No write of the module set waits: a quiesce has none of its own to apply. -/
theorem moduleBoundary_none (h : ∀ e ∈ s.mgmt.pend, e.set_ ≠ 16) : s.moduleBoundary p = s := by
  have hdue : (s.mgmt.pend.filter fun e => e.set_ == 16 && e.cls == 2
      && (!isWindow (e.key / 256) || s.winBoundary (e.key / 256) == p)) = [] := by
    refine List.filter_eq_nil_iff.mpr fun e he hdue => h e he ?_
    simp only [Bool.and_eq_true, beq_iff_eq] at hdue
    exact hdue.1.1
  unfold State.moduleBoundary
  exact if_pos hdue

theorem noteDiscards_zero (h : (s.part p).discards = 0) : s.noteDiscards p = s := if_pos h

theorem failSet_values : SameValues s (s.failSet p f) := ⟨rfl, rfl, rfl⟩

theorem failSet_cfgSet : (s.failSet p f).cfgSet p =
    { s.cfgSet p with st := .failed, fail := packNat [(16, f.1), (8, f.2.1), (0, f.2.2)] } := by
  rw [State.failSet, log_cfgSet, modSet_cfgSet]

theorem failSet_logs :
    Logs s (s.failSet p f) [pack [(56, 0x62), (52, 15), (47, setCode p), (24, f.1), (16, f.2.1), (8, f.2.2)]] :=
  log_logs (s.modSet p _) (by simp)

end Fail

/-! ### A set is applied -/

section Apply

variable {s t u : State} {p : Nat}

/-- The values of a set are in force, nothing waits, and the clusters are the partition's as the values say. -/
def State.InForce (s u : State) (p : Nat) : Prop :=
  (∀ e ∈ s.mgmt.pend, u.odVal (e.key / 256) (e.key % 256) = e.val) ∧ u.mgmt.pend = []
    ∧ (∀ c, c < 48 → ((u.cluster c).part = some p ↔ u.partEnable p = true ∧ (u.clustersOd p).testBit c = true))
    ∧ u.mem = s.mem

theorem State.InForce.keeps (h : s.InForce t p) (hv : SameValues t u) (hp : u.mgmt.pend = t.mgmt.pend)
    (hc : ∀ c, (u.cluster c).part = (t.cluster c).part) (hm : u.mem = t.mem) : s.InForce u p := by
  obtain ⟨hval, hpend, hclusters, hmem⟩ := h
  refine ⟨fun e he => (hv.odVal _ _).trans (hval e he), hp.trans hpend, fun c hlt => ?_, hm.trans hmem⟩
  rw [hc, hv.partEnable, hv.clustersOd]
  exact hclusters c hlt

/-- The pending writes are in force and the clusters assigned; the version has not counted yet. -/
def State.applied (s : State) (p : Nat) : State :=
  (((s.commitSet p s.mgmt.pend).assign p).renewRings s p).modPart p fun x => { x with changed := s.mgmt.pend != [] }

theorem applied_reassigned : Reassigned (s.commitSet p s.mgmt.pend) (s.applied p) :=
  ((assign_only _ p).reassigned.trans (renewRings_only _ p s).reassigned).trans (modPart_reassigned _ p _)

theorem applied_values : SameValues (s.applyPends s.mgmt.pend) (s.applied p) :=
  (commitSet_values s p _).trans applied_reassigned.values

theorem applied_mem : (s.applied p).mem = s.mem := applied_reassigned.mem.trans (commitSet_only s p _).mem

theorem applied_pend : (s.applied p).mgmt.pend = [] := by
  rw [applied_reassigned.pend, commitSet_pend]
  refine List.filter_eq_nil_iff.mpr fun e he => ?_
  simp only [Bool.not_eq_true', Bool.not_eq_false, List.any_eq_true, beq_iff_eq]
  exact ⟨e, he, rfl⟩

theorem applied_part : (s.applied p).part p = { s.part p with changed := s.mgmt.pend != [] } := by
  have hcommit : (s.commitSet p s.mgmt.pend).part p = s.part p :=
    (congrArg (fun m : Mgmt => Tab.get ({} : Part) m.parts p) (commitSet_only s p s.mgmt.pend).mgmt :)
  rw [State.applied, part_modPart, if_pos rfl, (renewRings_only _ p s).part, (assign_only _ p).part, hcommit]

theorem applied_cluster_part {c : Nat} (hc : c < 48) : ((s.applied p).cluster c).part = some p ↔
    (s.applied p).partEnable p = true ∧ ((s.applied p).clustersOd p).testBit c = true := by
  have hcluster : (s.applied p).cluster c = ((s.commitSet p s.mgmt.pend).assign p).cluster c :=
    (renewRings_only ((s.commitSet p s.mgmt.pend).assign p) p s).cluster c
  have hv := (applied_reassigned (s := s) (p := p)).values
  rw [hcluster, hv.partEnable, hv.clustersOd]
  exact assign_part _ p hc

/-- Of pending writes with different keys each is in force once they are applied. -/
theorem applied_inForce (hblob : ∀ e ∈ s.mgmt.pend, e.blob = none) (hnd : (s.mgmt.pend.map Pend.key).Nodup) :
    s.InForce (s.applied p) p := by
  refine ⟨fun e he => ?_, applied_pend, fun c hc => applied_cluster_part hc, applied_mem⟩
  rw [applied_values.odVal]
  exact applyPends_odVal_mem s he (hblob e he) fun x hx hkey => List.inj_on_of_nodup_map hnd hx he hkey

theorem applied_cfgSet_version : ((s.applied p).cfgSet p).version = (s.cfgSet p).version := by
  rw [applied_reassigned.cfgSet, commitSet_version]

end Apply

/-! ### QUIESCE_APPLY -/

section ExecApply

variable {s : State} {p : Nat}

/-- The drain of the partition has ended, and nothing else than its own set waits. -/
structure DrainEnded (s : State) (p : Nat) : Prop where
  lt : p < 16
  st : (s.part p).st = 1
  filling : (s.part p).filling = false
  discards : (s.part p).discards = 0
  idle : (s.part p).fromUnused = true ∨ ∀ c ∈ s.clustersOf p, s.working c = false
  pend : ∀ e ∈ s.mgmt.pend, e.set_ = p ∧ e.cls = 2 ∧ e.blob = none

theorem DrainEnded.due (h : DrainEnded s p) : (s.mgmt.pend.filter fun e => e.set_ == p && e.cls == 2) = s.mgmt.pend := by
  refine List.filter_eq_self.mpr fun e he => ?_
  obtain ⟨hset, hcls, -⟩ := h.pend e he
  simp [hset, hcls]

theorem DrainEnded.guard (h : DrainEnded s p) : ((s.part p).st == 1 && !(s.part p).filling
    && ((s.part p).fromUnused || (s.clustersOf p).all fun c => !s.working c)) = true := by
  simpa [h.st, h.filling] using h.idle

/-- Of the module set nothing waits, so none of its writes has a boundary here. -/
theorem DrainEnded.noModule (h : DrainEnded s p) : ∀ e ∈ s.mgmt.pend, e.set_ ≠ 16 := fun e he => by
  obtain ⟨hset, -, -⟩ := h.pend e he
  have hlt := h.lt
  omega

theorem exec_quiesceApply_fail (h : DrainEnded s p) {f : Nat × Nat × Nat}
    (hv : (s.applyPends s.mgmt.pend).validate p = some f) :
    exec (.quiesceApply p) s = go s ((s.failSet p f).reopen p false) := by
  have hboundary : (s.failSet p f).moduleBoundary p = s.failSet p f := moduleBoundary_none (s := s.failSet p f) h.noModule
  refine (ifUnit_when s _ (decide_eq_true h.lt) h.guard).trans (congrArg (go s) ?_)
  rw [noteDiscards_zero h.discards]
  dsimp only
  rw [h.due, hv]
  dsimp only
  rw [hboundary]

theorem exec_quiesceApply_ok (h : DrainEnded s p) (hv : (s.applyPends s.mgmt.pend).validate p = none) :
    exec (.quiesceApply p) s = go s
      (if (s.part p).fromUnused && (s.applied p).partEnable p && (s.applied p).toFill p != [] then
        (s.applied p).modPart p fun x => { x with filling := true }
      else (s.applied p).endApply p) := by
  have hboundary : (s.applied p).moduleBoundary p = s.applied p :=
    moduleBoundary_none fun e he => absurd (applied_pend (s := s) (p := p) ▸ he) List.not_mem_nil
  refine (ifUnit_when s _ (decide_eq_true h.lt) h.guard).trans (congrArg (go s) ?_)
  rw [noteDiscards_zero h.discards]
  dsimp only
  rw [h.due, hv]
  dsimp only
  rw [← State.applied, hboundary]

end ExecApply

/-! ### The outcomes of QUIESCE_APPLY -/

section Outcomes

variable {s : State} {p : Nat}

theorem apply_fails (h : DrainEnded s p) (hq : s.quiet) (hh : s.nothingHeld) {f : Nat × Nat × Nat}
    (hv : (s.applyPends s.mgmt.pend).validate p = some f) : Completes (.quiesceApply p) s fun u =>
      (u.cfgSet p).st = .failed ∧ (u.cfgSet p).fail = packNat [(16, f.1), (8, f.2.1), (0, f.2.2)]
        ∧ (u.cfgSet p).version = (s.cfgSet p).version ∧ (∀ k l, u.odVal k l = s.odVal k l) ∧ u.mgmt.pend = s.mgmt.pend
        ∧ (u.part p).st = (if (s.part p).fromUnused then 0 else 2)
        ∧ Logs s u [pack [(56, 0x62), (52, 15), (47, setCode p), (24, f.1), (16, f.2.1), (8, f.2.2)]] ∧ u.mem = s.mem := by
  have hx := exec_quiesceApply_fail h hv
  have hopen := opened_reassigned (s := s.failSet p f) (p := p) (ok := false)
  rw [reopen_eq (s := s.failSet p f) hq hh] at hx
  refine completes_kept hx hopen.build hopen.pending ?_
  rw [hopen.cfgSet, failSet_cfgSet]
  refine ⟨rfl, rfl, rfl, fun k l => (failSet_values.trans hopen.values).odVal k l, hopen.pend, opened_part, ?_, hopen.mem⟩
  unfold Logs
  rw [hopen.crust]
  exact failSet_logs

/-- The version of an applied set counts when anything was put into force. -/
def State.counted (s : State) (p : Nat) : State := (s.applied p).endCommit p (s.mgmt.pend != [])

theorem SetsOnly.quiet {t : State} (h : SetsOnly s t) (hq : s.quiet) : t.quiet := by
  rw [← h.rest] at hq
  exact hq

theorem SetsOnly.nothingHeld {t : State} (h : SetsOnly s t) (hh : s.nothingHeld) : t.nothingHeld := by
  rw [← h.rest] at hh
  exact hh

theorem SetsOnly.clusters {t : State} (h : SetsOnly s t) : t.clusters = s.clusters := (congrArg State.clusters h.rest :)
theorem SetsOnly.pending {t : State} (h : SetsOnly s t) : t.pending = s.pending := (congrArg State.pending h.rest :)

theorem counted_only : SetsOnly (s.applied p) (s.counted p) := endCommit_only (s.applied p) p _

theorem counted_values : SameValues (s.applied p) (s.counted p) := counted_only.values (endCommit_od _ p _)

theorem applied_quiet (hq : s.quiet) : (s.applied p).quiet :=
  applied_reassigned.quiet ((commitSet_only s p s.mgmt.pend).quiet hq)

theorem applied_nothingHeld (hh : s.nothingHeld) : (s.applied p).nothingHeld :=
  applied_reassigned.nothingHeld ((commitSet_only s p s.mgmt.pend).nothingHeld hh)

theorem endApply_opened (hq : s.quiet) (hh : s.nothingHeld) :
    s.endApply p = (s.endCommit p (s.part p).changed).opened p true :=
  reopen_eq ((endCommit_only s p _).quiet hq) ((endCommit_only s p _).nothingHeld hh)

theorem endApply_eq (hq : s.quiet) (hh : s.nothingHeld) : (s.applied p).endApply p = (s.counted p).opened p true := by
  have hchanged : ((s.applied p).part p).changed = (s.mgmt.pend != []) := by rw [applied_part]
  rw [endApply_opened (applied_quiet hq) (applied_nothingHeld hh), hchanged]
  rfl

/-- The state once the set is applied and the partition is open again. -/
def State.reopened (s : State) (p : Nat) : State := (s.counted p).opened p true

theorem reopened_inForce (h : s.InForce (s.applied p) p) : s.InForce (s.reopened p) p := by
  have hopen := opened_reassigned (s := s.counted p) (p := p) (ok := true)
  refine (h.keeps counted_values (endCommit_pend _ p _) (fun c => ?_) counted_only.mem).keeps hopen.values hopen.pend
    (fun c => opened_cluster_part c) hopen.mem
  rw [State.cluster, State.counted, (endCommit_only _ p _).clusters, ← State.cluster]

theorem reopened_version : ((s.reopened p).cfgSet p).version =
    if s.mgmt.pend = [] then (s.cfgSet p).version else ((s.cfgSet p).version + 1) % 2 ^ 32 := by
  rw [State.reopened, opened_reassigned.cfgSet, State.counted, endCommit_version, applied_cfgSet_version]
  by_cases h : s.mgmt.pend = [] <;> simp [h]

theorem reopened_prevVer (h : s.mgmt.pend ≠ []) :
    ((s.reopened p).cfgSet p).prevVer = some (s.cfgSet p).version := by
  have hchanged : (s.mgmt.pend != []) = true := by simpa using h
  rw [State.reopened, opened_reassigned.cfgSet, State.counted, hchanged, endCommit_prevVer, applied_cfgSet_version]

theorem reopened_st : ((s.reopened p).part p).st = if (s.reopened p).partEnable p then 2 else 0 := by
  rw [State.reopened, opened_part, opened_reassigned.values.partEnable]
  rfl

theorem reopened_build : (s.reopened p).build = s.build ∧ (s.reopened p).pending = s.pending := by
  have hcommit := commitSet_only s p s.mgmt.pend
  have hopen := opened_reassigned (s := s.counted p) (p := p) (ok := true)
  exact ⟨hopen.build.trans (counted_only.build.trans (applied_reassigned.build.trans hcommit.build)),
    hopen.pending.trans (counted_only.pending.trans (applied_reassigned.pending.trans hcommit.pending))⟩

/-- Whether stacks are to be filled is the same of the values to be validated and of those applied. -/
theorem applied_fills : ((s.part p).fromUnused && (s.applied p).partEnable p && (s.applied p).toFill p != []) = true ↔
    (s.part p).fromUnused = true ∧ (s.applyPends s.mgmt.pend).partEnable p = true
      ∧ (s.applyPends s.mgmt.pend).toFill p ≠ [] := by
  have hmem : (s.applied p).mem = (s.applyPends s.mgmt.pend).mem :=
    applied_mem.trans (applyPends_only s s.mgmt.pend).sets.mem.symm
  rw [applied_values.partEnable, applied_values.toFill hmem]
  simp [and_assoc]

theorem apply_reopens (h : DrainEnded s p) (hnd : (s.mgmt.pend.map Pend.key).Nodup) (hq : s.quiet) (hh : s.nothingHeld)
    (hv : (s.applyPends s.mgmt.pend).validate p = none)
    (hfill : (s.part p).fromUnused = false ∨ (s.applyPends s.mgmt.pend).partEnable p = false
      ∨ (s.applyPends s.mgmt.pend).toFill p = []) :
    Completes (.quiesceApply p) s fun u => s.InForce u p
      ∧ (u.cfgSet p).version = (if s.mgmt.pend = [] then (s.cfgSet p).version else ((s.cfgSet p).version + 1) % 2 ^ 32)
      ∧ (s.mgmt.pend ≠ [] → (u.cfgSet p).prevVer = some (s.cfgSet p).version)
      ∧ (u.part p).st = (if u.partEnable p then 2 else 0)
      ∧ (∀ c, (u.cluster c).part = some p → c < 48 → (u.cluster c).closed = false) := by
  have hx := exec_quiesceApply_ok h hv
  have hno : ¬ ((s.part p).fromUnused && (s.applied p).partEnable p && (s.applied p).toFill p != []) = true := by
    rw [applied_fills]
    rintro ⟨hun, hen, hto⟩
    rcases hfill with hf | hf | hf
    · exact absurd (hun.symm.trans hf) nofun
    · exact absurd (hen.symm.trans hf) nofun
    · exact hto hf
  rw [if_neg hno, endApply_eq hq hh] at hx
  obtain ⟨hbuild, hpending⟩ := reopened_build (s := s) (p := p)
  exact completes_kept hx hbuild hpending ⟨reopened_inForce (applied_inForce (fun e he => (h.pend e he).2.2) hnd),
    reopened_version, reopened_prevVer, reopened_st, fun c hpart hc => opened_cluster_closed hc hpart⟩

theorem apply_fills (h : DrainEnded s p) (hnd : (s.mgmt.pend.map Pend.key).Nodup)
    (hv : (s.applyPends s.mgmt.pend).validate p = none) (hun : (s.part p).fromUnused = true)
    (hen : (s.applyPends s.mgmt.pend).partEnable p = true) (hto : (s.applyPends s.mgmt.pend).toFill p ≠ []) :
    Completes (.quiesceApply p) s fun u => s.InForce u p ∧ (u.part p).st = 1 ∧ (u.part p).filling = true := by
  have hx := exec_quiesceApply_ok h hv
  rw [if_pos (applied_fills.mpr ⟨hun, hen, hto⟩)] at hx
  have hcommit := commitSet_only s p s.mgmt.pend
  have hmod := modPart_reassigned (s.applied p) p fun x => { x with filling := true }
  refine completes_kept hx (hmod.build.trans (applied_reassigned.build.trans hcommit.build))
    (hmod.pending.trans (applied_reassigned.pending.trans hcommit.pending))
    ⟨(applied_inForce (fun e he => (h.pend e he).2.2) hnd).keeps hmod.values hmod.pend (fun _ => rfl) hmod.mem, ?_, ?_⟩
  · rw [part_modPart, if_pos rfl, applied_part]
    exact h.st
  · rw [part_modPart, if_pos rfl]

end Outcomes

/-! ### The poison fill (03 R108) -/

section Fill

variable (s : State) (k : Nat)

theorem Tab.find_filter {α : Type} (q : Nat → Bool) (t : Tab α) (i : Nat) :
    Tab.find (t.filter fun e => q e.1) i = if q i then Tab.find t i else none := by
  induction t with
  | nil => simp [Tab.find]
  | cons e t ih =>
    obtain ⟨j, v⟩ := e
    by_cases hj : j = i
    · subst hj
      cases hq : q j <;> simp [hq, Tab.find, ih]
    · cases hq : q j <;> simp [hq, Tab.find, ih, hj]

/-- The column listed under `key` stays when stack `k` is filled: it is of another stack, or of no lost segment. -/
def State.fillKeeps (s : State) (k key : Nat) : Bool :=
  key / 64 / 32784 / 1024 != k || (match s.logicalRow (key / 64 / 32784) (key / 64 % 32784) with
    | some row => !s.isLost (key / 64 / 32784) row
    | none => true)

/-- The columns of a stack's lost segments are poisoned. -/
def State.fillDram (s : State) (k : Nat) : State :=
  { s with mem := { s.mem with dram := s.mem.dram.filter fun e => s.fillKeeps k e.1 } }

/-- Nothing of a channel is lost any more. -/
def Chan.whole (c : Chan) : Chan := { c with lost := 0 }

/-- Nothing of a stack's controller is lost any more. -/
def StackC.whole (c : StackC) : StackC := { c with lost := 0 }

theorem fillStack_eq : s.fillStack k = (upTo 64).foldl (fun s c => s.modChan (chanKey k c) Chan.whole)
    ((s.fillDram k).modStk k StackC.whole) := rfl

theorem chan_modChan (c d : Nat) (f : Chan → Chan) :
    (s.modChan c f).chan d = if d = c then f (s.chan d) else s.chan d := by
  refine (State.chan_setChan s c d _).trans ?_
  split
  · subst_vars
    rfl
  · rfl

/-- Only channels' records have changed. -/
def ChansOnly (s t : State) : Prop := { t with mem := { t.mem with chans := s.mem.chans } } = s

theorem foldl_chansOnly {g : State → Nat → State} (hg : ∀ s a, ChansOnly s (g s a)) (l : List Nat) :
    ChansOnly s (l.foldl g s) := by
  refine foldl_relates (R := ChansOnly) (fun _ => rfl) (fun s t u h h' => ?_) hg s l
  unfold ChansOnly at h h' ⊢
  exact (congrArg (fun x : State => { x with mem := { x.mem with chans := s.mem.chans } }) h').trans h

theorem modChan_chansOnly (c : Nat) (f : Chan → Chan) : ChansOnly s (s.modChan c f) := rfl

theorem fillStack_chansOnly : ChansOnly ((s.fillDram k).modStk k StackC.whole) (s.fillStack k) := by
  rw [fillStack_eq]
  exact foldl_chansOnly _ (fun s c => modChan_chansOnly s (chanKey k c) Chan.whole) (upTo 64)

theorem modStk_stk_ite (n m : Nat) (f : StackC → StackC) :
    (s.modStk n f).stk m = if m = n then f (s.stk m) else s.stk m := by
  refine (State.stk_setStk s n m _).trans ?_
  split
  · subst_vars
    rfl
  · rfl

variable {s k} in
/-- What a change of channels' records leaves of the filling of a stack. -/
theorem ChansOnly.filled {t : State} (h : ChansOnly ((s.fillDram k).modStk k StackC.whole) t) :
    OnlyMem s t ∧ t.mem.spares = s.mem.spares ∧ (t.mem.dram = s.mem.dram.filter fun e => s.fillKeeps k e.1)
      ∧ ∀ j, t.stk j = ((s.fillDram k).modStk k StackC.whole).stk j :=
  ⟨(congrArg (fun x : State => { x with mem := s.mem }) h :), (congrArg (fun x : State => x.mem.spares) h :),
    (congrArg (fun x : State => x.mem.dram) h :), fun j => (congrArg (fun x : State => x.stk j) h :)⟩

theorem fillStack_only : OnlyMem s (s.fillStack k) := by
  obtain ⟨honly, -, -, -⟩ := (fillStack_chansOnly s k).filled
  exact honly

theorem fillStack_spares : (s.fillStack k).mem.spares = s.mem.spares := by
  obtain ⟨-, hspares, -, -⟩ := (fillStack_chansOnly s k).filled
  exact hspares

theorem fillStack_dram : (s.fillStack k).mem.dram = s.mem.dram.filter fun e => s.fillKeeps k e.1 := by
  obtain ⟨-, -, hdram, -⟩ := (fillStack_chansOnly s k).filled
  exact hdram

theorem fillStack_stk (j : Nat) : (s.fillStack k).stk j = if j = k then (s.stk j).whole else s.stk j := by
  obtain ⟨-, -, -, hstk⟩ := (fillStack_chansOnly s k).filled
  rw [hstk, modStk_stk_ite]
  rfl

/-- A pass over the channels of a stack: those become whole, the others stay. -/
theorem wholeChans_chan (cs : List Nat) (d : Nat) : (cs.foldl (fun s c => s.modChan (chanKey k c) Chan.whole) s).chan d =
    if ∃ c ∈ cs, d = chanKey k c then (s.chan d).whole else s.chan d := by
  induction cs generalizing s with
  | nil => simp
  | cons c cs ih =>
    rw [List.foldl_cons, ih, chan_modChan]
    by_cases hd : d = chanKey k c
    · subst hd
      simp [Chan.whole]
    · simp [hd]

theorem fillStack_chan (d : Nat) : (s.fillStack k).chan d = if d / 64 = k then (s.chan d).whole else s.chan d := by
  have hmem : (∃ c ∈ upTo 64, d = chanKey k c) ↔ d / 64 = k := by
    simp only [upTo, List.mem_range, chanKey]
    constructor
    · rintro ⟨c, hc, rfl⟩
      omega
    · rintro rfl
      exact ⟨d % 64, by omega, by omega⟩
  have hsame : ((s.fillDram k).modStk k StackC.whole).chan d = s.chan d := rfl
  rw [fillStack_eq, wholeChans_chan, hsame]
  simp only [hmem]

end Fill

section FillAll

variable {s : State} {ks : List Nat} {k mbn prow col row : Nat}

/-- Some stacks have been filled. -/
def State.filledAll (s : State) (ks : List Nat) : State := ks.foldl State.fillStack s

theorem filledAll_cons (s : State) (k : Nat) (ks : List Nat) : s.filledAll (k :: ks) = (s.fillStack k).filledAll ks := by
  unfold State.filledAll
  rw [List.foldl_cons]

theorem filledAll_append (s : State) (as bs : List Nat) : s.filledAll (as ++ bs) = (s.filledAll as).filledAll bs := by
  unfold State.filledAll
  rw [List.foldl_append]

theorem OnlyMem.trans {t u : State} (h : OnlyMem s t) (h' : OnlyMem t u) : OnlyMem s u := by
  unfold OnlyMem at h h' ⊢
  exact (congrArg (fun x : State => { x with mem := s.mem }) h').trans h

theorem filledAll_only (s : State) (ks : List Nat) : OnlyMem s (s.filledAll ks) :=
  foldl_relates (R := OnlyMem) (fun _ => rfl)
    (fun _ _ _ => OnlyMem.trans) fillStack_only s ks

theorem filledAll_spares (s : State) (ks : List Nat) : (s.filledAll ks).mem.spares = s.mem.spares :=
  foldl_relates (R := fun s t : State => t.mem.spares = s.mem.spares) (fun _ => rfl) (fun _ _ _ h h' => h'.trans h)
    fillStack_spares s ks

/-- What is whole stays whole. -/
theorem filledAll_stk_whole (h : (s.stk k).lost = 0) : ((s.filledAll ks).stk k).lost = 0 := by
  refine foldl_relates (R := fun s t : State => (s.stk k).lost = 0 → (t.stk k).lost = 0) (fun _ h => h)
    (fun _ _ _ h h' hs => h' (h hs)) (fun s j hs => ?_) s ks h
  rw [fillStack_stk]
  split
  · rfl
  · exact hs

theorem filledAll_chan_whole {d : Nat} (h : (s.chan d).lost = 0) : ((s.filledAll ks).chan d).lost = 0 := by
  refine foldl_relates (R := fun s t : State => (s.chan d).lost = 0 → (t.chan d).lost = 0) (fun _ h => h)
    (fun _ _ _ h h' hs => h' (h hs)) (fun s j hs => ?_) s ks h
  rw [fillStack_chan]
  split
  · rfl
  · exact hs

theorem fillStack_dramGet (s : State) (k mbn prow col : Nat) : (s.fillStack k).dramGet mbn prow col =
    if s.fillKeeps k (dramKey mbn prow col) then s.dramGet mbn prow col else blankCol := by
  rw [State.dramGet, fillStack_dram, Tab.get, Tab.find_filter]
  split <;> rfl

theorem filledAll_dram_blank (h : s.dramGet mbn prow col = blankCol) : (s.filledAll ks).dramGet mbn prow col = blankCol := by
  refine foldl_relates (R := fun s t : State => s.dramGet mbn prow col = blankCol → t.dramGet mbn prow col = blankCol)
    (fun _ h => h) (fun _ _ _ h h' hs => h' (h hs)) (fun s j hs => ?_) s ks h
  rw [fillStack_dramGet]
  split
  · exact hs
  · rfl

/-- A stack that is not filled loses and regains nothing. -/
theorem filledAll_isLost (hk : mbn / 1024 ∉ ks) : (s.filledAll ks).isLost mbn row = s.isLost mbn row := by
  induction ks generalizing s with
  | nil => rfl
  | cons j ks ih =>
    obtain ⟨hne, hks⟩ := not_or.mp (mt List.mem_cons.mpr hk)
    have hchan : ¬ mbn / 16 / 64 = j := by omega
    rw [filledAll_cons, ih hks, State.isLost, State.isLost, fillStack_stk, if_neg hne, fillStack_chan, if_neg hchan]

theorem logicalRow_congr {t : State} (h : t.mem.spares = s.mem.spares) (mbn prow : Nat) :
    t.logicalRow mbn prow = s.logicalRow mbn prow := by
  unfold State.logicalRow State.physRow
  rw [h]

/-- Filling a stack poisons the columns of its lost segments. -/
theorem fillStack_blank (hk : mbn / 1024 = k) (hp : prow < 32784) (hc : col < 64)
    (hrow : s.logicalRow mbn prow = some row) (hlost : s.isLost mbn row = true) :
    (s.fillStack k).dramGet mbn prow col = blankCol := by
  have hmbn : dramKey mbn prow col / 64 / 32784 = mbn := by
    unfold dramKey
    omega
  have hprow : dramKey mbn prow col / 64 % 32784 = prow := by
    unfold dramKey
    omega
  have hkeeps : s.fillKeeps k (dramKey mbn prow col) = false := by
    rw [State.fillKeeps, hmbn, hprow, hrow, hk]
    simp [hlost]
  rw [fillStack_dramGet, hkeeps]
  rfl

/-- Of a stack that has been filled nothing is lost, and its lost segments read as poison. -/
theorem filledAll_filled (hnd : ks.Nodup) (hk : k ∈ ks) : ((s.filledAll ks).stk k).lost = 0
    ∧ (∀ c, c < 64 → ((s.filledAll ks).chan (chanKey k c)).lost = 0)
    ∧ ∀ mbn prow col row, mbn / 1024 = k → prow < 32784 → col < 64 → s.logicalRow mbn prow = some row →
      s.isLost mbn row = true → (s.filledAll ks).dramGet mbn prow col = blankCol := by
  obtain ⟨as, bs, rfl⟩ := List.append_of_mem hk
  have hnot : k ∉ as := fun h => (List.disjoint_of_nodup_append hnd) h List.mem_cons_self
  rw [filledAll_append, filledAll_cons]
  refine ⟨filledAll_stk_whole ?_, fun c hc => filledAll_chan_whole ?_, fun mbn prow col row hm hp hc hrow hlost =>
    filledAll_dram_blank (fillStack_blank hm hp hc (row := row) ?_ ?_)⟩
  · rw [fillStack_stk, if_pos rfl]
    rfl
  · rw [fillStack_chan, if_pos (by unfold chanKey; omega)]
    rfl
  · rw [logicalRow_congr (filledAll_spares s as), hrow]
  · subst hm
    rw [filledAll_isLost hnot, hlost]

end FillAll

theorem exec_poisonFillComplete {s : State} {p : Nat} (hp : p < 16) (hst : (s.part p).st = 1)
    (hfill : (s.part p).filling = true) :
    exec (.poisonFillComplete p) s = go s ((s.filledAll (s.toFill p)).endApply p) :=
  ifUnit_when _ _ (decide_eq_true hp) (by rw [hst, hfill]; rfl)

theorem OnlyMem.values {s t : State} (h : OnlyMem s t) : SameValues s t :=
  ⟨(congrArg (fun x : State => x.mgmt.od) h :), (congrArg State.build h :), (congrArg (fun x : State => x.crust.straps) h :)⟩

theorem OnlyMem.quiet {s t : State} (h : OnlyMem s t) (hq : s.quiet) : t.quiet := by
  unfold OnlyMem at h
  rw [← h] at hq
  exact hq

theorem OnlyMem.nothingHeld {s t : State} (h : OnlyMem s t) (hh : s.nothingHeld) : t.nothingHeld := by
  unfold OnlyMem at h
  rw [← h] at hh
  exact hh

/-- The end of an apply: the partition is open, with the memory and the values as they were. -/
theorem endApply_keeps {t : State} {p : Nat} (hq : t.quiet) (hh : t.nothingHeld) : (t.endApply p).mem = t.mem
    ∧ (t.endApply p).build = t.build ∧ (t.endApply p).pending = t.pending
    ∧ ((t.endApply p).part p).st = if t.partEnable p then 2 else 0 := by
  have hend := endCommit_only t p (t.part p).changed
  have hopen := opened_reassigned (s := t.endCommit p (t.part p).changed) (p := p) (ok := true)
  rw [endApply_opened hq hh]
  refine ⟨hopen.mem.trans hend.mem, hopen.build.trans hend.build, hopen.pending.trans hend.pending, ?_⟩
  rw [opened_part, State.restSt, if_pos rfl, (hend.values (endCommit_od t p _)).partEnable]

theorem dramGet_of_mem {s t : State} (h : t.mem = s.mem) (mbn prow col : Nat) :
    t.dramGet mbn prow col = s.dramGet mbn prow col := congrArg (fun m : Mem => Tab.get blankCol m.dram _) h

theorem poisonFill_completes {s : State} {p : Nat} (hp : p < 16) (hst : (s.part p).st = 1)
    (hfill : (s.part p).filling = true) (hq : s.quiet) (hh : s.nothingHeld) :
    Completes (.poisonFillComplete p) s fun u => (u.part p).st = (if s.partEnable p then 2 else 0)
      ∧ ∀ k ∈ s.toFill p, (u.stk k).lost = 0 ∧ (∀ c, c < 64 → (u.chan (chanKey k c)).lost = 0)
        ∧ ∀ mbn prow col row, mbn / 1024 = k → prow < 32784 → col < 64 → s.logicalRow mbn prow = some row →
          s.isLost mbn row = true → u.dramGet mbn prow col = blankCol := by
  have honly := filledAll_only s (s.toFill p)
  obtain ⟨hmem, hbuild, hpending, hpart⟩ := endApply_keeps (p := p) (honly.quiet hq) (honly.nothingHeld hh)
  have hnd : (s.toFill p).Nodup := List.nodup_range.filter _
  refine completes_kept (exec_poisonFillComplete hp hst hfill) (hbuild.trans honly.values.2.1)
    (hpending.trans (congrArg State.pending honly :)) ⟨?_, fun k hk => ?_⟩
  · rw [hpart, honly.values.partEnable]
  · rw [stk_of_mem hmem]
    simp only [chan_of_mem hmem, dramGet_of_mem hmem]
    exact filledAll_filled hnd hk

/-- Settles O52: a quiesce closes one cluster after the other; at its limit a single entry, or none, is stopped; an apply
is the commit, the clusters' change and the reopening, each within its frame; the fill goes stack by stack. -/
theorem quiesceAndApply : Obligations.QuiesceAndApply := by
  unfold Obligations.QuiesceAndApply
  refine ⟨fun a p s hp ht => ⟨fun hst => ?start, fun hst => ?again⟩,
    fun p s hp hst hun hlim hq hidle => drainLimit_idle hp hst hun hlim hq hidle,
    fun p c x s hp hst hun hlim hq hone hent hd hc ha hfq => drainLimit_single hp hst hun hlim hq hone hent hd hc ha hfq,
    fun p s _ hst => notQuiescing_completes hst,
    fun p s hp hst hfill hdisc hidle hpend hnd hq hh => ?apply,
    fun p s hp hst hfill hq hh => poisonFill_completes hp hst hfill hq hh⟩
  case start =>
    obtain ⟨hbegun, hparts, -⟩ := begun_only s a
    have hpart (q : Nat) : (s.begun a).part q = s.part q := congrArg (fun x => Tab.get ({} : Part) x q) hparts
    have hclusters : (s.begun a).clustersOf p = s.clustersOf p := (congrArg (fun x : State => x.clustersOf p) hbegun :)
    have hcluster (c : Nat) : (s.begun a).cluster c = s.cluster c := (congrArg (fun x : State => x.cluster c) hbegun :)
    obtain ⟨hquiescing, hrest, hclosed, hothers, honly⟩ :=
      startQuiesce_quiesced (s := s.begun a) (p := p) (by rwa [hpart])
    have hframe : { (s.begun a).startQuiesce p with mgmt := s.mgmt, clusters := s.clusters, crust := s.crust } = s :=
      (congrArg (fun x : State => { x with mgmt := s.mgmt, clusters := s.clusters, crust := s.crust }) honly).trans
        (congrArg (fun x : State => { x with clusters := s.clusters, crust := s.crust }) hbegun)
    refine completes_kept (exec_quiesce hp ht) (congrArg State.build hframe :) (congrArg State.pending hframe :)
      ⟨hquiescing, fun q hqp => (hrest q hqp).trans (hpart q), fun c hc => hclosed c (hclusters ▸ hc), fun c hc => ?_, hframe⟩
    exact (hothers c (hclusters ▸ hc)).trans (hcluster c)
  case again =>
    obtain ⟨hbegun, hparts, houts⟩ := begun_only s a
    have hpart : (s.begun a).part p = s.part p := congrArg (fun x => Tab.get ({} : Part) x p) hparts
    have hx := exec_quiesce hp ht
    rw [startQuiesce_running (by rwa [hpart])] at hx
    refine completes_kept hx (congrArg State.build hbegun :) (congrArg State.pending hbegun :) ⟨?_, hparts, hbegun⟩
    exact congrArg (List.cons _) houts
  case apply =>
    have hend : DrainEnded s p := ⟨hp, hst, hfill, hdisc, hidle, hpend⟩
    exact ⟨fun hv => ⟨fun hno => apply_reopens hend hnd hq hh hv hno,
      fun hun hen hto => apply_fills hend hnd hv hun hen hto⟩, fun f hv => apply_fails hend hq hh hv⟩

end Sys2Proof.Machine

/-! ## O18: a recipe step issues, or stops its run -/

namespace Sys2Proof.Machine

/-! ### What a step reads and draws (04 R155; 06 R216) -/

section StepParts

variable (s : State) (mbn : Nat) (w : Word)

/-- Where a step draws from, with the state once the bank's source has been seeded. -/
def State.stepSource : State × Word := if stepDraws w = 0 then (s, 0) else s.bankSource mbn

theorem sourceSeed_free (index src : Nat) : ∃ n, (s.sourceSeed index src).1 = { s with free := n } := by
  unfold State.sourceSeed
  split
  · exact ⟨s.free, rfl⟩
  · exact ⟨s.free + 1, rfl⟩

theorem bankSource_free : ∃ n, (s.bankSource mbn).1 = { s with free := n } := by
  unfold State.bankSource
  split
  · exact ⟨s.free, rfl⟩
  · exact sourceSeed_free s _ mbn

/-- A step takes at most the number of the next free value, and only where it draws. -/
theorem stepSource_free : ∃ n, (s.stepSource mbn w).1 = { s with free := n } ∧ (stepDraws w = 0 → n = s.free) := by
  unfold State.stepSource
  split
  · exact ⟨s.free, rfl, fun _ => rfl⟩
  next hdraws =>
    obtain ⟨n, hn⟩ := bankSource_free s mbn
    exact ⟨n, hn, fun h => absurd h hdraws⟩

theorem stepSource_word : (s.stepSource mbn w).2 = if stepDraws w = 0 then 0 else (s.bankSource mbn).2 :=
  apply_ite Prod.snd _ _ _

/-- Reading a column counts its errors in the status word, and leaves the run's place in its steps. -/
theorem stepColumn_unit : ∃ q, (stepColumn s mbn w).1 = { (s.bank mbn).unit with status := q }
    ∧ q.step = (s.bank mbn).unit.status.step ∧ q.iterDone = (s.bank mbn).unit.status.iterDone := by
  unfold stepColumn
  split
  · exact ⟨_, rfl, rfl, rfl⟩
  · refine ⟨_, rfl, ?_, ?_⟩
    · split_ifs <;> rfl
    · split_ifs <;> rfl

end StepParts

/-! ### The run's place (04 R126) -/

section Advance

variable {u : SprigUnit}

theorem stepAdvance_rest (u : SprigUnit) : { stepAdvance u with status := u.status, run := u.run } = u := by
  unfold stepAdvance
  dsimp only
  split <;> rfl

theorem stepAdvance_last (h : u.status.step = u.run.last) :
    (stepAdvance u).status.step = u.run.first ∧ (stepAdvance u).status.iterDone = u.status.iterDone + 1
      ∧ (stepAdvance u).run.done = decide (u.run.iter ≤ u.status.iterDone + 1) := by
  unfold stepAdvance
  dsimp only
  rw [if_pos h]
  exact ⟨rfl, rfl, rfl⟩

theorem stepAdvance_next (h : u.status.step ≠ u.run.last) :
    (stepAdvance u).status.step = u.status.step + 1 ∧ (stepAdvance u).status.iterDone = u.status.iterDone
      ∧ (stepAdvance u).run.done = u.run.done := by
  unfold stepAdvance
  dsimp only
  rw [if_neg h]
  exact ⟨rfl, rfl, rfl⟩

end Advance

/-! ### The answers of a step (04 R127, R128) -/

section Issue

variable {s : State} {op mbn t : Nat} {w : Word}

/-- What the step `w` of opcode `op` has in flight when it issues at cycle `t`. -/
def State.stepFlight (s : State) (op mbn t : Nat) (w : Word) : InFlight :=
  let k := s.bank mbn
  let wl := (stepWriteLatch w).map (·.1)
  let row := match wl with
    | some l => (k.latch l).row.getD 0
    | none => 0
  { effs := stepEffects (forwarded (stepColumn s mbn w).1) (stepColumn s mbn w).2 row
      (drawsFor (stepDraws w) (s.stepSource mbn w).2).1 w
    accs := (stepDests k.unit w).1
    scs := (stepDests k.unit w).2.1
    slots := (stepDests k.unit w).2.2
    dotAcc := if op = 8 then some (dotDst k.unit w) else none
    issueAt := t
    readyAt := t + (stepTimes w).1
    retireAt := t + (stepTimes w).2
    pathAt := wl.map fun _ => t + 2
    pathCol := wl.map fun l => (l, (k.unit.ptrs.wcur l).pos) }

/-- The unit with the step in flight, before the run goes on. -/
def State.stepUnit (s : State) (op mbn t : Nat) (w : Word) : SprigUnit :=
  let u := (s.bank mbn).unit
  { u with
    status := (stepColumn s mbn w).1.status
    ptrs := stepPtrs u.ptrs w
    sreg := if op = 0x18 then u.sreg.set (Word.bits w 58 56) (w.setWidth 32) else u.sreg
    fly := u.fly ++ [s.stepFlight op mbn t w]
    run := { u.run with
      issueAt := some t, wroteLatch := u.run.wroteLatch || ((stepWriteLatch w).map (·.1)).isSome } }

/-- The bank once the step has issued. -/
def State.stepBank (s : State) (op mbn t : Nat) (w : Word) : Bank :=
  { s.bank mbn with
    unit := stepAdvance (s.stepUnit op mbn t w)
    rnd := if stepDraws w = 0 then (s.bank mbn).rnd else some (drawsFor (stepDraws w) (s.stepSource mbn w).2).2 }

/-- The next step of the run of a bank is of this opcode, and it is due. -/
structure StepTurn (s : State) (op mbn t : Nat) (w : Word) : Prop where
  bank : mbn < 16384
  on : s.stackOn (mbn / 1024) = true
  running : (s.bank mbn).unit.status.st = .running
  going : (s.bank mbn).unit.run.done = false
  word : Tab.get 0 (s.bank mbn).unit.recipe (s.bank mbn).unit.status.step = w
  opcode : stepOp w = op
  due : stepDue (s.bank mbn).unit w t = true

theorem StepTurn.answer (h : StepTurn s op mbn t w) : stepIssue op mbn t s = match stepStop (s.bank mbn) w with
    | some e => go s (s.modUnit mbn fun u => unitStop u e t)
    | none => go s ((s.stepSource mbn w).1.setBank mbn (s.stepBank op mbn t w)) := by
  obtain ⟨hm, hon, hst, hdone, hw, hop, hdue⟩ := h
  obtain ⟨q, hq, -⟩ := stepColumn_unit s mbn w
  unfold stepIssue State.stepBank State.stepUnit State.stepFlight
  dsimp only
  rw [hw, if_neg (by simp [hm, (stackOn_iff.mp hon).2.1]), if_neg (by simp [hon, hst, hdone, hop, hdue]), hq]
  rfl

theorem exec_step : ∀ p ∈ stepRows, exec (p.2 mbn t) s = stepIssue p.1 mbn t s :=
  List.forall_iff_forall_mem.mp ⟨rfl, rfl, rfl, rfl, rfl, rfl, rfl, rfl, rfl, rfl, rfl, rfl, rfl, rfl, rfl⟩

theorem stepFlight_effs : (s.stepFlight op mbn t w).effs =
    stepEffects (forwarded (stepColumn s mbn w).1) (stepColumn s mbn w).2
      (match stepWriteLatch w with
        | some l => ((s.bank mbn).latch l.1).row.getD 0
        | none => 0) (drawsFor (stepDraws w) (s.stepSource mbn w).2).1 w := by
  unfold State.stepFlight
  cases stepWriteLatch w <;> rfl

/-- An issue leaves the run at the step that issues. -/
theorem stepUnit_place (s : State) (op mbn t : Nat) (w : Word) :
    (s.stepUnit op mbn t w).status.step = (s.bank mbn).unit.status.step
      ∧ (s.stepUnit op mbn t w).status.iterDone = (s.bank mbn).unit.status.iterDone := by
  obtain ⟨q, hq, hstep, hiter⟩ := stepColumn_unit s mbn w
  have hstatus : (stepColumn s mbn w).1.status = q := congrArg SprigUnit.status hq
  rw [← hstep, ← hiter, ← hstatus]
  exact ⟨rfl, rfl⟩

/-- Setting one bank changes that bank alone. -/
theorem setBank_onlyBank (s : State) (mbn : Nat) (k : Bank) : OnlyBank s (s.setBank mbn k) mbn :=
  ⟨rfl, rfl, fun b hb => (State.bank_setBank s mbn b k).trans (if_neg hb)⟩

end Issue

/-- Settles O18: a due step either stops its run, which changes only the unit's status and run, or puts its effects in
flight on its bank, drawing at most one free value. -/
theorem stepsIssueOrStop : Obligations.StepsIssueOrStop := by
  unfold Obligations.StepsIssueOrStop
  intro p hp mbn t s hm hon
  dsimp only
  intro hst hdone hop hdue
  have hanswer := (StepTurn.mk hm hon hst hdone rfl hop hdue).answer
  set w := Tab.get 0 (s.bank mbn).unit.recipe (s.bank mbn).unit.status.step
  refine ⟨fun hstop => ?issue, fun e hstop => ?stop⟩
  case issue =>
    rw [hstop] at hanswer
    obtain ⟨n, hsrc, hfree⟩ := stepSource_free s mbn w
    rw [hsrc] at hanswer
    have hadv := stepAdvance_rest (s.stepUnit p.1 mbn t w)
    obtain ⟨hstep, hiter⟩ := stepUnit_place s p.1 mbn t w
    refine completes_kept ((exec_step p hp).trans hanswer) rfl rfl ?_
    rw [State.bank_setBank_same, ← stepSource_word]
    refine ⟨(congrArg SprigUnit.ptrs hadv :), (congrArg SprigUnit.acc hadv :), (congrArg SprigUnit.sc hadv :),
      (congrArg SprigUnit.drain hadv :), (congrArg SprigUnit.ops hadv :), (congrArg SprigUnit.recipe hadv :),
      ⟨s.stepFlight p.1 mbn t w, (congrArg SprigUnit.fly hadv :), rfl, rfl, rfl, stepFlight_effs⟩, fun hlast => ?_,
      fun hnext => ?_, fun hsets => ?_, fun hother => ?_, rfl, rfl, hfree, setBank_onlyBank _ mbn _⟩
    · rw [← hiter]
      exact stepAdvance_last (hstep.trans hlast)
    · obtain ⟨hs, hi, hd⟩ := stepAdvance_next (fun h => hnext (hstep.symm.trans h))
      exact ⟨hs.trans (congrArg (· + 1) hstep), hi.trans hiter, hd.trans hdone⟩
    · exact (congrArg SprigUnit.sreg hadv).trans (if_pos hsets)
    · exact (congrArg SprigUnit.sreg hadv).trans (if_neg hother)
  case stop =>
    rw [hstop] at hanswer
    refine completes_kept ((exec_step p hp).trans hanswer) rfl rfl ?_
    rw [State.modUnit, modBank_bank]
    exact ⟨rfl, rfl, rfl, modBank_onlyBank s mbn _⟩

end Sys2Proof.Machine

/-! ## O19: a recipe step writes its result when it retires -/

namespace Sys2Proof.Machine

/-! ### Latch writes of a step (04 R154, R158) -/

section Latch

variable {s t u : State} {mbn : Nat}

/-- A unit with a given OUT_POISON. -/
def SprigUnit.outPoisoned (u : SprigUnit) (b : Bool) : SprigUnit := { u with status := { u.status with outPoison := b } }

/-- Only contents of memory and OUT_POISON of one bank have changed. -/
structure LatchWork (mbn : Nat) (s t : State) : Prop where
  rest : OnlyMem s t
  mem : { t.mem with banks := s.mem.banks, dram := s.mem.dram } = s.mem
  others : ∀ b, b ≠ mbn → t.bank b = s.bank b
  own : t.bank mbn =
    { s.bank mbn with unit := (s.bank mbn).unit.outPoisoned (t.bank mbn).unit.status.outPoison }

theorem LatchWork.refl (mbn : Nat) (s : State) : LatchWork mbn s s := ⟨rfl, rfl, fun _ _ => rfl, rfl⟩

theorem LatchWork.trans (h : LatchWork mbn s t) (h' : LatchWork mbn t u) : LatchWork mbn s u where
  rest := h.rest.trans h'.rest
  mem := (congrArg (fun m : Mem => { m with banks := s.mem.banks, dram := s.mem.dram }) h'.mem).trans h.mem
  others := fun b hb => (h'.others b hb).trans (h.others b hb)
  own := h'.own.trans (congrArg (fun k : Bank =>
    { k with unit := k.unit.outPoisoned (u.bank mbn).unit.status.outPoison }) h.own)

theorem LatchWork.dramPut (s : State) (mbn row col : Nat) (x : Column) : LatchWork mbn s (s.dramPut mbn row col x) :=
  ⟨rfl, rfl, fun _ _ => rfl, rfl⟩

theorem LatchWork.outPoison (s : State) (mbn : Nat) (b : Bool) :
    LatchWork mbn s (s.modUnit mbn fun v => v.outPoisoned b) where
  rest := rfl
  mem := rfl
  others := (modBank_onlyBank s mbn _).2.2
  own := by rw [State.modUnit, modBank_bank]; rfl

theorem applyLatch_latch (s : State) (mbn l row col : Nat) (x : Column) : applyLatch s mbn [.latch l row col x] =
    if (eccRead x).bad then (s.dramPut mbn row col x).modUnit mbn fun v => v.outPoisoned true
    else s.dramPut mbn row col x := rfl

theorem applyLatch_single_work (s : State) (mbn : Nat) (e : StepEffect) : LatchWork mbn s (applyLatch s mbn [e]) := by
  cases e with
  | acc | sc | slot => exact .refl mbn s
  | latch l row col x =>
    rw [applyLatch_latch]
    split
    · exact (LatchWork.dramPut s mbn row col x).trans (.outPoison _ mbn true)
    · exact .dramPut s mbn row col x

theorem applyLatch_work (s : State) (mbn : Nat) (effs : List StepEffect) : LatchWork mbn s (applyLatch s mbn effs) :=
  foldl_relates (R := LatchWork mbn) (.refl mbn) (fun _ _ _ => .trans) (fun s e => applyLatch_single_work s mbn e) s effs

theorem applyLatch_latch_dram (s : State) (mbn l row col : Nat) (x : Column) :
    (applyLatch s mbn [.latch l row col x]).mem.dram = (s.dramPut mbn row col x).mem.dram := by
  rw [applyLatch_latch]
  split <;> rfl

theorem applyLatch_latch_outPoison (s : State) (mbn l row col : Nat) (x : Column) :
    ((applyLatch s mbn [.latch l row col x]).bank mbn).unit.status.outPoison =
      ((s.bank mbn).unit.status.outPoison || (eccRead x).bad) := by
  rw [applyLatch_latch]
  split
  next hbad =>
    rw [State.modUnit, modBank_bank, hbad, Bool.or_true]
    rfl
  next hgood =>
    rw [Bool.eq_false_of_not_eq_true hgood, Bool.or_false]
    rfl

end Latch

/-! ### Register writes of a step (04 R127, R153, R159) -/

section Registers

variable {u v w : SprigUnit} {n : Nat} {f : InFlight} {e : StepEffect}

/-- Only accumulators, scratch registers, drain slots and POISON have changed. -/
def EffOnly (u v : SprigUnit) : Prop :=
  { v with acc := u.acc, sc := u.sc, drain := u.drain, status := { v.status with poison := u.status.poison } } = u

theorem EffOnly.trans (h : EffOnly u v) (h' : EffOnly v w) : EffOnly u w :=
  Eq.trans (congrArg (fun x : SprigUnit => { x with
    acc := u.acc, sc := u.sc, drain := u.drain, status := { x.status with poison := u.status.poison } }) h' :) h

theorem applyEff_only (u : SprigUnit) (e : StepEffect) : EffOnly u (applyEff u e) := by
  cases e <;> rfl

/-- The unit once the `n`-th step in flight has left flight and written its registers. -/
def SprigUnit.written (u : SprigUnit) (n : Nat) (f : InFlight) : SprigUnit :=
  f.effs.foldl applyEff { u with fly := u.fly.eraseIdx n }

theorem written_only (u : SprigUnit) (n : Nat) (f : InFlight) :
    EffOnly { u with fly := u.fly.eraseIdx n } (u.written n f) :=
  foldl_relates (R := EffOnly) (fun _ => rfl) (fun _ _ _ => .trans) applyEff_only _ f.effs

theorem written_nil (h : f.effs = []) : u.written n f = { u with fly := u.fly.eraseIdx n } := by
  rw [SprigUnit.written, h]
  rfl

theorem written_single (h : f.effs = [e]) : u.written n f = applyEff { u with fly := u.fly.eraseIdx n } e := by
  rw [SprigUnit.written, h]
  rfl

/-- The unit notes when the step retired. -/
def SprigUnit.noteRetired (u : SprigUnit) (f : InFlight) : SprigUnit :=
  { u with run := { u.run with
    retireAt := max u.run.retireAt f.retireAt
    ghosts := (f :: u.run.ghosts).take 40
    pathAt := match f.pathAt with | some p => some p | none => u.run.pathAt } }

/-- A run that has issued its last step and has none in flight is IDLE. -/
def SprigUnit.idleIfDone (u : SprigUnit) : SprigUnit :=
  if u.run.done && u.fly.isEmpty && u.busy then { u with status := { u.status with st := .idle } } else u

theorem idleIfDone_eq (u : SprigUnit) : u.idleIfDone = { u with status := { u.status with
    st := if u.run.done && u.fly.isEmpty && u.busy then .idle else u.status.st } } := by
  unfold SprigUnit.idleIfDone
  split <;> rfl

/-- The unit once its `n`-th step in flight has retired. -/
def SprigUnit.retired (u : SprigUnit) (n : Nat) (f : InFlight) : SprigUnit := ((u.written n f).noteRetired f).idleIfDone

/-- Retiring a step changes, beside what it writes, only the run and the state. -/
theorem retired_eq (u : SprigUnit) (n : Nat) (f : InFlight) : u.retired n f = { u.written n f with
    run := ((u.written n f).noteRetired f).run
    status := { (u.written n f).status with st := (u.retired n f).status.st } } := by
  rw [SprigUnit.retired, idleIfDone_eq]
  rfl

theorem retired_st (u : SprigUnit) (n : Nat) (f : InFlight) : (u.retired n f).status.st =
    if u.run.done && (u.fly.eraseIdx n).isEmpty && u.busy then .idle else u.status.st := by
  have h := written_only u n f
  have hdone : (u.written n f).run = u.run := (congrArg SprigUnit.run h :)
  have hfly : (u.written n f).fly = u.fly.eraseIdx n := (congrArg SprigUnit.fly h :)
  have hst : (u.written n f).status.st = u.status.st := (congrArg (fun x : SprigUnit => x.status.st) h :)
  rw [SprigUnit.retired, idleIfDone_eq, SprigUnit.busy, SprigUnit.noteRetired]
  dsimp only
  rw [hdone, hfly, hst]
  rfl

end Registers

theorem isEmpty_eraseIdx {α : Type} {l : List α} {n : Nat} (hn : n < l.length) :
    (l.eraseIdx n).isEmpty = decide (l.length = 1) := by
  rw [Bool.eq_iff_iff, List.isEmpty_iff_length_eq_zero, List.length_eraseIdx_of_lt hn, decide_eq_true_eq]
  omega

/-! ### The command -/

section Retire

variable {s : State} {mbn n t : Nat} {f : InFlight}

/-- What a retired step leaves. -/
def State.retireDone (s : State) (mbn n : Nat) (f : InFlight) : State :=
  (applyLatch s mbn f.effs).modUnit mbn fun v => v.retired n f

theorem exec_stepRetire (hm : mbn < 16384) (hon : s.stackOn (mbn / 1024) = true)
    (hf : (s.bank mbn).unit.fly[n]? = some f) (ht : f.retireAt ≤ t)
    (hfirst : ∀ g ∈ (s.bank mbn).unit.fly.take n, f.retireAt < g.retireAt) :
    exec (.stepRetire mbn n t) s = go s (s.retireDone mbn n f) := by
  have hall : ((s.bank mbn).unit.fly.take n).all (fun g => decide (f.retireAt < g.retireAt)) = true := by
    simpa using hfirst
  change stepRetireAt mbn n t s = _
  unfold stepRetireAt
  dsimp only
  rw [if_neg (by simp [hm, (stackOn_iff.mp hon).2.1]), hf]
  dsimp only
  rw [if_neg (by simp [hon, ht, hall])]
  rfl

/-- The bank of a retired step: its unit has retired the step, after the step's latch writes. -/
theorem retireDone_bank (s : State) (mbn n : Nat) (f : InFlight) : (s.retireDone mbn n f).bank mbn =
    { s.bank mbn with unit := ((applyLatch s mbn f.effs).bank mbn).unit.retired n f } := by
  rw [State.retireDone, State.modUnit, modBank_bank]
  exact congrArg (fun k : Bank => { k with unit := ((applyLatch s mbn f.effs).bank mbn).unit.retired n f })
    (applyLatch_work s mbn f.effs).own

theorem retireDone_frame (s : State) (mbn n : Nat) (f : InFlight) :
    OnlyMem s (s.retireDone mbn n f) ∧ (∀ b, b ≠ mbn → (s.retireDone mbn n f).bank b = s.bank b)
      ∧ { (s.retireDone mbn n f).mem with banks := s.mem.banks, dram := s.mem.dram } = s.mem := by
  have hwork := applyLatch_work s mbn f.effs
  exact ⟨hwork.rest, fun b hb => ((modBank_onlyBank _ mbn _).2.2 b hb).trans (hwork.others b hb), hwork.mem⟩

theorem retireDone_dram {effs : List StepEffect} {d : Tab Column} (he : f.effs = effs)
    (hd : (applyLatch s mbn effs).mem.dram = d) : (s.retireDone mbn n f).mem.dram = d := by
  rw [← hd, ← he]
  rfl

theorem dramGet_of_dram {s t : State} (h : t.mem.dram = s.mem.dram) (b r c : Nat) : t.dramGet b r c = s.dramGet b r c := by
  rw [State.dramGet, State.dramGet, h]

end Retire

/-- Settles O19: a retiring step changes contents of memory and OUT_POISON by its latch writes, and then its unit's
registers, POISON, run and state. -/
theorem stepsRetire : Obligations.StepsRetire := by
  unfold Obligations.StepsRetire
  intro mbn n t s f hm hon hf ht hfirst
  obtain ⟨hrest, hothers, hmem⟩ := retireDone_frame s mbn n f
  have hn : n < (s.bank mbn).unit.fly.length := (List.getElem?_eq_some_iff.mp hf).1
  -- the unit once the step's latch writes are done
  obtain ⟨o, hlatch⟩ : ∃ o, ((applyLatch s mbn f.effs).bank mbn).unit = (s.bank mbn).unit.outPoisoned o :=
    ⟨_, (congrArg Bank.unit (applyLatch_work s mbn f.effs).own :)⟩
  have honly := written_only ((s.bank mbn).unit.outPoisoned o) n f
  have hst : (((s.bank mbn).unit.outPoisoned o).retired n f).status.st =
      if (s.bank mbn).unit.run.done && decide ((s.bank mbn).unit.fly.length = 1) && (s.bank mbn).unit.busy then .idle
      else (s.bank mbn).unit.status.st := by
    rw [retired_st, ← isEmpty_eraseIdx hn]
    rfl
  refine completes_kept (exec_stepRetire hm hon hf ht hfirst) (congrArg State.build hrest :)
    (congrArg State.pending hrest :) ?_
  rw [retireDone_bank, hlatch, retired_eq]
  refine ⟨(congrArg SprigUnit.fly honly :), (congrArg SprigUnit.ptrs honly :), (congrArg SprigUnit.ops honly :),
    (congrArg SprigUnit.sreg honly :), (congrArg SprigUnit.recipe honly :), fun hnil => ?none, fun e he => ?one,
    fun hdone hlen hbusy => ?idle, fun hgoing => ?goes, rfl, hrest, hothers, hmem⟩
  case none =>
    rw [written_nil hnil]
    exact ⟨rfl, rfl, rfl, retireDone_dram hnil rfl⟩
  case one =>
    rw [written_single he]
    cases e with
    | acc i x bad => exact ⟨rfl, rfl, rfl, retireDone_dram he rfl, rfl⟩
    | sc i x bad => exact ⟨rfl, rfl, rfl, retireDone_dram he rfl, rfl⟩
    | slot i x => exact ⟨rfl, rfl, rfl, retireDone_dram he rfl⟩
    | latch l row col x =>
      have hdram := retireDone_dram (n := n) he (applyLatch_latch_dram s mbn l row col x)
      have hout := applyLatch_latch_outPoison s mbn l row col x
      rw [← he, hlatch] at hout
      refine ⟨?_, rfl, rfl, rfl, fun b r c hkey => ?_, hout⟩
      · rw [dramGet_of_dram hdram]
        exact State.dramGet_dramPut_same s mbn row col x
      · rw [dramGet_of_dram hdram, State.dramGet_dramPut]
        exact if_neg hkey
  case idle =>
    refine hst.trans (if_pos ?_)
    rw [hdone, hlen, hbusy]
    rfl
  case goes =>
    refine hst.trans (if_neg ?_)
    rcases hgoing with h | h <;> simp [h]

end Sys2Proof.Machine

/-! ## O15, O17: what an extended command changes (05 R172 to R174) -/

namespace Sys2Proof.Machine

/-! ### Passes over distinct banks -/

section Passes

variable {g : State → Nat → State}

/-- A pass keeps what its steps keep at the members of its list. -/
theorem foldl_relates_of_mem {α β : Type} {R : β → β → Prop} (hrefl : ∀ b, R b b)
    (htrans : ∀ a b c, R a b → R b c → R a c) {g : β → α → β} {l : List α} (hg : ∀ a ∈ l, ∀ b, R b (g b a)) (b : β) :
    R b (l.foldl g b) := by
  induction l generalizing b with
  | nil => exact hrefl b
  | cons a l ih =>
    rw [List.foldl_cons]
    exact htrans _ _ _ (hg a List.mem_cons_self b) (ih (fun a' ha' => hg a' (List.mem_cons_of_mem _ ha')) (g b a))

/-- What the step of a bank does to that bank, a pass over distinct banks does to it. -/
theorem foldl_own_bank {R : Bank → Bank → Prop} (hother : ∀ s b m, m ≠ b → (g s b).bank m = s.bank m)
    (hown : ∀ s b, R (s.bank b) ((g s b).bank b)) {bs : List Nat} (hnd : bs.Nodup) {b : Nat} (hb : b ∈ bs) (s : State) :
    R (s.bank b) ((bs.foldl g s).bank b) := by
  have hskip : ∀ (l : List Nat) (s : State), b ∉ l → (l.foldl g s).bank b = s.bank b := fun l s hl =>
    foldl_relates_of_mem (R := fun s t : State => t.bank b = s.bank b) (fun _ => rfl) (fun _ _ _ h h' => h'.trans h)
      (fun a ha s => hother s a b fun he => hl (he ▸ ha)) s
  induction bs generalizing s with
  | nil => exact absurd hb List.not_mem_nil
  | cons a bs ih =>
    obtain ⟨ha, hbs⟩ := List.nodup_cons.mp hnd
    rw [List.foldl_cons]
    by_cases he : b = a
    · subst he
      rw [hskip bs _ ha]
      exact hown s b
    · rw [← hother s a b he]
      exact ih hbs ((List.mem_cons.mp hb).resolve_left he) _

/-- A pass over distinct banks keeps what each step keeps whose bank is as it was before the pass. -/
theorem foldl_relates_distinct {P : Bank → Prop} {R : State → State → Prop} (hrefl : ∀ s, R s s)
    (htrans : ∀ s t u, R s t → R t u → R s u) (hother : ∀ s b m, m ≠ b → (g s b).bank m = s.bank m)
    (hg : ∀ s b, P (s.bank b) → R s (g s b)) {bs : List Nat} (hnd : bs.Nodup) (s : State)
    (hP : ∀ b ∈ bs, P (s.bank b)) : R s (bs.foldl g s) := by
  induction bs generalizing s with
  | nil => exact hrefl s
  | cons a bs ih =>
    obtain ⟨ha, hbs⟩ := List.nodup_cons.mp hnd
    rw [List.foldl_cons]
    refine htrans _ _ _ (hg s a (hP a List.mem_cons_self)) (ih hbs _ fun b hb => ?_)
    rw [hother s a b fun he => ha (he ▸ hb)]
    exact hP b (List.mem_cons_of_mem _ hb)

end Passes

/-! ### What the controller keeps of a command (05 R171, R193) -/

section Noted

variable {s t u : State} {b n : Nat} {load err : Bool}

/-- Of a bank at most the recipe tag has changed, and that only by a load (`load`) of the job that holds it. -/
def LoadNote (load : Bool) (k v : Bank) : Prop := { v with tag := k.tag } = k ∧ (load = false ∨ k.hold = none → v = k)

theorem LoadNote.refl (load : Bool) (k : Bank) : LoadNote load k k := ⟨rfl, fun _ => rfl⟩

theorem LoadNote.hold {k v : Bank} (h : LoadNote load k v) : v.hold = k.hold := (congrArg Bank.hold h.1 :)

theorem LoadNote.trans {k v w : Bank} (h : LoadNote load k v) (h' : LoadNote load v w) : LoadNote load k w :=
  ⟨(congrArg (fun x : Bank => { x with tag := k.tag }) h'.1).trans h.1,
    fun hl => (h'.2 (h.hold ▸ hl)).trans (h.2 hl)⟩

/-- Only the job that holds bank `b` and, by a load, the bank's tag have changed; with errors counted (`err`) also the
log, stack `n`'s error counters, the rows' counts and the spare requests. -/
structure Noted (b n : Nat) (load err : Bool) (s t : State) : Prop where
  rest : { t with mem := s.mem, mgmt := s.mgmt, crust := s.crust } = s
  od : OdKept s t (if err then errKeys n else [])
  mem : { t.mem with
    banks := s.mem.banks, jobs := s.mem.jobs, rowCe := s.mem.rowCe, spareReq := s.mem.spareReq } = s.mem
  own : LoadNote load (s.bank b) (t.bank b)
  others : ∀ m, m ≠ b → t.bank m = s.bank m
  jobs : ∀ id, (s.bank b).hold ≠ some id → Tab.find t.mem.jobs id = Tab.find s.mem.jobs id
  clean : err = false → t.crust = s.crust ∧ t.mem.rowCe = s.mem.rowCe ∧ t.mem.spareReq = s.mem.spareReq

theorem Noted.refl (s : State) : Noted b n load err s s :=
  ⟨rfl, .refl s _, rfl, .refl load _, fun _ _ => rfl, fun _ _ => rfl, fun _ => ⟨rfl, rfl, rfl⟩⟩

theorem Noted.trans (h : Noted b n load err s t) (h' : Noted b n load err t u) : Noted b n load err s u where
  rest := (congrArg (fun x : State => { x with mem := s.mem, mgmt := s.mgmt, crust := s.crust }) h'.rest).trans h.rest
  od := h.od.trans h'.od
  mem := (congrArg (fun m : Mem => { m with
    banks := s.mem.banks, jobs := s.mem.jobs, rowCe := s.mem.rowCe, spareReq := s.mem.spareReq }) h'.mem).trans h.mem
  own := h.own.trans h'.own
  others := fun m hm => (h'.others m hm).trans (h.others m hm)
  jobs := fun id hid => (h'.jobs id (h.own.hold.symm ▸ hid)).trans (h.jobs id hid)
  clean := fun he => by
    obtain ⟨hc, hr, hs⟩ := h.clean he
    obtain ⟨hc', hr', hs'⟩ := h'.clean he
    exact ⟨hc'.trans hc, hr'.trans hr, hs'.trans hs⟩

theorem onHolder_find (s : State) (b : Nat) (f : Job → Job) {id : Nat} (hid : (s.bank b).hold ≠ some id) :
    Tab.find (s.onHolder b f).mem.jobs id = Tab.find s.mem.jobs id := by
  unfold State.onHolder
  split
  · rfl
  next k hold =>
    unfold State.onJob
    split
    · rfl
    · exact Tab.find_put_ne _ _ fun he => hid (he ▸ hold)

theorem Noted.onHolder (s : State) (b : Nat) (f : Job → Job) : Noted b n load err s (s.onHolder b f) := by
  have hfind := fun id => onHolder_find s b f (id := id)
  obtain ⟨js, h⟩ := onHolder_eq s b f
  rw [h] at hfind ⊢
  exact ⟨rfl, .refl s _, rfl, .refl load _, fun _ _ => rfl, hfind, fun _ => ⟨rfl, rfl, rfl⟩⟩

/-- The bank of a job's load gets the job's tag. -/
theorem Noted.tag (s : State) {b : Nat} (hold : (s.bank b).hold ≠ none) (g : Option RecipeTag) :
    Noted b n true err s (s.modBank b fun k => { k with tag := g }) where
  rest := rfl
  od := .refl s _
  mem := rfl
  own := by
    rw [modBank_bank]
    exact ⟨rfl, fun h => h.elim nofun fun h => absurd h hold⟩
  others := (modBank_onlyBank s b _).2.2
  jobs := fun _ _ => rfl
  clean := fun _ => ⟨rfl, rfl, rfl⟩

theorem Noted.jobLoaded (s : State) (b : Nat) : Noted b n true err s (s.jobLoaded b) := by
  unfold State.jobLoaded
  split
  · exact .refl s
  next j hj =>
    have hold : (s.bank b).hold ≠ none := fun h => by simp [State.holder, h] at hj
    split
    · exact .refl s
    · dsimp only
      split
      · exact (Noted.tag s hold _).trans (.onHolder _ b _)
      · exact .onHolder s b _

theorem ErrOnly.noted (h : ErrOnly s t n) : Noted b n load true s t where
  rest := h.rest
  od := h.od
  mem := (congrArg (fun m : Mem => { m with banks := s.mem.banks, jobs := s.mem.jobs }) h.mem :)
  own := by rw [h.bank]; exact .refl load _
  others := fun m _ => h.bank m
  jobs := fun id _ => by rw [h.jobs]
  clean := nofun

/-- The corrected errors of a status word are counted. -/
def State.countCes (s : State) (k : Bank) (b : Nat) : State :=
  (s.countCe k.unit.status.ce0 (s.jobEv b (k.latch 0).logRow 0)).countCe k.unit.status.ce1
    (s.jobEv b (k.latch 1).logRow 0)

/-- The uncorrectable columns of a status word are counted. -/
def State.countUes (s : State) (ues : List (Nat × Nat × Nat)) (b : Nat) : State :=
  ues.foldl (fun s u => s.countUe none (s.jobEv b u.2.2 u.2.1) (eccRead blankCol)) s

theorem countStatus_eq (s : State) (k : Bank) (b : Nat) :
    s.countStatus k b = (s.countCes k b).countUes k.unit.status.ues b := rfl

theorem countCes_errOnly (s : State) (k : Bank) (b : Nat) : ErrOnly s (s.countCes k b) (b / 1024) := by
  have hce (s' : State) (m row : Nat) : ErrOnly s' (s'.countCe m (s.jobEv b row 0)) (b / 1024) := by
    have h := countCe_errOnly s' m (s.jobEv b row 0)
    rwa [jobEv_loc] at h
  exact (hce s _ _).trans (hce _ _ _)

theorem countUes_errOnly (s : State) (ues : List (Nat × Nat × Nat)) (b : Nat) :
    ErrOnly s (s.countUes ues b) (b / 1024) := by
  refine foldl_relates (R := fun s t => ErrOnly s t (b / 1024)) (fun s => .refl s _) (fun _ _ _ => .trans)
    (fun s' x => ?_) s ues
  have h := countUe_errOnly s' none (s'.jobEv b x.2.2 x.2.1) (eccRead blankCol)
  rwa [jobEv_loc] at h

theorem countStatus_errOnly (s : State) (k : Bank) (hb : b / 1024 = n) : ErrOnly s (s.countStatus k b) n := by
  rw [countStatus_eq, ← hb]
  exact (countCes_errOnly s k b).trans (countUes_errOnly _ _ b)

/-- The command is a load of recipe steps or of an operand. -/
def extLoads (w : BitVec 48) : Bool := extCmd w == 0x11 || extCmd w == 0x12

/-- The command takes the sticky fields of a status word. -/
def extClears (w : BitVec 48) : Bool := extCmd w == 0x15 && Word.bit w 26

theorem jobNote_noted (s : State) (w : BitVec 48) (kb : Bank) (t : Nat) (hb : b / 1024 = n) :
    Noted b n (extLoads w) (extClears w) s (s.jobNote w kb b t) := by
  have hspan : Noted b n (extLoads w) (extClears w) s (s.onHolder b fun j => j.spanned (b / 16) t) := .onHolder s b _
  have hload (h : extLoads w = true) (x : State) : Noted b n (extLoads w) (extClears w) x (x.jobLoaded b) := by
    rw [h]
    exact .jobLoaded x b
  unfold State.jobNote
  dsimp only
  split
  next h => exact hspan.trans (hload (by rw [extLoads, h]; rfl) _)
  next h => exact hspan.trans (hload (by rw [extLoads, h]; rfl) _)
  next => exact hspan.trans (.onHolder _ b _)
  next => exact hspan.trans (.onHolder _ b _)
  next h =>
    split
    · exact hspan
    next hclear =>
      have herr : extClears w = true := by
        rw [extClears, h]
        simpa using hclear
      rw [herr] at hspan ⊢
      exact (hspan.trans (countStatus_errOnly _ kb hb).noted).trans (.onHolder _ b _)
  next => exact hspan.trans (.onHolder _ b _)
  next => exact hspan

theorem Noted.dram (h : Noted b n load err s t) : t.mem.dram = s.mem.dram := (congrArg Mem.dram h.mem :)
theorem Noted.bursts (h : Noted b n load err s t) : t.mem.bursts = s.mem.bursts := (congrArg Mem.bursts h.mem :)

end Noted

/-! ### The frame of an extended command -/

section Frame

variable {s t u : State} {bs cs : List Nat} {n ck b : Nat} {err : Bool}

/-- The frame of an extended command on the banks `bs` of stack `n` and channel `ck`; no bank has another holder. -/
structure BanksFrame (bs : List Nat) (n ck : Nat) (err : Bool) (s t : State) : Prop where
  rest : { t with mem := s.mem, mgmt := s.mgmt, crust := s.crust } = s
  od : OdKept s t (if err then errKeys n else [])
  mem : { t.mem with
    banks := s.mem.banks, chans := s.mem.chans, jobs := s.mem.jobs, bursts := s.mem.bursts, dram := s.mem.dram
    rowCe := s.mem.rowCe, spareReq := s.mem.spareReq } = s.mem
  banks : ∀ b, b ∉ bs → t.bank b = s.bank b
  holds : ∀ b, (t.bank b).hold = (s.bank b).hold
  chans : ∀ k, k ≠ ck → t.chan k = s.chan k
  chan : { t.chan ck with
    colSlot := (s.chan ck).colSlot, bursts := (s.chan ck).bursts, rdAt := (s.chan ck).rdAt
    wrAt := (s.chan ck).wrAt } = s.chan ck
  jobs : ∀ id, (∀ b ∈ bs, (s.bank b).hold ≠ some id) → Tab.find t.mem.jobs id = Tab.find s.mem.jobs id
  clean : err = false → t.crust = s.crust ∧ t.mem.rowCe = s.mem.rowCe ∧ t.mem.spareReq = s.mem.spareReq

theorem BanksFrame.refl (s : State) : BanksFrame bs n ck err s s :=
  ⟨rfl, .refl s _, rfl, fun _ _ => rfl, fun _ => rfl, fun _ _ => rfl, rfl, fun _ _ => rfl, fun _ => ⟨rfl, rfl, rfl⟩⟩

theorem BanksFrame.trans (h : BanksFrame bs n ck err s t) (h' : BanksFrame bs n ck err t u) :
    BanksFrame bs n ck err s u where
  rest := (congrArg (fun x : State => { x with mem := s.mem, mgmt := s.mgmt, crust := s.crust }) h'.rest).trans h.rest
  od := h.od.trans h'.od
  mem := (congrArg (fun m : Mem => { m with
    banks := s.mem.banks, chans := s.mem.chans, jobs := s.mem.jobs, bursts := s.mem.bursts, dram := s.mem.dram
    rowCe := s.mem.rowCe, spareReq := s.mem.spareReq }) h'.mem).trans h.mem
  banks := fun b hb => (h'.banks b hb).trans (h.banks b hb)
  holds := fun b => (h'.holds b).trans (h.holds b)
  chans := fun k hk => (h'.chans k hk).trans (h.chans k hk)
  chan := (congrArg (fun c : Chan => { c with
    colSlot := (s.chan ck).colSlot, bursts := (s.chan ck).bursts, rdAt := (s.chan ck).rdAt
    wrAt := (s.chan ck).wrAt }) h'.chan).trans h.chan
  jobs := fun id hid => (h'.jobs id fun b hb => (h.holds b).symm ▸ hid b hb).trans (h.jobs id hid)
  clean := fun he => by
    obtain ⟨hc, hr, hs⟩ := h.clean he
    obtain ⟨hc', hr', hs'⟩ := h'.clean he
    exact ⟨hc'.trans hc, hr'.trans hr, hs'.trans hs⟩

theorem BanksFrame.mono (h : BanksFrame bs n ck err s t) (hs : bs ⊆ cs) : BanksFrame cs n ck err s t :=
  { h with
    banks := fun b hb => h.banks b fun hbs => hb (hs hbs)
    jobs := fun id hid => h.jobs id fun b hb => hid b (hs hb) }

theorem BanksFrame.modBank (s : State) {b : Nat} {f : Bank → Bank} (hf : (f (s.bank b)).hold = (s.bank b).hold) :
    BanksFrame [b] n ck err s (s.modBank b f) where
  rest := rfl
  od := .refl s _
  mem := rfl
  banks := fun m hm => (modBank_onlyBank s b f).2.2 m fun he => hm (he ▸ List.mem_singleton_self b)
  holds := fun m => by
    rw [modBank_bank_ite]
    split
    next he => rw [he, hf]
    · rfl
  chans := fun _ _ => rfl
  chan := rfl
  jobs := fun _ _ => rfl
  clean := fun _ => ⟨rfl, rfl, rfl⟩

theorem BanksFrame.modUnit (s : State) (b : Nat) (f : SprigUnit → SprigUnit) :
    BanksFrame [b] n ck err s (s.modUnit b f) := .modBank s rfl

/-- A burst goes out. -/
def State.sent (s : State) (x : Nat × Column) : State := { s with mem := { s.mem with bursts := x :: s.mem.bursts } }

theorem BanksFrame.sent (s : State) (x : Nat × Column) : BanksFrame bs n ck err s (s.sent x) :=
  ⟨rfl, .refl s _, rfl, fun _ _ => rfl, fun _ => rfl, fun _ _ => rfl, rfl, fun _ _ => rfl, fun _ => ⟨rfl, rfl, rfl⟩⟩

theorem chan_of_chans (h : t.mem.chans = s.mem.chans) (k : Nat) : t.chan k = s.chan k := by
  rw [State.chan, State.chan, h]

theorem LatchWork.banksFrame (h : LatchWork b s t) : BanksFrame [b] n ck err s t := by
  obtain ⟨hrest, hmem, hothers, hown⟩ := h
  have hchan := chan_of_chans (congrArg Mem.chans hmem :)
  have hmgmt : t.mgmt = s.mgmt := (congrArg State.mgmt hrest :)
  exact {
    rest := (congrArg (fun x : State => { x with mgmt := s.mgmt, crust := s.crust }) hrest :)
    od := ⟨by rw [hmgmt], fun k _ => by rw [hmgmt]⟩
    mem := (congrArg (fun m : Mem => { m with
      chans := s.mem.chans, jobs := s.mem.jobs, bursts := s.mem.bursts
      rowCe := s.mem.rowCe, spareReq := s.mem.spareReq }) hmem :)
    banks := fun m hm => hothers m fun he => hm (he ▸ List.mem_singleton_self b)
    holds := fun m => by
      by_cases he : m = b
      · rw [he, hown]
      · rw [hothers m he]
    chans := fun k _ => hchan k
    chan := by rw [hchan]
    jobs := fun id _ => (congrArg (fun m : Mem => Tab.find m.jobs id) hmem :)
    clean := fun _ => ⟨(congrArg State.crust hrest :), (congrArg Mem.rowCe hmem :), (congrArg Mem.spareReq hmem :)⟩ }

theorem Noted.banksFrame {load : Bool} (h : Noted b n load err s t) : BanksFrame [b] n ck err s t := by
  have hchan := chan_of_chans (congrArg Mem.chans h.mem :)
  exact {
    rest := h.rest
    od := h.od
    mem := (congrArg (fun m : Mem => { m with
      chans := s.mem.chans, bursts := s.mem.bursts, dram := s.mem.dram }) h.mem :)
    banks := fun m hm => h.others m fun he => hm (he ▸ List.mem_singleton_self b)
    holds := fun m => by
      by_cases he : m = b
      · rw [he, h.own.hold]
      · rw [h.others m he]
    chans := fun k _ => hchan k
    chan := by rw [hchan]
    jobs := fun id hid => h.jobs id (hid b (List.mem_singleton_self b))
    clean := h.clean }

theorem useExt_frame (s : State) (stk ch : Nat) (w : BitVec 48) (t : Nat) :
    BanksFrame bs n (chanKey stk ch) err s (s.useExt stk ch w t) where
  rest := rfl
  od := .refl s _
  mem := rfl
  banks := fun _ _ => rfl
  holds := fun _ => rfl
  chans := (modChan_frame s (chanKey stk ch) _).2.2
  chan := by
    rw [State.useExt, modChan_chan]
    split <;> rfl
  jobs := fun _ _ => rfl
  clean := fun _ => ⟨rfl, rfl, rfl⟩

theorem extOnBank_frame (s : State) (w : BitVec 48) (burst : Column) (t b : Nat) :
    BanksFrame [b] n ck err s (extOnBank s w burst t b) := by
  unfold extOnBank
  dsimp only
  split
  · exact .modUnit s b _
  split
  · split
    · exact .modUnit s b _
    · exact (applyLatch_work s b _).banksFrame.trans (.modBank _ rfl)
  · exact .modUnit s b _
  · exact .modUnit s b _
  · exact .modUnit s b _
  · exact (BanksFrame.modUnit s b _).trans (.sent _ _)
  · exact (BanksFrame.modUnit s b _).trans (.sent _ _)

theorem loadTag_frame (s : State) (w : BitVec 48) (b : Nat) : BanksFrame [b] n ck err s (s.loadTag w b) := by
  unfold State.loadTag
  split
  · exact .modBank s rfl
  · exact .refl s

theorem extOne_frame (s : State) (w : BitVec 48) (burst : Column) (t : Nat) (hb : b / 1024 = n) :
    BanksFrame [b] n ck (extClears w) s (s.extOne w burst t b) := by
  have hbank := extOnBank_frame s w burst t b (n := n) (ck := ck) (err := extClears w)
  unfold State.extOne
  dsimp only
  split
  · exact (hbank.trans (loadTag_frame _ w b)).trans (jobNote_noted _ w _ t hb).banksFrame
  · exact hbank

/-- On the way through its mask a command comes to one bank at a time. -/
theorem extOne_other (s : State) (w : BitVec 48) (burst : Column) (t b m : Nat) (hm : m ≠ b) :
    (s.extOne w burst t b).bank m = s.bank m :=
  (extOne_frame (ck := 0) s w burst t (b := b) rfl).banks m (by simpa using hm)

theorem extBanks_stk {stk ch : Nat} {w : BitVec 48} (hch : ch < 64) (hb : b ∈ extBanks stk ch w) : b / 1024 = stk := by
  obtain ⟨i, hi, rfl⟩ := List.mem_map.mp hb
  have hlt : i < 16 := List.mem_range.mp (List.mem_filter.mp hi).1
  omega

theorem extDone_frame (s : State) {stk ch : Nat} (w : BitVec 48) (burst : Column) (t : Nat) (hch : ch < 64) :
    BanksFrame (extBanks stk ch w) stk (chanKey stk ch) (extClears w) s (s.extDone stk ch w burst t) :=
  (useExt_frame s stk ch w t).trans <|
    foldl_relates_of_mem (R := BanksFrame (extBanks stk ch w) stk (chanKey stk ch) (extClears w)) .refl
      (fun _ _ _ => .trans)
      (fun b hb s' => (extOne_frame s' w burst t (extBanks_stk hch hb)).mono (by simpa using hb)) _

theorem BanksFrame.extFrame {stk ch : Nat} {w : BitVec 48}
    (h : BanksFrame (extBanks stk ch w) stk (chanKey stk ch) err s t) : ExtFrame s t stk ch w err :=
  ⟨h.rest, h.od, h.mem, h.banks, h.chans, h.chan, h.jobs, h.clean⟩

/-- What a command does to a bank of its mask, it does to it alone. -/
theorem extDone_own {R : Bank → Bank → Prop} {stk ch : Nat} {w : BitVec 48} {burst : Column} {tm : Nat}
    (hown : ∀ (s : State) b, R (s.bank b) ((s.extOne w burst tm b).bank b)) (hb : b ∈ extBanks stk ch w) (s : State) :
    R (s.bank b) ((s.extDone stk ch w burst tm).bank b) :=
  foldl_own_bank (fun s b m => extOne_other s w burst tm b m) hown (extBanks_nodup stk ch w) hb (s.useExt stk ch w tm)

end Frame

end Sys2Proof.Machine

/-! ## O15: SPRIG_MODE, RECIPE_WRITE and OPERAND_BCAST -/

namespace Sys2Proof.Machine

/-! ### A bank that takes a command, or does not (04 R119; 05 R173) -/

section Taken

variable {s : State} {w : BitVec 48} {burst : Column} {t b : Nat}

theorem extTaken_of {u : SprigUnit} (hformed : extFormed w = true) (hacc : extAccepted u w = true)
    (hburst : extBadBurst w burst = false) : extTaken u w burst = true := by
  rw [extTaken, hformed, hacc, hburst]
  rfl

theorem extOne_untaken (h : extTaken (s.bank b).unit w burst = false) :
    s.extOne w burst t b = s.modUnit b unitProtocol := by
  rw [State.extOne, if_neg (by simp [h]), extOnBank_protocol s b h]

theorem extOne_taken (h : extTaken (s.bank b).unit w burst = true) : s.extOne w burst t b =
    ((extOnBank s w burst t b).loadTag w b).jobNote w (s.bank b) b t := if_pos h

theorem loadTag_of_ne (hw : extCmd w ≠ 0x11) (s : State) (b : Nat) : s.loadTag w b = s := if_neg hw

/-- The controller's note of a taken command leaves the bank to what the command does; only a load for a job sets the
tag. -/
theorem extOne_note (h : extTaken (s.bank b).unit w burst = true) :
    LoadNote (extLoads w) (((extOnBank s w burst t b).loadTag w b).bank b) ((s.extOne w burst t b).bank b) := by
  rw [extOne_taken h]
  exact (jobNote_noted _ w _ t rfl).own

/-- A command that is no load does to the bank just what the unit does. -/
theorem extOne_bank_of_noLoad (h : extTaken (s.bank b).unit w burst = true) (hload : extLoads w = false) :
    (s.extOne w burst t b).bank b = (extOnBank s w burst t b).bank b := by
  have hw : extCmd w ≠ 0x11 := fun hw => by simp [extLoads, hw] at hload
  have hnote := (extOne_note (t := t) h).2 (.inl hload)
  rwa [loadTag_of_ne hw] at hnote

end Taken

/-! ### What each command does to a unit that takes it -/

section OnBank

variable {s : State} {w : BitVec 48} {burst : Column} {t b : Nat}

theorem extOnBank_enter (hw : extCmd w = 0x10) (henter : Word.bit w 26 = true)
    (h : extTaken (s.bank b).unit w burst = true) : extOnBank s w burst t b = s.modUnit b fun u => unitEnter u t := by
  simp only [extOnBank, h, hw, henter]
  rfl

/-- The steps in flight whose column writes are under way when the unit leaves at cycle `t`. -/
def SprigUnit.underWay (u : SprigUnit) (t : Nat) : List StepEffect :=
  (u.fly.filter fun f => match f.pathAt with | some p => decide (p ≤ t) | none => false).flatMap (·.effs)

theorem extOnBank_leave (hw : extCmd w = 0x10) (hleave : Word.bit w 26 = false)
    (h : extTaken (s.bank b).unit w burst = true) : extOnBank s w burst t b =
      (applyLatch s b ((s.bank b).unit.underWay t)).modBank b fun k =>
        { k with unit := unitLeave k.unit, leaveAt := some t } := by
  simp only [extOnBank, h, hw, hleave]
  rfl

/-- Step `n + i` of a unit's recipe is loaded from word `i` of a burst at cycle `t`. -/
def SprigUnit.loadStep (u : SprigUnit) (d : Line) (n t i : Nat) : SprigUnit :=
  { u with
    recipe := Tab.set 0 u.recipe (n + i) (BitVec.ofNat 64 (nbits d.toNat (64 * i + 63) (64 * i)))
    run := { u.run with recipeAt := Tab.put u.run.recipeAt (n + i) t } }

/-- The first `c` words of a burst are loaded from step `n` on. -/
def SprigUnit.loadSteps (u : SprigUnit) (d : Line) (n t c : Nat) : SprigUnit :=
  (upTo c).foldl (fun u i => u.loadStep d n t i) u

theorem loadSteps_succ (u : SprigUnit) (d : Line) (n t c : Nat) :
    u.loadSteps d n t (c + 1) = (u.loadSteps d n t c).loadStep d n t c := by
  rw [SprigUnit.loadSteps, upTo, List.range_succ, List.foldl_concat]
  rfl

theorem loadSteps_rest (u : SprigUnit) (d : Line) (n t c : Nat) :
    { u.loadSteps d n t c with recipe := u.recipe, run := u.run } = u := by
  induction c with
  | zero => rfl
  | succ c ih =>
    rw [loadSteps_succ]
    exact ih

theorem ofNat_nbits_word (x i : Nat) :
    BitVec.ofNat 64 (nbits x (64 * i + 63) (64 * i)) = BitVec.ofNat 64 (x >>> (64 * i)) := by
  have hwidth : 64 * i + 63 + 1 - 64 * i = 64 := by omega
  rw [nbits, hwidth]
  exact BitVec.eq_of_toNat_eq (by simp)

theorem loadSteps_get (u : SprigUnit) (d : Line) (n t c m : Nat) : Tab.get 0 (u.loadSteps d n t c).recipe m =
    if n ≤ m ∧ m < n + c then BitVec.ofNat 64 (d.toNat >>> (64 * (m - n))) else Tab.get 0 u.recipe m := by
  induction c with
  | zero => exact (if_neg (by omega)).symm
  | succ c ih =>
    rw [loadSteps_succ, SprigUnit.loadStep, Tab.get_set]
    by_cases hm : m = n + c
    · rw [if_pos hm, if_pos (by omega), ofNat_nbits_word, hm, Nat.add_sub_cancel_left]
    · rw [if_neg hm, ih]
      exact if_congr (by omega) rfl rfl

theorem extOnBank_recipe (hw : extCmd w = 0x11) (h : extTaken (s.bank b).unit w burst = true) :
    extOnBank s w burst t b = s.modUnit b fun u =>
      u.loadSteps (eccRead burst).data (Word.bits w 26 22) t (Word.bits w 21 19 + 1) := by
  simp only [extOnBank, h, hw]
  rfl

/-- A burst is stored in the operand register that R names. -/
def SprigUnit.loadOperand (u : SprigUnit) (w : BitVec 48) (e : EccOut) (t : Nat) : SprigUnit :=
  let r := if Word.bit w 26 then 1 else 0
  { u with
    ops := u.ops.set r { data := e.data, poison := e.bad }
    status := { u.status with poison := u.status.poison || e.bad }
    run := if r = 0 then { u.run with bcast0 := some t } else { u.run with bcast1 := some t } }

theorem extOnBank_operand (hw : extCmd w = 0x12) (h : extTaken (s.bank b).unit w burst = true) :
    extOnBank s w burst t b = s.modUnit b fun u => u.loadOperand w (eccRead burst) t := by
  simp only [extOnBank, h, hw]
  rfl

end OnBank

/-! ### Contents of memory -/

section Dram

variable {s : State} {w : BitVec 48} {burst : Column} {t b : Nat}

/-- Only a unit that leaves recipe mode with steps in flight writes contents of memory. -/
theorem extOnBank_dram (h : extCmd w = 0x10 → (s.bank b).unit.fly = []) :
    (extOnBank s w burst t b).mem.dram = s.mem.dram := by
  unfold extOnBank
  dsimp only
  split
  · rfl
  split
  next hw =>
    rw [h hw]
    split <;> rfl
  all_goals rfl

theorem extOne_dram (h : extCmd w = 0x10 → (s.bank b).unit.fly = []) :
    (s.extOne w burst t b).mem.dram = s.mem.dram := by
  have htag (x : State) : (x.loadTag w b).mem.dram = x.mem.dram := by
    unfold State.loadTag
    split <;> rfl
  cases htaken : extTaken (s.bank b).unit w burst with
  | false =>
    rw [extOne_untaken htaken]
    rfl
  | true => rw [extOne_taken htaken, (jobNote_noted _ w _ t rfl).dram, htag, extOnBank_dram h]

theorem extDone_dram {stk ch : Nat} (s : State) (w : BitVec 48) (burst : Column) (t : Nat)
    (h : extCmd w = 0x10 → ∀ b ∈ extBanks stk ch w, (s.bank b).unit.fly = []) :
    DramSame s (s.extDone stk ch w burst t) := by
  have hpass := foldl_relates_distinct (g := fun s b => s.extOne w burst t b) (R := DramSame)
    (P := fun k => extCmd w = 0x10 → k.unit.fly = []) (fun _ => rfl) (fun _ _ _ h h' => h'.trans h)
    (fun s b m => extOne_other s w burst t b m) (fun _ _ => extOne_dram) (extBanks_nodup stk ch w)
    (s.useExt stk ch w t) fun b hb hw => h hw b hb
  exact hpass

end Dram

/-! ### The commands -/

section Exec

variable {s : State} {stk ch t : Nat} {w : BitVec 48} {x : Column}

/-- Each extended command is issued by its CMD and ENTER; one that carries no burst has none for an operand. -/
theorem exec_ext : ∀ p ∈ extRows, (p.2.2.1 = false → x = blankCol) →
    exec (p.2.2.2 stk ch w x t) s = s.extIssue p.1 p.2.1 stk ch w x t :=
  List.forall_iff_forall_mem.mp ⟨fun h => h rfl ▸ rfl, fun h => h rfl ▸ rfl, fun _ => rfl, fun _ => rfl, fun _ => rfl,
    fun h => h rfl ▸ rfl, fun h => h rfl ▸ rfl⟩

/-- How an extended command is shown to complete that its channel takes. -/
theorem ext_completes {cmd : Nat} {enter : Option Bool} {i : Instr} {P : State → Prop}
    (hx : exec i s = s.extIssue cmd enter stk ch w x t) (hf : s.fitted stk = true) (hch : ch < 64)
    (htakes : s.extTakes cmd enter stk ch w x t = true) (p : P (s.extDone stk ch w x t)) : Completes i s P :=
  have hrest := (extDone_frame s (stk := stk) w x t hch).rest
  completes_kept (hx.trans (ifUnit_when _ _ (fits_and_lt hf hch) htakes)) (congrArg State.build hrest :)
    (congrArg State.pending hrest :) p

/-- A command that is no reserved one has the ENTER of its row. -/
theorem extTakes_enter {cmd : Nat} {e : Bool} (h : s.extTakes cmd (some e) stk ch w x t = true)
    (hw : extCmd w < 0x16) : Word.bit w 26 = e := by
  have hrsvd : ¬0x16 ≤ extCmd w := Nat.not_le.mpr hw
  simp only [State.extTakes, Bool.and_eq_true, Bool.or_eq_true, decide_eq_true_eq, hrsvd, false_and, or_false,
    beq_iff_eq] at h
  exact h.1.2

end Exec

/-! ### What a bank of the mask becomes -/

section OwnBank

variable {s : State} {stk ch t b : Nat} {w : BitVec 48} {burst : Column}

theorem extDone_untaken (hb : b ∈ extBanks stk ch w) (h : extTaken (s.bank b).unit w burst = false) :
    (s.extDone stk ch w burst t).bank b = { s.bank b with unit := unitProtocol (s.bank b).unit } := by
  refine extDone_own (R := fun k v => extTaken k.unit w burst = false → v = { k with unit := unitProtocol k.unit })
    (fun s b h => ?_) hb s h
  rw [extOne_untaken h, State.modUnit, modBank_bank]

theorem extDone_enter (hw : extCmd w = 0x10) (henter : Word.bit w 26 = true) (hb : b ∈ extBanks stk ch w)
    (h : extTaken (s.bank b).unit w burst = true) :
    (s.extDone stk ch w burst t).bank b = { s.bank b with unit := unitEnter (s.bank b).unit t } := by
  refine extDone_own (R := fun k v => extTaken k.unit w burst = true → v = { k with unit := unitEnter k.unit t })
    (fun s b h => ?_) hb s h
  rw [extOne_bank_of_noLoad h (by rw [extLoads, hw]; rfl), extOnBank_enter hw henter h, State.modUnit, modBank_bank]

theorem extDone_leave (hw : extCmd w = 0x10) (hleave : Word.bit w 26 = false) (hb : b ∈ extBanks stk ch w)
    (h : extTaken (s.bank b).unit w burst = true) : (s.extDone stk ch w burst t).bank b =
      { s.bank b with unit := { recipe := (s.bank b).unit.recipe }, leaveAt := some t } := by
  refine extDone_own (R := fun k v => extTaken k.unit w burst = true →
    v = { k with unit := { recipe := k.unit.recipe }, leaveAt := some t }) (fun s b h => ?_) hb s h
  rw [extOne_bank_of_noLoad h (by rw [extLoads, hw]; rfl), extOnBank_leave hw hleave h, modBank_bank,
    (applyLatch_work s b _).own]
  rfl

theorem extDone_recipe (hw : extCmd w = 0x11) (hb : b ∈ extBanks stk ch w)
    (h : extTaken (s.bank b).unit w burst = true) :
    LoadNote true { s.bank b with
      tag := none
      unit := (s.bank b).unit.loadSteps (eccRead burst).data (Word.bits w 26 22) t (Word.bits w 21 19 + 1) }
      ((s.extDone stk ch w burst t).bank b) := by
  refine extDone_own (R := fun k v => extTaken k.unit w burst = true → LoadNote true { k with
    tag := none
    unit := k.unit.loadSteps (eccRead burst).data (Word.bits w 26 22) t (Word.bits w 21 19 + 1) } v)
    (fun s b h => ?_) hb s h
  have hnote := extOne_note (t := t) h
  rwa [extOnBank_recipe hw h, State.loadTag, if_pos hw, modBank_bank, State.modUnit, modBank_bank, extLoads, hw] at hnote

theorem extDone_operand (hw : extCmd w = 0x12) (hb : b ∈ extBanks stk ch w)
    (h : extTaken (s.bank b).unit w burst = true) :
    LoadNote true { s.bank b with unit := (s.bank b).unit.loadOperand w (eccRead burst) t }
      ((s.extDone stk ch w burst t).bank b) := by
  refine extDone_own (R := fun k v => extTaken k.unit w burst = true →
    LoadNote true { k with unit := k.unit.loadOperand w (eccRead burst) t } v) (fun s b h => ?_) hb s h
  have hnote := extOne_note (t := t) h
  rwa [extOnBank_operand hw h, loadTag_of_ne (by rw [hw]; decide), State.modUnit, modBank_bank, extLoads, hw] at hnote

end OwnBank

/-- Settles O15: the command comes to each bank of its mask once, and each takes it by its own unit's state. -/
theorem recipeModeAndWrites : Obligations.RecipeModeAndWrites := by
  unfold Obligations.RecipeModeAndWrites
  refine ⟨fun p hp stk ch t w x s hf hch hx htakes => ?frame, fun stk ch t w s hf hch htakes hw hformed => ?enter,
    fun stk ch t w s hf hch htakes hw hformed => ?leave, fun stk ch t w burst s hf hch htakes hw hformed hgood => ?recipe,
    fun stk ch t w burst s hf hch htakes hw hformed => ?operand⟩
  case frame =>
    exact ext_completes (exec_ext p hp hx) hf hch htakes ⟨(extDone_frame s w x t hch).extFrame,
      fun b hb => extDone_untaken hb, extDone_dram s w x t⟩
  case enter =>
    refine ext_completes rfl hf hch htakes fun b hb hoff => ?_
    have henter := extTakes_enter htakes (by rw [hw]; decide)
    have htaken : extTaken (s.bank b).unit w blankCol = true :=
      extTaken_of hformed (by simp [extAccepted, hw, henter, hoff]) (by simp [extBadBurst, hw])
    rw [extDone_enter hw henter hb htaken]
    exact ⟨rfl, rfl, rfl, rfl, rfl, rfl, rfl, rfl, rfl, rfl⟩
  case leave =>
    refine ext_completes rfl hf hch htakes fun b hb hon => ?_
    have hleave := extTakes_enter htakes (by rw [hw]; decide)
    exact extDone_leave hw hleave hb
      (extTaken_of hformed (by simp [extAccepted, hw, hleave, hon]) (by simp [extBadBurst, hw]))
  case recipe =>
    refine ext_completes rfl hf hch htakes fun b hb hst => ?_
    have htaken : extTaken (s.bank b).unit w burst = true :=
      extTaken_of hformed (by simpa [extAccepted, hw] using hst) (by simp [extBadBurst, hw, hgood])
    obtain ⟨hbank, hfree⟩ := extDone_recipe (t := t) hw hb htaken
    have hunit := (congrArg Bank.unit hbank :)
    dsimp only at hunit ⊢
    rw [hunit]
    refine ⟨fun hold => (congrArg Bank.tag (hfree (.inr hold)) :), fun n => ?_, loadSteps_rest _ _ _ _ _,
      (congrArg (fun v : Bank => { v with tag := (s.bank b).tag, unit := (s.bank b).unit }) hbank :)⟩
    rw [loadSteps_get]
    exact if_congr (by omega) rfl rfl
  case operand =>
    refine ext_completes rfl hf hch htakes fun b hb hst => ?_
    have htaken : extTaken (s.bank b).unit w burst = true :=
      extTaken_of hformed (by simpa [extAccepted, hw] using hst) (by simp [extBadBurst, hw])
    obtain ⟨hbank, hfree⟩ := extDone_operand (t := t) hw hb htaken
    have hunit := (congrArg Bank.unit hbank :)
    dsimp only at hunit ⊢
    rw [hunit]
    exact ⟨rfl, rfl, rfl, fun hold =>
      (congrArg (fun v : Bank => { v with unit := (s.bank b).unit }) (hfree (.inr hold)) :)⟩

end Sys2Proof.Machine

/-! ## O17: SPRIG_DRAIN and SPRIG_STATUS return bursts -/

namespace Sys2Proof.Machine

/-! ### The errors of a status word that CLEAR takes (04 R155, R159) -/

section CountStatus

variable (s : State) (b : Nat)

theorem countCe_adds (m : Nat) (a : EvAt) :
    (s.countCe m a).ctr (0x3030 + a.loc.stk) 2 = (s.ctr (0x3030 + a.loc.stk) 2 + m) % 2 ^ 64 := by
  by_cases hm : m = 0
  · rw [State.countCe, if_pos hm, hm, Nat.add_zero, Nat.mod_eq_of_lt (ctr_lt _ _ _)]
  · exact countCe_ctr s hm a

theorem countCes_ctr (k : Bank) : (s.countCes k b).ctr (0x3030 + b / 1024) 2 =
    (s.ctr (0x3030 + b / 1024) 2 + k.unit.status.ce0 + k.unit.status.ce1) % 2 ^ 64 := by
  have hce (s' : State) (m row : Nat) : (s'.countCe m (s.jobEv b row 0)).ctr (0x3030 + b / 1024) 2 =
      (s'.ctr (0x3030 + b / 1024) 2 + m) % 2 ^ 64 := by
    have h := countCe_adds s' m (s.jobEv b row 0)
    rwa [jobEv_loc] at h
  rw [State.countCes, hce, hce, Nat.mod_add_mod]

/-- Uncorrectable columns have a counter of their own. -/
theorem countUes_ctr (ues : List (Nat × Nat × Nat)) (i : Nat) : (s.countUes ues b).ctr i 2 = s.ctr i 2 := by
  refine foldl_relates (R := fun s t : State => t.ctr i 2 = s.ctr i 2) (fun _ => rfl) (fun _ _ _ h h' => h'.trans h)
    (fun s' x => ?_) s ues
  refine (askSpare_ctr _ _ _ _ _).trans (bump_ctr_ne s' ?_)
  unfold odKey
  omega

theorem jobNote_clear_ctr {w : BitVec 48} (hw : extCmd w = 0x15) (hclear : Word.bit w 26 = true) (kb : Bank) (t : Nat) :
    (s.jobNote w kb b t).ctr (0x3030 + b / 1024) 2 =
      (s.ctr (0x3030 + b / 1024) 2 + kb.unit.status.ce0 + kb.unit.status.ce1) % 2 ^ 64 := by
  simp only [State.jobNote, hw, hclear]
  rw [if_neg (by decide), onHolder_ctr, countStatus_eq, countUes_ctr, countCes_ctr, onHolder_ctr]

end CountStatus

/-! ### What leaves a unit (04 R151, R159) -/

section Bursts

variable {s : State} {w : BitVec 48} {burst : Column} {t b : Nat}

/-- The unit's first data beat, after a command at cycle `t`. -/
def SprigUnit.beat (u : SprigUnit) (t : Nat) : SprigUnit := { u with run := { u.run with beatAt := some (t + 8) } }

theorem extOnBank_drain (hw : extCmd w = 0x14) (h : extTaken (s.bank b).unit w burst = true) :
    extOnBank s w burst t b = (s.modUnit b fun u => u.beat t).sent
      (b, let x := (forwarded (s.bank b).unit).drain.getD (Word.bits w 26 23) {}; storeCol x.data x.poison) := by
  simp only [extOnBank, h, hw]
  rfl

theorem extOnBank_status (hw : extCmd w = 0x15) (h : extTaken (s.bank b).unit w burst = true) :
    extOnBank s w burst t b = (s.modUnit b fun u => (if Word.bit w 26 then clearSticky u else u).beat t).sent
      (b, cleanCol ((statusWord (s.bank b).unit).setWidth 512)) := by
  simp only [extOnBank, h, hw]
  rfl

theorem sent_bank (s : State) (x : Nat × Column) (m : Nat) : (s.sent x).bank m = s.bank m := rfl

theorem extOne_bursts (h : extTaken (s.bank b).unit w burst = true) :
    (s.extOne w burst t b).mem.bursts = (extOnBank s w burst t b).mem.bursts := by
  rw [extOne_taken h, (jobNote_noted _ w _ t rfl).bursts, State.loadTag]
  split <;> rfl

theorem extDone_single {stk ch : Nat} (s : State) (burst : Column) (t : Nat) (h : extBanks stk ch w = [b]) :
    s.extDone stk ch w burst t = (s.useExt stk ch w t).extOne w burst t b := by
  rw [State.extDone, h]
  rfl

/-- What a command does that reads one bank out: a burst goes out, and only the bank's unit may change. -/
theorem extDone_sends {stk ch : Nat} {f : SprigUnit → SprigUnit} {x : Column} (hch : ch < 64)
    (hone : extBanks stk ch w = [b]) (hmode : extCmd w ≠ 0x10) (hload : extLoads w = false)
    (h : extTaken (s.bank b).unit w burst = true)
    (hx : extOnBank (s.useExt stk ch w t) w burst t b = ((s.useExt stk ch w t).modUnit b f).sent (b, x)) :
    (s.extDone stk ch w burst t).mem.bursts = (b, x) :: s.mem.bursts
      ∧ (s.extDone stk ch w burst t).bank b = { s.bank b with unit := f (s.bank b).unit }
      ∧ DramSame s (s.extDone stk ch w burst t) ∧ ExtFrame s (s.extDone stk ch w burst t) stk ch w (extClears w) := by
  refine ⟨?_, ?_, extDone_dram s w burst t fun hw => absurd hw hmode, (extDone_frame s w burst t hch).extFrame⟩
  · rw [extDone_single s burst t hone, extOne_bursts (s := s.useExt stk ch w t) h, hx]
    rfl
  · rw [extDone_single s burst t hone, extOne_bank_of_noLoad (s := s.useExt stk ch w t) h hload, hx, sent_bank, State.modUnit, modBank_bank]
    rfl

/-- CLEAR counts the corrected errors that it takes at the stack of the bank. -/
theorem extDone_clear_ctr {stk ch : Nat} (hw : extCmd w = 0x15) (hclear : Word.bit w 26 = true)
    (hone : extBanks stk ch w = [b]) (h : extTaken (s.bank b).unit w burst = true) :
    (s.extDone stk ch w burst t).ctr (0x3030 + b / 1024) 2 = (s.ctr (0x3030 + b / 1024) 2
      + (s.bank b).unit.status.ce0 + (s.bank b).unit.status.ce1) % 2 ^ 64 := by
  rw [extDone_single s burst t hone, extOne_taken (s := s.useExt stk ch w t) h,
    loadTag_of_ne (by rw [hw]; decide),
    jobNote_clear_ctr _ b hw hclear, extOnBank_status (s := s.useExt stk ch w t) hw h]
  rfl

end Bursts

/-- Settles O17: one bank is addressed, and its unit is only read, but for the time of the burst and the sticky fields
that CLEAR takes. -/
theorem drainAndStatusReturnBursts : Obligations.DrainAndStatusReturnBursts := by
  unfold Obligations.DrainAndStatusReturnBursts
  refine ⟨fun stk ch t b w s hf hch htakes hw hformed hone hon => ?drain,
    fun stk ch t b w s hf hch htakes hw hformed hone => ?status⟩
  case drain =>
    have htaken : extTaken (s.bank b).unit w blankCol = true :=
      extTaken_of hformed (by simpa [extAccepted, hw] using hon) (by simp [extBadBurst, hw])
    obtain ⟨hbursts, hbank, hdram, hframe⟩ := extDone_sends hch hone (by rw [hw]; decide) (by rw [extLoads, hw]; rfl)
      htaken (extOnBank_drain (s := s.useExt stk ch w t) (t := t) hw htaken)
    rw [extClears, hw] at hframe
    refine ext_completes rfl hf hch htakes ?_
    rw [hbank]
    exact ⟨hbursts, rfl, rfl, hdram, hframe⟩
  case status =>
    have htaken : extTaken (s.bank b).unit w blankCol = true :=
      extTaken_of hformed (by simp [extAccepted, hw]) (by simp [extBadBurst, hw])
    have hstk : b / 1024 = stk := extBanks_stk hch (hone ▸ List.mem_singleton_self b)
    obtain ⟨hbursts, hbank, hdram, hframe⟩ := extDone_sends hch hone (by rw [hw]; decide) (by rw [extLoads, hw]; rfl)
      htaken (extOnBank_status (s := s.useExt stk ch w t) (t := t) hw htaken)
    have hctr := fun hclear => extDone_clear_ctr (s := s) (t := t) hw hclear hone htaken
    rw [extClears, hw] at hframe
    rw [hstk] at hctr
    refine ext_completes rfl hf hch htakes ?_
    rw [hbank]
    cases hbit : Word.bit w 26 with
    | true =>
      rw [hbit] at hframe
      exact ⟨hbursts, rfl, rfl, fun _ => ⟨rfl, rfl, rfl, rfl, rfl, rfl, rfl, rfl, rfl, hctr hbit⟩, nofun, hdram, hframe⟩
    | false =>
      rw [hbit] at hframe
      exact ⟨hbursts, rfl, rfl, nofun, fun _ => rfl, hdram, hframe⟩

end Sys2Proof.Machine

/-! ## O20: Sprig jobs at their controller -/

namespace Sys2Proof.Machine

/-! ### Changes of banks, channels and stack controllers -/

section Places

variable {s t u : State}

/-- Only the records of banks, channels and stack controllers have changed. -/
structure PlacesOnly (s t : State) : Prop where
  rest : OnlyMem s t
  mem : { t.mem with banks := s.mem.banks, chans := s.mem.chans, stkc := s.mem.stkc } = s.mem

theorem PlacesOnly.trans (h : PlacesOnly s t) (h' : PlacesOnly t u) : PlacesOnly s u where
  rest := h.rest.trans h'.rest
  mem := (congrArg (fun m : Mem => { m with banks := s.mem.banks, chans := s.mem.chans, stkc := s.mem.stkc })
    h'.mem).trans h.mem

theorem modBank_places (s : State) (b : Nat) (f : Bank → Bank) : PlacesOnly s (s.modBank b f) := ⟨rfl, rfl⟩

theorem modChan_places (s : State) (k : Nat) (f : Chan → Chan) : PlacesOnly s (s.modChan k f) := ⟨rfl, rfl⟩

theorem callChan_places (s : State) (stk ch : Nat) : PlacesOnly s (s.callChan stk ch) := ⟨rfl, rfl⟩

/-- With a job's record written as well, the contents of memory and the other jobs are still the same. -/
theorem PlacesOnly.setJob (h : PlacesOnly s t) (id : Nat) (j : Job) :
    OnlyMem s (t.setJob id j) ∧ DramSame s (t.setJob id j)
      ∧ ∀ o, o ≠ id → Tab.find (t.setJob id j).mem.jobs o = Tab.find s.mem.jobs o :=
  ⟨h.rest, (congrArg Mem.dram h.mem :),
    fun o ho => (Tab.find_put_ne _ _ ho).trans (congrArg (fun m : Mem => Tab.find m.jobs o) h.mem :)⟩

/-- The channels of a list, counted through all stacks, are called out of self-refresh. -/
def State.callChans (s : State) (ks : List Nat) : State := ks.foldl (fun s k => s.callChan (k / 64) (k % 64)) s

theorem callChans_places (s : State) (ks : List Nat) : PlacesOnly s (s.callChans ks) :=
  foldl_relates (R := PlacesOnly) (g := fun s k => s.callChan (k / 64) (k % 64)) (fun _ => ⟨rfl, rfl⟩)
    (fun _ _ _ => .trans) (fun s _ => callChan_places s _ _) s ks

theorem callChans_banks (s : State) (ks : List Nat) : (s.callChans ks).mem.banks = s.mem.banks :=
  foldl_relates (R := fun s t : State => t.mem.banks = s.mem.banks) (g := fun s k => s.callChan (k / 64) (k % 64))
    (fun _ => rfl) (fun _ _ _ h h' => h'.trans h) (fun _ _ => rfl) s ks

end Places

/-! ### A job is queued or refused (05 R163) -/

section Queued

variable {s f : State} {c ticket t b r : Nat} {e : QEntry} {im : Image} {oper : Tab PReg}

/-- A job stands in the controller's table, and its entry counts as taken. -/
def State.listed (s : State) (j : Job) : State :=
  let s1 := s.modEntry j.c 6 j.ticket fun x => { x with started := true }
  { s1 with mem := { s1.mem with
      jobs := Tab.put s1.mem.jobs (jobNo j.c j.ticket) j, nextId := s1.mem.nextId + 1 } }

theorem acceptJob_eq (s : State) (j : Job) :
    s.acceptJob j = (s.listed j).callChans ((j.banks.map fun b => b.mbn / 16).dedup) := rfl

/-- What queueing a job does to the job table, and what it leaves of the memory, the fabric and the management. -/
theorem acceptJob_keeps (s : State) (j : Job) :
    (s.acceptJob j).mem.jobs = Tab.put s.mem.jobs (jobNo j.c j.ticket) j ∧ DramSame s (s.acceptJob j)
      ∧ (s.acceptJob j).mem.banks = s.mem.banks ∧ (s.acceptJob j).fab = s.fab ∧ (s.acceptJob j).mgmt = s.mgmt := by
  rw [acceptJob_eq]
  obtain ⟨hrest, hmem⟩ := callChans_places (s.listed j) ((j.banks.map fun b => b.mbn / 16).dedup)
  exact ⟨(congrArg Mem.jobs hmem :), (congrArg Mem.dram hmem :), callChans_banks _ _,
    (congrArg State.fab hrest :), (congrArg State.mgmt hrest :)⟩

/-- The job that a controller queues for an entry admitted at bank `b` and row `r`. -/
def State.admittedJob (s : State) (c : Nat) (e : QEntry) (im : Image) (oper : Tab PReg) (t b r : Nat) : Job :=
  { refusedJob c e.ticket ((s.cluster c).part.getD 31) s.mem.nextId 0 t e.desc with
    cls := s.servedClass (b / 1024) 5 (some (Word.bits (jobWord e.desc 0) 55 54))
    first := b
    row0 := r
    img := im
    oper := oper
    banks := (upTo (jobBankCount e.desc)).map fun i => { mbn := b + i } }

theorem checkJob_admits (hdesc : jobDescOk e.desc = true)
    (hfrozen : f.jobFrozen ((f.cluster c).part.getD 31) e.desc im = false)
    (hplace : f.jobPlace ((f.cluster c).part.getD 31) e.desc (imageWrites e.desc im) = .ok (b, r))
    (hpath : f.pathTo (.sprig c) (b / 1024) ≠ none)
    (hway : f.switchWait (wayTo f.linkWas (.sprig c) (b / 1024)) = false) :
    f.checkJob c e (some im) oper t = f.acceptJob (f.admittedJob c e im oper t b r) := by
  have hroute : (f.pathTo (.sprig c) (b / 1024)).isNone = false :=
    Option.isNone_eq_false_iff.mpr (Option.isSome_iff_ne_none.mpr hpath)
  simp only [State.checkJob, hdesc, hfrozen, hplace, hroute, hway]
  rfl

/-- The job that a controller refuses for want of a valid image. -/
def State.imagelessJob (s : State) (c : Nat) (e : QEntry) (t : Nat) : Job :=
  refusedJob c e.ticket ((s.cluster c).part.getD 31) s.mem.nextId (if jobImageUsable e.desc then 5 else 4) t e.desc

theorem checkJob_noImage : f.checkJob c e none oper t = f.acceptJob (f.imagelessJob c e t) := rfl

theorem exec_sprigJob (hc : c < 48) (he : s.entry c 6 ticket = some e) (hon : s.clusterOn c = true)
    (hdisp : e.disp = true) (hstart : e.started = false) (hcompl : e.compl = none) (habort : e.aborting = none) :
    exec (.sprigJob c ticket t) s = go s (s.startJob c e t) := by
  change execSprigJob c ticket t s = _
  unfold execSprigJob
  rw [he]
  exact ifUnit_when _ _ (decide_eq_true hc) (by simp [hon, hdisp, hstart, hcompl, habort])

end Queued

/-! ### A job begins on a bank (05 R171, R179, R180) -/

section Begun

variable {s : State} {id mbn t : Nat} {j : Job}

theorem enterWord_mod (mbn : Nat) : enterWord mbn = enterWord (mbn % 16) := by
  simp only [enterWord, extWord, Nat.mod_mod]

/-- The command by which a job begins is a well-formed SPRIG_MODE with ENTER 1. -/
theorem enterWord_formed (mbn : Nat) : extCmd (enterWord mbn) = 0x10 ∧ Word.bit (enterWord mbn) 26 = true
    ∧ extFormed (enterWord mbn) = true := by
  have hall : ∀ b < 16, extCmd (enterWord b) = 0x10 ∧ Word.bit (enterWord b) 26 = true
      ∧ extFormed (enterWord b) = true := by decide
  rw [enterWord_mod]
  exact hall _ (Nat.mod_lt _ (by decide))

theorem extTaken_enter (hoff : (s.bank mbn).unit.active = false) :
    extTaken (s.bank mbn).unit (enterWord mbn) blankCol = true := by
  obtain ⟨hcmd, henter, hformed⟩ := enterWord_formed mbn
  have hst : (s.bank mbn).unit.status.st = .off := by simpa [SprigUnit.active] using hoff
  exact extTaken_of hformed (by simp [extAccepted, hcmd, henter, hst]) (by simp [extBadBurst, hcmd])

/-- What a bank that may take a job is. -/
theorem jobMayBegin_bank (h : s.jobMayBegin id j mbn = true) :
    (∃ b, j.bankRec mbn = some b) ∧ (s.bank mbn).hold = none ∧ (s.bank mbn).unit.active = false := by
  simp only [State.jobMayBegin, Bool.and_eq_true, Option.isNone_iff_eq_none, Bool.not_eq_true'] at h
  obtain ⟨⟨⟨⟨⟨⟨⟨-, hrec⟩, hhold⟩, hunit⟩, -⟩, -⟩, -⟩, -⟩ := h
  refine ⟨?_, hhold, hunit⟩
  cases hb : j.bankRec mbn with
  | none => simp [hb] at hrec
  | some b => exact ⟨b, rfl⟩

/-- What draining and going on to the next step keep, a walk keeps. -/
theorem Job.walkOn_keeps {P : JBank → Prop} (hdrain : ∀ x, P x → P { x with phase := .draining })
    (hnext : ∀ x, P x → P { x with k := x.k + 1, seg := 0 }) (j : Job) (k : Bank) (n : Nat) {x : JBank} (h : P x) :
    P (j.walkOn k n x) := by
  induction n generalizing x with
  | zero => exact h
  | succ n ih =>
    unfold Job.walkOn
    split
    · exact h
    split
    · exact hdrain x h
    split
    · exact ih (hnext x h)
    · exact h

/-- A bank's record once the job has begun there with `n` loads to skip; `k` is the bank in recipe mode. -/
def Job.bankBegun (j : Job) (k : Bank) (n : Nat) (b : JBank) : JBank :=
  j.settled k (j.loadOn { b with phase := .loading, loaded := n })

theorem Job.bankBegun_spec (j : Job) (k : Bank) (n : Nat) (b : JBank) :
    (j.bankBegun k n b).mbn = b.mbn ∧ (j.bankBegun k n b).loaded = n ∧ (j.bankBegun k n b).phase ≠ .waiting := by
  refine Job.walkOn_keeps (P := fun x => x.mbn = b.mbn ∧ x.loaded = n ∧ x.phase ≠ .waiting)
    (fun _ ⟨hm, hl, _⟩ => ⟨hm, hl, nofun⟩) (fun _ h => h) j k _ ?_
  unfold Job.loadOn
  split
  · exact ⟨rfl, rfl, nofun⟩
  · exact ⟨rfl, rfl, nofun⟩

/-- The bank that a job has begun on. -/
def Bank.begun (k : Bank) (id t : Nat) : Bank := { k with unit := unitEnter k.unit t, hold := some id }

/-- The job that has begun on a bank. -/
def Job.begunOn (j : Job) (k : Bank) (id mbn t : Nat) : Job :=
  (j.spanned (mbn / 16) t).setBank mbn (j.bankBegun (k.begun id t) (j.skips k))

theorem Job.begunOn_bankRec {k : Bank} {b : JBank} (hb : j.bankRec mbn = some b) :
    (j.begunOn k id mbn t).bankRec mbn = some (j.bankBegun (k.begun id t) (j.skips k) b) :=
  Job.bankRec_setBank (j := j.spanned (mbn / 16) t) mbn hb fun x hx => (Job.bankBegun_spec j _ _ x).1.trans hx

theorem Job.begunOn_apart (j : Job) (k : Bank) : (j.begunOn k id mbn t).apart mbn = j.apart mbn :=
  Job.apart_setBank (j.spanned (mbn / 16) t) mbn fun x hx => (Job.bankBegun_spec j _ _ x).1.trans hx

/-- The state but for the job, once a bank has entered recipe mode and is held for it. -/
def State.entered (s : State) (id mbn t : Nat) : State :=
  (((s.modUnit mbn fun u => unitEnter u t).useExt (mbn / 1024) (mbn / 16 % 64) (enterWord mbn) t).modBank mbn
    fun k => { k with hold := some id }).modChan (mbn / 16) fun c => { c with srPend := false }

theorem entered_places (s : State) (id mbn t : Nat) : PlacesOnly s (s.entered id mbn t) :=
  (((modBank_places s mbn _).trans (modChan_places _ _ _)).trans (modBank_places _ mbn _)).trans (modChan_places _ _ _)

theorem setJob_chan (s : State) (id : Nat) (j : Job) (k : Nat) : (s.setJob id j).chan k = s.chan k := rfl

theorem entered_bank_ite (b : Nat) :
    (s.entered id mbn t).bank b = if b = mbn then (s.bank b).begun id t else s.bank b := by
  rw [State.entered, State.modChan, State.bank_setChan, modBank_bank_ite, State.useExt, State.modChan,
    State.bank_setChan, State.modUnit, modBank_bank_ite]
  split
  · rfl
  · rfl

theorem entered_chan_ne {k : Nat} (hk : k ≠ mbn / 16) : (s.entered id mbn t).chan k = s.chan k := by
  have hkey : k ≠ chanKey (mbn / 1024) (mbn / 16 % 64) := by
    unfold chanKey
    omega
  rw [State.entered, chan_modChan, if_neg hk, modBank_chan, State.useExt, chan_modChan, if_neg hkey, State.modUnit,
    modBank_chan]

theorem beginBank_eq (hoff : (s.bank mbn).unit.active = false) :
    s.beginBank id j mbn t = (s.entered id mbn t).setJob id (j.begunOn (s.bank mbn) id mbn t) := by
  obtain ⟨hcmd, henter, -⟩ := enterWord_formed mbn
  have hbank : (s.entered id mbn t).bank mbn = (s.bank mbn).begun id t := (entered_bank_ite mbn).trans (if_pos rfl)
  rw [Job.begunOn, ← hbank, State.beginBank, extOnBank_enter hcmd henter (extTaken_enter hoff)]
  rfl

theorem exec_jobBankBegin (hm : mbn < 16384) (hf : s.fitted (mbn / 1024) = true)
    (hj : Tab.find s.mem.jobs id = some j) (hmay : s.jobMayBegin id j mbn = true) (henter : s.enterOk j mbn t = true) :
    exec (.jobBankBegin id mbn t) s = go s (s.beginBank id j mbn t) := by
  change execJobBankBegin id mbn t s = _
  unfold execJobBankBegin
  rw [hj]
  exact ifUnit_when _ _ (by simp [hm, hf]) (by rw [hmay, henter]; rfl)

end Begun

/-! ### A job completes (05 R183) -/

section Completed

variable {s : State} {id : Nat} {j : Job}

theorem Tab.put_put {α : Type} (t : Tab α) (k : Nat) (v w : α) : Tab.put (Tab.put t k v) k w = Tab.put t k w := by
  induction t with
  | nil => simp [Tab.put]
  | cons e t ih =>
    obtain ⟨i, x⟩ := e
    by_cases hlt : k < i
    · simp [Tab.put, hlt]
    · by_cases he : i = k
      · simp [Tab.put, he]
      · simp [Tab.put, hlt, he, ih]

theorem setJob_setJob (s : State) (id : Nat) (j v : Job) : (s.setJob id j).setJob id v = s.setJob id v := by
  simp only [State.setJob, Tab.put_put]

theorem setJob_find (s : State) (id : Nat) (j : Job) : Tab.find (s.setJob id j).mem.jobs id = some j :=
  Tab.find_put_same _ _ _

theorem onJob_eq (hj : Tab.find s.mem.jobs id = some j) (f : Job → Job) : s.onJob id f = s.setJob id (f j) := by
  rw [State.onJob, hj]
  rfl

theorem withJob_eq (hj : Tab.find s.mem.jobs id = some j) (f : State → Job → State) : s.withJob id f = f s j := by
  rw [State.withJob, hj]

/-- With no lines to write, nothing happens and nothing is waited for. -/
theorem storeLines_nil (s : State) (w : Who) : s.storeLines w [] = (s, some []) := by
  simp [State.storeLines, State.writeAll, State.clearPool]

theorem Job.drainedAll_of_over (h : j.over' = true) : j.drainedAll = true := by
  simp only [Job.over', List.all_eq_true] at h
  simp only [Job.drainedAll, List.all_eq_true]
  intro b hb
  rw [h b hb]
  rfl

/-- A job at a stage of its completion. -/
def Job.staged (j : Job) (n : Nat) : Job := { j with stage := n }

theorem jobDrains_none (hj : Tab.find s.mem.jobs id = some j) (hstage : j.stage = 0) (hover : j.over' = true)
    (hlines : j.drainLines = []) :
    (s.withJob id fun s j => s.jobDrains id j) = s.setJob id (j.staged 1) := by
  rw [withJob_eq hj, State.jobDrains, hstage, Job.drainedAll_of_over hover, hlines, storeLines_nil, if_neg (by decide)]
  exact onJob_eq hj _

theorem jobWritten_settled (j : Job) (hset : s.settled (.job id) = true) :
    ((s.setJob id (j.staged 1)).withJob id fun s j => s.jobWritten id j) = s.setJob id (j.staged 2) := by
  have hset' : (s.setJob id (j.staged 1)).settled (.job id) = true := hset
  have hstage : (j.staged 1).stage = 1 := rfl
  rw [withJob_eq (setJob_find s id _), State.jobWritten, hstage, hset', if_neg (by decide),
    onJob_eq (setJob_find s id _), setJob_setJob]
  rfl

theorem jobRecord_none (s : State) (id : Nat) (hover : j.over' = true) (hrec : j.wantsRecord = false) :
    ((s.setJob id (j.staged 2)).withJob id fun s j => s.jobRecord id j) = s.setJob id (j.staged 3) := by
  have hover' : (j.staged 2).over' = true := hover
  have hrec' : (j.staged 2).wantsRecord = false := hrec
  have hstage : (j.staged 2).stage = 2 := rfl
  rw [withJob_eq (setJob_find s id _), State.jobRecord, hstage, hover', hrec', if_neg (by decide),
    if_pos (by decide), onJob_eq (setJob_find s id _), setJob_setJob]
  rfl

theorem jobCount_only (s : State) (j : Job) : { s.jobCount j with mgmt := s.mgmt } = s := by
  unfold State.jobCount
  dsimp only
  split
  · rfl
  split
  · rfl
  · rfl

/-- A completed job, counted, with its entry completed and the job table as it was. -/
def State.jobEnded (s : State) (id : Nat) (j : Job) : State :=
  ((s.takeFail (.job id)).1.jobCount j).complete j.c 6 j.ticket (jobStatus j.code) j.code

/-- The controller forgets a job. -/
def State.dropJob (s : State) (id : Nat) : State :=
  { s with mem := { s.mem with jobs := Tab.erase s.mem.jobs id } }

theorem jobFinish_settled (j : Job) (hset : s.settled (.job id) = true) :
    ((s.setJob id (j.staged 3)).withJob id fun s j => s.jobFinish id j) =
      ((s.setJob id (j.staged 3)).jobEnded id (j.staged 3)).dropJob id := by
  have hset' : (s.setJob id (j.staged 3)).settled (.job id) = true := hset
  have hstage : (j.staged 3).stage = 3 := rfl
  rw [withJob_eq (setJob_find s id _), State.jobFinish, hstage, hset', if_neg (by decide)]
  rfl

/-- The steps of a completion that has nothing to write. -/
theorem exec_jobComplete (hj : Tab.find s.mem.jobs id = some j) (hon : s.clusterOn j.c = true) (hover : j.over' = true)
    (hstage : j.stage = 0) (hlines : j.drainLines = []) (hrec : j.wantsRecord = false)
    (hset : s.settled (.job id) = true) : exec (.jobComplete id) s =
      go s (((s.setJob id (j.staged 3)).jobEnded id (j.staged 3)).dropJob id) := by
  change execJobComplete id s = _
  unfold execJobComplete
  simp only [hj, hon]
  rw [jobDrains_none hj hstage hover hlines, jobWritten_settled j hset, jobRecord_none s id hover hrec,
    jobFinish_settled j hset]
  rfl

/-- What the end of a job leaves: its cluster and the counts apart, all but the fabric's failed writes. -/
theorem jobEnded_keeps (s : State) (id : Nat) (j : Job) : (s.jobEnded id j).mem = s.mem
    ∧ (s.jobEnded id j).build = s.build ∧ (s.jobEnded id j).pending = s.pending
    ∧ ∀ c, c ≠ j.c → (s.jobEnded id j).cluster c = s.cluster c := by
  have hcount := jobCount_only (s.takeFail (.job id)).1 j
  have hwork := complete_work ((s.takeFail (.job id)).1.jobCount j) j.c 6 j.ticket (jobStatus j.code) j.code
  refine ⟨(congrArg State.mem hwork.rest :).trans (congrArg State.mem hcount :),
    (congrArg State.build hwork.rest :).trans (congrArg State.build hcount :),
    (congrArg State.pending hwork.rest :).trans (congrArg State.pending hcount :), fun c hc => ?_⟩
  exact (hwork.others c hc).trans (congrArg (fun x : State => x.cluster c) hcount :)

theorem entry_modEntry (s : State) (c q ticket : Nat) {f : QEntry → QEntry} (hf : ∀ x, (f x).ticket = x.ticket) :
    (s.modEntry c q ticket f).entry c q ticket = (s.entry c q ticket).map f := by
  have hkey (x : QEntry) : ((if x.ticket = ticket then f x else x).ticket == ticket) = (x.ticket == ticket) := by
    split
    · rw [hf]
    · rfl
  rw [State.entry, State.modEntry, queue_modQueue, if_pos rfl, Queue.modEntry, List.find?_map, State.entry,
    Function.comp_def]
  simp only [hkey]
  cases hx : List.find? (fun x => x.ticket == ticket) ((s.cluster c).queue q).entries with
  | none => rfl
  | some x =>
    have hticket : x.ticket = ticket := by simpa using List.find?_some hx
    simp [hticket]

theorem complete_entry {c q ticket status detail : Nat} {e : QEntry} (he : s.entry c q ticket = some e)
    (hopen : e.compl = none) :
    ((s.complete c q ticket status detail).entry c q ticket).bind QEntry.compl = some (status, detail) := by
  rw [State.complete, entry_modEntry, he]
  · simp [hopen]
  · intro x
    split <;> rfl

theorem jobEnded_entry {e : QEntry} (he : s.entry j.c 6 j.ticket = some e) (hopen : e.compl = none) :
    ((s.jobEnded id j).entry j.c 6 j.ticket).bind QEntry.compl = some (jobStatus j.code, j.code) := by
  have hcount := jobCount_only (s.takeFail (.job id)).1 j
  refine complete_entry (e := e) ?_ hopen
  exact (congrArg (fun x : State => x.entry j.c 6 j.ticket) hcount :).trans he

end Completed

/-- Settles O20: a job is queued or refused by one change of the job table; a bank that a job begins on enters recipe
mode as by SPRIG_MODE; a completion with nothing to write goes through its steps at once. -/
theorem jobsQueueBeginAndComplete : Obligations.JobsQueueBeginAndComplete := by
  unfold Obligations.JobsQueueBeginAndComplete
  refine ⟨fun c ticket t s f e hc he hon hdisp hstart hcompl habort => ?dispatched,
    fun id mbn t s j hm hf hj hmay henter => ?begin,
    fun id s j hj hon hover hstage hlines hrec hset => ?complete⟩
  case dispatched =>
    have hx := exec_sprigJob (t := t) hc he hon hdisp hstart hcompl habort
    refine ⟨fun im oper b r hread hdesc hfrozen hplace hpath hway => ?admitted, fun oper hread => ?refused, ⟨_, hx, rfl⟩⟩
    case admitted =>
      rw [hread, checkJob_admits hdesc hfrozen hplace hpath hway] at hx
      obtain ⟨hjobs, hdram, hbanks, hfab, hmgmt⟩ := acceptJob_keeps f (f.admittedJob c e im oper t b r)
      refine completes_go hx ⟨f.admittedJob c e im oper t b r, ?_, rfl, rfl, rfl, rfl, rfl, rfl, rfl, rfl, fun o ho => ?_,
        hdram, hbanks, hfab, hmgmt⟩
      · rw [keep_mem, hjobs]
        exact Tab.find_put_same _ _ _
      · rw [keep_mem, hjobs]
        exact Tab.find_put_ne _ _ ho
    case refused =>
      rw [hread, checkJob_noImage] at hx
      obtain ⟨hjobs, hdram, hbanks, -, -⟩ := acceptJob_keeps f (f.imagelessJob c e t)
      refine completes_go hx ⟨f.imagelessJob c e t, ?_, rfl, rfl, hdram, hbanks⟩
      rw [keep_mem, hjobs]
      exact Tab.find_put_same _ _ _
  case begin =>
    obtain ⟨⟨b, hb⟩, hhold, hoff⟩ := jobMayBegin_bank hmay
    obtain ⟨-, hloaded, hphase⟩ := Job.bankBegun_spec j ((s.bank mbn).begun id t) (j.skips (s.bank mbn)) b
    have hx := exec_jobBankBegin hm hf hj hmay henter
    rw [beginBank_eq hoff] at hx
    obtain ⟨honly, hdram, hjobs⟩ := (entered_places s id mbn t).setJob id (j.begunOn (s.bank mbn) id mbn t)
    refine honly.completes hx ?_
    rw [setJob_bank, entered_bank_ite, if_pos rfl]
    refine ⟨rfl, rfl, rfl, rfl, ?_, ⟨_, _, setJob_find _ _ _, Job.begunOn_bankRec hb, hphase, hloaded,
      Job.begunOn_apart j _⟩, hjobs, hdram, fun m hne => ?_, fun k hk => ?_, honly⟩
    · rw [← hhold]
      rfl
    · rw [setJob_bank]
      exact (entered_bank_ite m).trans (if_neg hne)
    · rw [setJob_chan]
      exact entered_chan_ne hk
  case complete =>
    obtain ⟨hmem, hbuild, hpending, hothers⟩ :=
      jobEnded_keeps (s.setJob id (j.staged 3)) id (j.staged 3)
    have hjobs (o : Nat) : Tab.find (((s.setJob id (j.staged 3)).jobEnded id (j.staged 3)).dropJob
        id).mem.jobs o = Tab.find (Tab.erase (Tab.put s.mem.jobs id (j.staged 3)) id) o :=
      congrArg (fun m : Mem => Tab.find (Tab.erase m.jobs id) o) hmem
    refine completes_kept (exec_jobComplete hj hon hover hstage hlines hrec hset) hbuild hpending
      ⟨?_, fun o ho => ?_, fun e he hopen => jobEnded_entry (s := s.setJob id (j.staged 3))
        (j := j.staged 3) he hopen, (congrArg Mem.dram hmem :), (congrArg Mem.banks hmem :),
        (congrArg Mem.reqs hmem :), hothers⟩
    · rw [hjobs]
      exact Tab.find_erase_same _ _
    · rw [hjobs, Tab.find_erase_ne _ ho]
      exact Tab.find_put_ne _ _ ho

end Sys2Proof.Machine

/-! ## O23: what an MMA adds to its accumulator buffer -/

namespace Sys2Proof.Machine

/-! ### Passes over a table -/

/-- A key that one turn of a pass changes, and no other, is changed once. -/
theorem Tab.get_foldl_once {α ι : Type} [DecidableEq ι] {d : α} {x : Nat} {i₀ : ι} {h : α → α} {f : Tab α → ι → Tab α}
    {l : List ι} (hl : l.Nodup)
    (hf : ∀ t, ∀ i ∈ l, Tab.get d (f t i) x = if i = i₀ then h (Tab.get d t x) else Tab.get d t x) (t : Tab α) :
    Tab.get d (l.foldl f t) x = if i₀ ∈ l then h (Tab.get d t x) else Tab.get d t x := by
  induction l generalizing t with
  | nil => rfl
  | cons i l ih =>
    obtain ⟨hi, hl⟩ := List.nodup_cons.mp hl
    have hfirst := hf t i List.mem_cons_self
    rw [List.foldl_cons, ih hl fun t j hj => hf t j (List.mem_cons_of_mem i hj), hfirst]
    by_cases he : i = i₀
    · subst he
      simp [hi]
    · simp [he, Ne.symm he]

theorem nodup_upTo (n : Nat) : (upTo n).Nodup := List.nodup_range

/-! ### The elements of an accumulator buffer (07 R241, R244) -/

section Mma

variable (d : List Word) (p : PanelBuf) (got : Tab TLine) {m n : Nat}

/-- The contributions of an MMA's chunks to the element of row `m` and column `n`, in order. -/
def mmaElem (m n : Nat) (acc : W32) : W32 :=
  (upTo p.k).foldl (fun acc ch =>
    chunkAdd (mqFmtA d) p.fmt (Tab.get { data := 0 } got (ch * mqRows d + m))
      (p.lines.getD (n * p.k + ch) { data := 0 })
      (if ch + 1 = p.k then mqTail d else kLine (mqFmtA d)) acc) acc

/-- The elements of one row after their contributions. -/
def mmaRow (t : Tab W32) (m : Nat) : Tab W32 :=
  (upTo p.n).foldl (fun t n => Tab.set 0 t (128 * m + n) (mmaElem d p got m n (Tab.get 0 t (128 * m + n)))) t

theorem mmaRun_el (cb : CBuf) : (mmaRun d p got cb).el = (upTo (mqRows d)).foldl (mmaRow d p got) cb.el := rfl

/-- A row's pass changes the elements of the row in the panel's columns: no other row has a key of its. -/
theorem mmaRow_get (hp : p.n ≤ 128) (hn : n < 128) (t : Tab W32) (r : Nat) :
    Tab.get 0 (mmaRow d p got t r) (128 * m + n) =
      if r = m then if n < p.n then mmaElem d p got m n (Tab.get 0 t (128 * m + n)) else Tab.get 0 t (128 * m + n)
      else Tab.get 0 t (128 * m + n) := by
  have hturn (t : Tab W32) : ∀ c ∈ upTo p.n,
      Tab.get 0 (Tab.set 0 t (128 * r + c) (mmaElem d p got r c (Tab.get 0 t (128 * r + c)))) (128 * m + n) =
        if c = n then if r = m then mmaElem d p got m n (Tab.get 0 t (128 * m + n)) else Tab.get 0 t (128 * m + n)
        else Tab.get 0 t (128 * m + n) := by
    intro c hc
    have hkey : 128 * m + n = 128 * r + c ↔ c = n ∧ r = m := by
      have : c < p.n := List.mem_range.mp hc
      omega
    rw [Tab.get_set]
    by_cases hhit : c = n ∧ r = m
    · obtain ⟨rfl, rfl⟩ := hhit
      simp
    · rw [if_neg (mt hkey.mp hhit), ← ite_and, if_neg hhit]
  rw [mmaRow, Tab.get_foldl_once (h := fun v => if r = m then mmaElem d p got m n v else v) (nodup_upTo _) hturn]
  simp only [upTo, List.mem_range]
  split_ifs <;> rfl

theorem mmaRun_get (hp : p.n ≤ 128) (hn : n < 128) (cb : CBuf) :
    Tab.get 0 (mmaRun d p got cb).el (128 * m + n) =
      if m < mqRows d ∧ n < p.n then mmaElem d p got m n (Tab.get 0 cb.el (128 * m + n))
      else Tab.get 0 cb.el (128 * m + n) := by
  rw [mmaRun_el, Tab.get_foldl_once (h := fun v => if n < p.n then mmaElem d p got m n v else v) (nodup_upTo _)
    fun t r _ => mmaRow_get d p got hp hn t r, ite_and]
  simp only [upTo, List.mem_range]

end Mma

/-- Settles O23: each row's pass changes its own elements once, and the passes over the rows meet each row once. -/
theorem mmaAccumulates : Obligations.MmaAccumulates := by
  unfold Obligations.MmaAccumulates
  intro d p got cb m n _ hp hn
  exact mmaRun_get d p got hp hn cb

end Sys2Proof.Machine

/-! ## O58: the commands of the test state, and rounding seeds -/

namespace Sys2Proof.Machine

/-! ### Entries that act, as a path writes them (15 R499 to R501) -/

section Acts

variable {s t : State} {a : Acc} {i j st : Nat} {v : Word} {r : OdRow}

/-- A write of an entry that the dictionary does not have is turned away (15 R499). -/
theorem preStatus_noEntry {path : Nat} {ok : Bool} {b : Option Bytes} (h : s.odRow i j = none) :
    s.preStatus path i j ok v b ≠ 0 := by
  unfold State.preStatus
  rw [h]
  dsimp only
  split <;> decide

/-- A write that nothing turns away has an entry, so the dictionary's row for it is in force. -/
theorem Takes.odRow (h : Takes s a i j v) : (s.begun a).odRow i j = odRows.find? fun r => r.covers i j := by
  refine if_pos ?_
  by_contra hfit
  exact preStatus_noEntry (if_neg hfit) h.2

/-- The value that a row's mask leaves of a write. -/
def OdRow.kept (r : OdRow) (v : Word) : Word := v &&& BitVec.ofNat 64 r.mask

theorem kept_all (h : r.mask = allMask) : r.kept v = v := by
  rw [OdRow.kept, h]
  exact BitVec.and_allOnes

/-- A row of a class IMM entry whose value is kept under the row's mask alone. -/
structure OdRow.Plain (r : OdRow) : Prop where
  cls : r.cls = 0
  ty : r.ty ≠ 6
  base : r.base ≠ 0x3100

theorem OdRow.Plain.stored (hr : r.Plain) : s.stored r i j v = r.kept v := by
  unfold State.stored
  rw [if_neg hr.ty, if_neg (by simp [hr.base])]
  rfl

theorem begun_onlyMgmt (s : State) (a : Acc) : OnlyMgmt s (s.begun a) := (begun_only s a).1

theorem tell_told (ho : t.mgmt.outs = s.mgmt.outs) : Told s (keep s (t.tell a.path i j st)) a i j st :=
  congrArg (List.cons _) ho

theorem OnlyMgmt.told (h : OnlyMgmt s t) : OnlyMgmt s (keep s (t.tell a.path i j st)) :=
  (congrArg (fun x : State => { x with build := s.build, pending := s.pending }) h :)

/-- What an entry reads as does not depend on what a path has been told. -/
theorem told_odVal {k l : Nat} (hb : t.build = s.build) : (keep s (t.tell a.path i j st)).odVal k l = t.odVal k l :=
  odVal_congr (s := t) (t := keep s (t.tell a.path i j st)) rfl hb.symm rfl k l

theorem isWinEntry_above (h : 0xA30B ≤ i) : isWinEntry i = false := by
  rw [isWinEntry, decide_eq_false (Nat.not_lt.mpr h), Bool.and_false]

theorem refusal_keeps (s : State) (path i j st : Nat) :
    OnlyMgmt s (s.refusal path i j st) ∧ (s.refusal path i j st).mgmt.outs = s.mgmt.outs := by
  unfold State.refusal
  split <;> exact ⟨rfl, rfl⟩

theorem OnlyMgmt.trans {u : State} (h : OnlyMgmt s t) (h' : OnlyMgmt t u) : OnlyMgmt s u :=
  (congrArg (fun x : State => { x with mgmt := s.mgmt }) h' :).trans h

section Command

variable {x : Instr} (hx : exec x s = s.pathWrite a i j v) (h : Takes s a i j v) (hw : isWinEntry i = false)
  (hr : odRows.find? (fun r => r.covers i j) = some r) (hp : r.Plain)

include hx h hw hr hp

/-- A command whose entry's action is carried out. -/
theorem Takes.completes {P : State → Prop} (ha : (s.begun a).actIdent a.path i j (r.kept v) = some (t, 0))
    (p : P (keep s (t.tell a.path i j 0))) : Completes x s P := by
  refine completes_go (hx.trans (pathWrite_acts s h hw (h.odRow.trans hr) hp.cls ?_)) p
  rw [hp.stored]
  exact ha

/-- A command whose entry refuses it changes nothing outside the management state. -/
theorem Takes.refused (ha : (s.begun a).actIdent a.path i j (r.kept v) = some (s.begun a, 7)) :
    Completes x s fun u => Told s u a i j 7 ∧ OnlyMgmt s u := by
  obtain ⟨honly, houts⟩ := refusal_keeps (s.begun a) a.path i j 7
  refine completes_go (s' := ((s.begun a).refusal a.path i j 7).tell a.path i j 7) ?_
    ⟨tell_told (houts.trans (begun_outs s a)), ((begun_onlyMgmt s a).trans honly).told⟩
  rw [hx, pathWrite_takes s h hw (h.odRow.trans hr), State.odEffect, if_neg (by simp [hp.cls]), hp.stored, ha]

end Command

end Acts

/-! ### The rows and actions of the test entries (17 R593 to R595) -/

section Rows

variable {s : State} {path stk n : Nat} {v : Word}

def testPowerRow : OdRow := ⟨0xF000, 1, 1, 1, 2, .rwl, 0, 0, allMask, 0, 2⟩
def mtestRow : OdRow := ⟨0xF010, 16, 1, 1, 4, .rwl, 0, 0, 0xfff1, 0, 0xffffffff⟩
def bistRow : OdRow := ⟨0xF100, 1, 1, 1, 3, .rwl, 0, 0, 0x1ff, 0, 65535⟩
def prbsRow : OdRow := ⟨0xF200, 24, 2, 1, 2, .rwl, 0, 0, allMask, 0, 1⟩

theorem testPowerRow_plain : testPowerRow.Plain := ⟨rfl, by decide, by decide⟩
theorem mtestRow_plain : mtestRow.Plain := ⟨rfl, by decide, by decide⟩
theorem bistRow_plain : bistRow.Plain := ⟨rfl, by decide, by decide⟩
theorem prbsRow_plain : prbsRow.Plain := ⟨rfl, by decide, by decide⟩

theorem odRows_testPower : odRows.find? (fun r => r.covers 0xF000 1) = some testPowerRow := by decide
theorem odRows_mtest : ∀ k < 16, odRows.find? (fun r => r.covers (0xF010 + k) 1) = some mtestRow := by decide
theorem odRows_bist : odRows.find? (fun r => r.covers 0xF100 1) = some bistRow := by decide

/-- The ports' pattern generators have the last entries of sub-index 2. -/
theorem odRows_lastSub2 : (odRows.filter fun r => decide (r.sub ≤ 2) && decide (2 < r.sub + r.nsub)
    && decide (0xF200 < r.base + r.n)) = [prbsRow] := by decide

/-- A port whose entry takes a write is one of the 24. -/
theorem Takes.prbs_row {a : Acc} (h : Takes s a (0xF200 + n) 2 v) :
    odRows.find? (fun r => r.covers (0xF200 + n) 2) = some prbsRow ∧ n < 24 := by
  cases hrow : odRows.find? (fun r => r.covers (0xF200 + n) 2) with
  | none => exact absurd h.2 (preStatus_noEntry (h.odRow.trans hrow))
  | some r =>
    have hcov : r.covers (0xF200 + n) 2 = true := List.find?_some (p := fun r : OdRow => r.covers (0xF200 + n) 2) hrow
    simp only [OdRow.covers, Bool.and_eq_true, decide_eq_true_eq] at hcov
    obtain ⟨⟨⟨-, hlast⟩, hsub⟩, hnext⟩ := hcov
    have hlater : 0xF200 < r.base + r.n := by omega
    obtain rfl : r = prbsRow := List.mem_singleton.mp <| odRows_lastSub2 ▸
      List.mem_filter.mpr ⟨List.mem_of_find?_eq_some hrow, by simp [hsub, hnext, hlater]⟩
    exact ⟨rfl, Nat.lt_of_add_lt_add_left hlast⟩

theorem actIdent_testPower : s.actIdent path 0xF000 1 v = some (s.testLevel v.toNat, 0) := rfl

theorem actIdent_bist : s.actIdent path 0xF100 1 v =
    if v.toNat.testBit 8 && !s.testAt 1 then some (s, 7) else some (s.startBist v.toNat, 0) := rfl

theorem actIdent_mtest (h : stk < 16) : s.actIdent path (0xF010 + stk) 1 v =
    if v.toNat.testBit 0 && !s.testAt 2 then some (s, 7) else some (s.startMtest stk v.toNat, 0) := by
  interval_cases stk <;> rfl

theorem actIdent_prbs (h : n < 24) : s.actIdent path (0xF200 + n) 2 v = some (s.prbs n v.toNat, 0) := by
  interval_cases n <;> rfl

end Rows

/-! ### Bits that a row's mask keeps -/

theorem bits_and {w m : Word} {hi lo : Nat} (hm : ∀ k < hi + 1 - lo, m.getLsbD (lo + k) = true) :
    Word.bits (w &&& m) hi lo = Word.bits w hi lo := by
  refine Nat.eq_of_testBit_eq fun k => ?_
  simp only [Word.bits, Nat.testBit_mod_two_pow, Nat.testBit_shiftRight, BitVec.toNat_and, Nat.testBit_and]
  by_cases hk : k < hi + 1 - lo
  · rw [BitVec.testBit_toNat, BitVec.testBit_toNat, hm k hk, Bool.and_true]
  · simp [hk]

theorem bit_and {w m : Word} {k : Nat} (hm : m.getLsbD k = true) : (w &&& m).toNat.testBit k = Word.bit w k := by
  rw [BitVec.testBit_toNat, BitVec.getLsbD_and, hm, Bool.and_true]
  rfl

/-! ### Power levels (17 R594) -/

section Levels

variable (s : State) (n : Nat)

/-- What no step of a pass changes, the pass does not change. -/
theorem foldl_keeps {α β : Type} (π : State → β) {g : State → α → State} (hg : ∀ s x, π (g s x) = π s) (l : List α) :
    π (l.foldl g s) = π s :=
  foldl_relates (R := fun s t => π t = π s) (fun _ => rfl) (fun _ _ _ h h' => h'.trans h) hg s l

theorem railsOff_keeps : s.railsOff.test = s.test ∧ s.railsOff.crust.svc = s.crust.svc :=
  Prod.mk.inj <| foldl_keeps s (fun s => (s.test, s.crust.svc)) (g := fun s n => s.fabLog 0x51 n 0)
    (fun _ _ => rfl) s.allUp

theorem railsOn_keeps : s.railsOn.crust = s.crust ∧ s.railsOn.power.main = true := by
  unfold State.railsOn
  dsimp only
  constructor
  · exact foldl_keeps _ State.crust (fun s k => by split <;> rfl) _
  · exact foldl_keeps _ (fun s => s.power.main) (fun s k => by split <;> rfl) _

theorem seedLfsrs_keeps : s.seedLfsrs.test = s.test ∧ s.seedLfsrs.power = s.power ∧ s.seedLfsrs.crust = s.crust := by
  unfold State.seedLfsrs
  refine ⟨?_, ?_, ?_⟩
  · exact foldl_keeps _ State.test (fun s k => by split <;> rfl) _
  · exact foldl_keeps _ State.power (fun s k => by split <;> rfl) _
  · exact foldl_keeps _ State.crust (fun s k => by split <;> rfl) _

/-- The state with the level that TEST_POWER asks for. -/
def State.levelAsked : State := { s.odPut 0xF000 1 (BitVec.ofNat 64 n) with test := { s.test with power := n } }

/-- The state at a step of reaching its level. -/
def State.atStep (s : State) (k : Nat) : State := { s with test := { s.test with step := k } }

theorem testLevel_zero : s.testLevel 0 = (s.levelAsked 0).railsOff.atStep 0 := rfl

theorem testLevel_nonzero (hn : n ≠ 0) : s.testLevel n =
    if !s.power.main then
      if s.mayStart then { (s.levelAsked n).railsOn with test := ((s.levelAsked n).atStep 0).test } else s.levelAsked n
    else if n = 1 && s.test.step = 3 then (s.levelAsked n).atStep 2 else s.levelAsked n := if_neg hn

/-- With the rails on, or without a start, only the test state and the entry change. -/
theorem testLevel_stays (hn : n ≠ 0) (h : s.power.main = true ∨ s.mayStart = false) :
    s.testLevel n = s.levelAsked n ∨ s.testLevel n = (s.levelAsked n).atStep 2 := by
  rw [testLevel_nonzero s n hn]
  split_ifs with hm hs hstep
  · exact absurd h (by simpa [hs] using hm)
  · exact .inl rfl
  · exact .inr rfl
  · exact .inl rfl

/-- TEST_POWER 0: the rails go off with what the stacks hold. -/
theorem testLevel_off : (s.testLevel 0).power.main = false ∧ (s.testLevel 0).test.step = 0
    ∧ (s.testLevel 0).test.power = 0 ∧ (s.testLevel 0).mem.dram = [] ∧ (s.testLevel 0).crust.svc = s.crust.svc := by
  obtain ⟨htest, hsvc⟩ := railsOff_keeps (s.levelAsked 0)
  rw [testLevel_zero]
  exact ⟨rfl, rfl, congrArg Test.power htest, rfl, hsvc⟩

/-- TEST_POWER 1 or 2: the level is asked for, and a module without its rails starts if it may. -/
theorem testLevel_on (hn : n ≠ 0) : (s.testLevel n).test.power = n
    ∧ (s.power.main = false → s.mayStart = true → (s.testLevel n).power.main = true ∧ (s.testLevel n).test.step = 0)
    ∧ (s.power.main = true ∨ s.mayStart = false → (s.testLevel n).power = s.power ∧ (s.testLevel n).mem = s.mem)
    ∧ (s.testLevel n).crust.svc = s.crust.svc := by
  by_cases h : s.power.main = true ∨ s.mayStart = false
  · have hno (hm : s.power.main = false) (hs : s.mayStart = true) : False := by simp [hm, hs] at h
    obtain hstays | hstays := testLevel_stays s n hn h <;> rw [hstays] <;>
      exact ⟨rfl, fun hm hs => (hno hm hs).elim, fun _ => ⟨rfl, rfl⟩, rfl⟩
  · have hm : s.power.main = false := by simpa using fun hm => h (.inl hm)
    have hs : s.mayStart = true := by simpa using fun hs => h (.inr hs)
    obtain ⟨hcrust, hmain⟩ := railsOn_keeps (s.levelAsked n)
    rw [testLevel_nonzero s n hn, if_pos (by simp [hm]), if_pos hs]
    exact ⟨rfl, fun _ _ => ⟨hmain, rfl⟩, fun h' => absurd h' h, congrArg Crust.svc hcrust⟩

/-- What reaching a level does: level 2 fuses the recorded spares, level 3 trains the memory. -/
def State.levelReached (level : Nat) : State :=
  if level = 2 then (s.atStep level).fuseSpares else if level = 3 then (s.atStep level).seedLfsrs else s.atStep level

theorem levelReached_keeps (level : Nat) : (s.levelReached level).test = { s.test with step := level }
    ∧ (s.levelReached level).power = s.power ∧ (s.levelReached level).crust = s.crust
    ∧ DramSame s (s.levelReached level) := by
  unfold State.levelReached
  split_ifs
  · exact ⟨rfl, rfl, rfl, rfl⟩
  · obtain ⟨htest, hpower, hcrust⟩ := seedLfsrs_keeps (s.atStep level)
    exact ⟨htest, hpower, hcrust, seedLfsrs_dram _⟩
  · exact ⟨rfl, rfl, rfl, rfl⟩

theorem exec_testPowerLevelReached {level : Nat} (hsvc : s.crust.svc = .test) (hm : s.power.main = true)
    (hl : level = 15 ∨ (1 ≤ level ∧ level ≤ s.test.power + 1)) :
    exec (.testPowerLevelReached level) s = go s (s.levelReached level) := by
  have hguard : (s.crust.svc == .test && s.power.main
      && (level == 15 || (decide (1 ≤ level) && decide (level ≤ s.test.power + 1)))) = true := by
    simpa [hsvc, hm] using hl
  change when' _ _ _ = _
  rw [hguard]
  rfl

end Levels

/-! ### Memory, tile and port tests (17 R595) -/

section Tests

variable (s : State) {a : Acc} {stk n : Nat} {v : Word}

/-- MTEST_CTRL without START: only the entry takes its value. -/
theorem startMtest_stop {w : Nat} (hw : w.testBit 0 = false) :
    OnlyMgmt s (s.startMtest stk w) ∧ (s.startMtest stk w).mgmt.outs = s.mgmt.outs := by
  unfold State.startMtest
  dsimp only
  rw [if_neg (by simp [hw])]
  exact ⟨rfl, rfl⟩

theorem startMtest_start {w : Nat} (hw : w.testBit 0 = true) :
    Tab.get 0 (s.startMtest stk w).test.mtest stk = 1
      ∧ Tab.find (s.startMtest stk w).test.patt stk = some (nbits w 7 4, nbits w 15 8)
      ∧ (s.startMtest stk w).mem = s.mem ∧ (s.startMtest stk w).mgmt.outs = s.mgmt.outs := by
  unfold State.startMtest
  dsimp only
  rw [if_pos hw]
  exact ⟨Tab.get_set_same 0 s.test.mtest stk 1, Tab.find_put_same s.test.patt stk _, rfl, rfl⟩

/-- TILE_BIST without START: only the entry takes its value. -/
theorem startBist_stop {w : Nat} (hw : w.testBit 8 = false) :
    OnlyMgmt s (s.startBist w) ∧ (s.startBist w).mgmt.outs = s.mgmt.outs := by
  unfold State.startBist
  dsimp only
  rw [if_neg (by simp [hw])]
  exact ⟨rfl, rfl⟩

theorem startBist_start {w : Nat} (hw : w.testBit 8 = true) :
    (s.startBist w).test = { s.test with bist := 1, bistTile := w % 256 }
      ∧ (s.startBist w).mgmt.outs = s.mgmt.outs := by
  unfold State.startBist
  dsimp only
  rw [if_pos hw]
  exact ⟨rfl, rfl⟩

/-- A value put into the dictionary is management state. -/
theorem odPut_onlyMgmt (i j : Nat) : OnlyMgmt s (s.odPut i j v) := rfl

theorem prbs_onlyMgmt (w : Nat) : OnlyMgmt s (s.prbs n w) := by
  unfold State.prbs
  dsimp only
  split <;> rfl

theorem odKey_prbs_ne : odKey (0xF200 + n) 2 ≠ odKey (0xF200 + n) 3 := by
  unfold odKey
  omega

/-- A counter is no value of another entry. -/
theorem setCtr_odVal_ne {i j k l x : Nat} (h : odKey k l ≠ odKey i j) : (s.setCtr i j x).odVal k l = s.odVal k l :=
  odVal_of_find (s := s) (t := s.setCtr i j x) (Tab.find_set_ne _ _ _ h) rfl rfl

/-- The pattern generator's entry takes the value written. -/
theorem prbs_odVal : (s.prbs n v.toNat).odVal (0xF200 + n) 2 = v := by
  have hput : (s.odPut (0xF200 + n) 2 (BitVec.ofNat 64 v.toNat)).odVal (0xF200 + n) 2 = v := by
    rw [odPut_odVal_same, BitVec.ofNat_toNat, BitVec.setWidth_eq]
  unfold State.prbs
  dsimp only
  split
  · exact (setCtr_odVal_ne _ odKey_prbs_ne).trans hput
  · exact hput

/-- A 1 restarts the port's error count. -/
theorem prbs_ctr : (s.prbs n v.toNat).ctr (0xF200 + n) 3 = if v = 1 then 0 else s.ctr (0xF200 + n) 3 := by
  have hone : v.toNat = 1 ↔ v = 1 := by bv_omega
  have hput : (s.odPut (0xF200 + n) 2 (BitVec.ofNat 64 v.toNat)).ctr (0xF200 + n) 3 = s.ctr (0xF200 + n) 3 := by
    unfold State.ctr Tab.get
    rw [odPut_find_ne s _ odKey_prbs_ne.symm]
  unfold State.prbs
  dsimp only
  split
  next h => rw [if_pos (hone.mp h), ctr_setCtr, Nat.zero_mod]
  next h => rw [if_neg (mt hone.mpr h), hput]

/-! #### The end of a memory test (log entry 81) -/

/-- The number of columns that a memory test finds bad, a free value, and the address of the first. -/
def State.mtestFails : Nat := Config.freeNat s.free % (2 ^ 31 + 1)
def State.mtestFirst (stk : Nat) : Nat :=
  if s.mtestFails = 0 then 0 else stk * 2 ^ 37 + 64 * (Config.freeNat (s.free + 1) % 2 ^ 31)

/-- The state with a memory test's result. -/
def State.mtestDone (stk : Nat) : State :=
  let s1 := (s.draw.draw.setCtr (0xF010 + stk) 3 s.mtestFails).setCtr (0xF010 + stk) 4 (s.mtestFirst stk)
  { s1 with test := { s1.test with mtest := Tab.set 0 s1.test.mtest stk (if s.mtestFails = 0 then 2 else 3) } }

theorem exec_mtestComplete (hf : s.fitted stk = true) (hrun : Tab.get 0 s.test.mtest stk = 1) :
    exec (.mtestComplete stk) s = go s (s.mtestDone stk) :=
  ifUnit_when _ _ hf (by simp [hrun])

theorem mtestFails_le : s.mtestFails ≤ 2 ^ 31 := Nat.le_of_lt_succ (Nat.mod_lt _ (Nat.succ_pos _))

theorem mtestDone_fails : (s.mtestDone stk).ctr (0xF010 + stk) 3 = s.mtestFails := by
  have hlt : s.mtestFails < 2 ^ 64 := Nat.lt_of_le_of_lt (mtestFails_le s) (by decide)
  refine (ctr_setCtr_ne _ (by decide) (by decide) (by simp)).trans ((ctr_setCtr _ _ _ _).trans ?_)
  exact Nat.mod_eq_of_lt hlt

theorem mtestDone_first (hk : stk < 16) : (s.mtestDone stk).ctr (0xF010 + stk) 4 = s.mtestFirst stk := by
  refine (ctr_setCtr _ _ _ _).trans (Nat.mod_eq_of_lt ?_)
  unfold State.mtestFirst
  split <;> omega

theorem mtestFirst_inStack (h : s.mtestFails ≠ 0) : s.mtestFirst stk / 2 ^ 37 = stk ∧ s.mtestFirst stk % 64 = 0 := by
  unfold State.mtestFirst
  rw [if_neg h]
  omega

theorem exec_tileBistComplete {passed : Bool} (h : s.test.bist = 1) : exec (.tileBistComplete passed) s =
    go s { s with test := { s.test with
      bist := if !s.tilePresent s.test.bistTile then 4 else if passed then 2 else 3 } } := by
  change when' (s.test.bist == 1) _ _ = _
  rw [h]
  rfl

end Tests

/-! ### The seeds of stochastic rounding (06 R216) -/

section Seeds

variable {s : State} {a : Acc} {engines : Bool} {j : Nat} {v : Word}

/-- The entry index of a group's seeds. -/
def seedIndex (engines : Bool) : Nat := if engines then 0x5000 else 0x4000

def seedRow (engines : Bool) (j : Nat) : OdRow :=
  if j = 4 then ⟨seedIndex engines, 1, 4, 1, 2, .rw, 0, 0, allMask, 0, 1⟩
  else ⟨seedIndex engines, 1, 5, 1, 5, .wo, 0, 0, allMask, 0, 0xffffffffffffffff⟩

theorem odRows_seed : ∀ engines, ∀ j ∈ [4, 5],
    odRows.find? (fun r => r.covers (seedIndex engines) j) = some (seedRow engines j) := by decide

theorem seedRow_plain (engines : Bool) : ∀ j ∈ [4, 5],
    (seedRow engines j).Plain ∧ (seedRow engines j).mask = allMask := by
  cases engines <;> exact List.forall_iff_forall_mem.mp
    ⟨⟨⟨rfl, by decide, by decide⟩, rfl⟩, ⟨⟨rfl, by decide, by decide⟩, rfl⟩⟩

theorem actIdent_seed (path : Nat) : s.actIdent path (seedIndex engines) j v =
    some ((s.odPut (seedIndex engines) j v).reseed engines, 0) := by
  cases engines <;> rfl

/-- The group's sources have no seed yet, and the other group's are as they were. -/
def Reseeded (s : State) (engines : Bool) (u : State) : Prop :=
  (engines = false → (∀ b, (u.bank b).rnd = none) ∧ u.clusters = s.clusters)
    ∧ (engines = true → (∀ c, (u.cluster c).vecRnd = none) ∧ u.mem = s.mem) ∧ DramSame s u

theorem reseed_reseeded (s : State) (engines : Bool) : Reseeded s engines (s.reseed engines) := by
  cases engines with
  | true =>
    refine ⟨nofun, fun _ => ⟨fun c => ?_, rfl⟩, rfl⟩
    unfold State.cluster State.reseed
    rw [if_pos rfl, Tab.get_mapV _ _ _ _ rfl]
  | false =>
    refine ⟨fun _ => ⟨fun b => ?_, rfl⟩, nofun, rfl⟩
    unfold State.bank State.reseed
    rw [if_neg nofun, Tab.get_mapV _ _ _ _ rfl]

/-- Rounding sources are not management state. -/
theorem OnlyMgmt.reseeded {t u : State} (h : OnlyMgmt s t) (hu : Reseeded t engines u) : Reseeded s engines u := by
  unfold OnlyMgmt at h
  rw [← h]
  exact hu

theorem reseed_values (s : State) (engines : Bool) : SameValues s (s.reseed engines) := by
  cases engines <;> exact ⟨rfl, rfl, rfl⟩

/-- A write of the mode or of the seed is kept, and the group's sources begin anew. -/
theorem seeds_complete {x : Instr} (hx : exec x s = s.pathWrite a (seedIndex engines) j v) (hj : j ∈ [4, 5])
    (h : Takes s a (seedIndex engines) j v) :
    Completes x s fun u => u.odVal (seedIndex engines) j = v ∧ Reseeded s engines u := by
  obtain ⟨hplain, hmask⟩ := seedRow_plain engines j hj
  have hwin : isWinEntry (seedIndex engines) = false := by cases engines <;> rfl
  have hput := (begun_onlyMgmt s a).trans (odPut_onlyMgmt (v := v) _ (seedIndex engines) j)
  have hvalues := reseed_values ((s.begun a).odPut (seedIndex engines) j v) engines
  have ⟨_, hbuild, _⟩ := hvalues
  refine h.completes hx hwin (odRows_seed engines j hj) hplain (by rw [kept_all hmask]; exact actIdent_seed _) ⟨?_, ?_⟩
  · exact (told_odVal (hbuild.trans (begun_build s a))).trans ((hvalues.odVal _ _).trans (odPut_odVal_same _ _ _ _))
  · exact hput.reseeded (reseed_reseeded _ engines)

end Seeds

/-! ### The commands -/

section Commands

variable {s : State} {a : Acc} {v : Word}

theorem mtestRow_bit0 : (mtestRow.kept v).toNat.testBit 0 = Word.bit v 0 := bit_and (by decide)
theorem bistRow_bit8 : (bistRow.kept v).toNat.testBit 8 = Word.bit v 8 := bit_and (by decide)

/-- The pattern and the passes that MTEST_CTRL keeps. -/
theorem mtestRow_pattern : (nbits (mtestRow.kept v).toNat 7 4, nbits (mtestRow.kept v).toNat 15 8) =
    (Word.bits v 7 4, Word.bits v 15 8) :=
  congrArg₂ Prod.mk (bits_and (w := v) (m := BitVec.ofNat 64 mtestRow.mask) (by decide))
    (bits_and (w := v) (m := BitVec.ofNat 64 mtestRow.mask) (by decide))

/-- The tile that TILE_BIST names. -/
theorem bistRow_tile : (bistRow.kept v).toNat % 256 = Word.bits v 7 0 :=
  bits_and (w := v) (m := BitVec.ofNat 64 bistRow.mask) (hi := 7) (lo := 0) (by decide)

theorem begun_testAt (n : Nat) : (s.begun a).testAt n = s.testAt n :=
  (congrArg (fun x : State => x.testAt n) (begun_onlyMgmt s a) :)

theorem testPower_completes {P : State → Prop} (h : Takes s a 0xF000 1 v)
    (p : P (keep s (((s.begun a).testLevel v.toNat).tell a.path 0xF000 1 0))) : Completes (.testPower a v) s P :=
  h.completes rfl rfl odRows_testPower testPowerRow_plain (by rw [kept_all rfl]; exact actIdent_testPower) p

theorem exec_mtestCtrl {stk : Nat} (hf : s.fitted stk = true) :
    exec (.mtestCtrl a stk v) s = s.pathWrite a (0xF010 + stk) 1 v :=
  congrArg (fun c => ifUnit s c (s.pathWrite a (0xF010 + stk) 1 v)) hf

theorem exec_portPrbs {n : Nat} (hf : s.ethFitted n = true) :
    exec (.portPrbs a n v) s = s.pathWrite a (0xF200 + n) 2 v :=
  congrArg (fun c => ifUnit s c (s.pathWrite a (0xF200 + n) 2 v)) hf

/-- MTEST_CTRL with START starts a test at its level and is refused below; without START it is a plain write. -/
theorem mtestCtrl_completes {stk : Nat} (hf : s.fitted stk = true) (h : Takes s a (0xF010 + stk) 1 v) :
    (Word.bit v 0 = true → s.testAt 2 = true → Completes (.mtestCtrl a stk v) s fun u =>
      Told s u a (0xF010 + stk) 1 0 ∧ Tab.get 0 u.test.mtest stk = 1
        ∧ Tab.find u.test.patt stk = some (Word.bits v 7 4, Word.bits v 15 8) ∧ u.mem = s.mem)
    ∧ (Word.bit v 0 = true → s.testAt 2 = false → Completes (.mtestCtrl a stk v) s fun u =>
      Told s u a (0xF010 + stk) 1 7 ∧ OnlyMgmt s u)
    ∧ (Word.bit v 0 = false → Completes (.mtestCtrl a stk v) s fun u =>
      Told s u a (0xF010 + stk) 1 0 ∧ OnlyMgmt s u) := by
  have hk := lt_of_fitted hf
  have hact : (s.begun a).actIdent a.path (0xF010 + stk) 1 (mtestRow.kept v) =
      if Word.bit v 0 && !s.testAt 2 then some (s.begun a, 7)
      else some ((s.begun a).startMtest stk (mtestRow.kept v).toNat, 0) := by
    rw [actIdent_mtest hk, mtestRow_bit0, begun_testAt]
  refine ⟨fun hstart hat => ?_, fun hstart hat => ?_, fun hstop => ?_⟩
  · obtain ⟨hst, hpatt, hmem, houts⟩ := startMtest_start (s.begun a) (stk := stk) (mtestRow_bit0.trans hstart)
    refine h.completes (exec_mtestCtrl hf) (isWinEntry_above (by omega)) (odRows_mtest stk hk) mtestRow_plain
      (hact.trans (if_neg (by simp [hat]))) ⟨tell_told (houts.trans (begun_outs s a)), hst, ?_, ?_⟩
    · exact hpatt.trans (congrArg some mtestRow_pattern)
    · exact hmem.trans (congrArg State.mem (begun_onlyMgmt s a) :)
  · exact h.refused (exec_mtestCtrl hf) (isWinEntry_above (by omega)) (odRows_mtest stk hk) mtestRow_plain
      (hact.trans (if_pos (by simp [hstart, hat])))
  · obtain ⟨honly, houts⟩ := startMtest_stop (s.begun a) (stk := stk) (mtestRow_bit0.trans hstop)
    exact h.completes (exec_mtestCtrl hf) (isWinEntry_above (by omega)) (odRows_mtest stk hk) mtestRow_plain
      (hact.trans (if_neg (by simp [hstop])))
      ⟨tell_told (houts.trans (begun_outs s a)), ((begun_onlyMgmt s a).trans honly).told⟩

/-- TILE_BIST with START starts a tile's test at its level and is refused below; without START it is a plain write. -/
theorem tileBist_completes (h : Takes s a 0xF100 1 v) :
    (Word.bit v 8 = true → s.testAt 1 = true → Completes (.tileBist a v) s fun u => Told s u a 0xF100 1 0
      ∧ u.test = { s.test with bist := 1, bistTile := Word.bits v 7 0 })
    ∧ (Word.bit v 8 = true → s.testAt 1 = false → Completes (.tileBist a v) s fun u =>
      Told s u a 0xF100 1 7 ∧ OnlyMgmt s u)
    ∧ (Word.bit v 8 = false → Completes (.tileBist a v) s fun u => Told s u a 0xF100 1 0 ∧ OnlyMgmt s u) := by
  have hact : (s.begun a).actIdent a.path 0xF100 1 (bistRow.kept v) =
      if Word.bit v 8 && !s.testAt 1 then some (s.begun a, 7)
      else some ((s.begun a).startBist (bistRow.kept v).toNat, 0) := by
    rw [actIdent_bist, bistRow_bit8, begun_testAt]
  refine ⟨fun hstart hat => ?_, fun hstart hat => ?_, fun hstop => ?_⟩
  · obtain ⟨htest, houts⟩ := startBist_start (s.begun a) (bistRow_bit8.trans hstart)
    have hbegun : (s.begun a).test = s.test := (congrArg State.test (begun_onlyMgmt s a) :)
    rw [bistRow_tile, hbegun] at htest
    exact h.completes rfl rfl odRows_bist bistRow_plain (hact.trans (if_neg (by simp [hat])))
      ⟨tell_told (houts.trans (begun_outs s a)), htest⟩
  · exact h.refused rfl rfl odRows_bist bistRow_plain (hact.trans (if_pos (by simp [hstart, hat])))
  · obtain ⟨honly, houts⟩ := startBist_stop (s.begun a) (bistRow_bit8.trans hstop)
    exact h.completes rfl rfl odRows_bist bistRow_plain (hact.trans (if_neg (by simp [hstop])))
      ⟨tell_told (houts.trans (begun_outs s a)), ((begun_onlyMgmt s a).trans honly).told⟩

/-- PORT_PRBS is kept, and a 1 restarts the port's error count. -/
theorem portPrbs_completes {n : Nat} (hf : s.ethFitted n = true) (h : Takes s a (0xF200 + n) 2 v) :
    Completes (.portPrbs a n v) s fun u => u.odVal (0xF200 + n) 2 = v
      ∧ u.ctr (0xF200 + n) 3 = (if v = 1 then 0 else s.ctr (0xF200 + n) 3) ∧ OnlyMgmt s u := by
  obtain ⟨hrow, hn⟩ := h.prbs_row
  have honly := (begun_onlyMgmt s a).trans (prbs_onlyMgmt (n := n) _ v.toNat)
  have hctr : (s.begun a).ctr (0xF200 + n) 3 = s.ctr (0xF200 + n) 3 :=
    congrArg (fun t => (Tab.get 0 t (odKey (0xF200 + n) 3)).toNat) (begun_od s a)
  refine h.completes (exec_portPrbs hf) (isWinEntry_above (by omega)) hrow prbsRow_plain
    (by rw [kept_all rfl]; exact actIdent_prbs hn) ⟨?_, ?_, honly.told⟩
  · have hbuild : ((s.begun a).prbs n v.toNat).build = s.build := (congrArg State.build honly :)
    exact (told_odVal hbuild).trans (prbs_odVal _)
  · exact (prbs_ctr (s.begun a)).trans (by rw [hctr])

end Commands

/-- Settles O58: each command is one write of its entry, which acts on the test state, the rails, or the sources of its
group, or the end of a test, which stores a result. -/
theorem testCommandsAndSeeds : Obligations.TestCommandsAndSeeds := by
  unfold Obligations.TestCommandsAndSeeds
  refine ⟨fun a v s h => ⟨?off, ?on⟩, fun level s hsvc hm hl => ?level, fun a stk v s hf h => ?mtest,
    fun stk s hf hrun => ?mtestDone, fun a v s h => ?bist, fun passed s h => ?bistDone, fun a n v s hf h => ?prbs,
    fun a engines v s => ?seeds⟩
  case off =>
    rintro rfl
    obtain ⟨hmain, hstep, hpower, hdram, hsvc⟩ := testLevel_off (s.begun a)
    exact testPower_completes h ⟨hmain, hstep, hpower, hdram, hsvc.trans (congrArg Crust.svc (begun_crust s a))⟩
  case on =>
    intro hv
    have hbegun := begun_onlyMgmt s a
    have hpower : (s.begun a).power = s.power := (congrArg State.power hbegun :)
    have hmem : (s.begun a).mem = s.mem := (congrArg State.mem hbegun :)
    have hstart : (s.begun a).mayStart = s.mayStart := (congrArg State.mayStart hbegun :)
    have hn : v.toNat ≠ 0 := by obtain rfl | rfl := hv <;> decide
    obtain ⟨hasked, hon, hstays, hsvc⟩ := testLevel_on (s.begun a) v.toNat hn
    rw [hpower, hstart] at hon hstays
    rw [hmem] at hstays
    exact testPower_completes h ⟨hasked, hon, hstays, hsvc.trans (congrArg Crust.svc (begun_crust s a))⟩
  case level =>
    exact completes_go (exec_testPowerLevelReached s hsvc hm hl) (levelReached_keeps s level)
  case mtest => exact mtestCtrl_completes hf h
  case mtestDone =>
    have hfails := mtestDone_fails s (stk := stk)
    have hfirst := mtestDone_first s (lt_of_fitted hf)
    refine completes_kept (exec_mtestComplete s hf hrun) rfl rfl ?_
    rw [hfails, hfirst]
    exact ⟨Tab.get_set_same 0 s.test.mtest stk _, fun h0 => if_pos h0, fun h0 => mtestFirst_inStack s h0,
      mtestFails_le s, rfl⟩
  case bist => exact tileBist_completes h
  case bistDone =>
    refine completes_kept (exec_tileBistComplete s h) rfl rfl ?_
    cases s.tilePresent s.test.bistTile <;> rfl
  case prbs => exact portPrbs_completes hf h
  case seeds =>
    exact ⟨fun h => seeds_complete rfl (by decide) h, fun h => seeds_complete rfl (by decide) h⟩

end Sys2Proof.Machine

/-! ## O21: a tile command starts on its engine, and completes -/

namespace Sys2Proof.Machine

/-! ### A tile within the state -/

section TileOnly

variable {s t u : State} {c n : Nat}

@[simp] theorem eng_setEng_same (x : Tile) (e : TileEngine) (k : Option TileCmd) : (x.setEng e k).eng e = k := by
  cases e <;> rfl

theorem eng_setEng_ne (x : Tile) {e e' : TileEngine} (h : e' ≠ e) (k : Option TileCmd) :
    (x.setEng e k).eng e' = x.eng e' := by
  revert h
  cases e <;> cases e' <;> simp [Tile.setEng, Tile.eng]

/-- Putting a command on an engine, or taking it off, changes neither the buffers nor the streams of the tile. -/
theorem setEng_keeps (x : Tile) (e : TileEngine) (k : Option TileCmd) : (x.setEng e k).pbuf = x.pbuf
    ∧ (x.setEng e k).cbuf = x.cbuf ∧ (x.setEng e k).strA = x.strA ∧ (x.setEng e k).strB = x.strB
    ∧ (x.setEng e k).strC = x.strC := by
  cases e <;> exact ⟨rfl, rfl, rfl, rfl, rfl⟩

theorem str_setEng (x : Tile) (e : TileEngine) (k : Option TileCmd) (i : Nat) : (x.setEng e k).str i = x.str i := by
  cases e <;> rfl

/-- The command last put on an engine stands, whatever the buffers. -/
theorem setEng_setEng_bufs (x : Tile) (e : TileEngine) (k v : Option TileCmd) (cb : Tab CBuf) :
    ({ x.setEng e k with pbuf := x.pbuf, cbuf := cb } : Tile).setEng e v = ({ x with cbuf := cb } : Tile).setEng e v := by
  cases e <;> rfl

theorem cluster_modTile (s : State) (c n : Nat) (f : Tile → Tile) (d : Nat) : (s.modTile c n f).cluster d =
    if d = c then { s.cluster d with tiles := Tab.set {} (s.cluster d).tiles n (f ((s.cluster d).tile n)) }
    else s.cluster d :=
  cluster_modCluster s c d _

theorem tile_modTile (s : State) (c n : Nat) (f : Tile → Tile) (j : Nat) :
    (s.modTile c n f).tile c j = if j = n then f (s.tile c j) else s.tile c j := by
  rw [State.tile, cluster_modTile, if_pos rfl]
  refine (Tab.get_set _ _ _ _ _).trans ?_
  split
  · subst_vars
    rfl
  · rfl

@[simp] theorem tile_setTile_same (s : State) (c n : Nat) (v : Tile) : (s.setTile c n v).tile c n = v :=
  (tile_modTile s c n _ n).trans (if_pos rfl)

theorem queue_modTile (s : State) (c n : Nat) (f : Tile → Tile) (d q : Nat) :
    ((s.modTile c n f).cluster d).queue q = (s.cluster d).queue q := by
  rw [cluster_modTile]
  split <;> rfl

theorem core_modTile (s : State) (c n : Nat) (f : Tile → Tile) (d : Nat) :
    ((s.modTile c n f).cluster d).core = (s.cluster d).core := by
  rw [cluster_modTile]
  split <;> rfl

theorem entry_of_queue {q k : Nat} (h : (t.cluster c).queue q = (s.cluster c).queue q) : t.entry c q k = s.entry c q k := by
  rw [State.entry, h, State.entry]

theorem cluster_modEntry (s : State) (c q k : Nat) (f : QEntry → QEntry) (d : Nat) : (s.modEntry c q k f).cluster d =
    if d = c then { s.cluster d with queues := Tab.set {} (s.cluster d).queues q (((s.cluster d).queue q).modEntry k f) }
    else s.cluster d :=
  cluster_modCluster s c d _

theorem tile_modEntry (s : State) (c q k : Nat) (f : QEntry → QEntry) (d n : Nat) :
    (s.modEntry c q k f).tile d n = s.tile d n := by
  rw [State.tile, cluster_modEntry]
  split <;> rfl

theorem tile_complete (s : State) (c q k st d n : Nat) : (s.complete c q k st d).tile c n = s.tile c n :=
  tile_modEntry s c q k _ c n

/-- A tile has changed, with the entries of its queue, and nothing else of the clusters and the stacks. -/
structure TileOnly (s t : State) (c n : Nat) : Prop where
  build : t.build = s.build
  pending : t.pending = s.pending
  mem : t.mem = s.mem
  frame : TileFrame s t c n

theorem TileOnly.trans (h : TileOnly s t c n) (h' : TileOnly t u c n) : TileOnly s u c n := by
  obtain ⟨hown, htiles, hothers⟩ := h.frame
  obtain ⟨hown', htiles', hothers'⟩ := h'.frame
  refine ⟨h'.build.trans h.build, h'.pending.trans h.pending, h'.mem.trans h.mem, ?_, fun j hj => ?_,
    fun d hd => (hothers' d hd).trans (hothers d hd)⟩
  · exact (congrArg (fun k : Cluster => { k with tiles := (s.cluster c).tiles, queues := (s.cluster c).queues })
      hown').trans hown
  · exact ⟨((htiles' j hj).1.trans (htiles j hj).1), ((htiles' j hj).2.trans (htiles j hj).2)⟩

/-- How a command that changes only a tile is shown to complete. -/
theorem TileOnly.completes {i : Instr} {P : State → Prop} (h : TileOnly s t c n) (hx : exec i s = go s t) (p : P t) :
    Completes i s P :=
  completes_kept hx h.build h.pending p

theorem modTile_only (s : State) (c n : Nat) (f : Tile → Tile) : TileOnly s (s.modTile c n f) c n where
  build := rfl
  pending := rfl
  mem := rfl
  frame := by
    refine ⟨?_, fun j hj => ⟨?_, queue_modTile s c n f c j⟩, fun d hd => ?_⟩
    · rw [cluster_modTile, if_pos rfl]
    · rw [tile_modTile, if_neg hj]
    · rw [cluster_modTile, if_neg hd]

theorem setTile_only (s : State) (c n : Nat) (v : Tile) : TileOnly s (s.setTile c n v) c n := modTile_only s c n _

theorem modEntry_only (s : State) (c n k : Nat) (f : QEntry → QEntry) : TileOnly s (s.modEntry c n k f) c n where
  build := rfl
  pending := rfl
  mem := rfl
  frame := by
    refine ⟨?_, fun j hj => ⟨tile_modEntry s c n k f c j, ?_⟩, fun d hd => ?_⟩
    · rw [cluster_modEntry, if_pos rfl]
    · exact (queue_modQueue s c n j _).trans (if_neg hj)
    · rw [cluster_modEntry, if_neg hd]

theorem bump_only (s : State) (c n i j m w : Nat) : TileOnly s (s.bump i j m w) c n :=
  ⟨rfl, rfl, rfl, rfl, fun _ _ => ⟨rfl, rfl⟩, fun _ _ => rfl⟩

/-- The clusters read as before, and everything else is the same. -/
structure ReadsSame (s t : State) : Prop where
  rest : { t with clusters := s.clusters } = s
  cluster : ∀ d, t.cluster d = s.cluster d

theorem ReadsSame.refl (s : State) : ReadsSame s s := ⟨rfl, fun _ => rfl⟩

theorem ReadsSame.trans (h : ReadsSame s t) (h' : ReadsSame t u) : ReadsSame s u where
  rest := (congrArg (fun x : State => { x with clusters := s.clusters }) h'.rest).trans h.rest
  cluster d := (h'.cluster d).trans (h.cluster d)

theorem ReadsSame.tile (h : ReadsSame s t) (c n : Nat) : t.tile c n = s.tile c n :=
  congrArg (fun k : Cluster => k.tile n) (h.cluster c)

theorem ReadsSame.queue (h : ReadsSame s t) (c q : Nat) : (t.cluster c).queue q = (s.cluster c).queue q :=
  congrArg (fun k : Cluster => k.queue q) (h.cluster c)

theorem ReadsSame.core (h : ReadsSame s t) (c : Nat) : (t.cluster c).core = (s.cluster c).core :=
  congrArg Cluster.core (h.cluster c)

theorem ReadsSame.mgmt (h : ReadsSame s t) : t.mgmt = s.mgmt := (congrArg State.mgmt h.rest :)

theorem ReadsSame.fab (h : ReadsSame s t) : t.fab = s.fab := (congrArg State.fab h.rest :)

theorem ReadsSame.settled (h : ReadsSame s t) (a : Agent) : t.settled a = s.settled a :=
  (congrArg (fun x : State => x.settled a) h.rest :)

theorem ReadsSame.only (h : ReadsSame s t) (c n : Nat) : TileOnly s t c n where
  build := (congrArg State.build h.rest :)
  pending := (congrArg State.pending h.rest :)
  mem := (congrArg State.mem h.rest :)
  frame := ⟨by rw [h.cluster], fun j _ => ⟨h.tile c j, h.queue c j⟩, fun d _ => h.cluster d⟩

/-- A change of a cluster that comes to nothing. -/
theorem modCluster_same {f : Cluster → Cluster} (hf : f (s.cluster c) = s.cluster c) :
    ReadsSame s (s.modCluster c f) where
  rest := rfl
  cluster d := by
    rw [cluster_modCluster]
    split
    · subst_vars
      exact hf
    · rfl

end TileOnly

/-! ### A tile that owes its streams nothing (10 R351) -/

section Settled

variable {s t : State} {c n : Nat}

theorem TileFree.congr (h : TileFree s c n) (hq : (t.cluster c).queue n = (s.cluster c).queue n)
    (hcore : (t.cluster c).core = (s.cluster c).core) : TileFree t c n := by
  unfold TileFree
  rw [hq, hcore]
  exact h

theorem TileFree.same (h : TileFree s c n) (hs : ReadsSame s t) : TileFree t c n := h.congr (hs.queue c n) (hs.core c)

theorem TileFree.modTile (h : TileFree s c n) (f : Tile → Tile) : TileFree (s.modTile c n f) c n :=
  h.congr (queue_modTile s c n f c n) (core_modTile s c n f c)

/-- A change of an entry that gives it nothing to discard leaves the tile free. -/
theorem TileFree.modEntry (h : TileFree s c n) (k : Nat) {f : QEntry → QEntry}
    (hf : ∀ x : QEntry, x.owesDrop = false → (f x).owesDrop = false) : TileFree (s.modEntry c n k f) c n := by
  obtain ⟨hdrop, hwait⟩ := h
  refine ⟨fun y hy => ?_, ?_⟩
  · rw [State.modEntry, queue_modQueue, if_pos rfl] at hy
    obtain ⟨x, hx, rfl⟩ := List.mem_map.mp hy
    split
    · exact hf x (hdrop x hx)
    · exact hdrop x hx
  · rw [cluster_modEntry, if_pos rfl]
    exact hwait

theorem settleDrops_free (s : State) (c n : Nat) (e : TileEngine) {xs : List QEntry} (h : ∀ x ∈ xs, x.owesDrop = false) :
    s.settleDrops c n e xs = s := by
  induction xs with
  | nil => rfl
  | cons x xs ih =>
    obtain ⟨hx, hxs⟩ := List.forall_mem_cons.mp h
    have hkept : s.dropEntry c n x = s := by
      rw [State.dropEntry, hx]
      rfl
    unfold State.settleDrops
    rw [hkept, ih hxs]
    repeat' split
    all_goals rfl

theorem releaseStream_free {i : Nat} (h : (s.cluster c).core.wait ≠ some (.fullStream n i)) :
    ReadsSame s (s.releaseStream c n i) := by
  unfold State.releaseStream State.modCore
  refine modCluster_same ?_
  simp only [if_neg h]

theorem freeStreams_free (h : ∀ i, (s.cluster c).core.wait ≠ some (.fullStream n i)) :
    ReadsSame s (s.freeStreams c n) := by
  refine List.foldlRecOn (motive := ReadsSame s) (upTo 3) _ (.refl s) fun t ht i _ => ?_
  split
  · exact ht.trans (releaseStream_free (by rw [ht.core]; exact h i))
  · exact ht

theorem settleTile_free (h : TileFree s c n) : ReadsSame s (s.settleTile c n) := by
  have hdrops : [TileEngine.array, .panelLoader, .cEngine].foldl
      (fun s e => s.settleDrops c n e ((s.cluster c).queue n).entries) s = s :=
    foldl_id fun e _ => settleDrops_free s c n e h.1
  rw [State.settleTile, hdrops]
  exact freeStreams_free h.2

theorem fixLines_free (h : TileFree s c n) (k pbuf : Nat) : s.fixLines c n k pbuf = s := by
  have hnone : ((((s.cluster c).queue n).entries.takeWhile fun y => y.ticket != k).filter fun x =>
      x.owesDrop && mqCmd x.desc == 1 && mqPbuf x.desc == pbuf && x.lines.isNone) = [] :=
    List.filter_eq_nil_iff.mpr fun x hx => by simp [h.1 x (List.takeWhile_subset _ hx)]
  rw [State.fixLines, hnone]
  rfl

end Settled

/-! ### An engine that takes no line (07 R231, R234) -/

section Idle

variable {s : State} {c n : Nat} {e : TileEngine} {k : TileCmd}

/-- A command that has its lines, or finds none in its stream, takes none. -/
def Tile.takesNone (x : Tile) (e : TileEngine) (k : TileCmd) : Prop := k.need ≤ k.asked ∨ (x.str (streamOf e)).ents = []

theorem take_nil {q : StreamF} (h : q.ents = []) (ord : Nat) (store : Bool) (f : Option Nat) :
    q.take ord store f = none := by
  rw [StreamF.take, h]

theorem askTile_idle (hk : (s.tile c n).eng e = some k) (h : (s.tile c n).takesNone e k) (fuel : Nat) :
    s.askTile c n e fuel = s := by
  cases fuel with
  | zero => rfl
  | succ fuel =>
    unfold State.askTile
    extract_lets x
    rw [show x.eng e = some k from hk]
    refine ite_eq_left_iff.mpr fun hask => ?_
    obtain hall | hnil := h
    · exact absurd (by simp [hall]) hask
    · rw [take_nil hnil]

theorem pumpStore_idle (hk : (s.tile c n).engC = some k) (h : (s.tile c n).takesNone .cEngine k) (fuel : Nat) :
    s.pumpStore c n fuel = s := by
  cases fuel with
  | zero => rfl
  | succ fuel =>
    unfold State.pumpStore
    extract_lets x
    rw [show x.engC = some k from hk]
    refine ite_eq_left_iff.mpr fun hask => ?_
    obtain hall | hnil := h
    · exact absurd (by simp [hall]) hask
    · have hnil' : (s.tile c n).strC.ents = [] := hnil
      rw [take_nil hnil']

/-- An engine whose command takes no line only does its work. -/
theorem pumpTile_idle (hfree : TileFree s c n) (hk : (s.tile c n).eng e = some k) (h : (s.tile c n).takesNone e k) :
    s.pumpTile c n e = ((s.settleTile c n).tileWork c n e).settleTile c n := by
  have htile := (settleTile_free hfree).tile c n
  rw [← htile] at hk h
  have hstore : (s.settleTile c n).pumpStore c n (if e = .cEngine then 1024 else 0) = s.settleTile c n := by
    by_cases he : e = .cEngine
    · subst he
      rw [if_pos rfl]
      exact pumpStore_idle hk h 1024
    · rw [if_neg he]
      rfl
  rw [State.pumpTile, askTile_idle hk h, hstore]

end Idle

/-! ### The work of a command whose lines are there (07 R231, R245) -/

section Work

variable {s : State} {c n : Nat} {e : TileEngine} {k : TileCmd}

/-- The lines that a command has for its work: a STORE those that it has written, the others those that have come. -/
def TileCmd.lines (k : TileCmd) : Nat := if mqCmd k.desc = 3 then k.asked else k.got.length

/-- A command's work can be done: its lines are there. -/
def TileCmd.ready (k : TileCmd) : Bool := !k.done && decide (k.need ≤ k.lines)

/-- A command as its work leaves it. -/
def TileCmd.Worked (k v : TileCmd) : Prop := v.done = true ∧ { v with done := k.done, poison := k.poison } = k

theorem tileWork_notReady (hk : (s.tile c n).eng e = some k) (h : k.ready = false) : s.tileWork c n e = s := by
  unfold State.tileWork
  simp only [hk]
  split
  · rfl
  rename_i hdone
  have hlines : ¬ k.need ≤ k.lines := by simpa [TileCmd.ready, hdone] using h
  unfold TileCmd.lines at hlines
  split
  · rename_i hcmd
    rw [if_pos hcmd] at hlines
    exact if_neg hlines
  · rename_i hcmd
    rw [if_neg hcmd] at hlines
    exact if_pos (by omega)

/-- Engine `e` of a tile has done the work of its command `k`: the buffers may have changed, the panel buffers only by a
PANEL, and the command is done. -/
def DidWork (s t : State) (c n : Nat) (e : TileEngine) (k : TileCmd) : Prop :=
  ∃ pb cb v, k.Worked v ∧ (mqCmd k.desc ≠ 0 → pb = (s.tile c n).pbuf)
    ∧ t.tile c n = ({ s.tile c n with pbuf := pb, cbuf := cb } : Tile).setEng e (some v) ∧ TileOnly s t c n
    ∧ (t.cluster c).queue n = (s.cluster c).queue n ∧ (t.cluster c).core = (s.cluster c).core

theorem setTile_didWork {pb : Tab PanelBuf} {cb : Tab CBuf} {v : TileCmd} (hv : k.Worked v)
    (hpb : mqCmd k.desc ≠ 0 → pb = (s.tile c n).pbuf) :
    DidWork s (s.setTile c n (({ s.tile c n with pbuf := pb, cbuf := cb } : Tile).setEng e (some v))) c n e k :=
  ⟨pb, cb, v, hv, hpb, tile_setTile_same s c n _, setTile_only s c n _,
    queue_modTile s c n _ c n, core_modTile s c n _ c⟩

theorem DidWork.bump {t : State} (h : DidWork s t c n e k) (i j m w : Nat) : DidWork s (t.bump i j m w) c n e k := by
  obtain ⟨pb, cb, v, hv, hpb, htile, honly, hqueue, hcore⟩ := h
  exact ⟨pb, cb, v, hv, hpb, htile, honly.trans (bump_only t c n i j m w), hqueue, hcore⟩

theorem tileWork_ready (hk : (s.tile c n).eng e = some k) (h : k.ready = true) :
    DidWork s (s.tileWork c n e) c n e k := by
  simp only [TileCmd.ready, Bool.and_eq_true, Bool.not_eq_true', decide_eq_true_eq] at h
  obtain ⟨hdone, hlines⟩ := h
  unfold TileCmd.lines at hlines
  unfold State.tileWork
  simp only [hk, hdone]
  refine (if_neg Bool.false_ne_true).symm ▸ ?_
  split
  · rename_i hcmd
    rw [if_pos hcmd] at hlines
    rw [if_pos hlines]
    exact setTile_didWork ⟨rfl, rfl⟩ fun _ => rfl
  · rename_i hcmd
    rw [if_neg hcmd] at hlines
    rw [if_neg (by omega)]
    split
    · rename_i hpanel
      exact setTile_didWork ⟨rfl, rfl⟩ fun hne => absurd hpanel hne
    · exact (setTile_didWork ⟨rfl, rfl⟩ fun _ => rfl).bump _ _ _ _
    · exact setTile_didWork ⟨rfl, rfl⟩ fun _ => rfl

theorem DidWork.congr {s' t t' : State} (hs : ReadsSame s s') (h : DidWork s' t c n e k) (ht : ReadsSame t t') :
    DidWork s t' c n e k := by
  obtain ⟨pb, cb, v, hv, hpb, htile, honly, hqueue, hcore⟩ := h
  rw [hs.tile] at hpb htile
  exact ⟨pb, cb, v, hv, hpb, (ht.tile c n).trans htile, ((hs.only c n).trans honly).trans (ht.only c n),
    (ht.queue c n).trans (hqueue.trans (hs.queue c n)), (ht.core c).trans (hcore.trans (hs.core c))⟩

/-- An engine whose command takes no line and is not ready waits. -/
theorem pumpTile_waits (hfree : TileFree s c n) (hk : (s.tile c n).eng e = some k) (h : (s.tile c n).takesNone e k)
    (hr : k.ready = false) : ReadsSame s (s.pumpTile c n e) := by
  have hsame := settleTile_free hfree
  rw [pumpTile_idle hfree hk h, tileWork_notReady (by rw [hsame.tile, hk]) hr]
  exact hsame.trans (settleTile_free (hfree.same hsame))

/-- An engine whose command takes no line and is ready does its work. -/
theorem pumpTile_works (hfree : TileFree s c n) (hk : (s.tile c n).eng e = some k) (h : (s.tile c n).takesNone e k)
    (hr : k.ready = true) : DidWork s (s.pumpTile c n e) c n e k := by
  have hsame := settleTile_free hfree
  rw [← hsame.tile] at hk
  have hwork := tileWork_ready hk hr
  rw [pumpTile_idle hfree (by rw [← hsame.tile, hk]) h]
  refine hwork.congr hsame (settleTile_free ?_)
  obtain ⟨-, -, -, -, -, -, -, hqueue, hcore⟩ := hwork
  exact (hfree.same hsame).congr hqueue hcore

end Work

/-! ### A command starts (07 R230) -/

section Start

variable {s : State} {c n : Nat} {x : QEntry}

/-- A command as it takes its engine. -/
def QEntry.command (x : QEntry) (ti : Tile) : TileCmd := { ticket := x.ticket, desc := x.desc, need := ti.linesOf x.desc }

theorem command_lines (x : QEntry) (ti : Tile) : (x.command ti).lines = 0 := by
  unfold TileCmd.lines
  split <;> rfl

/-- The entry's engine has taken it. -/
def QEntry.taken (x : QEntry) : QEntry := { x with started := true }

/-- The panel of a PANEL whose lines are still to come. -/
def comingPanel (d : List Word) : PanelBuf where
  k := mqPanelK d
  n := mqPanelN d
  fmt := mqFmtB d
  scaled := mqBScaled d
  usable := false

/-- The buffers as the start of a command leaves them: a PANEL's is unusable, that of an MMA with CLR is clear. -/
def Tile.readied (ti : Tile) (d : List Word) : Tile :=
  match mqCmd d with
  | 0 => { ti with pbuf := Tab.set {} ti.pbuf (mqPbuf d) (comingPanel d) }
  | 1 => if mqClr d then { ti with cbuf := Tab.set {} ti.cbuf (mqCbuf d) {} } else ti
  | _ => ti

theorem readied_panel {ti : Tile} {d : List Word} (h : mqCmd d = 0) :
    ti.readied d = { ti with pbuf := Tab.set {} ti.pbuf (mqPbuf d) (comingPanel d) } := by
  simp only [Tile.readied, h]

theorem readied_mma {ti : Tile} {d : List Word} (h : mqCmd d = 1) :
    ti.readied d = if mqClr d then { ti with cbuf := Tab.set {} ti.cbuf (mqCbuf d) {} } else ti := by
  simp only [Tile.readied, h]

theorem readied_other {ti : Tile} {d : List Word} (h0 : mqCmd d ≠ 0) (h1 : mqCmd d ≠ 1) : ti.readied d = ti := by
  unfold Tile.readied
  split
  · contradiction
  · contradiction
  · rfl

theorem readied_unusable {ti : Tile} {d : List Word} (h : mqCmd d = 0) :
    (Tab.get {} (ti.readied d).pbuf (mqPbuf d)).usable = false := by
  rw [readied_panel h, Tab.get_set_same]
  rfl

theorem readied_pbuf {ti : Tile} {d : List Word} (h : mqCmd d ≠ 0) : (ti.readied d).pbuf = ti.pbuf := by
  by_cases h1 : mqCmd d = 1
  · rw [readied_mma h1]
    split <;> rfl
  · rw [readied_other h h1]

theorem readied_clear {ti : Tile} {d : List Word} (h : mqCmd d = 1) (hclr : mqClr d = true) :
    Tab.get {} (ti.readied d).cbuf (mqCbuf d) = {} := by
  rw [readied_mma h, if_pos hclr, Tab.get_set_same]

theorem readied_cbuf {ti : Tile} {d : List Word} (h : mqCmd d ≠ 1 ∨ mqClr d = false) :
    (ti.readied d).cbuf = ti.cbuf := by
  by_cases h1 : mqCmd d = 1
  · have hclr := h.resolve_left (not_not_intro h1)
    rw [readied_mma h1, hclr]
    rfl
  · by_cases h0 : mqCmd d = 0
    · rw [readied_panel h0]
    · rw [readied_other h0 h1]

/-- Readying the buffers changes neither the engines nor the streams. -/
theorem readied_keeps (ti : Tile) (d : List Word) : { ti.readied d with pbuf := ti.pbuf, cbuf := ti.cbuf } = ti := by
  unfold Tile.readied
  split
  · rfl
  · split <;> rfl
  · rfl

theorem readied_str (ti : Tile) (d : List Word) (i : Nat) : (ti.readied d).str i = ti.str i :=
  (congrArg (fun x : Tile => x.str i) (readied_keeps ti d) :)

/-- The engine takes the command of an entry. -/
def State.takes (s : State) (c n : Nat) (x : QEntry) : State :=
  (s.modEntry c n x.ticket QEntry.taken).setTile c n
    (((s.tile c n).readied x.desc).setEng (engineOf (mqCmd x.desc)) (some (x.command (s.tile c n))))

/-- Nothing holds back the next entry of an engine that is free. -/
theorem start_unhindered {cmd : Nat} {e : TileEngine} (hdisp : x.disp = true) (hcmd : mqCmd x.desc = cmd)
    (hidle : (s.tile c n).eng e = none)
    (hclear : ∀ y ∈ ((s.cluster c).queue n).entries.takeWhile (fun y => y.ticket != x.ticket),
      s.mqConflict c n x y = false) :
    (!x.disp || mqCmd x.desc != cmd || ((s.tile c n).eng e).isSome
      || (((s.cluster c).queue n).entries.takeWhile fun y => y.ticket != x.ticket).any (s.mqConflict c n x)) = false := by
  have hnone := List.any_eq_false.mpr fun y hy => Bool.eq_false_iff.mp (hclear y hy)
  rw [hdisp, hcmd, hidle, hnone]
  simp

theorem startTile_takes (hnext : s.nextFor c n (engineOf (mqCmd x.desc)) = some x) (hdisp : x.disp = true)
    (hidle : (s.tile c n).eng (engineOf (mqCmd x.desc)) = none)
    (hclear : ∀ y ∈ ((s.cluster c).queue n).entries.takeWhile (fun y => y.ticket != x.ticket),
      s.mqConflict c n x y = false) (hfree : TileFree s c n)
    (hmma : mqCmd x.desc = 1 → mmaOk x.desc (Tab.get {} (s.tile c n).pbuf (mqPbuf x.desc)) = true) :
    s.startTile c n (mqCmd x.desc) = (s.takes c n x).pumpTile c n (engineOf (mqCmd x.desc)) := by
  have hrun : (decide (mqCmd x.desc = 1) && !mmaOk x.desc (Tab.get {} (s.tile c n).pbuf (mqPbuf x.desc))) = false := by
    by_cases h1 : mqCmd x.desc = 1
    · rw [hmma h1]
      simp
    · simp [h1]
  have hfix : (if mqCmd x.desc = 0 then s.fixLines c n x.ticket (mqPbuf x.desc) else s) = s := by
    rw [fixLines_free hfree, ite_self]
  unfold State.startTile
  simp only [hnext]
  rw [start_unhindered hdisp rfl hidle hclear, hrun, hfix, if_neg Bool.false_ne_true, if_neg Bool.false_ne_true]
  unfold State.takes
  split
  · rename_i hcmd
    rw [readied_panel hcmd]
    rfl
  · rename_i hcmd
    rw [readied_mma hcmd]
    rfl
  · rename_i h0 h1
    rw [readied_other h0 h1]
    rfl

theorem takes_tile (s : State) (c n : Nat) (x : QEntry) : (s.takes c n x).tile c n =
    ((s.tile c n).readied x.desc).setEng (engineOf (mqCmd x.desc)) (some (x.command (s.tile c n))) :=
  tile_setTile_same _ c n _

theorem takes_only (s : State) (c n : Nat) (x : QEntry) : TileOnly s (s.takes c n x) c n :=
  (modEntry_only s c n _ _).trans (setTile_only _ c n _)

theorem TileFree.takes (h : TileFree s c n) (x : QEntry) : TileFree (s.takes c n x) c n :=
  (h.modEntry x.ticket fun y _ => by simp [QEntry.owesDrop, QEntry.taken]).modTile _

/-- The next entry of an engine is among those of its queue, of that engine, and neither started nor completed. -/
theorem nextFor_some {e : TileEngine} (h : s.nextFor c n e = some x) : x ∈ ((s.cluster c).queue n).entries
    ∧ x.started = false ∧ x.compl = none := by
  have hx := List.find?_some h
  simp only [Bool.and_eq_true, Bool.not_eq_true', Option.isNone_iff_eq_none] at hx
  obtain ⟨⟨-, hstarted⟩, hcompl⟩ := hx
  exact ⟨List.mem_of_find?_eq_some h, hstarted, hcompl⟩

theorem takes_entry (hx : x ∈ ((s.cluster c).queue n).entries) :
    ((s.takes c n x).entry c n x.ticket).map QEntry.started = some true := by
  have hkept : (s.takes c n x).entry c n x.ticket = (s.modEntry c n x.ticket QEntry.taken).entry c n x.ticket :=
    entry_of_queue (queue_modTile _ c n _ c n)
  obtain ⟨y, hy⟩ : ∃ y, s.entry c n x.ticket = some y :=
    Option.isSome_iff_exists.mp (List.find?_isSome.mpr ⟨x, hx, beq_self_eq_true x.ticket⟩)
  rw [hkept, entry_modEntry s c n x.ticket (f := QEntry.taken) fun _ => rfl, hy]
  rfl

theorem kLine_pos (fmt : Nat) : 0 < kLine fmt := by
  unfold kLine fmtElems
  split <;> decide

theorem lineCount_pos {m : Nat} (hm : 1 ≤ m) (fmt : Nat) : 0 < (m + kLine fmt - 1) / kLine fmt := by
  have hl := kLine_pos fmt
  exact Nat.div_pos (by omega) hl

theorem storeCount_pos {d : List Word} (hrows : 1 ≤ mqRows d) (hcols : 1 ≤ mqCols d) : 0 < storeCount d := by
  unfold storeCount
  dsimp only
  split
  · exact Nat.mul_pos (lineCount_pos hrows _) hcols
  · exact Nat.mul_pos hrows (lineCount_pos hcols _)

/-- A valid command other than an MMA needs lines. -/
theorem linesOf_pos (ti : Tile) {d : List Word} (hv : mqValid d = true) (h : mqCmd d ≠ 1) : 0 < ti.linesOf d := by
  simp only [mqValid, Bool.and_eq_true] at hv
  obtain ⟨-, hfields⟩ := hv
  unfold Tile.linesOf
  split
  · rename_i hcmd
    simp only [hcmd, Bool.and_eq_true, decide_eq_true_eq] at hfields
    obtain ⟨⟨⟨⟨-, hk⟩, -⟩, hn⟩, -⟩ := hfields
    exact Nat.mul_pos hk hn
  · contradiction
  · rename_i hcmd
    simp only [hcmd, Bool.and_eq_true, decide_eq_true_eq] at hfields
    obtain ⟨⟨-, hrows, -⟩, hcols, -⟩ := hfields
    exact Nat.mul_pos hrows (lineCount_pos hcols _)
  · rename_i h0 h1 h2
    split at hfields
    · contradiction
    · contradiction
    · contradiction
    · simp only [Bool.and_eq_true, decide_eq_true_eq] at hfields
      obtain ⟨⟨⟨-, hrows, -⟩, hcols, -⟩, -⟩ := hfields
      exact storeCount_pos hrows hcols

/-- A command that has started on a free tile with nothing in its stream waits for its lines; one that needs none has
done its work. -/
theorem takes_pumped (hfree : TileFree s c n) (hv : mqValid x.desc = true)
    (hnil : ((s.tile c n).str (streamOf (engineOf (mqCmd x.desc)))).ents = []) :
    let ti := (s.tile c n).readied x.desc
    let u := (s.takes c n x).pumpTile c n (engineOf (mqCmd x.desc))
    ∃ cb v, u.tile c n = ({ ti with cbuf := cb } : Tile).setEng (engineOf (mqCmd x.desc)) (some v)
      ∧ { v with done := false, poison := false } = x.command (s.tile c n)
      ∧ v.done = decide ((s.tile c n).linesOf x.desc = 0)
      ∧ (mqCmd x.desc ≠ 1 ∨ (s.tile c n).linesOf x.desc ≠ 0 → cb = ti.cbuf) ∧ TileOnly s u c n
      ∧ (u.cluster c).queue n = ((s.takes c n x).cluster c).queue n := by
  intro ti u
  have hfree' := hfree.takes x
  have hk : ((s.takes c n x).tile c n).eng (engineOf (mqCmd x.desc)) = some (x.command (s.tile c n)) := by
    rw [takes_tile, eng_setEng_same]
  have hnone : ((s.takes c n x).tile c n).takesNone (engineOf (mqCmd x.desc)) (x.command (s.tile c n)) := by
    right
    rw [takes_tile, str_setEng, readied_str, hnil]
  have hready : (x.command (s.tile c n)).ready = decide ((s.tile c n).linesOf x.desc = 0) := by
    rw [TileCmd.ready, command_lines]
    simp [QEntry.command]
  by_cases hneed : (s.tile c n).linesOf x.desc = 0
  · obtain ⟨pb, cb, v, hworked, hpb, htile, honly, hqueue, -⟩ :=
      pumpTile_works hfree' hk hnone (by rw [hready, hneed]; rfl)
    obtain ⟨hdone, hsame⟩ := hworked
    have hcmd : mqCmd x.desc = 1 := by
      by_contra hne
      exact absurd hneed (linesOf_pos _ hv hne).ne'
    have hpb' : pb = ti.pbuf := by
      rw [hpb (by rw [QEntry.command, hcmd]; decide), takes_tile, (setEng_keeps _ _ _).1]
    refine ⟨cb, v, ?_, ?_, ?_, ?_, (takes_only s c n x).trans honly, hqueue⟩
    · rw [htile, takes_tile, hpb']
      exact setEng_setEng_bufs ti _ _ _ cb
    · exact (congrArg (fun w : TileCmd => { w with done := false, poison := false }) hsame :)
    · simp [hdone, hneed]
    · rintro (hne | hne)
      · exact absurd hcmd hne
      · exact absurd hneed hne
  · have hsame := pumpTile_waits hfree' hk hnone (by rw [hready]; simp [hneed])
    refine ⟨ti.cbuf, x.command (s.tile c n), ?_, rfl, by simp [QEntry.command, hneed], fun _ => rfl,
      (takes_only s c n x).trans (hsame.only c n), hsame.queue c n⟩
    exact (hsame.tile c n).trans (takes_tile s c n x)

/-- A tile on which a command has started: its engine holds the command, and its buffers are those that the start readied,
but for the accumulator buffer of an MMA that needs no line. -/
theorem started_tile {ti v : Tile} {d : List Word} {e : TileEngine} {k : TileCmd} {cb : Tab CBuf}
    (hv : v = ({ ti.readied d with cbuf := cb } : Tile).setEng e (some k))
    (hcb : mqCmd d ≠ 1 ∨ ti.linesOf d ≠ 0 → cb = (ti.readied d).cbuf) :
    v.eng e = some k ∧ (∀ e', e' ≠ e → v.eng e' = ti.eng e')
      ∧ (mqCmd d = 0 → (Tab.get {} v.pbuf (mqPbuf d)).usable = false) ∧ (mqCmd d ≠ 0 → v.pbuf = ti.pbuf)
      ∧ (mqCmd d = 1 → mqClr d = true → ti.linesOf d ≠ 0 → Tab.get {} v.cbuf (mqCbuf d) = {})
      ∧ ((mqCmd d ≠ 1 ∨ (mqClr d = false ∧ ti.linesOf d ≠ 0)) → v.cbuf = ti.cbuf)
      ∧ v.strA = ti.strA ∧ v.strB = ti.strB ∧ v.strC = ti.strC := by
  subst hv
  have hkeeps := readied_keeps ti d
  obtain ⟨hpbuf, hcbuf, hA, hB, hC⟩ := setEng_keeps ({ ti.readied d with cbuf := cb } : Tile) e (some k)
  rw [hpbuf, hcbuf, hA, hB, hC]
  refine ⟨eng_setEng_same _ e _, fun e' he => ?_, readied_unusable, readied_pbuf, fun h1 hclr hneed => ?_, fun h => ?_,
    (congrArg Tile.strA hkeeps :), (congrArg Tile.strB hkeeps :), (congrArg Tile.strC hkeeps :)⟩
  · exact (eng_setEng_ne _ he _).trans (congrArg (fun y : Tile => y.eng e') hkeeps :)
  · rw [hcb (.inr hneed), readied_clear h1 hclr]
  · rw [hcb (h.imp_right And.right), readied_cbuf (h.imp_right And.left)]

/-- An MMA that may not run on its panel is refused, and the tile goes on. -/
theorem startTile_refuses (hnext : s.nextFor c n .array = some x) (hdisp : x.disp = true) (hcmd : mqCmd x.desc = 1)
    (hidle : (s.tile c n).eng .array = none)
    (hclear : ∀ y ∈ ((s.cluster c).queue n).entries.takeWhile (fun y => y.ticket != x.ticket),
      s.mqConflict c n x y = false)
    (hmma : mmaOk x.desc (Tab.get {} (s.tile c n).pbuf (mqPbuf x.desc)) = false) :
    s.startTile c n 1 = (s.complete c n x.ticket 3 0).settleTile c n := by
  have he : engineOf 1 = .array := rfl
  unfold State.startTile
  simp only [he, hnext]
  rw [start_unhindered hdisp hcmd hidle hclear, hmma, if_neg Bool.false_ne_true]
  rfl

/-- A completed entry owes nothing that it did not owe. -/
theorem TileFree.complete (h : TileFree s c n) (k : Nat) : TileFree (s.complete c n k 3 0) c n := by
  refine h.modEntry k fun y hy => ?_
  split
  · exact hy
  · simp [QEntry.owesDrop]

theorem tileCmd_go (hc : c < 48) (hn : n < 4) (hp : s.tilePresent (tileNo c n) = true) (hon : s.clusterOn c = true)
    (cmd : Nat) : s.tileCmd c n cmd = go s (s.startTile c n cmd) :=
  ifUnit_when _ _ (by simp [hc, hn, hp]) hon

theorem exec_tileRow {p : Nat × (Nat → Nat → Instr)} (hp : p ∈ tileRows) (s : State) (c n : Nat) :
    exec (p.2 c n) s = s.tileCmd c n p.1 := by
  simp only [tileRows, List.mem_cons, List.not_mem_nil, or_false] at hp
  obtain rfl | rfl | rfl | rfl := hp <;> rfl

end Start

/-! ### A command completes (07 R231, R255) -/

section Completion

variable {s : State} {c n : Nat} {x : QEntry}

/-- The tile once a command has left its engine: a STORE with CLR_AFTER that was not stopped clears its buffer. -/
def Tile.released (ti : Tile) (e : TileEngine) (k : TileCmd) (ab : Option Nat) : Tile :=
  (if mqCmd k.desc = 3 && mqClrAfter k.desc && ab.isNone then
    { ti with cbuf := Tab.set {} ti.cbuf (mqCbuf k.desc) {} } else ti).setEng e none

/-- A finished command leaves its engine and completes its entry; a STORE's failed writes are taken off. -/
def State.tileEnds (s : State) (c n : Nat) (e : TileEngine) (k : TileCmd) (ab : Option Nat) (st : Nat) : State :=
  ((if mqCmd k.desc = 3 then (s.takeFail (.tile c n 2)).1 else s).setTile c n
    ((s.tile c n).released e k ab)).complete c n k.ticket st 0

variable {e : TileEngine} {k : TileCmd}

/-- The status of a finished command: that of the abort that stopped it, or its own. -/
def State.endStatus (s : State) (c n : Nat) (k : TileCmd) (ab : Option Nat) : Nat :=
  ab.getD (k.status (mqCmd k.desc == 3 && s.fab.fails.any fun f => f.1 == .tile c n 2))

theorem completeTile_ends (hfree : TileFree s c n) (hk : (s.tile c n).eng e = some k) (hdone : k.done = true)
    (hall : k.need ≤ k.asked) (hx : s.entry c n k.ticket = some x)
    (hset : mqCmd k.desc = 3 → s.settled (.tile c n 2) = true) :
    ∃ s0, ReadsSame s s0 ∧ s.completeTile c n e =
      if s.endStatus c n k x.aborting = 1 then
        (s0.tileEnds c n e k x.aborting (s.endStatus c n k x.aborting)).bump (0x5100 + tileNo c n) 5 1 32
      else s0.tileEnds c n e k x.aborting (s.endStatus c n k x.aborting) := by
  have hr : k.ready = false := by simp [TileCmd.ready, hdone]
  have hsame := pumpTile_waits hfree hk (.inl hall) hr
  unfold State.completeTile
  generalize s.pumpTile c n e = s0 at hsame
  refine ⟨s0, hsame, ?_⟩
  have habort : s0.abortStatus c n k.ticket = x.aborting := by
    rw [State.abortStatus, entry_of_queue (hsame.queue c n), hx]
    rfl
  have hwait : (!k.done || !(mqCmd k.desc != 3 || s0.settled (.tile c n 2))) = false := by
    by_cases hstore : mqCmd k.desc = 3
    · rw [hsame.settled, hset hstore, hdone]
      simp
    · simp [hdone, hstore]
  simp only [hsame.tile c n, hk, habort]
  rw [hwait, if_neg Bool.false_ne_true, State.endStatus, ← hsame.fab, State.tileEnds, hsame.tile]
  rfl

/-- What a finished command leaves: its tile released, its entry completed, and the rest as it was. -/
theorem tileEnds_effects (ab : Option Nat) (st : Nat) (hx : s.entry c n k.ticket = some x) (hopen : x.compl = none) :
    let u := s.tileEnds c n e k ab st
    u.tile c n = (s.tile c n).released e k ab ∧ (u.entry c n k.ticket).bind QEntry.compl = some (st, 0)
      ∧ u.mgmt = s.mgmt ∧ TileOnly s u c n := by
  have hfail : ∃ fab, (if mqCmd k.desc = 3 then (s.takeFail (.tile c n 2)).1 else s) = { s with fab := fab } := by
    split
    · exact ⟨_, rfl⟩
    · exact ⟨s.fab, rfl⟩
  obtain ⟨fab, hfab⟩ := hfail
  unfold State.tileEnds
  rw [hfab]
  have honly : TileOnly s { s with fab := fab } c n := ⟨rfl, rfl, rfl, rfl, fun _ _ => ⟨rfl, rfl⟩, fun _ _ => rfl⟩
  have hset := setTile_only { s with fab := fab } c n ((s.tile c n).released e k ab)
  refine ⟨(tile_modEntry _ c n _ _ c n).trans (tile_setTile_same _ c n _), complete_entry ?_ hopen, rfl,
    (honly.trans hset).trans (modEntry_only _ c n _ _)⟩
  exact (entry_of_queue (queue_modTile _ c n _ c n)).trans hx

theorem released_keeps (ti : Tile) (e : TileEngine) (k : TileCmd) (ab : Option Nat) :
    (ti.released e k ab).eng e = none ∧ (∀ e', e' ≠ e → (ti.released e k ab).eng e' = ti.eng e')
      ∧ (ti.released e k ab).pbuf = ti.pbuf := by
  unfold Tile.released
  refine ⟨eng_setEng_same _ e none, fun e' he => ?_, (setEng_keeps _ e none).1.trans ?_⟩
  · rw [eng_setEng_ne _ he]
    split <;> rfl
  · split <;> rfl

theorem released_clears {ti : Tile} {ab : Option Nat} (hcmd : mqCmd k.desc = 3) (hclr : mqClrAfter k.desc = true)
    (hab : ab = none) : Tab.get {} (ti.released e k ab).cbuf (mqCbuf k.desc) = {} := by
  have hif : (decide (mqCmd k.desc = 3) && mqClrAfter k.desc && ab.isNone) = true := by simp [hcmd, hclr, hab]
  rw [Tile.released, hif, if_pos rfl, (setEng_keeps _ e none).2.1, Tab.get_set_same]

theorem released_cbuf {ti : Tile} {ab : Option Nat} (h : mqCmd k.desc ≠ 3 ∨ mqClrAfter k.desc = false ∨ ab ≠ none) :
    (ti.released e k ab).cbuf = ti.cbuf := by
  have hif : (decide (mqCmd k.desc = 3) && mqClrAfter k.desc && ab.isNone) = false := by
    obtain h | h | h := h
    · simp [h]
    · simp [h]
    · obtain ⟨a, rfl⟩ := Option.ne_none_iff_exists'.mp h
      simp
  rw [Tile.released, hif, if_neg Bool.false_ne_true, (setEng_keeps _ e none).2.1]

theorem ctr_bump32 (s : State) (i j : Nat) : (s.bump i j 1 32).ctr i j = (s.ctr i j + 1) % 2 ^ 32 := by
  have hlt : (s.ctr i j + 1) % 2 ^ 32 < 2 ^ 64 := (Nat.mod_lt _ (by decide)).trans (by decide)
  rw [State.bump, State.ctr_setCtr_same, wrapAdd, Nat.mod_eq_of_lt hlt]

theorem odKept_of_mgmt {u : State} (h : u.mgmt = s.mgmt) (ks : List Nat) : OdKept s u ks := by
  unfold OdKept
  rw [h]
  exact ⟨rfl, fun _ _ => rfl⟩

/-- What the completion of a tile command leaves. A POISONED one is counted. -/
theorem completeTile_effects (hfree : TileFree s c n) (hk : (s.tile c n).eng e = some k) (hdone : k.done = true)
    (hall : k.need ≤ k.asked) (hx : s.entry c n k.ticket = some x) (hopen : x.compl = none)
    (hset : mqCmd k.desc = 3 → s.settled (.tile c n 2) = true) {st : Nat} (hst : s.endStatus c n k x.aborting = st) :
    (s.completeTile c n e).tile c n = (s.tile c n).released e k x.aborting
      ∧ ((s.completeTile c n e).entry c n k.ticket).bind QEntry.compl = some (st, 0)
      ∧ (st = 1 → (s.completeTile c n e).ctr (0x5100 + tileNo c n) 5 = (s.ctr (0x5100 + tileNo c n) 5 + 1) % 2 ^ 32)
      ∧ OdKept s (s.completeTile c n e) (if st = 1 then [odKey (0x5100 + tileNo c n) 5] else [])
      ∧ TileOnly s (s.completeTile c n e) c n := by
  obtain ⟨s0, hsame, hend⟩ := completeTile_ends hfree hk hdone hall hx hset
  rw [hst] at hend
  have hx0 : s0.entry c n k.ticket = some x := (entry_of_queue (hsame.queue c n)).trans hx
  obtain ⟨htile, hentry, hmgmt, honly⟩ := tileEnds_effects (e := e) x.aborting st hx0 hopen
  rw [hend]
  generalize s0.tileEnds c n e k x.aborting st = t at htile hentry hmgmt honly
  rw [hsame.tile] at htile
  have hmgmt' : t.mgmt = s.mgmt := hmgmt.trans hsame.mgmt
  have honly' := (hsame.only c n).trans honly
  by_cases h1 : st = 1
  · rw [if_pos h1, if_pos h1]
    have hctr : t.ctr (0x5100 + tileNo c n) 5 = s.ctr (0x5100 + tileNo c n) 5 := by rw [State.ctr, hmgmt', State.ctr]
    exact ⟨htile, hentry, fun _ => by rw [ctr_bump32, hctr],
      (odKept_of_mgmt hmgmt' _).trans (.bump t List.mem_cons_self), honly'.trans (bump_only t c n _ 5 1 32)⟩
  · rw [if_neg h1, if_neg h1]
    exact ⟨htile, hentry, fun h => absurd h h1, odKept_of_mgmt hmgmt' _, honly'⟩

theorem exec_tileCmdComplete (hc : c < 48) (hn : n < 4) (hp : s.tilePresent (tileNo c n) = true)
    (hon : s.clusterOn c = true) : exec (.tileCmdComplete c n e) s = go s (s.completeTile c n e) :=
  ifUnit_when _ _ (by simp [hc, hn, hp]) hon

end Completion

/-- Settles O21: a start puts the command on its engine, which finds nothing in its stream, so that only a command without
lines goes on to its work; a completion takes its command off the engine and completes its entry. -/
theorem tileCommandsStartAndComplete : Obligations.TileCommandsStartAndComplete := by
  unfold Obligations.TileCommandsStartAndComplete
  refine ⟨fun p hp c t s x hc ht hpresent hon hnext hdisp hcmd hv hidle hclear hfree hnil => ?start,
    fun c t s x hc ht hpresent hon hnext he hdisp hcmd hidle hclear hfree hmma => ?refused,
    fun e c t s k x hc ht hpresent hon hk hdone hall he hopen hfree hset => ?complete⟩
  case start =>
    intro ti hmma
    have hx := (exec_tileRow hp s c t).trans (tileCmd_go hc ht hpresent hon p.1)
    obtain ⟨cmd, i⟩ := p
    obtain rfl : mqCmd x.desc = cmd := hcmd
    rw [startTile_takes hnext hdisp hidle hclear hfree hmma] at hx
    obtain ⟨hentries, -, -⟩ := nextFor_some hnext
    obtain ⟨cb, k, htile, hk, hdone, hcb, honly, hqueue⟩ := takes_pumped hfree hv hnil
    obtain ⟨heng, hothers, hunusable, hpbuf, hclears, hcbuf, hA, hB, hC⟩ := started_tile htile hcb
    refine honly.completes hx ⟨⟨k, heng, (congrArg TileCmd.ticket hk :), (congrArg TileCmd.desc hk :),
      (congrArg TileCmd.need hk :), (congrArg TileCmd.asked hk :), (congrArg TileCmd.out hk :), (congrArg TileCmd.got hk :),
      hdone⟩, hothers, ?_, hunusable, hpbuf, hclears, hcbuf, hA, hB, hC, honly.mem, honly.frame⟩
    exact (congrArg (Option.map QEntry.started) (entry_of_queue hqueue)).trans (takes_entry hentries)
  case refused =>
    have hx : exec (.mma c t) s = go s (s.startTile c t 1) := tileCmd_go hc ht hpresent hon 1
    obtain ⟨-, -, hopen⟩ := nextFor_some hnext
    rw [startTile_refuses hnext hdisp hcmd hidle hclear hmma] at hx
    have hsame := settleTile_free (hfree.complete x.ticket)
    have honly := (modEntry_only s c t x.ticket _).trans (hsame.only c t)
    have htile := (hsame.tile c t).trans (tile_complete s c t x.ticket 3 0 t)
    refine honly.completes hx ⟨?_, (congrArg (Tile.eng · .array) htile).trans hidle, congrArg Tile.cbuf htile, honly.mem,
      honly.frame⟩
    exact (congrArg (Option.bind · QEntry.compl) (entry_of_queue (hsame.queue c t))).trans
      (complete_entry he hopen)
  case complete =>
    have hx := exec_tileCmdComplete (e := e) hc ht hpresent hon
    obtain ⟨htile, hentry, hctr, hod, honly⟩ := completeTile_effects hfree hk hdone hall he hopen hset rfl
    obtain ⟨hidle, hothers, hpbuf⟩ := released_keeps (s.tile c t) e k x.aborting
    rw [← htile] at hidle hothers hpbuf
    refine honly.completes hx ⟨hidle, hothers, hentry, fun hcmd hclr hab => ?_, fun h => ?_, hpbuf, hctr, hod, honly.mem,
      honly.frame⟩
    · rw [htile, released_clears hcmd hclr hab]
    · rw [htile, released_cbuf h]

end Sys2Proof.Machine

/-! ## O22: a line returns to its tile engine; a granule of a transfer is stored -/

namespace Sys2Proof.Machine

/-! ### Lines of cluster SRAM (07 R236) -/

section Sram

variable {s : State} {c n : Nat} {w : Who}

theorem clearPool_none (s : State) (a : Agent) {used : Nat → Bool} (h : ∀ v, used v = false) :
    s.clearPool a used = s := by
  simp [State.clearPool, h]

/-- A line of cluster SRAM is read at once. -/
theorem fetchLines_sram (s : State) (w : Who) (a : Nat) :
    s.fetchLines w [⟨0, a⟩] = (s, some [(0, s.csLine w.c (a % 2 ^ 23))]) := by
  simp [State.fetchLines, State.readReady, State.readAll, State.readOne, clearPool_none]

theorem holdLines_sram (s : State) (w : Who) (lim a : Nat) :
    s.holdLines w lim [⟨0, a⟩] [] = (s, [((0, a), 0, s.csLine w.c (a % 2 ^ 23))]) := by
  simp [State.holdLines, State.readReady, State.readOne, Held.find, clearPool_none]

theorem storeLines_sram (s : State) (w : Who) (a : Nat) (d : Line) :
    s.storeLines w [{ x := ⟨0, a⟩, data := d }] = (s.csPut w.c (a % 2 ^ 23) d (BitVec.allOnes 64), some [0]) := by
  simp [State.storeLines, State.writeReady, State.writeAll, State.writeOne, clearPool_none]

end Sram

/-! ### A line returns to its tile engine -/

section Returned

variable {s : State} {c t n : Nat} {e : TileEngine} {k m : TileCmd} {r : LineReq}

/-- A command with one of its lines returned. -/
def TileCmd.receives (m : TileCmd) (n ord : Nat) (d : Line) : TileCmd :=
  { m with out := m.out.eraseIdx n, got := Tab.put m.got ord { data := d } }

theorem tileLine_sram (hm : (s.tile c t).eng e = some m) (hr : m.out[n]? = some r) (hspace : r.space = 0)
    (hscale : r.scale = none) : s.tileLine c t e n =
      s.modTile c t fun x => x.setEng e (some (m.receives n r.ord (s.csLine c (r.addr % 2 ^ 23)))) := by
  have hlines : r.scaleLines = [] := by rw [LineReq.scaleLines, hscale]
  have hof (rs : List (Nat × Line)) : r.scaleOf rs = none := by rw [LineReq.scaleOf, hscale]
  unfold State.tileLine
  simp only [hm, hr, hspace, hlines, List.map_nil, ite_self, fetchLines_sram, hof, hscale]
  simp [TileCmd.receives, State.tileWho]

/-- An engine whose command takes no line leaves it there; at most its work is done. -/
theorem pumpTile_engine (hfree : TileFree s c t) (hk : (s.tile c t).eng e = some k) (h : (s.tile c t).takesNone e k) :
    ∃ v : TileCmd, { v with done := k.done, poison := k.poison } = k ∧ ((s.pumpTile c t e).tile c t).eng e = some v
      ∧ (∀ e', e' ≠ e → ((s.pumpTile c t e).tile c t).eng e' = (s.tile c t).eng e')
      ∧ TileOnly s (s.pumpTile c t e) c t := by
  cases hr : k.ready with
  | false =>
    have hsame := pumpTile_waits hfree hk h hr
    rw [hsame.tile]
    exact ⟨k, rfl, hk, fun _ _ => rfl, hsame.only c t⟩
  | true =>
    obtain ⟨pb, cb, v, ⟨-, hv⟩, -, htile, honly, -, -⟩ := pumpTile_works hfree hk h hr
    rw [htile]
    refine ⟨v, hv, eng_setEng_same _ e _, fun e' he => (eng_setEng_ne _ he _).trans ?_, honly⟩
    cases e' <;> rfl

/-- A line that has returned stays with its command, which takes no other. -/
theorem received_effects {ord : Nat} {d : Line} (hnil : ((s.tile c t).str (streamOf e)).ents = [])
    (hfree : TileFree s c t) :
    let u := (s.modTile c t fun x => x.setEng e (some (m.receives n ord d))).pumpTile c t e
    ∃ v : TileCmd, { v with done := m.done, poison := m.poison } = m.receives n ord d ∧ (u.tile c t).eng e = some v
      ∧ (∀ e', e' ≠ e → (u.tile c t).eng e' = (s.tile c t).eng e') ∧ TileOnly s u c t := by
  have hset := modTile_only s c t fun x => x.setEng e (some (m.receives n ord d))
  have hfree' := hfree.modTile fun x => x.setEng e (some (m.receives n ord d))
  have htile := (tile_modTile s c t (fun x => x.setEng e (some (m.receives n ord d))) t).trans (if_pos rfl)
  generalize s.modTile c t _ = s1 at hset hfree' htile
  obtain ⟨v, hv, heng, hothers, hpump⟩ := pumpTile_engine (e := e) (k := m.receives n ord d) hfree'
    (by rw [htile, eng_setEng_same]) (.inr (by rw [htile, str_setEng, hnil]))
  refine ⟨v, hv, heng, fun e' he => ?_, hset.trans hpump⟩
  rw [hothers e' he, htile, eng_setEng_ne _ he]

end Returned

/-! ### Granules of a transfer (09 R306, R311) -/

section Granule

variable {s f g : State} {c n k : Nat} {r : LayRun} {dx : List Int} {srcs : List (List Int × Nat)}

/-- The transfer of a cluster is at `r`. -/
def State.setLay (s : State) (c : Nat) (r : LayRun) : State := s.modCluster c fun x => { x with lay := some r }

/-- The transfer once granule `k` is done: the engine issues another in its place. -/
def LayRun.after (r : LayRun) (k : Nat) : LayRun := LayRun.fill { r with out := r.out.filter (· != k) } 1

theorem modCluster_congr {F G : Cluster → Cluster} (h : F (s.cluster c) = G (s.cluster c)) :
    s.modCluster c F = s.modCluster c G := by
  rw [State.modCluster, h, State.modCluster]

/-- A granule whose destination is dropped ends without a write; it is only counted. -/
theorem moveGran_drops (hlay : (s.cluster c).lay = some r) (hout : r.out[n]? = some k) (hunit : unitOf r k = some (dx, srcs))
    (hdrop : r.dst.gran false r.blocks dx = .off ∨ r.dst.gran false r.blocks dx = .absent) :
    s.moveGran c n = (s.setLay c (r.after k)).bump (0x5300 + c) 5 := by
  have hset : s.setLay c (r.after k) = s.modCluster c fun x => { x with
      lay := x.lay.map fun r => LayRun.fill (id { r with out := r.out.filter (· != k) }) 1 } := by
    refine modCluster_congr ?_
    rw [hlay]
    rfl
  unfold State.moveGran
  simp only [hlay, hout, hunit]
  rw [hset]
  obtain h | h := hdrop
  · rw [h]
    rfl
  · rw [h]
    rfl

/-- A read leaves the clusters as they are. -/
theorem lineRead_clusters (s : State) (o : Origin) (cls : Option Nat) (lin : Nat) :
    (s.lineRead o cls lin).1.clusters = s.clusters := by
  unfold State.lineRead
  split
  · rfl
  · rename_i a _
    have hread := readCol_errOnly (s := (s.interleave a.loc.mbn).bump (0x3100 + 8 * a.loc.stk + a.port) 3) a
    refine (congrArg State.clusters hread.rest :).trans ?_
    unfold State.interleave
    dsimp only
    split
    · rfl
    · split <;> rfl

theorem readOne_clusters (s : State) (w : Who) (x : Place2) : (s.readOne w x).1.clusters = s.clusters := by
  have hlook : (s.pcacheLook (s.xlateDie w.c) w.p x.addr).clusters = s.clusters := by
    unfold State.pcacheLook
    split
    · rfl
    · dsimp only
      split <;> rfl
  unfold State.readOne
  split
  · rfl
  · dsimp only
    generalize s.pcacheLook (s.xlateDie w.c) w.p x.addr = t at hlook
    split
    · exact hlook
    · exact hlook
    · split
      · exact hlook
      · exact (lineRead_clusters t _ _ _).trans hlook
    · exact hlook

theorem find_append_ne {got : Held} {x y : Place2} (v : Nat × Line) (h : x ≠ y) :
    Held.find (got ++ [((y.space, y.addr), v)]) x = Held.find got x := by
  have hkey : ((y.space, y.addr) == (x.space, x.addr)) = false := by
    refine beq_eq_false_iff_ne.mpr fun he => h ?_
    obtain ⟨hspace, haddr⟩ := Prod.mk.inj he
    cases x
    cases y
    simp_all
  simp [Held.find, List.find?_append, hkey]

/-- Only the lines asked for are added to those that an engine keeps. -/
theorem holdLines_find {w : Who} {lim : Nat} {x : Place2} {xs : List Place2} (hx : x ∉ xs) (s : State) (got : Held) :
    (s.holdLines w lim xs got).2.find x = got.find x := by
  induction xs generalizing s got with
  | nil => rfl
  | cons y xs ih =>
    obtain ⟨hne, hxs⟩ := not_or.mp (mt List.mem_cons.mpr hx)
    unfold State.holdLines
    split
    · exact ih hxs s got
    split
    · exact (ih hxs _ _).trans (find_append_ne _ hne)
    · exact ih hxs _ got

/-- Lines that have all come were all read, and reads leave the clusters alone. -/
theorem holdLines_clusters {w : Who} {lim : Nat} {xs : List Place2} (hnd : xs.Nodup) {s : State} {got : Held}
    (hall : (s.holdLines w lim xs got).2.all xs = true) : (s.holdLines w lim xs got).1.clusters = s.clusters := by
  induction xs generalizing s got with
  | nil => rfl
  | cons x xs ih =>
    obtain ⟨hx, hxs⟩ := List.nodup_cons.mp hnd
    simp only [Held.all, List.all_cons, Bool.and_eq_true] at hall
    unfold State.holdLines at hall ⊢
    split at hall
    · rename_i hkept
      rw [if_pos hkept]
      exact ih hxs hall.2
    rename_i hkept
    rw [if_neg hkept]
    split at hall
    · rename_i hready
      rw [if_pos hready]
      exact (ih hxs hall.2).trans (readOne_clusters s w x)
    · rw [holdLines_find hx] at hall
      exact absurd hall.1 hkept

theorem noteMoved_unowned (h : ∀ r, (s.cluster c).lay = some r → r.src.own = none ∧ r.dst.own = none) (p : Nat) (src : Bool)
    (x : List Int) (loc : GranLoc) : s.noteMoved c p src x loc = s := by
  unfold State.noteMoved
  split
  · rfl
  · rename_i r hr
    obtain ⟨hsrc, hdst⟩ := h r hr
    have hown : (if src then r.src else r.dst).own = none := by
      split
      · exact hsrc
      · exact hdst
    simp only [hown]

theorem cluster_bump (s : State) (i j m w d : Nat) : (s.bump i j m w).cluster d = s.cluster d := rfl

/-- A granule is over: its bytes are counted, and the transfer is at `v`. -/
def State.granEnds (g : State) (c bytes : Nat) (v : LayRun) : State :=
  ((g.bump (0x5300 + c) 2 bytes).setLay c v).bump (0x5300 + c) 4 0

theorem granEnds_ctr (g : State) (c bytes : Nat) (v : LayRun) :
    (g.granEnds c bytes v).ctr (0x5300 + c) 2 = (g.ctr (0x5300 + c) 2 + bytes) % 2 ^ 64 :=
  (bump_ctr_ne _ (by unfold odKey; omega)).trans (ctr_bump g _ _ _)

theorem cluster_setLay (s : State) (c d : Nat) (r : LayRun) : (s.setLay c r).cluster d =
    if d = c then { s.cluster d with lay := some r } else s.cluster d :=
  cluster_modCluster s c d _

theorem granEnds_cluster (g : State) (c bytes : Nat) (v : LayRun) (d : Nat) : (g.granEnds c bytes v).cluster d =
    if d = c then { g.cluster d with lay := some v } else g.cluster d := by
  rw [State.granEnds, cluster_bump, cluster_setLay, cluster_bump]

theorem granEnds_keeps (g : State) (c bytes : Nat) (v : LayRun) :
    (g.granEnds c bytes v).mem = g.mem ∧ (g.granEnds c bytes v).fab = g.fab := ⟨rfl, rfl⟩

/-- A granule that is read or stored takes no fill. -/
theorem newFills_at (r : LayRun) (j : Nat) (x : List Int) (sp : Nat) (a : Int) (i : Nat) :
    r.newFills j [(x, .at_ sp a i)] = [] := by
  unfold LayRun.newFills
  split <;> rfl

/-- The transfer once the lines of granule `k` have been stored: the source lines `xs` of those that it kept are
forgotten, and poison and failed writes are noted. -/
def LayRun.stored (r : LayRun) (k : Nat) (got : Held) (xs : List Place2) (poison : Bool) (sts : List Nat) : LayRun :=
  LayRun.after { r with
    got := got.filter fun l => !xs.any fun x => l.1 == (x.space, x.addr)
    wfail := r.wfail || sts.any (· != 0)
    poison := r.poison || poison } k

/-- No block of a transfer without owner views moves, once its source lines have been read. -/
theorem held_noteMoved {w : Who} {lim : Nat} {xs : List Place2} {got : Held} (hlay : (s.cluster c).lay = some r)
    (hsrc : r.src.own = none) (hdst : r.dst.own = none) (hnd : xs.Nodup)
    (hheld : s.holdLines w lim ((xs.filter fun x => (r.got.find x).isNone).take r.lim) r.got = (f, got))
    (hall : got.all xs = true) {f0 : State}
    (hf0 : f0 = f.modCluster c fun x => { x with lay := x.lay.map fun r => { r with got := got } }) (p : Nat) (src : Bool)
    (x : List Int) (loc : GranLoc) : f0.noteMoved c p src x loc = f0 := by
  have hsub : got.all ((xs.filter fun x => (r.got.find x).isNone).take r.lim) = true :=
    List.all_eq_true.mpr fun x hx => List.all_eq_true.mp hall x (List.mem_of_mem_filter (List.mem_of_mem_take hx))
  have hclusters : f.clusters = s.clusters := by
    have hkept := holdLines_clusters (s := s) (w := w) (lim := lim) (got := r.got)
      ((hnd.filter fun x => (r.got.find x).isNone).sublist (List.take_sublist r.lim _))
    rw [hheld] at hkept
    exact hkept hsub
  refine noteMoved_unowned (fun v hv => ?_) p src x loc
  rw [hf0, cluster_modCluster, if_pos rfl, State.cluster, hclusters] at hv
  have hv' : ((s.cluster c).lay.map fun r : LayRun => { r with got := got }) = some v := hv
  rw [hlay] at hv'
  obtain rfl := Option.some.inj hv'
  exact ⟨hsrc, hdst⟩

/-- The one rule for a granule of class F without owner views: its lines are held, its writes are stored. -/
theorem moveGran_stores {sp gg p ssp sg : Nat} {a sa : Int} {sx : List Int} {got : Held} {ws : List LineW} {sts : List Nat}
    (hlay : (s.cluster c).lay = some r) (hout : r.out[n]? = some k) (hunit : unitOf r k = some (dx, [(sx, p)]))
    (hsrc : r.src.own = none) (hdst : r.dst.own = none) (hclass : classT r.desc = false)
    (hto : r.dst.gran false r.blocks dx = .at_ sp a gg) (hfrom : r.src.gran true r.blocks sx = .at_ ssp sa sg)
    {xs : List Place2} (hxs : xs = ((granLines r.src ssp sa sg).filterMap id).dedup)
    (hheld : s.holdLines (s.layWho c r.desc) 2048 ((xs.filter fun x => (r.got.find x).isNone).take r.lim) r.got = (f, got))
    (hall : got.all xs = true) {data : GranData}
    (hdata : data = srcGran r (xs.map fun x => (x, (got.find x).getD (0, 0))) (.at_ ssp sa sg))
    (hws : granWrites r.dst sp a gg data (if lqRed r.desc = 0 then none
        else some (lqRed r.desc - 1, if r.dst.fmt = 7 then 0 else if r.dst.fmt = 5 then 1 else 2)) = some ws)
    {f0 : State} (hf0 : f0 = f.modCluster c fun x => { x with lay := x.lay.map fun r => { r with got := got } })
    (hlim : r.dst.space = 0 ∨ f0.inFlight (s.layWho c r.desc).a + ws.length ≤ 2048)
    (hstored : f0.storeLines (s.layWho c r.desc) ws = (g, some sts))
    (hglay : (g.cluster c).lay = some { r with got := got }) :
    s.moveGran c n = g.granEnds c (f0.hereBytes (s.layWho c r.desc) ws sts) (r.stored k got xs data.poison sts) := by
  have hmoved := held_noteMoved hlay hsrc hdst (hxs ▸ List.nodup_dedup _) hheld hall hf0
  have hroom : (r.dst.space != 0 && decide (2048 < f0.inFlight (s.layWho c r.desc).a + ws.length)) = false := by
    obtain h | h := hlim
    · simp [h]
    · simp [h]
  have hoff : (GranLoc.at_ sp a gg == GranLoc.off || GranLoc.at_ sp a gg == GranLoc.absent) = false := rfl
  unfold State.moveGran
  simp only [hlay, hout, hunit, hto, List.map_cons, List.map_nil, hfrom, List.flatMap_cons,
    List.flatMap_nil, List.append_nil, ← hxs, hheld, hall, ← hf0, hoff, hsrc, List.filterMap_cons,
    List.filterMap_nil, List.zip_cons_cons, List.zip_nil_left, List.foldl_cons, List.foldl_nil, hclass,
    ← hdata, hmoved, List.headD_cons, Bool.false_eq_true, if_false, hws, hroom, hstored, newFills_at]
  rw [State.granEnds]
  refine congrArg (fun t : State => t.bump (0x5300 + c) 4 0) (modCluster_congr ?_)
  have hbump : ((g.bump (0x5300 + c) 2 (f0.hereBytes (s.layWho c r.desc) ws sts)).cluster c).lay =
      some { r with got := got } := hglay
  simp only [hbump, Option.map_some, hclass, Bool.false_eq_true, if_false]
  rfl

end Granule

/-! ### Bytes of cluster SRAM -/

section Bytes

variable {s : State} {c a : Nat}

theorem ofLeBytes_lt (bs : Bytes) : ofLeBytes bs < 2 ^ (8 * bs.length) := by
  induction bs with
  | nil => exact Nat.one_pos
  | cons b bs ih =>
    have hb := b.isLt
    have hpow : 2 ^ (8 * (b :: bs).length) = 256 * 2 ^ (8 * bs.length) := by
      rw [List.length_cons, Nat.mul_succ, Nat.pow_add, Nat.mul_comm]
    rw [hpow, ofLeBytes]
    omega

theorem ofLeBytes_byte (bs : Bytes) (i : Nat) : BitVec.ofNat 8 (ofLeBytes bs >>> (8 * i)) = bs.getD i 0 := by
  induction bs generalizing i with
  | nil => simp [ofLeBytes]
  | cons b bs ih =>
    cases i with
    | zero => simp [ofLeBytes, BitVec.ofNat_add, BitVec.ofNat_mul]
    | succ i =>
      have hshift : ofLeBytes (b :: bs) >>> (8 * (i + 1)) = ofLeBytes bs >>> (8 * i) := by
        have hb := b.isLt
        have hdiv : (b.toNat + 256 * ofLeBytes bs) / 2 ^ 8 = ofLeBytes bs := by omega
        rw [Nat.mul_succ, Nat.add_comm, Nat.shiftRight_add, ofLeBytes, Nat.shiftRight_eq_div_pow _ 8, hdiv]
      rw [hshift, ih, List.getD_cons_succ]

/-- A line of 64 bytes has those bytes. -/
theorem lineByte_lineOfBytes {bs : Bytes} (h : bs.length = 64) (i : Nat) :
    BitVec.ofNat 8 (lineByte (lineOfBytes bs) i) = bs.getD i 0 := by
  have hlt := ofLeBytes_lt bs
  have hbits : 8 * 64 = 512 := rfl
  rw [h, hbits] at hlt
  have hline : (lineOfBytes bs).toNat = ofLeBytes bs := by
    rw [lineOfBytes, BitVec.toNat_ofNat, Nat.mod_eq_of_lt hlt]
  have hwidth : 8 * i + 7 + 1 - 8 * i = 8 := by omega
  rw [lineByte, hline, nbits, hwidth, ← ofLeBytes_byte]
  exact BitVec.eq_of_toNat_eq (by simp)

theorem csLine_byte {i : Nat} (hi : i < 64) :
    BitVec.ofNat 8 (lineByte (s.csLine c a) i) = Tab.get 0 (s.cluster c).csram (a + i) := by
  rw [State.csLine, lineByte_lineOfBytes (by simp [sramGet, upTo]), sramGet]
  simp [upTo, hi]

/-- A whole line that is written has its 64 bytes, and every other byte stays. -/
theorem csPut_full (s : State) (c a : Nat) (d : Line) (x : Nat) :
    Tab.get 0 ((s.csPut c a d (BitVec.allOnes 64)).cluster c).csram x =
      if a ≤ x ∧ x < a + 64 then BitVec.ofNat 8 (lineByte d (x - a)) else Tab.get 0 (s.cluster c).csram x := by
  have hturn (t : Tab Byte) (i : Nat) (hi : i ∈ upTo 64) :
      Tab.get 0 (if (BitVec.allOnes 64).getLsbD i then Tab.set 0 t (a + i) (BitVec.ofNat 8 (lineByte d i)) else t) x =
        if i = (if a ≤ x then x - a else 64) then BitVec.ofNat 8 (lineByte d (x - a)) else Tab.get 0 t x := by
    have hlt : i < 64 := List.mem_range.mp hi
    rw [BitVec.getLsbD_allOnes, decide_eq_true hlt, if_pos rfl, Tab.get_set]
    by_cases hx : x = a + i
    · subst hx
      simp
    · rw [if_neg hx, if_neg (by split <;> omega)]
  rw [State.csPut, cluster_modCluster, if_pos rfl]
  refine (Tab.get_foldl_once (h := fun _ => BitVec.ofNat 8 (lineByte d (x - a))) List.nodup_range hturn _).trans ?_
  have hmem : ((if a ≤ x then x - a else 64) ∈ upTo 64) ↔ a ≤ x ∧ x < a + 64 := by
    refine List.mem_range.trans ?_
    split <;> omega
  exact if_congr hmem rfl rfl

end Bytes

/-! ### A granule copied within cluster SRAM (09 R291, R295) -/

section Copied

variable {s : State} {c n k : Nat} {r : LayRun} {dx : List Int}

theorem granLines_sram {v : LView} (hv : v.scaled = false) {a : Int} (h0 : 0 ≤ a) (h1 : a < 2 ^ 23) :
    granLines v 0 a 0 = [some ⟨0, a.toNat⟩] := by
  rw [granLines, hv, if_neg Bool.false_ne_true, granPlace, if_pos rfl, if_pos ⟨h0, h1⟩]

/-- The data of an unscaled granule that is one line. -/
def lineGran (d : Line) : GranData := { lines := [d], scales := [], poison := false }

theorem srcGran_sram (hv : r.src.scaled = false) {a : Int} (h0 : 0 ≤ a) (h1 : a < 2 ^ 23) (d : Line) :
    srcGran r [(⟨0, a.toNat⟩, 0, d)] (.at_ 0 a 0) = lineGran d := by
  simp [srcGran, granOf, granLines_sram hv h0 h1, hv, Lines.get, lineGran]

theorem granWrites_sram {v : LView} (hv : v.scaled = false) {b : Int} (h0 : 0 ≤ b) (h1 : b < 2 ^ 23) (d : Line) :
    granWrites v 0 b 0 (lineGran d) none = some [{ x := ⟨0, b.toNat⟩, data := d }] := by
  simp [granWrites, granLines_sram hv h0 h1, hv, lineGran]

theorem wholeLine_bytes {l : LineW} (h : l.mask = BitVec.allOnes 64) : l.bytes = 64 := by
  rw [LineW.bytes, h]
  decide

theorem hereBytes_sram (s : State) (w : Who) (a : Nat) (d : Line) :
    s.hereBytes w [{ x := ⟨0, a⟩, data := d }] [0] = 64 := by
  have hbytes : ({ x := ⟨0, a⟩, data := d } : LineW).bytes = 64 := wholeLine_bytes rfl
  simp only [State.hereBytes, List.zip_cons_cons, List.zip_nil_left, List.map_cons, List.map_nil, hbytes]
  rfl

theorem lim_succ (r : LayRun) : ∃ m, r.lim = m + 1 := by
  unfold LayRun.lim
  split
  · exact ⟨15, rfl⟩
  · exact ⟨2047, rfl⟩

theorem csPut_lay (s : State) (c a : Nat) (d : Line) (m : BitVec 64) :
    ((s.csPut c a d m).cluster c).lay = (s.cluster c).lay := by
  rw [State.csPut, cluster_modCluster, if_pos rfl]

/-- A transfer that kept no line keeps none once the line of a granule has been read and stored. -/
theorem stored_copied (hgot : r.got = []) (a : Nat) (l : Nat × Line) :
    r.stored k [((0, a), l)] [⟨0, a⟩] false [0] = r.after k := by
  have hsame : { r with got := [], wfail := r.wfail || false, poison := r.poison || false } = r := by
    rw [Bool.or_false, Bool.or_false, ← hgot]
  refine (congrArg (fun v : LayRun => v.after k) ?_ :).trans (congrArg (fun v : LayRun => v.after k) hsame)
  simp

/-- A line is written to cluster SRAM while the transfer is at `v`. -/
def State.putsLine (s : State) (c : Nat) (v : LayRun) (a : Nat) (d : Line) : State :=
  (s.setLay c v).csPut c a d (BitVec.allOnes 64)

/-- Only the transfer and the bytes of the line have changed. -/
theorem putsLine_keeps (s : State) (c : Nat) (v : LayRun) (a : Nat) (d : Line) : (s.putsLine c v a d).mem = s.mem
    ∧ (∀ i j, (s.putsLine c v a d).ctr i j = s.ctr i j)
    ∧ { (s.putsLine c v a d).cluster c with lay := (s.cluster c).lay, csram := (s.cluster c).csram } = s.cluster c
    ∧ ∀ e, e ≠ c → (s.putsLine c v a d).cluster e = s.cluster e := by
  refine ⟨rfl, fun _ _ => rfl, ?_, fun e he => ?_⟩
  · rw [State.putsLine, State.csPut, cluster_modCluster, if_pos rfl, cluster_setLay, if_pos rfl]
  · rw [State.putsLine, State.csPut, cluster_modCluster, if_neg he, cluster_setLay, if_neg he]

theorem putsLine_csram (s : State) (c : Nat) (v : LayRun) (a : Nat) (d : Line) (x : Nat) :
    Tab.get 0 ((s.putsLine c v a d).cluster c).csram x =
      if a ≤ x ∧ x < a + 64 then BitVec.ofNat 8 (lineByte d (x - a)) else Tab.get 0 (s.cluster c).csram x := by
  rw [State.putsLine, csPut_full, cluster_setLay, if_pos rfl]

/-- `moveGran_stores` where both arrays are unscaled and in cluster SRAM: one line in, one line out. -/
theorem moveGran_copies {p : Nat} {a b : Int} {sx : List Int} (hlay : (s.cluster c).lay = some r) (hout : r.out[n]? = some k)
    (hunit : unitOf r k = some (dx, [(sx, p)])) (hsrc : r.src.own = none) (hdst : r.dst.own = none)
    (hclass : classT r.desc = false) (hred : lqRed r.desc = 0) (hplain : r.src.scaled = false) (hplain' : r.dst.scaled = false)
    (hgot : r.got = []) (hfrom : r.src.gran true r.blocks sx = .at_ 0 a 0) (hto : r.dst.gran false r.blocks dx = .at_ 0 b 0)
    (hspace : r.dst.space = 0) (ha0 : 0 ≤ a) (ha1 : a < 2 ^ 23) (hb0 : 0 ≤ b) (hb1 : b < 2 ^ 23) :
    let line := s.csLine c a.toNat
    let got : Held := [((0, a.toNat), 0, line)]
    s.moveGran c n = (s.putsLine c { r with got := got } b.toNat line).granEnds c 64 (r.after k) := by
  intro line got
  have hamod : a.toNat % 2 ^ 23 = a.toNat := Nat.mod_eq_of_lt (by omega)
  have hbmod : b.toNat % 2 ^ 23 = b.toNat := Nat.mod_eq_of_lt (by omega)
  have hheld := holdLines_sram s (s.layWho c r.desc) 2048 a.toNat
  rw [hamod] at hheld
  have hstored := storeLines_sram (s.setLay c { r with got := got }) (s.layWho c r.desc) b.toNat line
  rw [hbmod] at hstored
  have hset : s.setLay c { r with got := got } =
      s.modCluster c fun x => { x with lay := x.lay.map fun r => { r with got := got } } := by
    refine modCluster_congr ?_
    rw [hlay]
    rfl
  have hlim : (([⟨0, a.toNat⟩] : List Place2).filter fun x => (r.got.find x).isNone).take r.lim =
      [⟨0, a.toNat⟩] := by
    obtain ⟨m, hm⟩ := lim_succ r
    simp [hgot, hm, Held.find]
  have hfind : got.find ⟨0, a.toNat⟩ = some (0, line) := by simp [got, Held.find]
  have hmoved := moveGran_stores (xs := [⟨0, a.toNat⟩]) (data := lineGran line) (got := got) hlay hout hunit hsrc hdst hclass hto
    hfrom (by rw [granLines_sram hplain ha0 ha1]; simp) (by rw [hlim, hgot]; exact hheld) (by simp [Held.all, hfind])
    (by rw [List.map_cons, List.map_nil, hfind, Option.getD_some, srcGran_sram hplain ha0 ha1])
    (by rw [hred, if_pos rfl, granWrites_sram hplain' hb0 hb1]) hset (.inl hspace) hstored
    ((csPut_lay _ c _ _ _).trans (by rw [cluster_setLay, if_pos rfl]))
  have hafter : r.stored k got [⟨0, a.toNat⟩] (lineGran line).poison [0] = r.after k := stored_copied hgot _ _
  rw [hereBytes_sram, hafter] at hmoved
  exact hmoved

end Copied

/-! ### The lines and granules of O22 -/

section Commands

variable {s : State} {c n : Nat}

theorem exec_tileResponse (hc : c < 48) (hon : s.clusterOn c = true) (e : TileEngine) (t : Nat) :
    exec (.lineResponse c (enginePort e t) n) s = go s ((s.tileLine c t e n).pumpTile c t e) := by
  cases e <;> exact ifUnit_when _ _ (decide_eq_true hc) hon

theorem exec_layoutResponse (hc : c < 48) (hon : s.clusterOn c = true) :
    exec (.lineResponse c .layout n) s = go s (s.moveGran c n) := ifUnit_when _ _ (decide_eq_true hc) hon

end Commands

/-- Settles O22: a line of cluster SRAM is read at once, after which its engine takes no further line; a granule without
owner views goes from its held lines to the writes that are stored, and a copy within cluster SRAM is such a granule. -/
theorem linesReturnToEngines : Obligations.LinesReturnToEngines := by
  unfold Obligations.LinesReturnToEngines
  refine ⟨fun e c t n s m r hc hon hm hr hspace hscale hdone hnil hfree => ?tile,
    fun c n k s r dx srcs hc hon hlay hout hunit => ⟨fun hdrop => ?dropped, ?copied, ?stored⟩⟩
  case tile =>
    have hx := exec_tileResponse (n := n) hc hon e t
    rw [tileLine_sram hm hr hspace hscale] at hx
    obtain ⟨v, hv, heng, hothers, honly⟩ := received_effects (m := m) hnil hfree (n := n) (ord := r.ord)
      (d := s.csLine c (r.addr % 2 ^ 23))
    generalize State.pumpTile _ c t e = u at hx heng hothers honly
    have hgot : v.got = Tab.put m.got r.ord { data := s.csLine c (r.addr % 2 ^ 23) } := (congrArg TileCmd.got hv :)
    refine honly.completes hx ⟨⟨v, heng, (congrArg TileCmd.out hv :), ?_, fun j hj => ?_, (congrArg TileCmd.ticket hv :),
      (congrArg TileCmd.desc hv :)⟩, hothers, (congrArg Cluster.csram honly.frame.1 :), honly.mem, honly.frame⟩
    · rw [hgot, Tab.find_put_same]
    · rw [hgot, Tab.find_put_ne _ _ hj]
  case dropped =>
    have hx := exec_layoutResponse (n := n) hc hon
    rw [moveGran_drops hlay hout hunit hdrop] at hx
    have hod : OdKept s ((s.setLay c (r.after k)).bump (0x5300 + c) 5) [odKey (0x5300 + c) 5] :=
      (odKept_of_mgmt (u := s.setLay c (r.after k)) rfl _).trans (.bump _ List.mem_cons_self)
    refine completes_kept hx rfl rfl ⟨?_, ctr_bump _ _ _ _, hod, rfl, ?_, fun d hd => ?_⟩
    · rw [cluster_bump, cluster_setLay, if_pos rfl]
      rfl
    · rw [cluster_bump, cluster_setLay, if_pos rfl]
    · rw [cluster_bump, cluster_setLay, if_neg hd]
  case copied =>
    intro p a b sx hsrc hdst hclass hred hplain hplain' hgot hsrcs hfrom hto hspace ha0 ha1 hb0 hb1
    subst hsrcs
    have hx := exec_layoutResponse (n := n) hc hon
    rw [moveGran_copies hlay hout hunit hsrc hdst hclass hred hplain hplain' hgot hfrom hto hspace ha0 ha1 hb0 hb1] at hx
    obtain ⟨hmem, hctr, hcluster, hothers⟩ :=
      putsLine_keeps s c { r with got := [((0, a.toNat), 0, s.csLine c a.toNat)] } b.toNat (s.csLine c a.toNat)
    have hsram := putsLine_csram s c { r with got := [((0, a.toNat), 0, s.csLine c a.toNat)] } b.toNat (s.csLine c a.toNat)
    generalize s.putsLine c _ _ _ = g at hx hmem hctr hcluster hothers hsram
    obtain ⟨hkept, -⟩ := granEnds_keeps g c 64 (r.after k)
    refine completes_go hx ⟨fun x => ?_, ?_, ?_, hkept.trans hmem, ?_, fun d hd => ?_⟩
    · rw [keep_cluster, granEnds_cluster, if_pos rfl]
      refine (hsram x).trans ?_
      have hrange : (b.toNat ≤ x ∧ x < b.toNat + 64) ↔ (b ≤ x ∧ (x : Int) < b + 64) := by omega
      by_cases h : b.toNat ≤ x ∧ x < b.toNat + 64
      · rw [if_pos h, if_pos (hrange.mp h), csLine_byte (by omega)]
      · rw [if_neg h, if_neg (mt hrange.mpr h)]
    · rw [keep_cluster, granEnds_cluster, if_pos rfl]
      rfl
    · rw [keep_ctr, granEnds_ctr, hctr]
    · rw [keep_cluster, granEnds_cluster, if_pos rfl]
      exact hcluster
    · rw [keep_cluster, granEnds_cluster, if_neg hd, hothers d hd]
  case stored =>
    intro sp gg p ssp sg a sa sx f g got ws sts hsrc hdst hclass hsrcs hto hfrom w xs hheld hall data hws f0 hlim hstored hg
    subst hsrcs
    have hx := exec_layoutResponse (n := n) hc hon
    rw [moveGran_stores hlay hout hunit hsrc hdst hclass hto hfrom rfl hheld hall rfl hws rfl hlim hstored hg] at hx
    obtain ⟨hmem, hfab⟩ := granEnds_keeps g c (f0.hereBytes w ws sts) (r.stored k got xs data.poison sts)
    refine completes_go hx ⟨hmem, hfab, ?_, granEnds_ctr _ _ _ _⟩
    rw [keep_cluster, granEnds_cluster, if_pos rfl]
    rfl

end Sys2Proof.Machine

/-! ## O24: a chain instruction runs, is refused, or completes -/

namespace Sys2Proof.Machine

/-! ### A chain instruction starts (08 R259, R265) -/

section ChainStart

variable {s b f g : State} {rs : List (Nat × Line)} {sts : List Nat} {c : Nat} {e : QEntry}

theorem exec_chainInstruction (hc : c < 48)
    (hnext : ((s.cluster c).queue 4).entries.find? (fun e => e.disp && !e.started && e.compl.isNone) = some e)
    (hon : s.clusterOn c = true) (hidle : (s.cluster c).vec = none) :
    exec (.chainInstruction c) s = go s (s.startChain c e) := by
  change execChainInstruction c s = _
  unfold execChainInstruction
  rw [hnext]
  exact ifUnit_when _ _ (decide_eq_true hc) (by rw [hon, hidle]; rfl)

/-- The state once a chain's source has given the draws of its `n` output elements, and these draws. -/
def State.chainDraws (f : State) (c : Nat) (k : Chain) (n : Nat) : State × List Nat :=
  let src := if k.rnd = 1 then f.vecSource c else (f, 0)
  let dr := if k.rnd = 1 then drawsFor n src.2 else ([], src.2)
  (if k.rnd = 1 then src.1.modCluster c fun x => { x with vecRnd := some dr.2 } else src.1, dr.1)

/-- The lines that a chain writes: its output and its statistics. -/
def chainWrites (d : List Word) (k : Chain) (v : VState) (draws : List Nat) : List LineW :=
  outWrites k (vqPlace d 5) (vqN d) (v.t.getD k.outSrc []) draws
    ++ (if k.statsEn then byteWrites (vqPlace d 6) v.stats else [])

/-- The status with which a chain will complete, from those of its writes and its output. -/
def chainStatus (sts : List Nat) (out : List VE) : Nat :=
  if sts.any (· != 0) then 5 else if out.any VE.p then 1 else 0

/-- A chain that has written its output is on the engine, and its instruction no longer waits. -/
def State.chainRuns (g : State) (c ticket st : Nat) : State :=
  (g.modEntry c 4 ticket fun x => { x with started := true }).modCluster c fun x =>
    { x with vec := some { ticket := ticket, status := st }, vecBlk := none }

/-- A valid chain whose lines can be read and whose writes can be taken runs within its start. -/
theorem startChain_runs (hb : (s.readBlock c e).1 = b) {k : Chain} (hk : Chain.ofBytes (s.readBlock c e).2 = k)
    (hok : chainOk e.desc k = true) (hfetch : b.fetchLines (b.vecWho c e.desc) (chainReads e.desc k) = (f, some rs))
    {i : VIn} (hi : chainIn b c e.desc k ((chainReads e.desc k).zip rs) = i) (hperm : permOk k i = true)
    {v : VState} (hv : runChain k i f.free = v)
    {r : State × List Nat} (hdraws : State.chainDraws { f with free := v.free } c k (vqN e.desc) = r)
    (hstore : r.1.storeLines (b.vecWho c e.desc) (chainWrites e.desc k v r.2) = (g, some sts)) :
    ∃ cost, s.startChain c e =
      ((g.chainRuns c e.ticket (chainStatus sts (v.t.getD k.outSrc []))).bump (0x5200 + c) 2 cost).bump
        (0x5200 + c) 4 v.empty := by
  have hread := congrArg Prod.snd hfetch
  obtain rfl := (congrArg Prod.fst hfetch :)
  subst hb hk hi hv hdraws
  unfold State.startChain
  extract_lets b s' d k w xs f'
  rw [if_neg (by simpa using hok)]
  split
  case h_1 h => cases hread.symm.trans h
  case h_2 rs' h =>
    obtain rfl := Option.some.inj (hread.symm.trans h)
    extract_lets i v s1 src dr out ws s2 g'
    rw [if_neg (by simpa using hperm)]
    have hg : g' = (g, some sts) := hstore
    clear_value g'
    subst hg
    exact ⟨_, rfl⟩

theorem startChain_refuses (hok : chainOk e.desc (Chain.ofBytes (s.readBlock c e).2) = false) :
    s.startChain c e = (s.readBlock c e).1.refuseChain c e := by
  unfold State.startChain
  simp only [hok, Bool.not_false, if_true]

theorem cluster_chainRuns (g : State) (c ticket st d : Nat) : (g.chainRuns c ticket st).cluster d =
    if d = c then { g.cluster d with
      queues := Tab.set {} (g.cluster d).queues 4
        (((g.cluster d).queue 4).modEntry ticket fun x => { x with started := true })
      vec := some { ticket := ticket, status := st }
      vecBlk := none } else g.cluster d := by
  rw [State.chainRuns, cluster_modCluster, cluster_modEntry]
  split <;> rfl

end ChainStart

/-! ### An instruction leaves the engine -/

section Leaves

variable {s : State} {c ticket : Nat} {f : Cluster → Cluster} {x : QEntry}

/-- The vector engine of a cluster gives an instruction up, with a change `f` of its own, and completes its entry. -/
def State.vecGivesUp (s : State) (fab : Fabric) (c : Nat) (f : Cluster → Cluster) (ticket st : Nat) : State :=
  (State.modCluster { s with fab := fab } c f).complete c 4 ticket st 0

theorem cluster_vecGivesUp (s : State) (fab : Fabric) (c : Nat) (f : Cluster → Cluster) (ticket st d : Nat) :
    (s.vecGivesUp fab c f ticket st).cluster d = if d = c then { f (s.cluster d) with
      queues := Tab.set {} (f (s.cluster d)).queues 4 (((f (s.cluster d)).queue 4).modEntry ticket fun x =>
        if x.compl.isSome then x else { x with compl := some (st, 0) }) } else s.cluster d := by
  have hchanged : (State.modCluster { s with fab := fab } c f).cluster d = if d = c then f (s.cluster d) else s.cluster d :=
    cluster_modCluster _ c d f
  rw [State.vecGivesUp, State.complete, cluster_modEntry, hchanged]
  split <;> rfl

theorem entry_vecGivesUp (hf : ∀ k, (f k).queues = k.queues) (hx : s.entry c 4 ticket = some x) (hopen : x.compl = none)
    (fab : Fabric) (st : Nat) :
    ((s.vecGivesUp fab c f ticket st).entry c 4 ticket).bind QEntry.compl = some (st, 0) := by
  refine complete_entry (e := x) ((entry_of_queue (s := s) ?_).trans hx) hopen
  rw [cluster_modCluster, if_pos rfl, Cluster.queue, hf]
  rfl

end Leaves

/-! ### An invalid instruction (08 R267) -/

section Refused

variable {s : State} {c : Nat} {e : QEntry}

/-- Only the chain block that the engine of a cluster keeps has changed. -/
structure BlockOnly (s t : State) (c : Nat) : Prop where
  rest : { t with clusters := s.clusters } = s
  own : { t.cluster c with vecBlk := (s.cluster c).vecBlk } = s.cluster c
  others : ∀ d, d ≠ c → t.cluster d = s.cluster d

theorem modCluster_vecBlk (s : State) (c : Nat) (v : Option (Nat × Bytes)) :
    BlockOnly s (s.modCluster c fun k => { k with vecBlk := v }) c where
  rest := rfl
  own := by rw [cluster_modCluster, if_pos rfl]
  others d hd := (cluster_modCluster s c d _).trans (if_neg hd)

theorem readBlock_only (s : State) (c : Nat) (e : QEntry) : BlockOnly s (s.readBlock c e).1 c := by
  unfold State.readBlock
  split
  · split
    · exact ⟨rfl, rfl, fun _ _ => rfl⟩
    · exact modCluster_vecBlk s c _
  · exact modCluster_vecBlk s c _

theorem refuseChain_givesUp (s : State) (c : Nat) (e : QEntry) : ∃ fab : Fabric, s.refuseChain c e =
    (s.vecGivesUp fab c (fun k => { k with vecBlk := none }) e.ticket 3).bump (0x5200 + c) 1 := by
  obtain ⟨fab, hleft⟩ : ∃ fab : Fabric, (s.endWait c).clearPool (.vec c) (fun _ => true) =
      State.modCluster { s with fab := fab } c fun k => { k with vecBlk := none } :=
    ⟨((s.endWait c).clearPool (.vec c) fun _ => true).fab, rfl⟩
  exact ⟨fab, by rw [State.refuseChain, hleft, State.vecGivesUp]⟩

/-- What the refusal of an invalid instruction leaves, once its chain block has been read. -/
theorem refused_effects (he : s.entry c 4 e.ticket = some e) (hopen : e.compl = none) :
    let u := (s.readBlock c e).1.refuseChain c e
    (u.cluster c).vec = (s.cluster c).vec ∧ (u.entry c 4 e.ticket).bind QEntry.compl = some (3, 0)
      ∧ u.ctr (0x5200 + c) 1 = (s.ctr (0x5200 + c) 1 + 1) % 2 ^ 64 ∧ u.mem = s.mem
      ∧ (u.cluster c).csram = (s.cluster c).csram ∧ ∀ d, d ≠ c → u.cluster d = s.cluster d := by
  obtain ⟨hrest, hown, hothers⟩ := readBlock_only s c e
  generalize (s.readBlock c e).1 = b at hrest hown hothers
  obtain ⟨fab, hgives⟩ := refuseChain_givesUp b c e
  have hqueue : (b.cluster c).queue 4 = (s.cluster c).queue 4 := (congrArg (Cluster.queue · 4) hown :)
  have hctr : b.ctr (0x5200 + c) 1 = s.ctr (0x5200 + c) 1 := (congrArg (State.ctr · (0x5200 + c) 1) hrest :)
  rw [hgives]
  refine ⟨?_, ?_, (ctr_bump _ _ _ _).trans (by rw [← hctr]; rfl), (congrArg State.mem hrest :), ?_, fun d hd => ?_⟩
  · rw [cluster_bump, cluster_vecGivesUp, if_pos rfl]
    exact (congrArg Cluster.vec hown :)
  · exact entry_vecGivesUp (f := fun k => { k with vecBlk := none }) (fun _ => rfl)
      ((entry_of_queue hqueue).trans he) hopen fab 3
  · rw [cluster_bump, cluster_vecGivesUp, if_pos rfl]
    exact (congrArg Cluster.csram hown :)
  · rw [cluster_bump, cluster_vecGivesUp, if_neg hd, hothers d hd]

end Refused

/-! ### A chain completes (08 R281, R285) -/

section Completed

variable {s : State} {c : Nat} {v : VecRun} {x : QEntry}

/-- The status with which a chain completes: that of the abort that stopped it, a failed write's, or its own. -/
def State.chainEndStatus (s : State) (c : Nat) (v : VecRun) (x : QEntry) : Nat :=
  x.aborting.getD (if s.fab.fails.any (fun f => f.1 == .vec c) then 5 else v.status)

/-- A finished chain leaves the engine; the marks of its failed writes are taken off. -/
def State.chainEnds (s : State) (c ticket st : Nat) : State :=
  s.vecGivesUp (s.takeFail (.vec c)).1.fab c (fun k => { k with vec := none }) ticket st

/-- What is counted of a completed chain: that it is POISONED, and that it was not stopped. -/
def State.chainCounted (s : State) (c st : Nat) (stopped : Bool) : State :=
  let s2 := if st = 1 then s.bump (0x5200 + c) 5 1 32 else s
  if stopped then s2 else s2.bump (0x5200 + c) 1

theorem exec_chainComplete (hc : c < 48) (hv : (s.cluster c).vec = some v) (hset : s.settled (.vec c) = true)
    (hx : s.entry c 4 v.ticket = some x) : exec (.chainComplete c) s =
      go s ((s.chainEnds c v.ticket (s.chainEndStatus c v x)).chainCounted c (s.chainEndStatus c v x)
        x.aborting.isSome) := by
  have habort : s.abortStatus c 4 v.ticket = x.aborting := by
    rw [State.abortStatus, hx]
    rfl
  change execChainComplete c s = _
  unfold execChainComplete
  simp only [hv, hset, habort]
  rw [decide_eq_true hc]
  rfl

theorem chainEnds_effects (hx : s.entry c 4 v.ticket = some x) (hopen : x.compl = none) (st : Nat) :
    let u := s.chainEnds c v.ticket st
    (u.cluster c).vec = none ∧ (u.entry c 4 v.ticket).bind QEntry.compl = some (st, 0)
      ∧ u.mem = s.mem ∧ u.mgmt = s.mgmt
      ∧ { u.cluster c with vec := (s.cluster c).vec, queues := (s.cluster c).queues } = s.cluster c
      ∧ ∀ d, d ≠ c → u.cluster d = s.cluster d := by
  have hcluster := cluster_vecGivesUp s (s.takeFail (.vec c)).1.fab c (fun k => { k with vec := none }) v.ticket st
  refine ⟨?_, entry_vecGivesUp (f := fun k => { k with vec := none }) (fun _ => rfl) hx hopen _ st, rfl, rfl, ?_,
    fun d hd => ?_⟩
  · rw [State.chainEnds, hcluster, if_pos rfl]
  · rw [State.chainEnds, hcluster, if_pos rfl]
  · rw [State.chainEnds, hcluster, if_neg hd]

/-- Counting changes two counters of the engine alone. -/
theorem chainCounted_keeps (s : State) (c st : Nat) (stopped : Bool) :
    { s.chainCounted c st stopped with mgmt := s.mgmt } = s
      ∧ OdKept s (s.chainCounted c st stopped) [odKey (0x5200 + c) 1, odKey (0x5200 + c) 5] := by
  have hpoisoned : ∃ m, (if st = 1 then s.bump (0x5200 + c) 5 1 32 else s) = { s with mgmt := m } ∧
      OdKept s { s with mgmt := m } [odKey (0x5200 + c) 1, odKey (0x5200 + c) 5] := by
    split
    · exact ⟨_, rfl, .bump s (by simp)⟩
    · exact ⟨s.mgmt, rfl, odKept_of_mgmt rfl _⟩
  obtain ⟨m, hm, hod⟩ := hpoisoned
  unfold State.chainCounted
  rw [hm]
  cases stopped with
  | true => exact ⟨rfl, hod⟩
  | false => exact ⟨rfl, hod.trans (.bump _ (by simp))⟩

theorem odKey_instrs_ne_poisoned (c : Nat) : odKey (0x5200 + c) 1 ≠ odKey (0x5200 + c) 5 := by
  unfold odKey
  omega

theorem chainCounted_instrs (s : State) (c st : Nat) :
    (s.chainCounted c st false).ctr (0x5200 + c) 1 = (s.ctr (0x5200 + c) 1 + 1) % 2 ^ 64 := by
  refine (ctr_bump _ _ _ _).trans ?_
  split
  · rw [bump_ctr_ne _ (odKey_instrs_ne_poisoned c)]
  · rfl

theorem chainCounted_poisoned {st : Nat} (h : st = 1) (s : State) (c : Nat) (stopped : Bool) :
    (s.chainCounted c st stopped).ctr (0x5200 + c) 5 = (s.ctr (0x5200 + c) 5 + 1) % 2 ^ 32 := by
  subst h
  cases stopped with
  | true => exact ctr_bump32 s _ _
  | false => exact (bump_ctr_ne _ (odKey_instrs_ne_poisoned c).symm).trans (ctr_bump32 s _ _)

end Completed

/-- Settles O24: a started chain is the branch of a start in which its lines are read and its writes are taken; an invalid
one is refused; a completion takes the chain off its engine, completes its entry, and is counted. -/
theorem chainsRunAndComplete : Obligations.ChainsRunAndComplete := by
  unfold Obligations.ChainsRunAndComplete
  refine ⟨fun c s e hc hnext hon hidle => ⟨?runs, ?refused⟩, fun c s v x hc hv hset he hopen => ?complete⟩
  case runs =>
    intro f g rs sts hok hfetch i v s1 src dr s2 hperm hstore
    have hx := exec_chainInstruction hc hnext hon hidle
    obtain ⟨cost, hruns⟩ := startChain_runs rfl rfl hok hfetch rfl hperm rfl rfl hstore
    rw [hruns] at hx
    refine completes_go hx ⟨?_, ?_, rfl, rfl, ?_, fun d hd => ?_⟩
    all_goals rw [keep_cluster, cluster_bump, cluster_bump, cluster_chainRuns]
    · rw [if_pos rfl]
      rfl
    · rw [if_pos rfl]
    · rw [if_pos rfl]
    · rw [if_neg hd]
  case refused =>
    intro hbad he
    have hx := exec_chainInstruction hc hnext hon hidle
    have hopen : e.compl = none := by
      have hwaits := List.find?_some hnext
      simp only [Bool.and_eq_true, Option.isNone_iff_eq_none] at hwaits
      exact hwaits.2
    rw [startChain_refuses hbad] at hx
    obtain ⟨hvec, heffects⟩ := refused_effects he hopen
    exact completes_go hx ⟨hvec.trans hidle, heffects⟩
  case complete =>
    have hx := exec_chainComplete hc hv hset he
    obtain ⟨hvec, hentry, hmem, hmgmt, hown, hothers⟩ := chainEnds_effects he hopen (s.chainEndStatus c v x)
    generalize s.chainEnds c v.ticket _ = t at hx hvec hentry hmem hmgmt hown hothers
    obtain ⟨hrest, hod⟩ := chainCounted_keeps t c (s.chainEndStatus c v x) x.aborting.isSome
    have hctr (i j : Nat) : t.ctr i j = s.ctr i j := by rw [State.ctr, hmgmt, State.ctr]
    generalize hu : t.chainCounted c _ _ = u at hx hrest hod
    have hcluster (d : Nat) : u.cluster d = t.cluster d := (congrArg (State.cluster · d) hrest :)
    refine completes_go hx ⟨?_, ?_, fun hgoes => ?_, fun hpoisoned => ?_, (odKept_of_mgmt hmgmt _).trans hod,
      (congrArg State.mem hrest :).trans hmem, ?_, fun d hd => (hcluster d).trans (hothers d hd)⟩
    · rw [keep_cluster, hcluster, hvec]
    · refine (congrArg (Option.bind · QEntry.compl) ?_).trans hentry
      exact entry_of_queue (congrArg (Cluster.queue · 4) (hcluster c))
    · rw [keep_ctr, ← hu, hgoes, ← hctr]
      exact chainCounted_instrs t c _
    · rw [keep_ctr, ← hu, ← hctr]
      exact chainCounted_poisoned hpoisoned t c _
    · rw [keep_cluster, hcluster, hown]

end Sys2Proof.Machine

/-! ## O25: a layout transfer starts, is refused, or completes -/

namespace Sys2Proof.Machine

/-! ### An engine lets an entry of its queue go -/

section LetsGo

variable {s : State} {c q ticket : Nat} {F : Cluster → Cluster} {x : QEntry}

/-- An engine of a cluster, changed by `F`, lets an entry of its queue go, which completes with a status. -/
def State.letsGo (s : State) (fab : Fabric) (c q : Nat) (F : Cluster → Cluster) (ticket st : Nat) : State :=
  (State.modCluster { s with fab := fab } c F).complete c q ticket st 0

/-- The entry is completed, and but for `F` nothing else has changed in the cluster. -/
theorem letsGo_effects (hF : ∀ k, (F k).queues = k.queues) (hx : s.entry c q ticket = some x) (hopen : x.compl = none)
    (fab : Fabric) (st : Nat) :
    let u := s.letsGo fab c q F ticket st
    (u.entry c q ticket).bind QEntry.compl = some (st, 0) ∧ u.mem = s.mem ∧ u.mgmt = s.mgmt
      ∧ { u.cluster c with queues := (s.cluster c).queues } = F (s.cluster c)
      ∧ ∀ d, d ≠ c → u.cluster d = s.cluster d := by
  have hchanged (d : Nat) : (State.modCluster { s with fab := fab } c F).cluster d =
      if d = c then F (s.cluster d) else s.cluster d := cluster_modCluster _ c d F
  refine ⟨complete_entry (e := x) ((entry_of_queue ?_).trans hx) hopen, rfl, rfl, ?_, fun d hd => ?_⟩
  · rw [hchanged, if_pos rfl, Cluster.queue, hF, Cluster.queue]
  · rw [State.letsGo, State.complete, cluster_modEntry, if_pos rfl, hchanged, if_pos rfl]
    exact congrArg (fun qs => { F (s.cluster c) with queues := qs }) (hF (s.cluster c)).symm
  · rw [State.letsGo, State.complete, cluster_modEntry, if_neg hd, hchanged, if_neg hd]

end LetsGo

/-! ### Counters that count only sometimes -/

section CountedIf

variable {i j k l w : Nat}

/-- Count once if `p` holds. -/
def State.bumpIf (s : State) (p : Bool) (i j w : Nat) : State := if p then s.bump i j 1 w else s

theorem bumpIf_not (s : State) (p : Bool) : s.bumpIf (!p) i j w = if p then s else s.bump i j 1 w := by
  cases p <;> rfl

theorem bumpIf_decide (s : State) (p : Prop) [Decidable p] :
    s.bumpIf (decide p) i j w = if p then s.bump i j 1 w else s := by
  simp only [State.bumpIf, decide_eq_true_eq]

/-- Only the counter can have changed. -/
theorem bumpIf_keeps (s : State) (p : Bool) {ks : List Nat} (h : odKey i j ∈ ks) :
    { s.bumpIf p i j w with mgmt := s.mgmt } = s ∧ OdKept s (s.bumpIf p i j w) ks := by
  cases p with
  | true => exact ⟨rfl, .bump s h⟩
  | false => exact ⟨rfl, .refl s ks⟩

theorem bumpIf_ctr_ne (s : State) (p : Bool) (h : odKey k l ≠ odKey i j) :
    (s.bumpIf p i j w).ctr k l = s.ctr k l := by
  cases p with
  | true => exact bump_ctr_ne s h
  | false => rfl

end CountedIf

/-! ### A transfer starts (09 R286, R287) -/

section TransferStart

variable {s o f : State} {c : Nat} {e : QEntry} {b : LayStart} {h h' : Held} {ts : List (Option OwnTab)}

theorem exec_layoutRow {p : Nat × (Nat → Instr)} (hp : p ∈ layoutRows) (s : State) (c : Nat) :
    exec (p.2 c) s = s.layoutCmd c p.1 := by
  simp only [layoutRows, List.mem_cons, List.not_mem_nil, or_false] at hp
  obtain rfl | rfl | rfl := hp <;> rfl

theorem exec_layoutRow_starts {p : Nat × (Nat → Instr)} (hp : p ∈ layoutRows) (hc : c < 48)
    (hnext : ((s.cluster c).queue 5).entries.find? (fun e => e.disp && !e.started && e.compl.isNone) = some e)
    (hon : s.clusterOn c = true) (hidle : (s.cluster c).lay = none)
    (hmode : lqMode e.desc = p.1 ∨ (lqMode e.desc = 3 ∧ p.1 = 0)) :
    exec (p.2 c) s = go s (s.startLayout c e) := by
  rw [exec_layoutRow hp, State.layoutCmd, hnext]
  exact ifUnit_when _ _ (decide_eq_true hc) (by simpa [hon, hidle] using hmode)

/-- The next entry of the queue has not completed. -/
theorem compl_of_next {es : List QEntry} (hnext : es.find? (fun e => e.disp && !e.started && e.compl.isNone) = some e) :
    e.compl = none := by
  have hwaits := List.find?_some hnext
  simp only [Bool.and_eq_true, Option.isNone_iff_eq_none] at hwaits
  exact hwaits.2

/-- The lines of a transfer's coordinate list that can be asked for. -/
def listReads (d : List Word) : List Place2 :=
  (if lqMode d = 0 then [] else listLines d).filter fun x => x.space == 1 || decide (x.addr < 2 ^ 23)

/-- A transfer as it begins, from its views, the owner tables of these and its list. -/
def LayStart.run (b : LayStart) (e : QEntry) (ts : List (Option OwnTab)) (list : List (Option (List Int)))
    (poison : Bool) : LayRun where
  ticket := e.ticket
  desc := e.desc
  src := { LView.ofBytes b.src with own := ts.getD 0 none }
  dst := { LView.ofBytes b.dst with own := ts.getD 1 none }
  list := list
  poison := poison

/-- Issuing granules changes what is issued and outstanding alone. -/
theorem fill_keeps (r : LayRun) (n : Nat) : { r.fill n with next := r.next, out := r.out } = r := by
  induction n generalizing r with
  | zero => rfl
  | succ n ih =>
    unfold LayRun.fill
    split
    · rfl
    · exact congrArg (fun v : LayRun => { v with next := r.next, out := r.out })
        (ih { r with out := r.out ++ [r.next], next := r.next + 1 })

/-- The transfer `r` is on the engine, and its entry no longer waits. -/
def State.layRuns (f : State) (c ticket : Nat) (r : LayRun) : State :=
  (f.modEntry c 5 ticket fun x => { x with started := true }).modCluster c fun k =>
    { k with lay := some r, layStart := none }

theorem cluster_layRuns (f : State) (c ticket : Nat) (r : LayRun) (d : Nat) : (f.layRuns c ticket r).cluster d =
    if d = c then { f.cluster d with
      queues := Tab.set {} (f.cluster d).queues 5
        (((f.cluster d).queue 5).modEntry ticket fun x => { x with started := true })
      lay := some r
      layStart := none } else f.cluster d := by
  rw [State.layRuns, cluster_modCluster, cluster_modEntry]
  split <;> rfl

/-- A valid transfer whose owner tables and list have been read is put on the engine, which issues its first
granules; bad list entries are counted, and poison it. -/
theorem startLayout_runs (hb : s.layBegin c e = b) (hok : lqOk e.desc b.src b.dst = true)
    (howners : s.readOwners (s.layWho c e.desc) [LView.ofBytes b.src, LView.ofBytes b.dst] b.got = (o, h, some (some ts)))
    (hlist : o.holdLines (s.layWho c e.desc) (if lqListSpace e.desc = 0 then 16 else 2048) (listReads e.desc) h = (f, h'))
    (hall : h'.all (listReads e.desc) = true) :
    ∃ list bad, list.length = lqCount e.desc ∧ s.startLayout c e =
      (f.layRuns c e.ticket ((b.run e ts list (decide (0 < bad))).fill 2048)).bump (0x5300 + c) 8 bad 32 := by
  subst hb
  unfold State.startLayout
  extract_lets d b w vs vd o' xs ok f' ents
  rw [if_neg (by simpa using hok)]
  have ho : o' = (o, h, some (some ts)) := howners
  clear_value o'
  subst ho
  have hf : f' = (f, h') := hlist
  clear_value f'
  subst hf
  have hlen : (ents.map Prod.fst).length = lqCount e.desc := by
    rw [List.length_map, List.length_map]
    exact List.length_range
  clear_value ents
  have hread : h'.all ok = true := hall
  dsimp only
  rw [hread, Bool.not_true, if_neg Bool.false_ne_true]
  exact ⟨ents.map Prod.fst, _, hlen, rfl⟩

theorem startLayout_refuses (hbad : lqOk e.desc (s.layBegin c e).src (s.layBegin c e).dst = false) :
    s.startLayout c e = s.refuseLayout c e := by
  unfold State.startLayout
  simp only [hbad, Bool.not_false, if_true]

end TransferStart

/-! ### An invalid transfer (09 R324) -/

section Refused

variable {s : State} {c : Nat} {e : QEntry}

theorem refuseLayout_letsGo (s : State) (c : Nat) (e : QEntry) : ∃ fab : Fabric, s.refuseLayout c e =
    (s.letsGo fab c 5 (fun k => { k with layStart := none }) e.ticket 3).bump (0x5300 + c) 1 :=
  ⟨((s.setLayStart c none).clearPool (.lay c) fun _ => true).fab, rfl⟩

/-- What the refusal of an invalid transfer leaves. -/
theorem refuseLayout_effects (he : s.entry c 5 e.ticket = some e) (hopen : e.compl = none) :
    let u := s.refuseLayout c e
    (u.cluster c).lay = (s.cluster c).lay ∧ (u.entry c 5 e.ticket).bind QEntry.compl = some (3, 0)
      ∧ u.ctr (0x5300 + c) 1 = (s.ctr (0x5300 + c) 1 + 1) % 2 ^ 64 ∧ u.mem = s.mem
      ∧ (u.cluster c).csram = (s.cluster c).csram ∧ ∀ d, d ≠ c → u.cluster d = s.cluster d := by
  obtain ⟨fab, hgo⟩ := refuseLayout_letsGo s c e
  obtain ⟨hentry, hmem, hmgmt, hown, hothers⟩ :=
    letsGo_effects (F := fun k => { k with layStart := none }) (fun _ => rfl) he hopen fab 3
  rw [hgo]
  refine ⟨(congrArg Cluster.lay hown :), hentry, ?_, hmem, (congrArg Cluster.csram hown :), hothers⟩
  rw [ctr_bump, State.ctr, hmgmt, State.ctr]

end Refused

/-! ### A transfer completes (09 R322, R325) -/

section Completed

variable {s : State} {c : Nat} {r : LayRun} {x : QEntry}

/-- The status with which a transfer completes: that of the abort that stopped it, a failed write's, or its own. -/
def State.layEndStatus (s : State) (c : Nat) (r : LayRun) (x : QEntry) : Nat :=
  x.aborting.getD (if r.wfail || s.fab.fails.any (fun f => f.1 == .lay c) then 5 else if r.poison then 1 else 0)

/-- A finished transfer leaves the engine; the marks of its failed writes are taken off. -/
def State.layEnds (s : State) (c ticket st : Nat) : State :=
  s.letsGo (s.takeFail (.lay c)).1.fab c 5 (fun k => { k with lay := none }) ticket st

/-- What is counted of a completed transfer: that it was not stopped, and that it is POISONED. -/
def State.layCounted (s : State) (c st : Nat) (stopped : Bool) : State :=
  (s.bumpIf (!stopped) (0x5300 + c) 1 64).bumpIf (decide (st = 1)) (0x5300 + c) 9 32

theorem exec_transferComplete (hc : c < 48) (hr : (s.cluster c).lay = some r) (hmoved : r.total ≤ r.next)
    (hout : r.out = []) (hset : s.settled (.lay c) = true) (hx : s.entry c 5 r.ticket = some x) :
    exec (.transferComplete c) s = go s ((s.layEnds c r.ticket (s.layEndStatus c r x)).layCounted c
      (s.layEndStatus c r x) x.aborting.isSome) := by
  have habort : s.abortStatus c 5 r.ticket = x.aborting := by
    rw [State.abortStatus, hx]
    rfl
  have hdone : (decide (r.next < r.total) || r.out != [] || !s.settled (.lay c)) = false := by
    simp [Nat.not_lt.mpr hmoved, hout, hset]
  change execTransferComplete c s = _
  unfold execTransferComplete
  simp only [hr, habort]
  rw [decide_eq_true hc, hdone, ifUnit_true, if_neg Bool.false_ne_true]
  rw [State.layCounted, bumpIf_decide, bumpIf_not]
  rfl

/-- Counting changes two counters of the engine alone. -/
theorem layCounted_keeps (s : State) (c st : Nat) (stopped : Bool) :
    { s.layCounted c st stopped with mgmt := s.mgmt } = s
      ∧ OdKept s (s.layCounted c st stopped) [odKey (0x5300 + c) 1, odKey (0x5300 + c) 9] := by
  obtain ⟨hrest, hod⟩ := bumpIf_keeps (i := 0x5300 + c) (j := 1) (w := 64) s (!stopped)
    (ks := [odKey (0x5300 + c) 1, odKey (0x5300 + c) 9]) (by simp)
  obtain ⟨hrest', hod'⟩ := bumpIf_keeps (i := 0x5300 + c) (j := 9) (w := 32) (s.bumpIf (!stopped) (0x5300 + c) 1 64)
    (decide (st = 1)) (ks := [odKey (0x5300 + c) 1, odKey (0x5300 + c) 9]) (by simp)
  exact ⟨(congrArg (fun t : State => { t with mgmt := s.mgmt }) hrest').trans hrest, hod.trans hod'⟩

theorem odKey_transfers_ne_poisoned (c : Nat) : odKey (0x5300 + c) 1 ≠ odKey (0x5300 + c) 9 := by
  unfold odKey
  omega

theorem layCounted_transfers (s : State) (c st : Nat) :
    (s.layCounted c st false).ctr (0x5300 + c) 1 = (s.ctr (0x5300 + c) 1 + 1) % 2 ^ 64 :=
  (bumpIf_ctr_ne _ _ (odKey_transfers_ne_poisoned c)).trans (ctr_bump s _ _ _)

theorem layCounted_poisoned (s : State) (c : Nat) (stopped : Bool) :
    (s.layCounted c 1 stopped).ctr (0x5300 + c) 9 = (s.ctr (0x5300 + c) 9 + 1) % 2 ^ 32 :=
  (ctr_bump32 _ _ _).trans (by rw [bumpIf_ctr_ne _ _ (odKey_transfers_ne_poisoned c).symm])

end Completed

/-- Settles O25: a started transfer is the branch of a start in which its views, owner tables and list are in order, and
issuing its granules leaves them; an invalid one is refused; a completion takes the transfer off its engine, completes its
entry, and is counted. -/
theorem transfersRunAndComplete : Obligations.TransfersRunAndComplete := by
  unfold Obligations.TransfersRunAndComplete
  refine ⟨fun p hp c s e hc hnext hon hidle hmode => ⟨?starts, ?refused⟩,
    fun c s r x hc hr hmoved hout hset he hopen => ?complete⟩
  case starts =>
    intro o f h h' ts hok howners hlist hall
    have hx := exec_layoutRow_starts hp hc hnext hon hidle hmode
    obtain ⟨list, bad, hlen, hruns⟩ := startLayout_runs rfl hok howners hlist hall
    have hfill := fill_keeps ((s.layBegin c e).run e ts list (decide (0 < bad))) 2048
    generalize ((s.layBegin c e).run e ts list (decide (0 < bad))).fill 2048 = r at hruns hfill
    rw [hruns] at hx
    refine completes_go hx ⟨⟨r, ?_, (congrArg LayRun.ticket hfill :), (congrArg LayRun.desc hfill :),
      (congrArg LayRun.src hfill :), (congrArg LayRun.dst hfill :), (congrArg LayRun.wfail hfill :),
      (congrArg (fun v : LayRun => v.list.length) hfill :).trans hlen⟩, ?_, rfl, rfl, ?_, fun d hd => ?_⟩
    all_goals rw [keep_cluster, cluster_bump, cluster_layRuns]
    · rw [if_pos rfl]
    · rw [if_pos rfl]
    · rw [if_pos rfl]
    · rw [if_neg hd]
  case refused =>
    intro hbad he
    have hx := exec_layoutRow_starts hp hc hnext hon hidle hmode
    rw [startLayout_refuses hbad] at hx
    obtain ⟨hlay, heffects⟩ := refuseLayout_effects he (compl_of_next hnext)
    exact completes_go hx ⟨hlay.trans hidle, heffects⟩
  case complete =>
    have hx := exec_transferComplete hc hr hmoved hout hset he
    obtain ⟨hentry, hmem, hmgmt, hown, hothers⟩ := letsGo_effects (F := fun k => { k with lay := none }) (fun _ => rfl)
      he hopen (s.takeFail (.lay c)).1.fab (s.layEndStatus c r x)
    rw [State.layEnds] at hx
    generalize s.letsGo _ c 5 _ r.ticket _ = t at hx hentry hmem hmgmt hown hothers
    obtain ⟨hrest, hod⟩ := layCounted_keeps t c (s.layEndStatus c r x) x.aborting.isSome
    have hctr (i j : Nat) : t.ctr i j = s.ctr i j := by rw [State.ctr, hmgmt, State.ctr]
    generalize hu : t.layCounted c _ _ = u at hx hrest hod
    have hcluster (d : Nat) : u.cluster d = t.cluster d := (congrArg (State.cluster · d) hrest :)
    refine completes_go hx ⟨?_, ?_, fun hgoes => ?_, fun hpoisoned => ?_, (odKept_of_mgmt hmgmt _).trans hod,
      (congrArg State.mem hrest :).trans hmem, ?_, fun d hd => (hcluster d).trans (hothers d hd)⟩
    · rw [keep_cluster, hcluster]
      exact (congrArg Cluster.lay hown :)
    · refine (congrArg (Option.bind · QEntry.compl) ?_).trans hentry
      exact entry_of_queue (congrArg (Cluster.queue · 5) (hcluster c))
    · rw [keep_ctr, ← hu, hgoes, ← hctr]
      exact layCounted_transfers t c _
    · have hst : s.layEndStatus c r x = 1 := hpoisoned
      rw [keep_ctr, ← hu, hst, ← hctr]
      exact layCounted_poisoned t c _
    · rw [keep_cluster, hcluster]
      exact (congrArg (fun k : Cluster => { k with lay := (s.cluster c).lay }) hown :)

end Sys2Proof.Machine

/-! ## O26 to O30: the instructions of the sequencer core -/

namespace Sys2Proof.Machine

/-! ### The end of a hearth cycle is work within its cluster -/

section Turn

variable {s t u : State} {c : Nat}

theorem setFlag_work (s : State) (c n : Nat) (v : W32) : ClusterWork s (s.setFlag c n v) c :=
  modCluster_work s c fun _ => rfl

theorem evalCore_work (s : State) (c : Nat) (ns : List Nat) : ClusterWork s (s.evalCore c ns) c := by
  unfold State.evalCore
  split
  · split
    · dsimp only
      split
      · exact (setFlag_work s c _ _).trans (modCore_work _ c _)
      · exact modCore_work s c _
    · exact .refl s c
  · exact .refl s c

/-- A DEC is taken off before the head's status is settled. -/
theorem decHead_work (s : State) (c : Nat) (e : QEntry) : ClusterWork s
    (if e0Form e.e0 = 3 then s.setFlag c (e0Flag e.e0) (s.flag c (e0Flag e.e0) - e0Value e.e0) else s) c := by
  split
  · exact setFlag_work s c _ _
  · exact .refl s c

theorem dispatchHead_work (s : State) (c q : Nat) : ClusterWork s (s.dispatchHead c q) c := by
  unfold State.dispatchHead
  dsimp only
  split
  · exact .refl s c
  rename_i e _
  have hdec := decHead_work s c e
  split
  · exact .refl s c
  split
  · exact (complete_work s c q _ _ _).trans (noteHeads_work _ c)
  split
  · exact (closeHead_work s c q e).trans (noteHeads_work _ c)
  split
  · split
    · exact ((hdec.trans (complete_work _ c q _ _ _)).trans (tileAbsent_work _ c q e)).trans (noteHeads_work _ c)
    split
    · exact (hdec.trans (complete_work _ c q _ _ _)).trans (noteHeads_work _ c)
    · exact (hdec.trans (modEntry_work _ c q _ _)).trans (noteHeads_work _ c)
  · exact .refl s c

theorem evalWaits_work (s : State) (c : Nat) (ns : List Nat) : ClusterWork s (s.evalWaits c ns) c := by
  refine ((foldl_work (fun s q => ?_) s (upTo 8)).trans (evalCore_work _ c ns)).trans (noteHeads_work _ c)
  split
  · split
    · exact dispatchHead_work s c q
    · exact .refl s c
  · exact .refl s c

theorem closeCycle_work (s : State) (c : Nat) : ClusterWork s (s.closeCycle c) c := by
  unfold State.closeCycle
  split
  · exact .refl s c
  · rename_i fc _
    have hopen : ClusterWork s (s.modCluster c fun k => { k with cycle := none }) c := modCluster_work s c fun _ => rfl
    exact (hopen.trans (evalWaits_work _ c (fc.writes.map FlagW.flg))).trans (modCore_work _ c Core.wakeWfe)

theorem coreTurn_work (s : State) (c : Nat) (join : Bool) : ClusterWork s (s.coreTurn c join) c := by
  unfold State.coreTurn
  refine ClusterWork.trans ?_ (modCore_work _ c _)
  split
  · split
    · exact .refl s c
    · exact closeCycle_work s c
  · exact .refl s c

theorem ClusterWork.build (h : ClusterWork s t c) : t.build = s.build := (congrArg State.build h.rest :)
theorem ClusterWork.pending (h : ClusterWork s t c) : t.pending = s.pending := (congrArg State.pending h.rest :)

/-- When its turn comes, the core has no QPUSH of the same hearth cycle behind it. -/
theorem coreTurn_pushed (s : State) (c : Nat) (join : Bool) : ((s.coreTurn c join).cluster c).core.pushed = none := by
  unfold State.coreTurn State.modCore
  rw [cluster_modCluster, if_pos rfl]

end Turn

/-! ### Changes of one cluster -/

section OneCluster

variable {s t u : State} {c : Nat}

theorem OnlyCluster.refl (s : State) (c : Nat) : OnlyCluster s s c := ⟨rfl, fun _ _ => rfl⟩

theorem OnlyCluster.trans (h : OnlyCluster s t c) (h' : OnlyCluster t u c) : OnlyCluster s u c :=
  ⟨(congrArg (fun x : State => { x with clusters := s.clusters }) h'.1).trans h.1,
    fun d hd => (h'.2 d hd).trans (h.2 d hd)⟩

theorem modCluster_onlyCluster (s : State) (c : Nat) (f : Cluster → Cluster) : OnlyCluster s (s.modCluster c f) c :=
  ⟨rfl, fun d hd => (cluster_modCluster s c d f).trans (if_neg hd)⟩

theorem ReadsSame.onlyCluster (h : ReadsSame s t) (c : Nat) : OnlyCluster s t c := ⟨h.rest, fun d _ => h.cluster d⟩

theorem OnlyCluster.build (h : OnlyCluster s t c) : t.build = s.build := (congrArg State.build h.1 :)
theorem OnlyCluster.pending (h : OnlyCluster s t c) : t.pending = s.pending := (congrArg State.pending h.1 :)

theorem cluster_modCluster_same (s : State) (c : Nat) (f : Cluster → Cluster) :
    (s.modCluster c f).cluster c = f (s.cluster c) := (cluster_modCluster s c c f).trans (if_pos rfl)

theorem cluster_modCore_same (s : State) (c : Nat) (f : Core → Core) :
    (s.modCore c f).cluster c = { s.cluster c with core := f (s.cluster c).core } := cluster_modCluster_same s c _

theorem modCore_onlyCore (s : State) (c : Nat) (f : Core → Core) : OnlyCore s (s.modCore c f) c :=
  ⟨modCluster_onlyCluster s c _, by rw [cluster_modCore_same]⟩

theorem OnlyCore.trans (h : OnlyCore s t c) (h' : OnlyCore t u c) : OnlyCore s u c :=
  ⟨h.1.trans h'.1, (congrArg (fun k : Cluster => { k with core := (s.cluster c).core }) h'.2).trans h.2⟩

end OneCluster

/-! ### An instruction issues (10 R329, R331) -/

section Issue

variable {s0 s t : State} {c op w : Nat} {i : Instr} {fn : Option Nat} {f : State → Nat → State} {join : Bool}

/-- An instruction that the core issues is carried out in the state to which the open hearth cycle has ended. -/
theorem exec_issues (hs : s0.coreTurn c join = s) (h : Issues s c op w) (hfn : ∀ n, fn = some n → iFn w = n)
    (hx : exec i s0 = s0.issue c op fn f join) : exec i s0 = go s0 (f s w) := by
  subst hs
  obtain ⟨hc, hon, rfl, hop, hlegal⟩ := h
  rw [hx, State.issue]
  refine ifUnit_when _ _ (decide_eq_true hc) ?_
  rw [hon, hop, hlegal]
  cases fn with
  | none => simp
  | some n => simp [hfn n rfl]

/-- How an instruction is shown to complete: what it does changes neither the build nor the queue. -/
theorem issues_completes {P : State → Prop} (hs : s0.coreTurn c join = s) (h : Issues s c op w)
    (hfn : ∀ n, fn = some n → iFn w = n) (hx : exec i s0 = s0.issue c op fn f join) (ht : f s w = t)
    (hb : t.build = s.build) (hp : t.pending = s.pending) (p : P t) : Completes i s0 P := by
  have hwork := coreTurn_work s0 c join
  rw [hs] at hwork
  exact completes_kept ((exec_issues hs h hfn hx).trans (by rw [ht])) (hb.trans hwork.build) (hp.trans hwork.pending) p

/-- An instruction that changes its cluster alone. -/
theorem issues_within {P : State → Prop} (hs : s0.coreTurn c join = s) (h : Issues s c op w)
    (hfn : ∀ n, fn = some n → iFn w = n) (hx : exec i s0 = s0.issue c op fn f join) (ht : f s w = t)
    (ho : OnlyCluster s t c) (p : P t) : Completes i s0 P :=
  issues_completes hs h hfn hx ht ho.build ho.pending p

/-- The functions of SYS are told apart; an instruction of another opcode has none. -/
theorem noFn (w : Nat) : ∀ n, (none : Option Nat) = some n → iFn w = n := fun _ h => nomatch h

theorem sysFn {m : Nat} (h : iFn w = m) : ∀ n, some m = some n → iFn w = n := fun _ hn => h.trans (Option.some.inj hn)

end Issue

/-! ### Registers, results, waits and faults (10 R330, R332, R335) -/

section Results

variable {s : State} {c w rd : Nat} {v : Word}

/-- A register reads as it was last written, and x0 as 0. -/
theorem reg_setReg (k : Core) (n : Nat) (v : Word) (r : Nat) :
    (k.setReg n v).reg r = if r = n ∧ r ≠ 0 then v else k.reg r := by
  unfold Core.reg Core.setReg
  by_cases hr : r = 0
  · simp [hr]
  · by_cases hn : n = 0
    · subst hn
      simp [hr]
    · simp [hr, hn, Tab.get_set]

theorem setReg_regs (k : Core) (n : Nat) (v : Word) : ∃ t, k.setReg n v = { k with regs := t } := by
  unfold Core.setReg
  split
  · exact ⟨k.regs, rfl⟩
  · exact ⟨_, rfl⟩

theorem setReg_keeps (k : Core) (n : Nat) (v : Word) : { k.setReg n v with regs := k.regs } = k := by
  unfold Core.setReg
  split <;> rfl

theorem setReg_goes (k : Core) (pc rd : Nat) (v : Word) : CoreGoes k { k.setReg rd v with pc := pc } pc rd v :=
  ⟨reg_setReg k rd v, congrArg (fun m : Core => { m with pc := pc }) (setReg_keeps k rd v)⟩

theorem seqNext_goes {f : State → State} (hpc : (s.cluster c).core.pc < 0xFFFC) :
    s.seqNext c w f = (f s).modCore c fun k => { k with pc := k.pc + 4 } := if_neg (by omega)

theorem seqNext_faults {f : State → State} (hpc : 0xFFFC ≤ (s.cluster c).core.pc) :
    s.seqNext c w f = s.seqFault c 4 w := if_pos hpc

/-- The core goes on with a register result. -/
theorem seqNext_putReg (hpc : (s.cluster c).core.pc < 0xFFFC) :
    CoreResult s (s.seqNext c w fun s => s.putReg c rd v) c rd v := by
  rw [seqNext_goes hpc]
  refine ⟨?_, (modCore_onlyCore s c _).trans (modCore_onlyCore _ c _)⟩
  rw [cluster_modCore_same, State.putReg, cluster_modCore_same]
  have hkeep : ((s.cluster c).core.setReg rd v).pc = (s.cluster c).core.pc :=
    (congrArg Core.pc (setReg_keeps (s.cluster c).core rd v) :)
  exact hkeep ▸ setReg_goes (s.cluster c).core _ rd v

theorem seqAlu_result (hpc : (s.cluster c).core.pc < 0xFFFC) : CoreResult s (s.seqAlu c w v) c (iRd w) v :=
  seqNext_putReg hpc

/-- The core goes on, and nothing else happens. -/
theorem seqNext_id (hpc : (s.cluster c).core.pc < 0xFFFC) :
    ((s.seqNext c w id).cluster c).core = (s.cluster c).core.next ∧ OnlyCore s (s.seqNext c w id) c := by
  rw [seqNext_goes hpc]
  exact ⟨by rw [cluster_modCore_same]; rfl, modCore_onlyCore s c _⟩

theorem seqWait_waits (s : State) (c : Nat) (v : CoreWait) :
    ((s.seqWait c v).cluster c).core = (s.cluster c).core.waiting s v ∧ OnlyCore s (s.seqWait c v) c :=
  ⟨by rw [State.seqWait, cluster_modCore_same]; rfl, modCore_onlyCore s c _⟩

/-- A jump to a target within instruction SRAM. -/
theorem seqJump_goes {target : Int} {f : Core → Core} (h0 : 0 ≤ target) (h1 : target ≤ 0xFFFC) :
    ((s.seqJump c w target f).cluster c).core = { f (s.cluster c).core with pc := target.toNat }
      ∧ OnlyCore s (s.seqJump c w target f) c := by
  have hin : (decide (target < 0) || decide (0xFFFC < target)) = false := by
    simp only [Bool.or_eq_false_iff, decide_eq_false_iff_not]
    omega
  rw [State.seqJump, hin, if_neg Bool.false_ne_true]
  exact ⟨by rw [cluster_modCore_same], modCore_onlyCore s c _⟩

theorem seqJump_faults {target : Int} {f : Core → Core} (h : target < 0 ∨ 0xFFFC < target) :
    s.seqJump c w target f = s.seqFault c 4 w := if_pos (by simpa using h)

/-- The core of a cluster stops on its instruction. -/
def State.coreStops (s : State) (c : Nat) : State := s.modCore c fun x => { x with st := .faulted, wait := none }

/-- A fault is logged once its reason stands in CORE_FAULT. -/
theorem seqFault_eq (s : State) (c code w : Nat) : s.seqFault c code w =
    ((s.coreStops c).setCtr (0x5400 + c) 3 (packNat [(56, code), (32, (s.cluster c).core.pc), (0, w)])).log
      [pack [(56, 0x31), (50, c), (45, (s.cluster c).part.getD 31), (36, code), (0, (s.cluster c).core.pc)],
        BitVec.ofNat 64 w] := rfl

theorem cluster_log (s : State) (ws : List Word) (d : Nat) : (s.log ws).cluster d = s.cluster d := by
  rw [State.cluster, State.log_clusters, State.cluster]

/-- What a core leaves that stops with `n` in CORE_FAULT and the payload `ws` in the log. -/
theorem coreStops_logged (s : State) (c n : Nat) {ws : List Word} (h : ws.length ≤ 6) :
    let k := (s.cluster c).core
    let t := ((s.coreStops c).setCtr (0x5400 + c) 3 n).log ws
    t.cluster c = { s.cluster c with core := { k with st := .faulted, wait := none } }
      ∧ (∀ d, d ≠ c → t.cluster d = s.cluster d) ∧ t.ctr (0x5400 + c) 3 = n % 2 ^ 64
      ∧ OdKept s t [odKey (0x5400 + c) 3] ∧ Logs s t ws
      ∧ { t with clusters := s.clusters, mgmt := s.mgmt, crust := s.crust } = s := by
  intro k t
  have hcluster (d : Nat) : t.cluster d = (s.coreStops c).cluster d := cluster_log _ ws d
  have hmgmt : t.mgmt = ((s.coreStops c).setCtr (0x5400 + c) 3 n).mgmt := State.log_mgmt _ ws
  refine ⟨(hcluster c).trans (cluster_modCore_same s c _),
    fun d hd => (hcluster d).trans ((modCore_onlyCore s c _).1.2 d hd), ?_, ?_,
    log_logs ((s.coreStops c).setCtr (0x5400 + c) 3 n) h, rfl⟩
  · rw [State.ctr, hmgmt]
    exact ctr_setCtr (s.coreStops c) _ _ n
  · rw [OdKept, hmgmt]
    exact ⟨rfl, fun k hk => Tab.find_set_ne _ _ _ (by simpa using hk)⟩

/-- A fault keeps the core on its instruction, and is logged. -/
theorem seqFault_faults (s : State) (c code w : Nat) : CoreFaults s (s.seqFault c code w) c code w := by
  rw [seqFault_eq]
  exact coreStops_logged s c _ (by simp)

theorem CoreFaults.build {t : State} {code : Nat} (h : CoreFaults s t c code w) : t.build = s.build := by
  obtain ⟨-, -, -, -, -, hrest⟩ := h
  exact (congrArg State.build hrest :)

theorem CoreFaults.pending {t : State} {code : Nat} (h : CoreFaults s t c code w) : t.pending = s.pending := by
  obtain ⟨-, -, -, -, -, hrest⟩ := h
  exact (congrArg State.pending hrest :)

variable {s0 t : State} {op code : Nat} {i : Instr} {fn : Option Nat} {f : State → Nat → State} {join : Bool}

/-- An instruction with a register result. -/
theorem issues_result (hs : s0.coreTurn c join = s) (h : Issues s c op w) (hfn : ∀ n, fn = some n → iFn w = n)
    (hx : exec i s0 = s0.issue c op fn f join) (ht : f s w = t) (hr : CoreResult s t c rd v) :
    Completes i s0 fun u => CoreResult s u c rd v :=
  issues_within hs h hfn hx ht hr.2.1 hr

/-- An instruction that faults. -/
theorem issues_faults (hs : s0.coreTurn c join = s) (h : Issues s c op w) (hfn : ∀ n, fn = some n → iFn w = n)
    (hx : exec i s0 = s0.issue c op fn f join) (ht : f s w = s.seqFault c code w) :
    Completes i s0 fun u => CoreFaults s u c code w :=
  have hfault := seqFault_faults s c code w
  issues_completes hs h hfn hx ht hfault.build hfault.pending hfault

end Results

/-! ### Arithmetic (10 R332, R333) -/

section Arithmetic

variable {c : Nat}

theorem immZ_shift (w : Nat) : (immZ w).toNat % 64 = iImm w % 64 := by
  rw [immZ, BitVec.toNat_ofNat]
  exact Nat.mod_mod_of_dvd _ (by decide)

/-- The shifts by IMM16 take its low six bits. -/
theorem aluOp_shifts (a : Word) (w : Nat) : aluOp 5 a (immZ w) = a <<< (iImm w % 64)
    ∧ aluOp 6 a (immZ w) = a >>> (iImm w % 64) ∧ aluOp 7 a (immZ w) = a.sshiftRight (iImm w % 64) := by
  simp only [aluOp, immZ_shift, and_self]

theorem exec_shli (c : Nat) (s : State) : exec (.shli c) s =
    s.issue c 0x06 none fun s w => s.seqAlu c w (s.reg c (iRa w) <<< (iImm w % 64)) := by
  change execShli c s = _
  simp only [execShli, (aluOp_shifts _ _).1]

theorem exec_shri (c : Nat) (s : State) : exec (.shri c) s =
    s.issue c 0x07 none fun s w => s.seqAlu c w (s.reg c (iRa w) >>> (iImm w % 64)) := by
  change execShri c s = _
  simp only [execShri, (aluOp_shifts _ _).2.1]

theorem exec_sari (c : Nat) (s : State) : exec (.sari c) s =
    s.issue c 0x08 none fun s w => s.seqAlu c w ((s.reg c (iRa w)).sshiftRight (iImm w % 64)) := by
  change execSari c s = _
  simp only [execSari, (aluOp_shifts _ _).2.2]

/-- Each register instruction gives RD what its row computes. -/
theorem exec_aluRow (c : Nat) (s : State) : ∀ p ∈ aluRows, exec (p.2.1 c) s =
    s.issue c p.1 none fun s w => s.seqAlu c w (p.2.2 (s.reg c (iRa w)) (s.reg c (iRb w)) w) :=
  List.forall_iff_forall_mem.mp ⟨rfl, rfl, rfl, rfl, rfl, exec_shli c s, exec_shri c s, exec_sari c s, rfl, rfl⟩

theorem aluOp_sltu (a b : Word) : aluOp 9 a b = if a.toNat < b.toNat then 1 else 0 := by
  simp only [aluOp, BitVec.lt_def]

/-- MUL and MULHU give the low and the high word of the product. -/
theorem aluOp_product (a b : Word) : (aluOp 10 a b).toNat + 2 ^ 64 * (aluOp 11 a b).toNat = a.toNat * b.toNat := by
  have hlt : a.toNat * b.toNat / 2 ^ 64 < 2 ^ 64 :=
    Nat.div_lt_of_lt_mul (Nat.mul_lt_mul_of_lt_of_le a.isLt b.isLt.le (by decide))
  have hlow : (aluOp 10 a b).toNat = a.toNat * b.toNat % 2 ^ 64 := BitVec.toNat_mul a b
  have hhigh : (aluOp 11 a b).toNat = a.toNat * b.toNat / 2 ^ 64 := (BitVec.toNat_ofNat _ _).trans (Nat.mod_eq_of_lt hlt)
  rw [hlow, hhigh, Nat.mod_add_div]

/-- DIVU and REMU by a divisor that is not zero. -/
theorem aluOp_division (a : Word) {b : Word} (hb : b ≠ 0) :
    (aluOp 12 a b).toNat * b.toNat + (aluOp 13 a b).toNat = a.toNat ∧ (aluOp 13 a b).toNat < b.toNat := by
  have hpos : 0 < b.toNat := Nat.pos_of_ne_zero fun h => hb (BitVec.eq_of_toNat_eq h)
  have hdiv : (aluOp 12 a b).toNat = a.toNat / b.toNat := by
    simp only [aluOp, if_neg hb, BitVec.toNat_ofNat]
    exact Nat.mod_eq_of_lt (Nat.lt_of_le_of_lt (Nat.div_le_self _ _) a.isLt)
  have hmod : (aluOp 13 a b).toNat = a.toNat % b.toNat := by
    simp only [aluOp, if_neg hb, BitVec.toNat_ofNat]
    exact Nat.mod_eq_of_lt (Nat.lt_of_le_of_lt (Nat.mod_le _ _) a.isLt)
  rw [hdiv, hmod]
  exact ⟨Nat.div_add_mod' _ _, Nat.mod_lt _ hpos⟩

theorem aluOp_divideByZero (a : Word) : aluOp 12 a 0 = BitVec.allOnes 64 ∧ aluOp 13 a 0 = a := ⟨rfl, rfl⟩

theorem aluOp_slt (a b : Word) : aluOp 8 a b = if a.toInt < b.toInt then 1 else 0 := by
  simp only [aluOp, BitVec.slt, decide_eq_true_eq]

/-- MIN and MAX compare signed. -/
theorem aluOp_min_max (a b : Word) :
    (aluOp 14 a b).toInt = min a.toInt b.toInt ∧ (aluOp 15 a b).toInt = max a.toInt b.toInt := by
  simp only [aluOp, BitVec.slt, decide_eq_true_eq]
  split
  · rename_i h
    exact ⟨(min_eq_left h.le).symm, (max_eq_right h.le).symm⟩
  · rename_i h
    exact ⟨(min_eq_right (not_lt.mp h)).symm, (max_eq_left (not_lt.mp h)).symm⟩

theorem seqLegal_aluReserved {w : Nat} (hop : iOp w = 0x01) (hfn : 16 ≤ iFn w) : seqLegal w = false := by
  simp only [seqLegal, hop, decide_eq_false_iff_not]
  omega

end Arithmetic

/-- Settles O26: a register instruction is one register result; the ALU's functions are read off their definition. -/
theorem sequencerArithmetic : Obligations.SequencerArithmetic := by
  unfold Obligations.SequencerArithmetic
  refine ⟨?results, fun a b => ?_, fun w => seqLegal_aluReserved⟩
  case results =>
    intro p hp c w s0 s hi hpc
    exact issues_result rfl hi (noFn w) (exec_aluRow c s0 p hp) rfl (seqAlu_result hpc)
  · refine ⟨rfl, rfl, rfl, rfl, rfl, rfl, rfl, rfl, aluOp_slt a b, aluOp_sltu a b, aluOp_product a b,
      aluOp_division a, fun hb => ?_, aluOp_min_max a b⟩
    subst hb
    exact aluOp_divideByZero a

/-! ### Loads and stores (10 R328) -/

section Memory

variable {s : State} {c w a n : Nat} {load : Bool}

/-- An access of `n` bytes may reach the address: the SRAMs, and a load of four bytes the flag words. -/
def Reached (a n : Nat) (load : Bool) : Prop :=
  a < 0x20000 ∨ (0x800000 ≤ a ∧ a < 0x1000000) ∨ (load = true ∧ n = 4 ∧ 0x20000 ≤ a ∧ a < 0x200C0)

theorem seqMap_data (h : a < 0x10000) : seqMap a = .data a := if_pos h

theorem seqMap_inst (h : 0x10000 ≤ a) (h' : a < 0x20000) : seqMap a = .inst (a - 0x10000) := by
  rw [seqMap, if_neg (by omega), if_pos h']

theorem seqMap_flag (h : 0x20000 ≤ a) (h' : a < 0x200C0) : seqMap a = .flag ((a - 0x20000) / 4) := by
  rw [seqMap, if_neg (by omega), if_neg (by omega), if_pos h']

theorem seqMap_clus (h : 0x800000 ≤ a) (h' : a < 0x1000000) : seqMap a = .clus (a - 0x800000) := by
  rw [seqMap, if_neg (by omega), if_neg (by omega), if_neg (by omega), if_pos (by simp [h, h'])]

theorem seqMap_none (h : 0x200C0 ≤ a ∧ a < 0x800000 ∨ 0x1000000 ≤ a) : seqMap a = .none := by
  rw [seqMap, if_neg (by omega), if_neg (by omega), if_neg (by omega), if_neg (by simp; omega)]

theorem seqAccess_misaligned (h : a % n ≠ 0) : seqAccess a n load = 2 := if_pos h

theorem seqAccess_reached (ha : a % n = 0) (h : Reached a n load) : seqAccess a n load = 0 := by
  rw [seqAccess, if_neg (not_not_intro ha)]
  obtain h | ⟨h, h'⟩ | ⟨rfl, rfl, h, h'⟩ := h
  · by_cases hd : a < 0x10000
    · rw [seqMap_data hd]
    · rw [seqMap_inst (by omega) h]
  · rw [seqMap_clus h h']
  · rw [seqMap_flag h h']
    rfl

theorem seqAccess_unreached (ha : a % n = 0) (h : ¬ Reached a n load) : seqAccess a n load = 3 := by
  rw [seqAccess, if_neg (not_not_intro ha)]
  unfold Reached at h
  push Not at h
  obtain ⟨hsram, hclus, hflag⟩ := h
  by_cases hf : a < 0x200C0
  · rw [seqMap_flag hsram hf]
    refine if_neg fun hl => ?_
    simp only [Bool.and_eq_true, beq_iff_eq] at hl
    exact absurd (hflag hl.1 hl.2 hsram) (by omega)
  · rw [seqMap_none (by omega)]

theorem seqLoad_reads (hacc : seqAccess (s.seqAddr c w) n true = 0) :
    s.seqLoad c w n = s.seqAlu c w (BitVec.ofNat 64 (s.seqRead c (s.seqAddr c w) n)) := by
  unfold State.seqLoad
  exact if_neg (not_not_intro hacc)

theorem seqLoad_faults {k : Nat} (hacc : seqAccess (s.seqAddr c w) n true = k) (hk : k ≠ 0) :
    s.seqLoad c w n = s.seqFault c k w := by
  subst hacc
  unfold State.seqLoad
  exact if_pos hk

theorem seqStore_writes (hacc : seqAccess (s.seqAddr c w) n false = 0) : s.seqStore c w n =
    s.seqNext c w fun s' => s'.seqWrite c (s.seqAddr c w) n ((s'.reg c (iRd w)).toNat % 2 ^ (8 * n)) := by
  unfold State.seqStore
  exact if_neg (not_not_intro hacc)

theorem seqStore_faults {k : Nat} (hacc : seqAccess (s.seqAddr c w) n false = k) (hk : k ≠ 0) :
    s.seqStore c w n = s.seqFault c k w := by
  subst hacc
  unfold State.seqStore
  exact if_pos hk

theorem exec_loadRow (c : Nat) (s : State) :
    ∀ p ∈ loadRows, exec (p.2.1 c) s = s.issue c p.1 none fun s w => s.seqLoad c w p.2.2 :=
  List.forall_iff_forall_mem.mp ⟨rfl, rfl, rfl, rfl⟩

theorem exec_storeRow (c : Nat) (s : State) :
    ∀ p ∈ storeRows, exec (p.2.1 c) s = s.issue c p.1 none fun s w => s.seqStore c w p.2.2 :=
  List.forall_iff_forall_mem.mp ⟨rfl, rfl, rfl, rfl⟩

/-- A load that reaches its bytes goes on with them in RD. -/
theorem load_completes {p : Nat × (Nat → Instr) × Nat} (hp : p ∈ loadRows) {s0 s : State}
    (hs : s0.coreTurn c false = s) (hi : Issues s c p.1 w) (hpc : (s.cluster c).core.pc < 0xFFFC)
    (ha : s.seqAddr c w % p.2.2 = 0) (hr : Reached (s.seqAddr c w) p.2.2 true)
    {v : Nat} (hv : s.seqRead c (s.seqAddr c w) p.2.2 = v) :
    Completes (p.2.1 c) s0 fun u => CoreResult s u c (iRd w) (BitVec.ofNat 64 v) := by
  subst hv
  exact issues_result hs hi (noFn w) (exec_loadRow c s0 p hp) (seqLoad_reads (seqAccess_reached ha hr)) (seqAlu_result hpc)

theorem leBytes_length (n v : Nat) : (leBytes n v).length = n := by
  induction n generalizing v with
  | zero => rfl
  | succ n ih => exact congrArg (· + 1) (ih _)

theorem leBytes_getD {n i : Nat} (h : i < n) (v : Nat) : (leBytes n v).getD i 0 = BitVec.ofNat 8 (v / 256 ^ i) := by
  induction i generalizing n v with
  | zero =>
    obtain _ | n := n
    · contradiction
    · rw [Nat.pow_zero, Nat.div_one]
      rfl
  | succ i ih =>
    obtain _ | n := n
    · contradiction
    · rw [Nat.pow_succ', ← Nat.div_div_eq_div_mul]
      exact ih (Nat.lt_of_succ_lt_succ h) _

/-- Bytes written read back in their order, and no other byte has changed. -/
theorem get_sramPut (t : Tab Byte) (a : Nat) (b : Bytes) (x : Nat) : Tab.get 0 (sramPut t a b) x =
    if a ≤ x ∧ x < a + b.length then b.getD (x - a) 0 else Tab.get 0 t x := by
  induction b generalizing t a with
  | nil => rw [if_neg (by simp)]; rfl
  | cons y ys ih =>
    rw [sramPut, ih, List.length_cons, Tab.get_set]
    by_cases hx : x = a
    · subst hx
      rw [if_neg (by omega), if_pos rfl, if_pos (by omega), Nat.sub_self]
      rfl
    · by_cases hin : a + 1 ≤ x ∧ x < a + 1 + ys.length
      · have hsub : x - a = x - (a + 1) + 1 := by omega
        rw [if_pos hin, if_pos (by omega), hsub, List.getD_cons_succ]
      · rw [if_neg hin, if_neg hx, if_neg (by omega)]

/-- The bytes of a stored number. -/
theorem get_sramPut_leBytes (t : Tab Byte) (a n v x : Nat) : Tab.get 0 (sramPut t a (leBytes n v)) x =
    if a ≤ x ∧ x < a + n then BitVec.ofNat 8 (v / 256 ^ (x - a)) else Tab.get 0 t x := by
  rw [get_sramPut, leBytes_length]
  split
  · exact leBytes_getD (by omega) v
  · rfl

/-- Instruction SRAM once `n` bytes have been stored; fetch may still see the bytes that were there. -/
def Cluster.isramStored (k : Cluster) (x n v : Nat) : Cluster :=
  { k with
    isram := sramPut k.isram x (leBytes n v)
    core := { k.core with unfenced := k.core.unfenced ++
      ((upTo n).filter fun i => !k.core.unfenced.any fun u => u.1 == x + i).map fun i =>
        (x + i, Tab.get 0 k.isram (x + i)) } }

/-- After a store fetch sees the byte that it saw before, or the byte that is there now (log entry 60). -/
theorem fetchByte_isramStored (k : Cluster) (x n v m y : Nat) :
    (k.isramStored x n v).fetchByte m y = k.fetchByte m y
      ∨ (k.isramStored x n v).fetchByte m y = Tab.get 0 (k.isramStored x n v).isram y := by
  unfold Cluster.fetchByte
  have hcyc : (k.isramStored x n v).core.cyc = k.core.cyc := rfl
  rw [hcyc]
  have hfind : (k.isramStored x n v).core.unfenced.find? (fun u => u.1 == y) =
      (k.core.unfenced.find? fun u => u.1 == y).or
        ((((upTo n).filter fun i => !k.core.unfenced.any fun u => u.1 == x + i).map fun i =>
          (x + i, Tab.get 0 k.isram (x + i))).find? fun u => u.1 == y) := List.find?_append
  rw [hfind]
  by_cases hsees : Config.fetchSees m k.core.cyc y = true
  · right
    split
    · rw [if_pos hsees]
    · rfl
  · cases hold : k.core.unfenced.find? fun u => u.1 == y with
    | some u =>
      left
      simp [hsees]
    | none =>
      rw [Option.none_or]
      split
      · rename_i z hz
        left
        obtain ⟨i, -, rfl⟩ := List.mem_map.mp (List.mem_of_find?_eq_some hz)
        have hy : x + i = y := by simpa using List.find?_some hz
        simp only [hsees, hy]
        rfl
      · exact .inr rfl

/-- The rest of the cluster once the core has gone on from a store to instruction SRAM. -/
theorem isramStored_goes (k : Cluster) (x n v : Nat) :
    let m : Cluster := { k.isramStored x n v with
      core := { (k.isramStored x n v).core with pc := (k.isramStored x n v).core.pc + 4 } }
    (∀ i y, m.fetchByte i y = k.fetchByte i y ∨ m.fetchByte i y = Tab.get 0 m.isram y)
      ∧ { m.core with unfenced := k.core.unfenced } = k.core.next ∧ { m with isram := k.isram, core := k.core } = k :=
  ⟨fetchByte_isramStored k x n v, rfl, rfl⟩

theorem seqStore_next (hacc : seqAccess (s.seqAddr c w) n false = 0) (hpc : (s.cluster c).core.pc < 0xFFFC)
    {f : Cluster → Cluster}
    (hf : s.seqWrite c (s.seqAddr c w) n ((s.reg c (iRd w)).toNat % 2 ^ (8 * n)) = s.modCluster c f) :
    OnlyCluster s (s.seqStore c w n) c ∧ (s.seqStore c w n).cluster c =
      { f (s.cluster c) with core := { (f (s.cluster c)).core with pc := (f (s.cluster c)).core.pc + 4 } } := by
  rw [seqStore_writes hacc, seqNext_goes hpc, hf]
  exact ⟨(modCluster_onlyCluster s c f).trans (modCore_onlyCore _ c _).1,
    by rw [cluster_modCore_same, cluster_modCluster_same]⟩

/-- A store whose bytes go into the cluster by `f` goes on. -/
theorem store_completes {p : Nat × (Nat → Instr) × Nat} (hp : p ∈ storeRows) {s0 s : State}
    (hs : s0.coreTurn c false = s) (hi : Issues s c p.1 w) (hpc : (s.cluster c).core.pc < 0xFFFC)
    (ha : s.seqAddr c w % p.2.2 = 0) (hr : Reached (s.seqAddr c w) p.2.2 false) {f : Cluster → Cluster}
    (hf : s.seqWrite c (s.seqAddr c w) p.2.2 ((s.reg c (iRd w)).toNat % 2 ^ (8 * p.2.2)) = s.modCluster c f)
    {P : State → Prop}
    (hP : ∀ u, OnlyCluster s u c → u.cluster c =
      { f (s.cluster c) with core := { (f (s.cluster c)).core with pc := (f (s.cluster c)).core.pc + 4 } } → P u) :
    Completes (p.2.1 c) s0 P := by
  obtain ⟨honly, hcluster⟩ := seqStore_next (seqAccess_reached ha hr) hpc hf
  exact issues_within hs hi (noFn w) (exec_storeRow c s0 p hp) rfl honly (hP _ honly hcluster)

end Memory

/-- Settles O27: a load is one register result; a store writes its bytes one by one, and fetch sees each as it was or as
it is. -/
theorem sequencerLoadsAndStores : Obligations.SequencerLoadsAndStores := by
  unfold Obligations.SequencerLoadsAndStores
  refine ⟨?loads, ?stores⟩
  case loads =>
    intro p hp c w s0 s hi hpc a k ha
    refine ⟨fun h => ?_, fun h h' => ?_, fun hn h h' => ?_, fun h h' => ?_⟩
    · exact load_completes hp rfl hi hpc ha (.inl (h.trans (by decide))) (by rw [State.seqRead, seqMap_data h])
    · exact load_completes hp rfl hi hpc ha (.inl h') (by rw [State.seqRead, seqMap_inst h h'])
    · exact load_completes hp rfl hi hpc ha (.inr (.inr ⟨rfl, hn, h, h'⟩)) (by rw [State.seqRead, seqMap_flag h h'])
    · exact load_completes hp rfl hi hpc ha (.inr (.inl ⟨h, h'⟩)) (by rw [State.seqRead, seqMap_clus h h'])
  case stores =>
  intro p hp c w s0 s hi hpc a v k stored ha
  refine ⟨fun h => ?data, fun h h' => ?inst, fun h h' => ?clus⟩
  case data =>
    refine store_completes hp rfl hi hpc ha (.inl (h.trans (by decide))) (by rw [State.seqWrite, seqMap_data h]) fun u honly hu => ?_
    rw [hu]
    exact ⟨fun x => get_sramPut_leBytes _ _ _ _ x, rfl, honly⟩
  case inst =>
    refine store_completes hp rfl hi hpc ha (.inl h') (f := fun k => k.isramStored (a - 0x10000) p.2.2 v)
      (by rw [State.seqWrite, seqMap_inst h h']; rfl) fun u honly hu => ?_
    rw [hu]
    obtain ⟨hfetch, hcore, hown⟩ := isramStored_goes k (a - 0x10000) p.2.2 v
    exact ⟨fun x => get_sramPut_leBytes _ _ _ _ x, hfetch, hcore, hown, honly⟩
  case clus =>
    refine store_completes hp rfl hi hpc ha (.inr (.inl ⟨h, h'⟩)) (by rw [State.seqWrite, seqMap_clus h h'])
      fun u honly hu => ?_
    rw [hu]
    exact ⟨fun x => get_sramPut_leBytes _ _ _ _ x, rfl, honly⟩

/-! ### Branches, jumps and calls (10 R332) -/

section Branches

variable {s : State} {c w : Nat}

theorem bge_signed (a b : Word) : (!BitVec.slt a b) = decide (b.toInt ≤ a.toInt) := by
  rw [BitVec.slt, ← decide_not]
  exact decide_eq_decide.mpr not_lt

theorem bge_unsigned (a b : Word) : (!BitVec.ult a b) = decide (b.toNat ≤ a.toNat) := by
  rw [BitVec.ult, ← decide_not]
  exact decide_eq_decide.mpr not_lt

theorem exec_bge (c : Nat) (s : State) : exec (.bge c) s =
    s.issue c 0x23 none fun s w => s.seqBranch c w fun a b => decide (b.toInt ≤ a.toInt) := by
  change execBge c s = _
  simp only [execBge, bge_signed]

theorem exec_bgeu (c : Nat) (s : State) : exec (.bgeu c) s =
    s.issue c 0x25 none fun s w => s.seqBranch c w fun a b => decide (b.toNat ≤ a.toNat) := by
  change execBgeu c s = _
  simp only [execBgeu, bge_unsigned]

theorem exec_branchRow (c : Nat) (s : State) :
    ∀ p ∈ branchRows, exec (p.2.1 c) s = s.issue c p.1 none fun s w => s.seqBranch c w p.2.2 :=
  List.forall_iff_forall_mem.mp ⟨rfl, rfl, rfl, exec_bge c s, rfl, exec_bgeu c s⟩

variable {taken : Word → Word → Bool}

theorem seqBranch_taken (h : taken (s.reg c (bRa w)) (s.reg c (bRb w)) = true) :
    s.seqBranch c w taken = s.seqJump c w (s.pcOf c + 4 * iSimm w) id := if_pos h

theorem seqBranch_passed (h : taken (s.reg c (bRa w)) (s.reg c (bRb w)) = false) :
    s.seqBranch c w taken = s.seqNext c w id := if_neg (by rw [h]; exact Bool.false_ne_true)

theorem exec_jmp (c : Nat) (s : State) : exec (.jmp c) s = s.issue c 0x26 none fun s w =>
    s.seqJump c w (s.pcOf c + 4 * iOff26 w) id := rfl

theorem exec_call (c : Nat) (s : State) : exec (.call c) s = s.issue c 0x27 none fun s w =>
    s.seqJump c w (s.pcOf c + 4 * iOff26 w) fun k => k.setReg 31 (s.returnPc c) := rfl

theorem exec_jr (c : Nat) (s : State) : exec (.jr c) s = s.issue c 0x28 none fun s w =>
    if (s.reg c (iRa w) + immS w).toNat % 4 ≠ 0 then s.seqFault c 2 w
    else s.seqJump c w (s.reg c (iRa w) + immS w).toNat fun k => k.setReg (iRd w) (s.returnPc c) := rfl

/-- A call within instruction SRAM keeps the return address. -/
theorem seqJump_calls {target : Int} {rd : Nat} (h0 : 0 ≤ target) (h1 : target ≤ 0xFFFC) :
    let u := s.seqJump c w target fun k => k.setReg rd (s.returnPc c)
    CoreGoes (s.cluster c).core (u.cluster c).core target.toNat rd (s.returnPc c) ∧ OnlyCore s u c := by
  obtain ⟨hcore, honly⟩ := seqJump_goes (s := s) (c := c) (w := w) (f := fun k => k.setReg rd (s.returnPc c)) h0 h1
  exact ⟨hcore ▸ setReg_goes _ _ rd _, honly⟩

end Branches

/-- Settles O28: a branch, a jump or a call is one jump to its target, with the return address where it keeps one. -/
theorem branchesAndJumps : Obligations.BranchesAndJumps := by
  unfold Obligations.BranchesAndJumps
  refine ⟨?branches, ?jumps, ?jr⟩
  case branches =>
    intro p hp c w s0 s hi k
    refine ⟨fun htaken h0 h1 => ?_, fun hpassed hpc => ?_⟩
    · have hjump := seqJump_goes (s := s) (c := c) (w := w) (f := id) h0 h1
      exact issues_within rfl hi (noFn w) (exec_branchRow c s0 p hp) (seqBranch_taken htaken) hjump.2.1 hjump
    · have hnext := seqNext_id (w := w) hpc
      exact issues_within rfl hi (noFn w) (exec_branchRow c s0 p hp) (seqBranch_passed hpassed) hnext.2.1 hnext
  case jumps =>
    intro c w s0 s k t h0 h1
    refine ⟨fun hi => ?_, fun hi => ?_⟩
    · have hjump := seqJump_goes (s := s) (c := c) (w := w) (f := id) h0 h1
      exact issues_within rfl hi (noFn w) (exec_jmp c s0) rfl hjump.2.1 hjump
    · have hcall := seqJump_calls (s := s) (c := c) (w := w) (rd := 31) h0 h1
      exact issues_within rfl hi (noFn w) (exec_call c s0) rfl hcall.2.1 hcall
  case jr =>
    intro c w s0 s hi k t ht h1
    have hcall := seqJump_calls (s := s) (c := c) (w := w) (rd := iRd w) (Int.natCast_nonneg t) (by omega)
    exact issues_within rfl hi (noFn w) (exec_jr c s0) (if_neg (not_not_intro ht)) hcall.2.1 hcall

/-! ### SYS (10 R334) -/

section Sys

variable {s : State} {c w : Nat}

theorem exec_sysRow (c : Nat) (s : State) :
    ∀ p ∈ sysRows, exec (p.2.1 c) s = s.issue c 0x3C (some p.1) fun s w => s.seqAlu c w (p.2.2 s c) :=
  List.forall_iff_forall_mem.mp ⟨rfl, rfl⟩

/-- The pending events that WFE takes are no longer pending. -/
theorem events_taken (e : BitVec 9) {mask : Nat} (h : mask < 512) :
    (e &&& ~~~BitVec.ofNat 9 mask).toNat = e.toNat - (e.toNat &&& mask) := by
  have hmask : (e &&& BitVec.ofNat 9 mask).toNat = e.toNat &&& mask := by
    rw [BitVec.toNat_and, BitVec.toNat_ofNat, Nat.mod_eq_of_lt h]
  have hsplit : (e &&& ~~~BitVec.ofNat 9 mask) + (e &&& BitVec.ofNat 9 mask) = e := by
    rw [BitVec.add_eq_or_of_and_eq_zero]
    · ext i
      simp only [BitVec.getElem_or, BitVec.getElem_and, BitVec.getElem_not]
      cases e[i] <;> cases (BitVec.ofNat 9 mask)[i] <;> rfl
    · ext i
      simp only [BitVec.getElem_and, BitVec.getElem_not, BitVec.getElem_zero]
      cases e[i] <;> cases (BitVec.ofNat 9 mask)[i] <;> rfl
  have hle : e &&& BitVec.ofNat 9 mask ≤ e := by
    rw [BitVec.le_def, BitVec.toNat_and]
    exact Nat.and_le_left
  rw [← hmask, ← BitVec.toNat_sub_of_le hle]
  exact congrArg BitVec.toNat (BitVec.eq_sub_iff_add_eq.mpr hsplit)

/-- WFE with an event of its mask pending takes all of these. -/
def State.wfeTakes (s : State) (c w mask : Nat) : State :=
  s.seqNext c w fun s' => (s'.putReg c (iRd w)
    (BitVec.ofNat 64 ((s.cluster c).core.events.toNat &&& mask))).modCore c fun k =>
      { k with events := k.events &&& ~~~BitVec.ofNat 9 mask }

/-- The core goes on with the events that it has taken in RD. -/
theorem wfeTakes_takes (hpc : (s.cluster c).core.pc < 0xFFFC) {mask : Nat} (hm : mask < 512) :
    let k := (s.cluster c).core
    let u := s.wfeTakes c w mask
    CoreGoes k { (u.cluster c).core with events := k.events } (k.pc + 4) (iRd w) (BitVec.ofNat 64 (k.events.toNat &&& mask))
      ∧ (u.cluster c).core.events.toNat = k.events.toNat - (k.events.toNat &&& mask) ∧ OnlyCore s u c := by
  intro k u
  obtain ⟨t, ht⟩ := setReg_regs k (iRd w) (BitVec.ofNat 64 (k.events.toNat &&& mask))
  have hreg := reg_setReg k (iRd w) (BitVec.ofNat 64 (k.events.toNat &&& mask))
  have hu : u = (((s.putReg c (iRd w) (BitVec.ofNat 64 (k.events.toNat &&& mask))).modCore c fun k =>
      { k with events := k.events &&& ~~~BitVec.ofNat 9 mask }).modCore c fun k => { k with pc := k.pc + 4 }) :=
    seqNext_goes hpc
  have hcore : (u.cluster c).core =
      { k with regs := t, events := k.events &&& ~~~BitVec.ofNat 9 mask, pc := k.pc + 4 } := by
    rw [hu, cluster_modCore_same, cluster_modCore_same, State.putReg, cluster_modCore_same]
    change ({ k.setReg _ _ with events := _, pc := _ } : Core) = _
    rw [ht]
  rw [hcore, hu]
  rw [ht] at hreg
  exact ⟨⟨hreg, rfl⟩, events_taken k.events hm,
    ((modCore_onlyCore s c _).trans (modCore_onlyCore _ c _)).trans (modCore_onlyCore _ c _)⟩

theorem fetchByte_fenced (k : Cluster) (n x : Nat) (h : k.core.unfenced = []) : k.fetchByte n x = Tab.get 0 k.isram x := by
  rw [Cluster.fetchByte, h]
  rfl

theorem exec_wfe (c : Nat) (s : State) : exec (.wfe c) s = s.issue c 0x3C (some 2) fun s w =>
    if 0xFFFC ≤ (s.cluster c).core.pc then s.seqFault c 4 w
    else if (s.cluster c).core.events.toNat &&& ((s.reg c (iRa w)).toNat % 512) = 0 then
      s.seqWait c (.wfe (iRd w) ((s.reg c (iRa w)).toNat % 512))
    else s.wfeTakes c w ((s.reg c (iRa w)).toNat % 512) := rfl

theorem exec_odrd (c : Nat) (s : State) : exec (.odrd c) s = s.issue c 0x3C (some 1) fun s w =>
    if !s.odrdOk (Word.bits (s.reg c (iRa w)) 23 8) (Word.bits (s.reg c (iRa w)) 7 0) then s.seqFault c 5 w
    else s.seqAlu c w (s.odSlot (Word.bits (s.reg c (iRa w)) 23 8) (Word.bits (s.reg c (iRa w)) 7 0)) := rfl

theorem odrd_reads {i j : Nat} {a b : State} (h : s.odrdOk i j = true) : (if !s.odrdOk i j then a else b) = b := by
  rw [h]
  rfl

theorem odrd_refuses {i j : Nat} {a b : State} (h : s.odrdOk i j = false) : (if !s.odrdOk i j then a else b) = a := by
  rw [h]
  rfl

theorem exec_halt (c : Nat) (s : State) : exec (.halt c) s = s.issue c 0x00 none fun s _ =>
    s.modCore c fun k => { k with st := .halted } := rfl

/-- IFENCE lets fetch see every store. -/
def State.fences (s : State) (c : Nat) : State := s.modCore c fun k => { k with unfenced := [] }

theorem exec_ifence (c : Nat) (s : State) : exec (.ifence c) s = s.issue c 0x3C (some 3) fun s w =>
    s.seqNext c w fun s => s.fences c := rfl

theorem seqNext_fences (hpc : (s.cluster c).core.pc < 0xFFFC) :
    (s.seqNext c w fun s => s.fences c).cluster c =
      { s.cluster c with core := { (s.cluster c).core.next with unfenced := [] } }
    ∧ OnlyCore s (s.seqNext c w fun s => s.fences c) c := by
  rw [seqNext_goes hpc, State.fences]
  exact ⟨by rw [cluster_modCore_same, cluster_modCore_same]; rfl, (modCore_onlyCore s c _).trans (modCore_onlyCore _ c _)⟩

end Sys

/-- Settles O29: each SYS instruction is one register result, a wait, or one change of the core. -/
theorem systemInstructions : Obligations.SystemInstructions := by
  unfold Obligations.SystemInstructions
  refine ⟨?halt, ?sys⟩
  case halt =>
    intro c w s0 s hi
    have honly := modCore_onlyCore s c fun k => { k with st := .halted }
    exact issues_within rfl hi (noFn w) (exec_halt c s0) rfl honly.1 ⟨by rw [cluster_modCore_same], honly⟩
  case sys =>
    intro c w s0 s hi hpc k
    refine ⟨fun p hp hfn => ?_, fun hfn hok => ?_, fun hfn => ⟨fun he => ?_, fun he => ?_⟩, fun hfn => ?_⟩
    · exact issues_result rfl hi (sysFn hfn) (exec_sysRow c s0 p hp) rfl (seqAlu_result hpc)
    · exact issues_result rfl hi (sysFn hfn) (exec_odrd c s0) (odrd_reads hok) (seqAlu_result hpc)
    · have hmask : (k.reg (iRa w)).toNat % 512 < 512 := Nat.mod_lt _ (by decide)
      have htakes := wfeTakes_takes (w := w) hpc hmask
      exact issues_within rfl hi (sysFn hfn) (exec_wfe c s0) ((if_neg (not_le.mpr hpc)).trans (if_neg he))
        htakes.2.2.1 htakes
    · have hwait := seqWait_waits s c (.wfe (iRd w) ((k.reg (iRa w)).toNat % 512))
      exact issues_within rfl hi (sysFn hfn) (exec_wfe c s0) ((if_neg (not_le.mpr hpc)).trans (if_pos he)) hwait.2.1 hwait
    · obtain ⟨hcluster, honly⟩ := seqNext_fences (w := w) hpc
      refine issues_within rfl hi (sysFn hfn) (exec_ifence c s0) rfl honly.1 ⟨fun n x => ?_, by rw [hcluster], honly⟩
      rw [hcluster]
      exact fetchByte_fenced _ n x rfl

/-! ### Faults (10 R335) -/

section Faults

variable {s s0 : State} {c w : Nat}

theorem seqAlu_faults {v : Word} (hpc : 0xFFFC ≤ (s.cluster c).core.pc) : s.seqAlu c w v = s.seqFault c 4 w :=
  seqNext_faults hpc

/-- A word that is no instruction faults. -/
theorem illegal_faults (hs : s0.coreTurn c false = s) (hc : c < 48) (hon : s.seqOn c = true)
    (hw : (s.cluster c).fetch s.free (s.cluster c).core.pc = w) (hlegal : seqLegal w = false) :
    Completes (.illegalInstruction c) s0 fun u => CoreFaults s u c 1 w := by
  subst hs hw
  have hx : exec (.illegalInstruction c) s0 = go s0 (State.seqFault _ c 1 _) :=
    ifUnit_when _ _ (decide_eq_true hc) (by rw [hon, hlegal]; rfl)
  have hfault := seqFault_faults (s0.coreTurn c false) c 1
    (((s0.coreTurn c false).cluster c).fetch (s0.coreTurn c false).free ((s0.coreTurn c false).cluster c).core.pc)
  have hwork := coreTurn_work s0 c false
  exact completes_kept hx (hfault.build.trans hwork.build) (hfault.pending.trans hwork.pending) hfault

/-- The access of a load or of a store, and what the instruction does when it faults or reaches its bytes. -/
structure AccessRow (p : Nat × (Nat → Instr) × Nat) (load : Bool) : Prop where
  exec : ∀ c s0, ∃ f, exec (p.2.1 c) s0 = s0.issue c p.1 none f
    ∧ (∀ s w k, seqAccess (State.seqAddr s c w) p.2.2 load = k → k ≠ 0 → f s w = s.seqFault c k w)
    ∧ ∀ s w, seqAccess (State.seqAddr s c w) p.2.2 load = 0 → 0xFFFC ≤ (s.cluster c).core.pc → f s w = s.seqFault c 4 w
  lwu : load = true ∧ p.2.2 = 4 ↔ p.1 = 0x12
  sw : p.2.2 ≠ 4 ∨ p.1 = 0x16 → ¬ (load = true ∧ p.2.2 = 4)

theorem loadRow_access {p : Nat × (Nat → Instr) × Nat} (hp : p ∈ loadRows) : AccessRow p true where
  exec c s0 := ⟨_, exec_loadRow c s0 p hp, fun _ _ _ => seqLoad_faults,
    fun _ _ hacc hpc => (seqLoad_reads hacc).trans (seqAlu_faults hpc)⟩
  lwu := by
    simp only [loadRows, List.mem_cons, List.not_mem_nil, or_false] at hp
    obtain rfl | rfl | rfl | rfl := hp <;> decide
  sw := by
    simp only [loadRows, List.mem_cons, List.not_mem_nil, or_false] at hp
    obtain rfl | rfl | rfl | rfl := hp <;> decide

theorem storeRow_access {p : Nat × (Nat → Instr) × Nat} (hp : p ∈ storeRows) : AccessRow p false where
  exec c s0 := ⟨_, exec_storeRow c s0 p hp, fun _ _ _ => seqStore_faults,
    fun _ _ hacc hpc => (seqStore_writes hacc).trans (seqNext_faults hpc)⟩
  lwu := by
    simp only [storeRows, List.mem_cons, List.not_mem_nil, or_false] at hp
    obtain rfl | rfl | rfl | rfl := hp <;> decide
  sw := fun _ h => Bool.false_ne_true h.1

theorem accessRow {p : Nat × (Nat → Instr) × Nat} (hp : p ∈ loadRows ++ storeRows) : ∃ load, AccessRow p load :=
  (List.mem_append.mp hp).elim (fun h => ⟨true, loadRow_access h⟩) fun h => ⟨false, storeRow_access h⟩

theorem exec_qabort (c : Nat) (s : State) : exec (.qabort c) s = s.issue c 0x31 none fun s w => s.seqNext c w fun s =>
    let r := if qRb w = 0 then s.abortOne c (qQ w) ((s.reg c (qRa w)).toNat % 2 ^ 32) else s.abortAll c (qQ w)
    r.1.putReg c (qRd w) (BitVec.ofNat 64 r.2) := rfl

theorem exec_qinfo (c : Nat) (s : State) : exec (.qinfo c) s = s.issue c 0x32 none fun s w => s.seqNext c w fun s =>
    s.putReg c (qRd w) (pack [(32, ((s.cluster c).queue (qQ w)).next), (0, s.queueFree c (qQ w))]) := rfl

theorem exec_spush (c : Nat) (s : State) : exec (.spush c) s = s.issue c 0x34 none fun s w =>
    if !s.tilePresent (tileNo c (tTile w)) then s.seqNext c w id
    else if 0xFFFC ≤ (s.cluster c).core.pc then s.seqFault c 4 w
    else if 32 ≤ ((s.tile c (tTile w)).str (tStr w)).ents.length then s.seqWait c (.fullStream (tTile w) (tStr w))
    else s.seqNext c w fun s => s.pushStream c (tTile w) (tStr w) (s.reg c (tRa w)) := rfl

theorem exec_sflush (c : Nat) (s : State) : exec (.sflush c) s = s.issue c 0x35 none fun s w =>
    s.seqNext c w fun s => s.flushStream c (tTile w) (tStr w) := rfl

theorem exec_sinfo (c : Nat) (s : State) : exec (.sinfo c) s = s.issue c 0x36 none fun s w => s.seqNext c w fun s =>
    s.putReg c (tRd w) (BitVec.ofNat 64 (32 - ((s.tile c (tTile w)).str (tStr w)).ents.length)) := rfl

theorem exec_frd (c : Nat) (s : State) : exec (.frd c) s = s.issue c 0x38 none fun s w =>
    s.seqAlu c w (BitVec.ofNat 64 (s.flag c (fFlag w)).toNat) := rfl

theorem exec_fwait (c : Nat) (s : State) : exec (.fwait c) s = s.issue c 0x3B none fun s w =>
    if 0xFFFC ≤ (s.cluster c).core.pc then s.seqFault c 4 w
    else if waitHolds (fForm w) (s.flag c (fFlag w)) (s.reg32 c w) then s.seqNext c w fun s' =>
      if fForm w = 3 then (s'.setFlag c (fFlag w) (s'.flag c (fFlag w) - s.reg32 c w)).noteHeads c else s'
    else s.seqWait c (.flag (fForm w) (fFlag w) (s.reg32 c w)) := rfl

/-- An absent tile takes a stream entry, and the core goes on or faults as for a present one (07 R224). -/
theorem spush_faults {a : State} (hpc : 0xFFFC ≤ (s.cluster c).core.pc) :
    (if !s.tilePresent (tileNo c (tTile w)) then s.seqNext c w id
      else if 0xFFFC ≤ (s.cluster c).core.pc then s.seqFault c 4 w else a) = s.seqFault c 4 w := by
  rw [if_pos hpc]
  exact (ite_congr rfl (fun _ => seqNext_faults hpc) fun _ => rfl).trans (ite_self _)

/-- An instruction that goes on to the next one faults where none follows. -/
theorem exec_onwardRow (c : Nat) (s0 : State) {p : Nat × Option Nat × (Nat → Instr)} (hp : p ∈ onwardRows) :
    ∃ f, exec (p.2.2 c) s0 = s0.issue c p.1 p.2.1 f
      ∧ ∀ s w, 0xFFFC ≤ (State.cluster s c).core.pc → f s w = s.seqFault c 4 w := by
  obtain halu | hother := List.mem_append.mp hp
  · obtain ⟨r, hr, rfl⟩ := List.mem_map.mp halu
    exact ⟨_, exec_aluRow c s0 r hr, fun _ _ => seqAlu_faults⟩
  · simp only [List.mem_cons, List.not_mem_nil, or_false] at hother
    obtain rfl | rfl | rfl | rfl | rfl | rfl | rfl | rfl | rfl | rfl | rfl := hother
    · exact ⟨_, exec_qabort c s0, fun _ _ => seqNext_faults⟩
    · exact ⟨_, exec_qinfo c s0, fun _ _ => seqNext_faults⟩
    · exact ⟨_, exec_spush c s0, fun _ _ => spush_faults⟩
    · exact ⟨_, exec_sflush c s0, fun _ _ => seqNext_faults⟩
    · exact ⟨_, exec_sinfo c s0, fun _ _ => seqNext_faults⟩
    · exact ⟨_, exec_frd c s0, fun _ _ => seqAlu_faults⟩
    · exact ⟨_, exec_fwait c s0, fun _ _ hpc => if_pos hpc⟩
    · exact ⟨_, exec_sysRow c s0 (0, _, _) (.head _), fun _ _ => seqAlu_faults⟩
    · exact ⟨_, exec_wfe c s0, fun _ _ hpc => if_pos hpc⟩
    · exact ⟨_, exec_ifence c s0, fun _ _ => seqNext_faults⟩
    · exact ⟨_, exec_sysRow c s0 (4, _, _) (.tail _ (.head _)), fun _ _ => seqAlu_faults⟩

theorem exec_fwr (c : Nat) (more : Bool) (s : State) : exec (.fwr c more) s =
    s.issue c 0x39 none (fun s w => s.seqFlag c w true more none) true := rfl

theorem exec_fadd (c : Nat) (more : Bool) (s : State) : exec (.fadd c more) s =
    s.issue c 0x3A none (fun s w => s.seqFlag c w false more (some (s.flagStart c (fFlag w)))) true := rfl

/-- The descriptor of a QPUSH joins its queue, and the ticket goes to RD. -/
def State.qpushes (s : State) (c w : Nat) : State :=
  s.seqNext c w fun s' =>
    ((s'.pushEntry c (qQ w) (s'.descAt c (s.reg c (qRa w)).toNat) (s'.reg c (qRb w)) (s'.reg c (qRc w)) none).putReg c (qRd w)
      (BitVec.ofNat 64 ((s.cluster c).queue (qQ w)).next)).modCore c fun k =>
        { k with pushed := some (qQ w, qRd w, s.reg c (qRd w)) }

theorem exec_qpush (c : Nat) (s : State) : exec (.qpush c) s = s.issue c 0x30 none fun s w =>
    if (s.reg c (qRa w)).toNat % 64 ≠ 0 then s.seqFault c 2 w
    else if 0x10000 ≤ (s.reg c (qRa w)).toNat then s.seqFault c 3 w
    else if 0xFFFC ≤ (s.cluster c).core.pc then s.seqFault c 4 w
    else if s.queueFree c (qQ w) = 0 then s.seqWait c (.fullQueue (qQ w))
    else s.qpushes c w := rfl

end Faults

/-- Settles O30: an instruction faults in the branch of its definition for the first of its faults. -/
theorem sequencerFaults : Obligations.SequencerFaults := by
  unfold Obligations.SequencerFaults
  refine ⟨?illegal, ?access, ?onward, ?flags, ?branches, ?jumps, ?jr, ?odrd, ?qpush⟩
  case illegal =>
    intro c s0 s hc hon w hlegal
    exact illegal_faults rfl hc hon rfl hlegal
  case access =>
    intro p hp c w s0 s hi a
    obtain ⟨load, hrow⟩ := accessRow hp
    obtain ⟨f, hx, hfault, hlast⟩ := hrow.exec c s0
    have hflag := hrow.lwu
    have hnoFlag := hrow.sw
    refine ⟨fun ha => ?_, fun ha hout => ?_, fun ha hin hpc => ?_⟩
    · exact issues_faults rfl hi (noFn w) hx (hfault s w 2 (seqAccess_misaligned ha) (by decide))
    · have hun : ¬ Reached a p.2.2 load := by
        rintro (h | h | ⟨hl, hn, h⟩)
        · omega
        · omega
        · obtain h' | h' | ⟨-, -, h'⟩ := hout
          · omega
          · omega
          · exact hnoFlag h' ⟨hl, hn⟩
      exact issues_faults rfl hi (noFn w) hx (hfault s w 3 (seqAccess_unreached ha hun) (by decide))
    · have hre : Reached a p.2.2 load := by
        obtain h | h | ⟨hop, h⟩ := hin
        · exact .inl h
        · exact .inr (.inl h)
        · obtain ⟨hl, hn⟩ := hflag.mpr hop
          exact .inr (.inr ⟨hl, hn, h⟩)
      exact issues_faults rfl hi (noFn w) hx (hlast s w (seqAccess_reached ha hre) hpc)
  case onward =>
    intro p hp c w s0 s hi hfn hpc
    obtain ⟨f, hx, hlast⟩ := exec_onwardRow c s0 hp
    exact issues_faults rfl hi hfn hx (hlast s w hpc)
  case flags =>
    intro c w more s0 s hpc
    exact ⟨fun hi => issues_faults rfl hi (noFn w) (exec_fwr c more s0) (if_pos hpc),
      fun hi => issues_faults rfl hi (noFn w) (exec_fadd c more s0) (if_pos hpc)⟩
  case branches =>
    intro p hp c w s0 s hi k hout
    split at hout
    · rename_i htaken
      exact issues_faults rfl hi (noFn w) (exec_branchRow c s0 p hp)
        ((seqBranch_taken htaken).trans (seqJump_faults hout))
    · rename_i hpassed
      exact issues_faults rfl hi (noFn w) (exec_branchRow c s0 p hp)
        ((seqBranch_passed (Bool.eq_false_of_not_eq_true hpassed)).trans (seqNext_faults hout))
  case jumps =>
    intro c w s0 s t hout
    exact ⟨fun hi => issues_faults rfl hi (noFn w) (exec_jmp c s0) (seqJump_faults hout),
      fun hi => issues_faults rfl hi (noFn w) (exec_call c s0) (seqJump_faults hout)⟩
  case jr =>
    intro c w s0 s hi t
    refine ⟨fun ht => ?_, fun ht hout => ?_⟩
    · exact issues_faults rfl hi (noFn w) (exec_jr c s0) (if_pos ht)
    · exact issues_faults rfl hi (noFn w) (exec_jr c s0)
        ((if_neg (not_not_intro ht)).trans (seqJump_faults (.inr (by omega))))
  case odrd =>
    intro c w s0 s hi hfn ok
    refine ⟨fun hok => ?_, fun hok hpc => ?_⟩
    · exact issues_faults rfl hi (sysFn hfn) (exec_odrd c s0) (odrd_refuses hok)
    · exact issues_faults rfl hi (sysFn hfn) (exec_odrd c s0) ((odrd_reads hok).trans (seqAlu_faults hpc))
  case qpush =>
    intro c w s0 s hi a
    refine ⟨fun ha => ?_, fun ha hout => ?_, fun ha hin hpc => ?_⟩
    · exact issues_faults rfl hi (noFn w) (exec_qpush c s0) (if_pos ha)
    · exact issues_faults rfl hi (noFn w) (exec_qpush c s0) ((if_neg (not_not_intro ha)).trans (if_pos hout))
    · exact issues_faults rfl hi (noFn w) (exec_qpush c s0)
        ((if_neg (not_not_intro ha)).trans ((if_neg (not_le.mpr hin)).trans (if_pos hpc)))

end Sys2Proof.Machine

/-! ## O35: doorbells and the restart of a ring -/

namespace Sys2Proof.Machine

section Doorbells

variable {s : State} {p r port size : Nat} {v : BitVec 64}

theorem ring_setRing (s : State) (k j : Nat) (g : Ring) : (s.setRing k g).ring j = if j = k then g else s.ring j :=
  Tab.get_set _ _ _ _ _

/-- A write to the slot of ring `r` in the page of partition `p`. -/
theorem exec_doorbellWrite (hport : s.cxlFitted port = true) (hup : s.cxlUp port = true) (hsize : size = 4 ∨ size = 8)
    (hp : p < 16) (hr : r < 16) (hserves : s.portServes port p = true) :
    exec (.doorbellWrite port (4096 * p + 8 * r) size v) s = go s (s.doorbell p r (v.toNat % 2 ^ 32)) := by
  have hpage : (4096 * p + 8 * r) / 4096 = p := by omega
  have hslot : (4096 * p + 8 * r) % 4096 / 8 = r := by omega
  have halign : (4096 * p + 8 * r) % 8 = 0 := by omega
  have htaken := ifUnit_when s (s.doorbell p r (v.toNat % 2 ^ 32)) hport (d := s.cxlUp port && (size == 4 || size == 8)
    && (4096 * p + 8 * r) % 8 == 0 && decide (p < 16) && decide (r < 16) && s.portServes port p)
    (by simp [hup, hsize, halign, hp, hr, hserves])
  change execDoorbellWrite port (4096 * p + 8 * r) size v s = _
  rw [execDoorbellWrite]
  dsimp only
  rwa [hpage, hslot]

/-- A write of another size, or in a page that the port does not serve, is no doorbell. -/
theorem exec_doorbellWrite_ignored (hr : r < 16) (h : ¬ (size = 4 ∨ size = 8) ∨ s.portServes port p = false) :
    exec (.doorbellWrite port (4096 * p + 8 * r) size v) s = .next s := by
  have hpage : (4096 * p + 8 * r) / 4096 = p := by omega
  have hslot : (4096 * p + 8 * r) % 4096 / 8 = r := by omega
  change execDoorbellWrite port (4096 * p + 8 * r) size v s = _
  rw [execDoorbellWrite]
  dsimp only
  rw [hpage, hslot]
  exact ifUnit_when_not _ _ (by obtain h | h := h <;> simp_all)

/-- A ring that is enabled and not STOPPED, of a partition in use, takes doorbells. -/
def State.ringListens (s : State) (p r : Nat) : Prop :=
  s.ringOn (ringKey p r) = true ∧ (s.ring (ringKey p r)).stopped = false ∧ (s.part p).st ≠ 0

theorem doorbell_ignored {n : Nat}
    (h : s.ringOn (ringKey p r) = false ∨ (s.ring (ringKey p r)).stopped = true ∨ (s.part p).st = 0) :
    s.doorbell p r n = s := if_pos (by obtain h | h | h := h <;> simp [h])

theorem doorbell_heard {n : Nat} (h : s.ringListens p r) : s.doorbell p r n =
    let g := s.ring (ringKey p r)
    let d := (n + 2 ^ 32 - g.head) % 2 ^ 32
    if d ≤ s.ringSize (ringKey p r) && (g.tail + 2 ^ 32 - g.head) % 2 ^ 32 ≤ d then s.setRing (ringKey p r) { g with tail := n }
    else s.ringLog 0x33 p r 0 n := by
  obtain ⟨hon, hrun, hpart⟩ := h
  exact if_neg (by simp [hon, hrun, hpart])

theorem doorbell_moves {n : Nat} (h : s.ringListens p r)
    (hsize : (n + 2 ^ 32 - (s.ring (ringKey p r)).head) % 2 ^ 32 ≤ s.ringSize (ringKey p r))
    (htail : ((s.ring (ringKey p r)).tail + 2 ^ 32 - (s.ring (ringKey p r)).head) % 2 ^ 32 ≤
      (n + 2 ^ 32 - (s.ring (ringKey p r)).head) % 2 ^ 32) :
    s.doorbell p r n = s.setRing (ringKey p r) { s.ring (ringKey p r) with tail := n } :=
  (doorbell_heard h).trans (if_pos (by rw [decide_eq_true hsize, decide_eq_true htail]; rfl))

theorem doorbell_overruns {n : Nat} (h : s.ringListens p r)
    (hout : s.ringSize (ringKey p r) < (n + 2 ^ 32 - (s.ring (ringKey p r)).head) % 2 ^ 32
      ∨ (n + 2 ^ 32 - (s.ring (ringKey p r)).head) % 2 ^ 32 <
        ((s.ring (ringKey p r)).tail + 2 ^ 32 - (s.ring (ringKey p r)).head) % 2 ^ 32) :
    s.doorbell p r n = s.ringLog 0x33 p r 0 n :=
  (doorbell_heard h).trans (if_neg (by rw [Bool.and_eq_true, decide_eq_true_eq, decide_eq_true_eq]; omega))

theorem ringLog_logs (s : State) (event p r code n w1 : Nat) : Logs s (s.ringLog event p r code n w1)
    [pack [(56, event), (50, s.ringCluster (ringKey p r)), (45, p), (41, r), (36, code), (0, n % 2 ^ 32)],
      BitVec.ofNat 64 w1] :=
  log_logs s (Nat.le_add_left 2 4)

end Doorbells

/-! ### RING_RESTART (10 R360, R366) -/

section Restart

variable {s : State} {p r : Nat}

/-- The entry that restarts a ring. -/
def restartRow : OdRow := ⟨0x2400, 256, 5, 1, 1, .wo, 0, 0, allMask, 0, 1⟩

theorem odRows_restart : ∀ p < 16, ∀ r < 16, odRows.find? (fun x => x.covers (0x2400 + (16 * p + r)) 5) = some restartRow := by
  decide +kernel

theorem odFits_ring (s : State) {k : Nat} (hk : k < 256) : s.odFits (0x2400 + k) = true := by
  have hout {lo hi : Nat} (h : 0x2500 ≤ lo) : (decide (lo ≤ 0x2400 + k) && decide (0x2400 + k < hi)) = false := by
    rw [decide_eq_false (by omega), Bool.false_and]
  simp [State.odFits, hout]

theorem odRow_restart (s : State) (hp : p < 16) (hr : r < 16) : s.odRow (0x2400 + (16 * p + r)) 5 = some restartRow := by
  rw [State.odRow, if_pos (odFits_ring s (by omega)), odRows_restart p hp r hr]

theorem actIdent_restart (s : State) (path : Nat) (hp : p < 16) (hr : r < 16) :
    s.actIdent path (0x2400 + (16 * p + r)) 5 1 = some (s.restartRing p r, 0) := by
  have hpart : (decide (0x2010 ≤ 0x2400 + (16 * p + r)) && decide (0x2400 + (16 * p + r) < 0x2020)) = false := by
    rw [Bool.and_eq_false_iff, decide_eq_false_iff_not, decide_eq_false_iff_not]
    omega
  have hring : (decide (0x2400 ≤ 0x2400 + (16 * p + r)) && decide (0x2400 + (16 * p + r) < 0x2500) && (5 : Nat) == 5) = true := by
    rw [decide_eq_true (by omega), decide_eq_true (by omega)]
    rfl
  have hkey : (16 * p + r) / 16 = p ∧ (16 * p + r) % 16 = r := by omega
  rw [State.actIdent]
  dsimp only
  rw [hpart, if_neg Bool.false_ne_true, if_neg (by omega), if_pos hring, Nat.add_sub_cancel_left, hkey.1, hkey.2]
  rfl

theorem exec_ringRestart {a : Acc} (hp : p < 16) (hr : r < 16) (h : Takes s a (0x2400 + (16 * p + r)) 5 1) :
    exec (.ringRestart a p r 1) s = go s (((s.begun a).restartRing p r).tell a.path (0x2400 + (16 * p + r)) 5 0) := by
  have hwin : isWinEntry (0x2400 + (16 * p + r)) = false := by
    simp [isWinEntry]
    omega
  change execRingRestart a p r 1 s = _
  rw [execRingRestart, Nat.mod_eq_of_lt hp, Nat.mod_eq_of_lt hr, ringKey]
  exact pathWrite_acts s h hwin (odRow_restart _ hp hr) rfl (actIdent_restart _ _ hp hr)

end Restart

/-- Settles O35, by the branches of `State.doorbell` and the action of RING_RESTART. -/
theorem doorbellsAndRestarts : Obligations.DoorbellsAndRestarts := by
  unfold Obligations.DoorbellsAndRestarts
  refine ⟨?taken, ?ignored, ?restart⟩
  case taken =>
    intro port p r size v s hport hup hsize hp hr hserves hon hrun hpart g d
    have hx := exec_doorbellWrite (v := v) hport hup hsize hp hr hserves
    refine ⟨fun hin htail => ?_, fun hout => ?_⟩
    · rw [doorbell_moves ⟨hon, hrun, hpart⟩ hin htail] at hx
      refine completes_kept hx rfl rfl ⟨?_, fun k hk => ?_, rfl⟩
      · exact (ring_setRing _ _ _ _).trans (if_pos rfl)
      · exact (ring_setRing _ _ _ _).trans (if_neg hk)
    · rw [doorbell_overruns ⟨hon, hrun, hpart⟩ hout] at hx
      have hlogs := ringLog_logs s 0x33 p r 0 (v.toNat % 2 ^ 32) 0
      rw [Nat.mod_mod] at hlogs
      exact completes_kept hx rfl rfl ⟨rfl, hlogs⟩
  case ignored =>
    intro port p r size v s hport hup hp hr h
    by_cases hdoor : (size = 4 ∨ size = 8) ∧ s.portServes port p = true
    · obtain ⟨hsize, hserves⟩ := hdoor
      have hx := exec_doorbellWrite (v := v) hport hup hsize hp hr hserves
      rw [doorbell_ignored (h.resolve_left (by rw [hserves]; exact nofun))] at hx
      exact completes_kept hx rfl rfl rfl
    · rw [not_and_or, Bool.not_eq_true] at hdoor
      exact ⟨s, exec_doorbellWrite_ignored hr hdoor, rfl⟩
  case restart =>
    intro a p r s hp hr ht
    have hx := exec_ringRestart hp hr ht
    obtain ⟨hbegun, -, -⟩ := begun_only s a
    have hring (k : Nat) : (s.begun a).ring k = s.ring k := (congrArg (State.ring · k) hbegun :)
    refine completes_kept hx (congrArg State.build hbegun :) (congrArg State.pending hbegun :) ⟨?_, fun k hk => ?_, ?_⟩
    · exact ((ring_setRing _ _ _ _).trans (if_pos rfl)).trans (by rw [hring])
    · exact ((ring_setRing _ _ _ _).trans (if_neg hk)).trans (hring k)
    · exact (congrArg (fun x : State => { x with rings := s.rings }) hbegun :)

end Sys2Proof.Machine

/-! ## O31 to O34: queues, streams, flag words and rings -/

namespace Sys2Proof.Machine

/-! ### The account of blocked queue heads (11 R391) -/

section Retimed

variable {s t u : State} {c : Nat}

/-- Only the watchdog's account of the queue heads of cluster `c` has changed. -/
structure Retimed (s t : State) (c : Nat) : Prop where
  only : OnlyCluster s t c
  own : { t.cluster c with queues := (s.cluster c).queues } = s.cluster c
  queues : ∀ q, ((t.cluster c).queue q).untimed = ((s.cluster c).queue q).untimed

theorem Retimed.refl (s : State) (c : Nat) : Retimed s s c := ⟨.refl s c, rfl, fun _ => rfl⟩

theorem Retimed.trans (h : Retimed s t c) (h' : Retimed t u c) : Retimed s u c where
  only := h.only.trans h'.only
  own := (congrArg (fun k : Cluster => { k with queues := (s.cluster c).queues }) h'.own).trans h.own
  queues q := (h'.queues q).trans (h.queues q)

theorem ReadsSame.retimed (h : ReadsSame s t) (c : Nat) : Retimed s t c :=
  ⟨h.onlyCluster c, by rw [h.cluster], fun q => by rw [h.cluster]⟩

theorem Retimed.core (h : Retimed s t c) : (t.cluster c).core = (s.cluster c).core := (congrArg Cluster.core h.own :)

theorem Retimed.flag (h : Retimed s t c) (n : Nat) : t.flag c n = s.flag c n :=
  congrArg (Tab.get 0 · n) (congrArg Cluster.flags h.own :)

theorem Retimed.cycle (h : Retimed s t c) : (t.cluster c).cycle = (s.cluster c).cycle := (congrArg Cluster.cycle h.own :)

/-- What of the entries a change of one of them does not touch. -/
theorem map_modEntry {α : Type} {g : QEntry → α} {f : QEntry → QEntry} (hf : ∀ e : QEntry, g (f e) = g e) (q : Queue)
    (n : Nat) : (q.modEntry n f).entries.map g = q.entries.map g := by
  rw [Queue.modEntry, List.map_map]
  refine List.map_congr_left fun e _ => ?_
  by_cases he : e.ticket = n
  · exact (congrArg g (if_pos he)).trans (hf e)
  · exact congrArg g (if_neg he)

theorem untimed_modEntry {f : QEntry → QEntry} (hf : ∀ e : QEntry, (f e).untimed = e.untimed) (q : Queue) (n : Nat) :
    (q.modEntry n f).untimed = q.untimed :=
  congrArg (fun es => { q with entries := es }) (map_modEntry hf q n)

/-- What is noted of the heads of queues is the watchdog's account alone. -/
theorem noteHeads_retimed (s : State) (c : Nat) : Retimed s (s.noteHeads c) c where
  only := modCluster_onlyCluster s c _
  own := by rw [State.noteHeads, cluster_modCluster_same]
  queues q := by
    rw [State.noteHeads, cluster_modCluster_same]
    dsimp only [Cluster.queue]
    rw [Tab.get_mapV _ _ _ _ rfl]
    split
    · rfl
    · split
      · refine untimed_modEntry (fun e => ?_) _ _
        rfl
      · refine untimed_modEntry (fun e => ?_) _ _
        rfl

end Retimed

/-! ### The end of a hearth cycle that frees no wait (11 R374, R375) -/

section Calm

variable {s : State} {c n : Nat} {ns : List Nat}

theorem evalCore_idle (h : (s.cluster c).core.wait = none) : s.evalCore c ns = s := by
  unfold State.evalCore
  rw [h]

theorem wakeWfe_idle {k : Core} (h : k.wait = none) : k.wakeWfe = k := by
  unfold Core.wakeWfe
  rw [h]

/-- Evaluate the wait of the head of a queue, if it waits on a flag word of `ns`. -/
def State.evalHead (s : State) (c : Nat) (ns : List Nat) (q : Nat) : State :=
  match ((s.cluster c).queue q).head with
  | some e => if e0Ok e.e0 && e0Form e.e0 != 0 && ns.contains (e0Flag e.e0) then s.dispatchHead c q else s
  | none => s

theorem evalWaits_eq (s : State) (c : Nat) (ns : List Nat) : s.evalWaits c ns =
    (((upTo 8).foldl (fun s q => s.evalHead c ns q) s).evalCore c ns).noteHeads c := rfl

theorem evalHead_calm {q : Nat} (hq : q < 8) (h : ∀ n ∈ ns, NoWaiter s c n) : s.evalHead c ns q = s := by
  unfold State.evalHead
  split
  · rename_i e he
    refine if_neg fun hrun => ?_
    simp only [Bool.and_eq_true, bne_iff_ne, List.contains_iff_mem] at hrun
    obtain ⟨⟨-, hform⟩, hflag⟩ := hrun
    exact ((h _ hflag).2 q hq e he).elim hform fun hne => hne rfl
  · rfl

/-- No head and no core waits on what has been written. -/
theorem evalWaits_calm (hwait : (s.cluster c).core.wait = none) (h : ∀ n ∈ ns, NoWaiter s c n) :
    Retimed s (s.evalWaits c ns) c := by
  rw [evalWaits_eq, foldl_id (l := upTo 8) fun q hq => evalHead_calm (List.mem_range.mp hq) h, evalCore_idle hwait]
  exact noteHeads_retimed s c

/-- A hearth cycle whose writes nobody waits on ends without a further effect. -/
theorem closeCycle_calm {fc : FlagCycle} (hfc : (s.cluster c).cycle = some fc) (hne : fc.writes ≠ [])
    (h : ∀ x ∈ fc.writes, NoWaiter s c x.flg) :
    Retimed (s.modCluster c fun k => { k with cycle := none }) (s.closeCycle c) c := by
  obtain ⟨x, hx⟩ := List.exists_mem_of_ne_nil _ hne
  have hself := cluster_modCluster_same s c fun k => { k with cycle := none }
  have hcalm := evalWaits_calm (s := s.modCluster c fun k => { k with cycle := none }) (c := c)
    (ns := fc.writes.map FlagW.flg) (by rw [hself]; exact (h x hx).1) fun n hn => by
      obtain ⟨y, hy, rfl⟩ := List.mem_map.mp hn
      unfold NoWaiter
      rw [hself]
      exact h y hy
  have hclose : s.closeCycle c = ((s.modCluster c fun k => { k with cycle := none }).evalWaits c
      (fc.writes.map FlagW.flg)).modCore c Core.wakeWfe := by
    rw [State.closeCycle, hfc]
  rw [hclose]
  refine hcalm.trans (ReadsSame.retimed (modCluster_same ?_) c)
  rw [wakeWfe_idle]
  rw [hcalm.core, hself]
  exact (h x hx).1

end Calm

/-! ### The writes of a hearth cycle (11 R371, R374) -/

section Cycle

variable {s : State} {c n : Nat}

theorem flag_setFlag (s : State) (c n : Nat) (v : W32) (m : Nat) :
    (s.setFlag c n v).flag c m = if m = n then v else s.flag c m := by
  rw [State.flag, State.setFlag, cluster_modCluster_same]
  exact Tab.get_set _ _ _ _ _

/-- A cluster whose hearth cycle is open. -/
def Cluster.opened (k : Cluster) : Cluster := { k with cycle := some (k.cycle.getD { start := k.flags }) }

/-- The open hearth cycle of an assigned cluster, or the one that begins. -/
theorem cluster_openCycle (h : (s.cluster c).part.isSome = true) : (s.openCycle c).cluster c = (s.cluster c).opened := by
  have hpart : (s.cluster c).part.isNone = false := by rw [Option.isNone_eq_false_iff, h]
  unfold State.openCycle Cluster.opened
  cases hcyc : (s.cluster c).cycle with
  | some fc =>
    rw [if_pos (by simp), Option.getD_some, ← hcyc]
  | none => rw [hpart, if_neg (by decide), cluster_modCluster_same, Option.getD_none]

theorem openCycle_onlyCluster (s : State) (c : Nat) : OnlyCluster s (s.openCycle c) c := by
  unfold State.openCycle
  split
  · exact .refl s c
  · exact modCluster_onlyCluster s c _

/-- A cluster whose flag word `n` a hearth cycle has written. -/
def Cluster.wrote (k : Cluster) (fc : FlagCycle) (n : Nat) : Cluster :=
  { k with cycle := some fc, flags := Tab.set 0 k.flags n (fc.value n) }

/-- A hearth cycle, now `fc`, has written flag word `n`. -/
def State.cycleWrites (s : State) (c : Nat) (fc : FlagCycle) (n : Nat) : State :=
  (s.modCluster c fun k => { k with cycle := some fc }).setFlag c n (fc.value n)

theorem cluster_cycleWrites (s : State) (c : Nat) (fc : FlagCycle) (n : Nat) :
    (s.cycleWrites c fc n).cluster c = (s.cluster c).wrote fc n := by
  rw [State.cycleWrites, State.setFlag, cluster_modCluster_same, cluster_modCluster_same]
  rfl

theorem cycleWrites_onlyCluster (s : State) (c : Nat) (fc : FlagCycle) (n : Nat) : OnlyCluster s (s.cycleWrites c fc n) c :=
  (modCluster_onlyCluster s c _).trans (modCluster_onlyCluster _ c _)

/-- A write within an open hearth cycle. -/
theorem flagWrite_open {fc : FlagCycle} (hfc : (s.cluster c).cycle = some fc) (rank n : Nat) (set_ : Bool) (v : W32) :
    s.flagWrite c rank n set_ v =
      let t := s.cycleWrites c (fc.add { rank := rank, flg := n, set_ := set_, v := v }) n
      if rank = 0 then t else t.coreEvent c 8 := by
  rw [State.flagWrite, State.together, hfc]
  rfl

/-- The core writes a flag word, within the open hearth cycle or a new one. -/
theorem coreFlag_writes (h : (s.cluster c).part.isSome = true) (n : Nat) (set_ : Bool) (v : W32) :
    ((s.openCycle c).flagWrite c 0 n set_ v).cluster c = (s.cluster c).wrote (s.cycleWith c 0 n set_ v) n
      ∧ OnlyCluster s ((s.openCycle c).flagWrite c 0 n set_ v) c := by
  have hopen := cluster_openCycle h
  have hwrite : (s.openCycle c).flagWrite c 0 n set_ v = (s.openCycle c).cycleWrites c (s.cycleWith c 0 n set_ v) n :=
    (flagWrite_open (congrArg Cluster.cycle hopen) 0 n set_ v).trans (if_pos rfl)
  rw [hwrite]
  refine ⟨?_, (openCycle_onlyCluster s c).trans (cycleWrites_onlyCluster _ c _ n)⟩
  rw [cluster_cycleWrites, hopen]
  rfl

theorem cycleWith_ne (s : State) (c rank n : Nat) (set_ : Bool) (v : W32) : (s.cycleWith c rank n set_ v).writes ≠ [] :=
  List.append_ne_nil_of_right_ne_nil _ (List.cons_ne_nil _ _)

/-- The only write of a hearth cycle. -/
theorem cycleWith_value (h : (s.cluster c).cycle = none) (rank n : Nat) (set_ : Bool) (v : W32) :
    (s.cycleWith c rank n set_ v).value n = if set_ then v else s.flag c n + v := by
  rw [State.cycleWith, h]
  exact if_pos rfl

end Cycle

/-! ### FWR, FADD and FWAIT (11 R371 to R376) -/

section FlagInstructions

variable {s s0 t : State} {c w n : Nat} {v : W32}

theorem FlagFrame.of_own {k : Core} {fs : Tab W32} {cy : Option FlagCycle} (ho : OnlyCluster s t c)
    (hown : t.cluster c = { s.cluster c with core := k, flags := fs, cycle := cy })
    (hfs : ∀ m, m ≠ n → Tab.get 0 fs m = s.flag c m) : FlagFrame s t c [n] := by
  refine ⟨ho, by rw [hown], fun m hm => ?_, fun q => by rw [hown]; rfl⟩
  rw [State.flag, hown]
  exact hfs m (by simpa using hm)

theorem FlagFrame.retimed {u : State} {ns : List Nat} (h : FlagFrame s t c ns) (hr : Retimed t u c) : FlagFrame s u c ns := by
  obtain ⟨honly, hown, hflags, hqueues⟩ := h
  refine ⟨honly.trans hr.only, ?_, fun m hm => (hr.flag m).trans (hflags m hm), fun q => (hr.queues q).trans (hqueues q)⟩
  exact (congrArg (fun k : Cluster => { k with
    core := (s.cluster c).core, flags := (s.cluster c).flags, cycle := (s.cluster c).cycle
    queues := (s.cluster c).queues }) hr.own).trans hown

/-- The core has written flag word `n` and gone on, its register file having become that of `k`, before the hearth cycle
ends or goes on. -/
structure FlagStored (s t : State) (c n : Nat) (k : Core) (fc : FlagCycle) : Prop where
  own : t.cluster c = { (s.cluster c).wrote fc n with core := k }
  only : OnlyCluster s t c

theorem FlagStored.frame {k : Core} {fc : FlagCycle} (h : FlagStored s t c n k fc) : FlagFrame s t c [n] :=
  .of_own h.only h.own fun _ hm => Tab.get_set_ne _ _ _ hm

theorem FlagStored.flag {k : Core} {fc : FlagCycle} (h : FlagStored s t c n k fc) : t.flag c n = fc.value n := by
  rw [State.flag, h.own]
  exact Tab.get_set_same _ _ _ _

/-- What a flag-word instruction leaves once its hearth cycle has ended or is left open: where it ends, no wait is freed. -/
theorem FlagStored.ends {k : Core} {fc : FlagCycle} (h : FlagStored s t c n k fc) (hk : k.wait = (s.cluster c).core.wait)
    (hne : fc.writes ≠ []) {more : Bool} (hno : more = true ∨ ∀ x ∈ fc.writes, NoWaiter s c x.flg) :
    let u := t.cycleEnd c more
    u.flag c n = fc.value n ∧ (u.cluster c).core = k ∧ (u.cluster c).cycle = (if more then some fc else none)
      ∧ FlagFrame s u c [n] := by
  have hcyc : (t.cluster c).cycle = some fc := by rw [h.own]; rfl
  cases more with
  | true => exact ⟨h.flag, by rw [State.cycleEnd, if_pos rfl, h.own], hcyc, h.frame⟩
  | false =>
    have hno' : ∀ x ∈ fc.writes, NoWaiter t c x.flg := fun x hx => by
      obtain ⟨hwait, hheads⟩ := hno.resolve_left Bool.false_ne_true x hx
      unfold NoWaiter
      rw [h.own]
      exact ⟨hk.trans hwait, hheads⟩
    have hcalm := closeCycle_calm hcyc hne hno'
    have hself := cluster_modCluster_same t c fun k => { k with cycle := none }
    have hframe : FlagFrame s (t.modCluster c fun k => { k with cycle := none }) c [n] :=
      .of_own (h.only.trans (modCluster_onlyCluster t c _)) (hself.trans (by rw [h.own]; rfl)) fun _ hm =>
        Tab.get_set_ne _ _ _ hm
    refine ⟨?_, ?_, ?_, hframe.retimed hcalm⟩
    · exact (hcalm.flag n).trans ((congrArg (Tab.get 0 · n) (congrArg Cluster.flags hself)).trans h.flag)
    · exact hcalm.core.trans (by rw [hself, h.own])
    · exact hcalm.cycle.trans (by rw [hself]; rfl)

/-- The core's write of a flag word, before its hearth cycle ends. -/
def State.flagStores (s : State) (c w : Nat) (set_ : Bool) (rd : Option W32) : State :=
  s.seqNext c w fun s =>
    let s1 := (s.openCycle c).flagWrite c 0 (fFlag w) set_ (s.reg32 c w)
    match rd with
    | some v => s1.putReg c (iRd w) (BitVec.ofNat 64 v.toNat)
    | none => s1

theorem seqFlag_goes {set_ more : Bool} {rd : Option W32} (hpc : (s.cluster c).core.pc < 0xFFFC) :
    s.seqFlag c w set_ more rd = (s.flagStores c w set_ rd).cycleEnd c more := if_neg (not_le.mpr hpc)

/-- FWR goes on, its write being the newest of the hearth cycle. -/
theorem flagStores_fwr (hpc : (s.cluster c).core.pc < 0xFFFC) (hpart : (s.cluster c).part.isSome = true) :
    FlagStored s (s.flagStores c w true none) c (fFlag w) (s.cluster c).core.next
      (s.cycleWith c 0 (fFlag w) true (s.reg32 c w)) := by
  obtain ⟨hown, honly⟩ := coreFlag_writes hpart (fFlag w) true (s.reg32 c w)
  rw [State.flagStores, seqNext_goes hpc]
  exact ⟨by rw [cluster_modCore_same, hown]; rfl, honly.trans (modCore_onlyCore _ c _).1⟩

/-- FADD goes on with a register result, its write being the newest of the hearth cycle. -/
theorem flagStores_fadd (hpc : (s.cluster c).core.pc < 0xFFFC) (hpart : (s.cluster c).part.isSome = true) (v : W32) :
    FlagStored s (s.flagStores c w false (some v)) c (fFlag w)
      ((s.cluster c).core.setReg (iRd w) (BitVec.ofNat 64 v.toNat)).next
      (s.cycleWith c 0 (fFlag w) false (s.reg32 c w)) := by
  obtain ⟨hown, honly⟩ := coreFlag_writes hpart (fFlag w) false (s.reg32 c w)
  rw [State.flagStores, seqNext_goes hpc]
  refine ⟨?_, honly.trans ((modCore_onlyCore _ c _).1.trans (modCore_onlyCore _ c _).1)⟩
  dsimp only
  rw [cluster_modCore_same, State.putReg, cluster_modCore_same, hown]
  rfl

theorem setReg_wait (k : Core) (n : Nat) (v : Word) : (k.setReg n v).wait = k.wait :=
  (congrArg Core.wait (setReg_keeps k n v) :)

theorem setReg_next_goes (k : Core) (rd : Nat) (v : Word) : CoreGoes k (k.setReg rd v).next (k.pc + 4) rd v := by
  have hpc : (k.setReg rd v).pc = k.pc := (congrArg Core.pc (setReg_keeps k rd v) :)
  rw [Core.next, hpc]
  exact setReg_goes k _ rd v

theorem cycleEnd_kept (s : State) (c : Nat) (more : Bool) :
    (s.cycleEnd c more).build = s.build ∧ (s.cycleEnd c more).pending = s.pending := by
  cases more with
  | true => exact ⟨rfl, rfl⟩
  | false => exact ⟨(closeCycle_work s c).build, (closeCycle_work s c).pending⟩

/-- A flag-word instruction, whose hearth cycle then ends or goes on. -/
theorem flag_completes {P : State → Prop} {k : Core} {fc : FlagCycle} {op : Nat} {i : Instr} {set_ more : Bool}
    {rd : State → Nat → Option W32} (hs : s0.coreTurn c true = s) (hi : Issues s c op w)
    (hx : exec i s0 = s0.issue c op none (fun s w => s.seqFlag c w set_ more (rd s w)) true)
    (hpc : (s.cluster c).core.pc < 0xFFFC) (hst : FlagStored s (s.flagStores c w set_ (rd s w)) c n k fc)
    (p : P ((s.flagStores c w set_ (rd s w)).cycleEnd c more)) : Completes i s0 P := by
  obtain ⟨hb, hp⟩ := cycleEnd_kept (s.flagStores c w set_ (rd s w)) c more
  exact issues_completes hs hi (noFn w) hx (seqFlag_goes hpc) (hb.trans hst.only.build) (hp.trans hst.only.pending) p

end FlagInstructions

end Sys2Proof.Machine

/-! ## O32: address streams and flag words by instruction -/

namespace Sys2Proof.Machine

/-! ### Address streams (10 R355) -/

section Streams

variable {s : State} {c t str w : Nat} {e : TileEngine}

/-- An engine without a command leaves its stream alone. -/
theorem pumpTile_none (hfree : TileFree s c t) (he : (s.tile c t).eng e = none) : ReadsSame s (s.pumpTile c t e) := by
  have hsame := settleTile_free hfree
  rw [← hsame.tile] at he
  have hask : (s.settleTile c t).askTile c t e 512 = s.settleTile c t := by
    rw [State.askTile]
    dsimp only
    rw [he]
  have hstore : (s.settleTile c t).pumpStore c t (if e = .cEngine then 1024 else 0) = s.settleTile c t := by
    by_cases hc : e = .cEngine
    · subst hc
      have hnone : ((s.settleTile c t).tile c t).engC = none := he
      rw [if_pos rfl, State.pumpStore]
      dsimp only
      rw [hnone]
    · rw [if_neg hc]
      rfl
  have hwork : (s.settleTile c t).tileWork c t e = s.settleTile c t := by
    rw [State.tileWork]
    dsimp only
    rw [he]
  rw [State.pumpTile, hask, hstore, hwork]
  exact hsame.trans (settleTile_free (hfree.same hsame))

theorem addDrop_none {q : StreamF} (h : q.drops = []) : q.addDrop 0 = q := by
  obtain ⟨ents, used, drops⟩ := q
  subst h
  rfl

theorem eng_setStr (x : Tile) (n : Nat) (q : StreamF) : (x.setStr n q).eng e = x.eng e := by
  unfold Tile.setStr
  split
  · rfl
  · split <;> rfl

theorem tile_modCore (s : State) (c : Nat) (f : Core → Core) (d n : Nat) : (s.modCore c f).tile d n = s.tile d n := by
  rw [State.tile, State.modCore, cluster_modCluster]
  split <;> rfl

theorem queue_modCore (s : State) (c : Nat) (f : Core → Core) (d q : Nat) :
    ((s.modCore c f).cluster d).queue q = (s.cluster d).queue q := by
  rw [State.modCore, cluster_modCluster]
  split <;> rfl

/-- A tile that has one more entry in a stream. -/
def Tile.pushed (x : Tile) (n : Nat) (v : Word) : Tile := x.setStr n { x.str n with ents := (x.str n).ents ++ [v] }

/-- An entry joins the stream of an idle engine, and waits there. -/
theorem pushStream_idle (v : Word) (hdrops : ((s.tile c t).str str).drops = [])
    (heng : (s.tile c t).eng (streamEngine str) = none) (hfree : TileFree s c t) :
    ReadsSame (s.modTile c t fun x => x.pushed str v) (s.pushStream c t str v) := by
  have hpush : s.pushStream c t str v = (s.modTile c t fun x => x.pushed str v).pumpTile c t (streamEngine str) := by
    have hjoin : (s.tile c t).setStr str (({ (s.tile c t).str str with
        ents := ((s.tile c t).str str).ents ++ [v] } : StreamF).addDrop 0) = (s.tile c t).pushed str v :=
      congrArg ((s.tile c t).setStr str) (addDrop_none hdrops)
    exact congrArg (fun x => (s.setTile c t x).pumpTile c t (streamEngine str)) hjoin
  rw [hpush]
  refine pumpTile_none (hfree.modTile _) ?_
  rw [tile_modTile, if_pos rfl]
  exact (eng_setStr _ _ _).trans heng

/-- The core goes on once an entry has joined the stream of an idle engine. -/
theorem spush_joins (hpc : (s.cluster c).core.pc < 0xFFFC) (hdrops : ((s.tile c t).str str).drops = [])
    (heng : (s.tile c t).eng (streamEngine str) = none) (hfree : TileFree s c t) :
    let u := s.seqNext c w fun s => s.pushStream c t str (s.reg c (tRa w))
    u.tile c t = (s.tile c t).pushed str ((s.cluster c).core.reg (tRa w)) ∧ (∀ j, j ≠ t → u.tile c j = s.tile c j)
      ∧ { u.cluster c with tiles := (s.cluster c).tiles } = { s.cluster c with core := (s.cluster c).core.next }
      ∧ OnlyCluster s u c := by
  have hsame := pushStream_idle (s.reg c (tRa w)) hdrops heng hfree
  rw [seqNext_goes hpc]
  refine ⟨?_, fun j hj => ?_, ?_, ?_⟩
  · rw [tile_modCore, hsame.tile, tile_modTile, if_pos rfl]
    rfl
  · rw [tile_modCore, hsame.tile, tile_modTile, if_neg hj]
  · rw [cluster_modCore_same, hsame.cluster, cluster_modTile, if_pos rfl]
    rfl
  · exact ((modCluster_onlyCluster s c _).trans (hsame.onlyCluster c)).trans (modCore_onlyCore _ c _).1

/-- An entry of a stopped command of stream `str` that had still to discard its lines. -/
def QEntry.flushed (x : QEntry) (str : Nat) : QEntry :=
  if streamOf (engineOf (mqCmd x.desc)) == str && !x.started && x.compl.isSome then { x with dropped := true } else x

/-- A stream is emptied, and what its stopped commands had to discard is forgotten. -/
def State.streamEmptied (s : State) (c t str : Nat) : State :=
  (s.modTile c t fun x => x.setStr str {}).modQueue c t fun q => { q with entries := q.entries.map (QEntry.flushed · str) }

theorem flushStream_eq (s : State) (c t str : Nat) : s.flushStream c t str = (s.streamEmptied c t str).freeStreams c t := rfl

theorem cluster_streamEmptied (s : State) (c t str : Nat) : (s.streamEmptied c t str).cluster c = { s.cluster c with
    tiles := Tab.set {} (s.cluster c).tiles t ((s.tile c t).setStr str {})
    queues := Tab.set {} (s.cluster c).queues t { (s.cluster c).queue t with
      entries := ((s.cluster c).queue t).entries.map (QEntry.flushed · str) } } := by
  rw [State.streamEmptied, State.modQueue, cluster_modCluster_same, cluster_modTile, if_pos rfl]
  rfl

/-- The core goes on once the stream is empty. -/
theorem sflush_empties (hpc : (s.cluster c).core.pc < 0xFFFC)
    (hwait : ∀ n, (s.cluster c).core.wait ≠ some (.fullStream t n)) :
    let u := s.seqNext c w fun s => s.flushStream c t str
    u.tile c t = (s.tile c t).setStr str {} ∧ (∀ j, j ≠ t → u.tile c j = s.tile c j)
      ∧ (u.cluster c).queue t = { (s.cluster c).queue t with
          entries := ((s.cluster c).queue t).entries.map (QEntry.flushed · str) }
      ∧ (∀ j, j ≠ t → (u.cluster c).queue j = (s.cluster c).queue j)
      ∧ { u.cluster c with tiles := (s.cluster c).tiles, queues := (s.cluster c).queues }
        = { s.cluster c with core := (s.cluster c).core.next } ∧ OnlyCluster s u c := by
  have hown := cluster_streamEmptied s c t str
  have hsame : ReadsSame (s.streamEmptied c t str) (s.flushStream c t str) := by
    rw [flushStream_eq]
    refine freeStreams_free ?_
    rw [hown]
    exact hwait
  rw [seqNext_goes hpc]
  refine ⟨?_, fun j hj => ?_, ?_, fun j hj => ?_, ?_, ?_⟩
  · rw [tile_modCore, hsame.tile, State.tile, hown]
    exact Tab.get_set_same _ _ _ _
  · rw [tile_modCore, hsame.tile, State.tile, hown]
    exact Tab.get_set_ne _ _ _ hj
  · rw [queue_modCore, hsame.queue, hown]
    exact Tab.get_set_same _ _ _ _
  · rw [queue_modCore, hsame.queue, hown]
    exact Tab.get_set_ne _ _ _ hj
  · rw [cluster_modCore_same, hsame.cluster, hown]
    rfl
  · exact (((modCluster_onlyCluster s c _).trans (modCluster_onlyCluster _ c _)).trans (hsame.onlyCluster c)).trans
      (modCore_onlyCore _ c _).1

theorem spush_present (hpc : (s.cluster c).core.pc < 0xFFFC) (hhere : s.tilePresent (tileNo c (tTile w)) = true)
    {b : State} : (if !s.tilePresent (tileNo c (tTile w)) then s.seqNext c w id
      else if 0xFFFC ≤ (s.cluster c).core.pc then s.seqFault c 4 w else b) = b :=
  (if_neg (by rw [hhere]; exact Bool.false_ne_true)).trans (if_neg (not_le.mpr hpc))

end Streams

/-! ### FWAIT (11 R373, R376) -/

section Fwait

variable {s : State} {c w n : Nat} {v : W32}

theorem Retimed.flagFrame {t : State} (h : Retimed s t c) (ns : List Nat) : FlagFrame s t c ns := by
  refine ⟨h.only, ?_, fun m _ => h.flag m, h.queues⟩
  exact (congrArg (fun k : Cluster => { k with
    core := (s.cluster c).core, flags := (s.cluster c).flags, cycle := (s.cluster c).cycle }) h.own :)

/-- What the core takes off a flag word when it goes on. -/
def State.flagTakes (s : State) (c n form : Nat) (v : W32) : State :=
  if form = 3 then (s.setFlag c n (s.flag c n - v)).noteHeads c else s

theorem flagTakes_frame (s : State) (c n form : Nat) (v : W32) :
    (s.flagTakes c n form v).flag c n = (if form = 3 then s.flag c n - v else s.flag c n)
      ∧ ((s.flagTakes c n form v).cluster c).core = (s.cluster c).core
      ∧ ((s.flagTakes c n form v).cluster c).cycle = (s.cluster c).cycle ∧ FlagFrame s (s.flagTakes c n form v) c [n] := by
  unfold State.flagTakes
  split
  · have hset := cluster_modCluster_same s c fun k => { k with flags := Tab.set 0 k.flags n (s.flag c n - v) }
    have hnote := noteHeads_retimed (s.setFlag c n (s.flag c n - v)) c
    refine ⟨?_, hnote.core.trans (congrArg Cluster.core hset :), hnote.cycle.trans (congrArg Cluster.cycle hset :), ?_⟩
    · rw [hnote.flag, flag_setFlag, if_pos rfl]
    · exact FlagFrame.retimed (.of_own (modCluster_onlyCluster s c _) hset fun _ hm => Tab.get_set_ne _ _ _ hm) hnote
  · exact ⟨rfl, rfl, rfl, (Retimed.refl s c).flagFrame [n]⟩

/-- The core goes on once its wait holds. -/
theorem fwait_goes (hpc : (s.cluster c).core.pc < 0xFFFC) (n form : Nat) (v : W32) :
    let u := s.seqNext c w fun s => s.flagTakes c n form v
    u.flag c n = (if form = 3 then s.flag c n - v else s.flag c n) ∧ (u.cluster c).core = (s.cluster c).core.next
      ∧ (u.cluster c).cycle = (s.cluster c).cycle ∧ FlagFrame s u c [n] := by
  obtain ⟨hflag, hcore, hcyc, honly, hown, hflags, hqueues⟩ := flagTakes_frame s c n form v
  rw [seqNext_goes hpc]
  have hself := cluster_modCore_same (s.flagTakes c n form v) c fun k => { k with pc := k.pc + 4 }
  have hkept (m : Nat) : ((s.flagTakes c n form v).modCore c fun k => { k with pc := k.pc + 4 }).flag c m =
      (s.flagTakes c n form v).flag c m := congrArg (Tab.get 0 · m) (congrArg Cluster.flags hself :)
  refine ⟨(hkept n).trans hflag, ?_, ?_, honly.trans (modCore_onlyCore _ c _).1, ?_, fun m hm => (hkept m).trans (hflags m hm),
    fun q => ?_⟩
  · rw [hself, hcore]
    rfl
  · rw [hself]
    exact hcyc
  · rw [hself]
    exact hown
  · rw [queue_modCore]
    exact hqueues q

end Fwait

/-- Settles O32: the stream instructions change one stream of the tile, and a flag-word write is one of its hearth cycle. -/
theorem streamAndFlagInstructions : Obligations.StreamAndFlagInstructions := by
  unfold Obligations.StreamAndFlagInstructions
  refine ⟨?streams, ?writes, ?reads⟩
  case streams =>
    intro c w s0 s hpc k ti q
    refine ⟨fun hi hhere => ⟨fun hroom hdrops heng hfree => ?_, fun hfull => ?_⟩, fun hi habsent => ?_, fun hi => ?_,
      fun hi hwait => ?_⟩
    · have hjoins := spush_joins (w := w) hpc hdrops heng hfree
      exact issues_within rfl hi (noFn w) (exec_spush c s0)
        ((spush_present hpc hhere).trans (if_neg (not_le.mpr hroom))) hjoins.2.2.2 hjoins
    · have hwaits := seqWait_waits s c (.fullStream (tTile w) (tStr w))
      exact issues_within rfl hi (noFn w) (exec_spush c s0) ((spush_present hpc hhere).trans (if_pos hfull)) hwaits.2.1 hwaits
    · have hnext := seqNext_id (w := w) hpc
      exact issues_within rfl hi (noFn w) (exec_spush c s0) (if_pos (by rw [habsent]; rfl)) hnext.2.1 hnext
    · exact issues_result rfl hi (noFn w) (exec_sinfo c s0) rfl (seqNext_putReg hpc)
    · have hempty := sflush_empties (w := w) (str := tStr w) hpc hwait
      exact issues_within rfl hi (noFn w) (exec_sflush c s0) rfl hempty.2.2.2.2.2 hempty
  case writes =>
    intro c w s0 s hpc hpart k n v
    refine ⟨fun hi => ⟨fun hnone => ?_, fun more hno => ?_, ?_⟩, fun hi => ⟨fun hnone => ?_, fun more hno => ?_, ?_⟩⟩
    · exact cycleWith_value hnone 0 n true v
    · have hst := flagStores_fwr (w := w) hpc hpart
      exact flag_completes rfl hi (exec_fwr c more s0) hpc hst (hst.ends rfl (cycleWith_ne _ _ _ _ _ _) hno)
    · have hst := flagStores_fwr (w := w) hpc hpart
      exact flag_completes rfl hi (exec_fwr c true s0) hpc hst (flag_completes rfl hi (exec_fwr c false s0) hpc hst rfl)
    · exact cycleWith_value hnone 0 n false v
    · have hst := flagStores_fadd (w := w) hpc hpart (s.flagStart c n)
      have hwait := setReg_wait k (iRd w) (BitVec.ofNat 64 (s.flagStart c n).toNat)
      obtain ⟨hflag, hcore, hcyc, hframe⟩ := hst.ends hwait (cycleWith_ne _ _ _ _ _ _) hno
      exact flag_completes rfl hi (exec_fadd c more s0) hpc hst
        ⟨hflag, by rw [hcore]; exact setReg_next_goes _ _ _, hcyc, hframe⟩
    · have hst := flagStores_fadd (w := w) hpc hpart (s.flagStart c n)
      exact flag_completes rfl hi (exec_fadd c true s0) hpc hst (flag_completes rfl hi (exec_fadd c false s0) hpc hst rfl)
  case reads =>
    intro c w s0 s hpc k n v
    refine ⟨fun hi => ?_, fun hi => ⟨fun hholds => ?_, fun hnot => ?_⟩⟩
    · exact issues_result rfl hi (noFn w) (exec_frd c s0) rfl (seqAlu_result hpc)
    · have hgoes := fwait_goes (w := w) hpc n (fForm w) v
      exact issues_within rfl hi (noFn w) (exec_fwait c s0) ((if_neg (not_le.mpr hpc)).trans (if_pos hholds))
        hgoes.2.2.2.1 hgoes
    · have hwaits := seqWait_waits s c (.flag (fForm w) n v)
      exact issues_within rfl hi (noFn w) (exec_fwait c s0)
        ((if_neg (not_le.mpr hpc)).trans (if_neg (by rw [Bool.not_eq_true]; exact hnot))) hwaits.2.1 hwaits

end Sys2Proof.Machine

/-! ## O31: QPUSH, QINFO and QABORT -/

namespace Sys2Proof.Machine

/-! ### A queue apart from the account of its heads and of discarded lines -/

section Bare

variable {s t u : State} {c q n : Nat} {x : QEntry}

/-- An entry apart from the watchdog's account and from that of the lines that it had to discard. -/
def QEntry.bare (e : QEntry) : QEntry := { e.untimed with dropped := false }

theorem undropped_eq (k : Queue) : k.undropped = { k with entries := k.entries.map QEntry.bare } := rfl

theorem undropped_of_untimed {k m : Queue} (h : k.untimed = m.untimed) : k.undropped = m.undropped := by
  have hbare (k : Queue) : k.undropped =
      { k.untimed with entries := k.untimed.entries.map fun e => { e with dropped := false } } := by
    rw [Queue.untimed, Queue.undropped, List.map_map]
    rfl
  rw [hbare, hbare, h]

theorem undropped_modEntry {f : QEntry → QEntry} (hf : ∀ e : QEntry, (f e).bare = e.bare) (k : Queue) (n : Nat) :
    (k.modEntry n f).undropped = k.undropped :=
  congrArg (fun es => { k with entries := es }) (map_modEntry hf k n)

theorem entry_bare (s : State) (c q n : Nat) : (s.entry c q n).map QEntry.bare =
    (((s.cluster c).queue q).entries.map QEntry.bare).find? fun e => e.ticket == n :=
  by
  rw [List.find?_map]
  rfl

/-- An entry's own account tells as much of it as its queue's. -/
theorem entry_of_undropped (h : ((t.cluster c).queue q).undropped = ((s.cluster c).queue q).undropped) (n : Nat) :
    (t.entry c q n).map QEntry.bare = (s.entry c q n).map QEntry.bare := by
  have hentries : ((t.cluster c).queue q).entries.map QEntry.bare = ((s.cluster c).queue q).entries.map QEntry.bare :=
    congrArg Queue.entries h
  rw [entry_bare, entry_bare, hentries]

theorem entry_congr (h : (t.cluster c).queue q = (s.cluster c).queue q) (n : Nat) : t.entry c q n = s.entry c q n := by
  rw [State.entry, State.entry, h]

theorem entry_ticket (h : s.entry c q n = some x) : x.ticket = n := by simpa using List.find?_some h

end Bare

/-! ### Stopping an entry (10 R346, R351, R357) -/

section Stopping

variable {s t u : State} {c q n st : Nat} {x : QEntry}

/-- Of cluster `c` only queue `q`, its tile and the watchdog's account have changed. -/
structure StopFrame (s t : State) (c q : Nat) : Prop where
  rest : { t with clusters := s.clusters, mgmt := s.mgmt } = s
  clusters : ∀ d, d ≠ c → t.cluster d = s.cluster d
  own : { t.cluster c with
      queues := (s.cluster c).queues
      tiles := if q < 4 then (s.cluster c).tiles else (t.cluster c).tiles } = s.cluster c
  others : ∀ j, j ≠ q → ((t.cluster c).queue j).untimed = ((s.cluster c).queue j).untimed ∧ t.tile c j = s.tile c j

theorem StopFrame.trans (h : StopFrame s t c q) (h' : StopFrame t u c q) : StopFrame s u c q where
  rest := (congrArg (fun x : State => { x with clusters := s.clusters, mgmt := s.mgmt }) h'.rest).trans h.rest
  clusters d hd := (h'.clusters d hd).trans (h.clusters d hd)
  own := by
    have h1 := h.own
    have h2 := h'.own
    by_cases hq : q < 4
    · rw [if_pos hq] at h1 h2 ⊢
      exact (congrArg (fun k : Cluster => { k with queues := (s.cluster c).queues, tiles := (s.cluster c).tiles }) h2).trans h1
    · rw [if_neg hq] at h1 h2 ⊢
      exact (congrArg (fun k : Cluster => { k with queues := (s.cluster c).queues }) h2).trans h1
  others j hj := ⟨(h'.others j hj).1.trans (h.others j hj).1, (h'.others j hj).2.trans (h.others j hj).2⟩

theorem StopFrame.core (h : StopFrame s t c q) : (t.cluster c).core = (s.cluster c).core := (congrArg Cluster.core h.own :)

theorem StopFrame.jobs (h : StopFrame s t c q) : t.mem.jobs = s.mem.jobs := (congrArg (fun x : State => x.mem.jobs) h.rest :)

theorem StopFrame.build (h : StopFrame s t c q) : t.build = s.build := (congrArg State.build h.rest :)

theorem StopFrame.pending (h : StopFrame s t c q) : t.pending = s.pending := (congrArg State.pending h.rest :)

theorem StopFrame.bump (h : StopFrame s t c q) (i j n w : Nat) : StopFrame s (t.bump i j n w) c q :=
  ⟨h.rest, h.clusters, h.own, h.others⟩

theorem Retimed.stopFrame (h : Retimed s t c) (q : Nat) : StopFrame s t c q where
  rest := (congrArg (fun x : State => { x with mgmt := s.mgmt }) h.only.1 :)
  clusters := h.only.2
  own := by
    have htiles : (t.cluster c).tiles = (s.cluster c).tiles := (congrArg Cluster.tiles h.own :)
    rw [htiles, ite_self]
    exact (congrArg (fun k : Cluster => { k with tiles := (s.cluster c).tiles }) h.own :)
  others j _ := by
    have htiles : (t.cluster c).tiles = (s.cluster c).tiles := (congrArg Cluster.tiles h.own :)
    exact ⟨h.queues j, congrArg (Tab.get ({} : Tile) · j) htiles⟩

theorem modEntry_stopFrame (s : State) (c q n : Nat) (f : QEntry → QEntry) : StopFrame s (s.modEntry c q n f) c q where
  rest := rfl
  clusters := (modCluster_onlyCluster s c _).2
  own := by
    rw [cluster_modEntry, if_pos rfl, ite_self]
  others j hj := ⟨congrArg Queue.untimed ((queue_modQueue s c q j _).trans (if_neg hj)), tile_modEntry s c q n f c j⟩

theorem complete_stopFrame (s : State) (c q n st d : Nat) : StopFrame s (s.complete c q n st d) c q :=
  modEntry_stopFrame s c q n _

theorem modTile_stopFrame (s : State) (c : Nat) {q : Nat} (hq : q < 4) (f : Tile → Tile) : StopFrame s (s.modTile c q f) c q where
  rest := rfl
  clusters := (modCluster_onlyCluster s c _).2
  own := by
    rw [if_pos hq, cluster_modTile, if_pos rfl]
  others j hj := ⟨congrArg Queue.untimed (queue_modTile s c q f c j), by rw [tile_modTile, if_neg hj]⟩

/-- A tile has discarded lines of stopped entries of its queue. -/
def Discards (s t : State) (c q : Nat) : Prop :=
  StopFrame s t c q ∧ t.mgmt = s.mgmt ∧ ((t.cluster c).queue q).undropped = ((s.cluster c).queue q).undropped

theorem Discards.trans (h : Discards s t c q) (h' : Discards t u c q) : Discards s u c q :=
  ⟨h.1.trans h'.1, h'.2.1.trans h.2.1, h'.2.2.trans h.2.2⟩

theorem Retimed.discards (h : Retimed s t c) (q : Nat) : Discards s t c q :=
  ⟨h.stopFrame q, (congrArg State.mgmt h.only.1 :), undropped_of_untimed (h.queues q)⟩

theorem Discards.refl (s : State) (c q : Nat) : Discards s s c q := (Retimed.refl s c).discards q

theorem dropEntry_discards (s : State) (c : Nat) (hq : q < 4) (x : QEntry) : Discards s (s.dropEntry c q x) c q := by
  unfold State.dropEntry
  split
  · refine ⟨(modTile_stopFrame s c hq _).trans (modEntry_stopFrame _ c q _ _), rfl, ?_⟩
    rw [State.modEntry, queue_modQueue, if_pos rfl]
    refine (undropped_modEntry (fun e => ?_) _ _).trans (congrArg Queue.undropped (queue_modTile ..))
    rfl
  · exact .refl s c q

theorem settleDrops_discards (s : State) (c : Nat) (hq : q < 4) (e : TileEngine) (xs : List QEntry) :
    Discards s (s.settleDrops c q e xs) c q := by
  induction xs generalizing s with
  | nil => exact .refl s c q
  | cons x xs ih =>
    unfold State.settleDrops
    split
    · exact ih s
    split
    · split
      · split
        · exact .refl s c q
        · exact ih s
      · exact ih s
    · split
      · exact .refl s c q
      · exact (dropEntry_discards s c hq x).trans (ih _)

/-- The three engines of a tile discard what stopped entries leave them. -/
def State.dropLines (s : State) (c q : Nat) : State :=
  [TileEngine.array, .panelLoader, .cEngine].foldl (fun s e => s.settleDrops c q e ((s.cluster c).queue q).entries) s

theorem settleTile_eq (s : State) (c q : Nat) : s.settleTile c q = (s.dropLines c q).freeStreams c q := rfl

theorem dropLines_discards (s : State) (c : Nat) (hq : q < 4) : Discards s (s.dropLines c q) c q :=
  List.foldlRecOn (motive := fun t => Discards s t c q) _ _ (.refl s c q) fun _ ht e _ =>
    ht.trans (settleDrops_discards _ c hq e _)

theorem settleTile_discards (hq : q < 4) (hwait : ∀ i, (s.cluster c).core.wait ≠ some (.fullStream q i)) :
    Discards s (s.settleTile c q) c q := by
  have hdrops := dropLines_discards s c hq
  rw [settleTile_eq]
  exact hdrops.trans ((freeStreams_free (by rw [hdrops.1.core]; exact hwait)).retimed c |>.discards q)

/-- An entry of a queue having been stopped, its tile goes on and the heads are looked at. -/
theorem afterStop_discards (hwait : q < 4 → ∀ i, (s.cluster c).core.wait ≠ some (.fullStream q i)) :
    Discards s (s.afterStop c q) c q := by
  unfold State.afterStop
  split
  · rename_i hq
    exact (settleTile_discards hq (hwait hq)).trans ((noteHeads_retimed _ c).discards q)
  · exact (noteHeads_retimed s c).discards q

/-- The entry is asked to stop. -/
def QEntry.asked (x : QEntry) : QEntry := { x with abortReq := true }

/-- The status with which an entry that waits completes when it is stopped (10 R344). -/
def QEntry.abortStatus (x : QEntry) : Nat := if e0Ok x.e0 && e1Ok x.e1 then 8 else 3

/-- An entry that waits is stopped. -/
def State.abortWaiting (s : State) (c q n st : Nat) : State :=
  ((s.modEntry c q n QEntry.asked).complete c q n st 0).afterStop c q

theorem stopEntry_waiting (hdisp : x.disp = false) (st : Nat) : s.stopEntry c q x st =
    (s.complete c q x.ticket (if e0Ok x.e0 && e1Ok x.e1 then st else 3) 0).afterStop c q :=
  congrArg (State.afterStop · c q) (if_pos (by rw [hdisp]; rfl))

theorem abortOne_waiting (hx : s.entry c q n = some x) (hjob : q = 6 → Tab.find s.mem.jobs (jobNo c n) = none)
    (hdisp : x.disp = false) (hopen : x.compl = none) :
    s.abortOne c q n = ((s.abortWaiting c q n x.abortStatus).bump (0x5400 + c) 6 1 32, 0) := by
  have hstop : (s.modEntry c q n QEntry.asked).stopEntry c q x 8 = s.abortWaiting c q n x.abortStatus :=
    (stopEntry_waiting hdisp 8).trans (by rw [entry_ticket hx]; rfl)
  rw [State.abortOne, hx]
  refine (if_neg ?_).trans (congrArg (fun t : State => (t.bump (0x5400 + c) 6 1 32, 0)) hstop)
  by_cases hq : q = 6
  · rw [hjob hq, hopen]
    simp
  · simp [hopen, hq]

theorem abortOne_late (hx : s.entry c q n = some x) (hdone : x.compl ≠ none) :
    s.abortOne c q n = (s.modEntry c q n QEntry.asked, 1) := by
  have hsome : x.compl.isSome = true := Option.isSome_iff_ne_none.mpr hdone
  rw [State.abortOne, hx]
  exact if_pos (by rw [hsome]; rfl)

theorem abortOne_absent (hx : s.entry c q n = none) : s.abortOne c q n =
    (s, if (n + 2 ^ 32 - ((s.cluster c).queue q).next) % 2 ^ 32 < 2 ^ 31 then 2 else 1) := by
  rw [State.abortOne, hx]

/-- A stopped entry, as it completes. -/
def QEntry.stopped (x : QEntry) (st : Nat) : QEntry := { x with abortReq := true, compl := some (st, 0) }

theorem entry_stopped (hx : s.entry c q n = some x) (hopen : x.compl = none) (st : Nat) :
    ((s.modEntry c q n QEntry.asked).complete c q n st 0).entry c q n = some (x.stopped st) := by
  rw [State.complete, entry_modEntry, entry_modEntry, hx]
  · simp [QEntry.asked, QEntry.stopped, hopen]
  · exact fun _ => rfl
  · intro e
    split <;> rfl

/-- The state in which a stopped entry has completed, before its tile goes on. -/
theorem abortWaiting_discards (hwait : q < 4 → ∀ i, (s.cluster c).core.wait ≠ some (.fullStream q i)) (n st : Nat) :
    Discards ((s.modEntry c q n QEntry.asked).complete c q n st 0) (s.abortWaiting c q n st) c q := by
  refine afterStop_discards fun hq => ?_
  have hframe := (modEntry_stopFrame s c q n QEntry.asked).trans (complete_stopFrame _ c q n st 0)
  rw [hframe.core]
  exact hwait hq

theorem abortWaiting_frame (hwait : q < 4 → ∀ i, (s.cluster c).core.wait ≠ some (.fullStream q i)) (n st : Nat) :
    StopFrame s (s.abortWaiting c q n st) c q :=
  ((modEntry_stopFrame s c q n QEntry.asked).trans (complete_stopFrame _ c q n st 0)).trans (abortWaiting_discards hwait n st).1

theorem abortWaiting_mgmt (hwait : q < 4 → ∀ i, (s.cluster c).core.wait ≠ some (.fullStream q i)) (n st : Nat) :
    (s.abortWaiting c q n st).mgmt = s.mgmt := (abortWaiting_discards hwait n st).2.1

theorem abortWaiting_entry (hwait : q < 4 → ∀ i, (s.cluster c).core.wait ≠ some (.fullStream q i))
    (hx : s.entry c q n = some x) (hopen : x.compl = none) (st : Nat) :
    ((s.abortWaiting c q n st).entry c q n).map QEntry.bare = some (x.stopped st).bare := by
  rw [entry_of_undropped (abortWaiting_discards hwait n st).2.2 n, entry_stopped hx hopen, Option.map_some]

end Stopping

/-! ### The abort of a whole queue (10 R357) -/

section AbortAll

variable {s t : State} {c q n : Nat} {x : QEntry}

/-- What the abort of an entry makes of an entry of that ticket. -/
def QEntry.aborted (x : QEntry) (st : Nat) : QEntry :=
  if x.compl.isSome then x.asked else x.stopped st

theorem bare_aborted (x : QEntry) (st : Nat) : (x.aborted st).bare = x.bare.aborted st := by
  unfold QEntry.aborted
  by_cases hx : x.compl.isSome = true
  · rw [if_pos hx, if_pos (show x.bare.compl.isSome = true from hx)]
    rfl
  · rw [if_neg hx, if_neg (show ¬ x.bare.compl.isSome = true from hx)]
    rfl

/-- The entries of a queue, one of which has been stopped. -/
theorem abortWaiting_entries (hwait : q < 4 → ∀ i, (s.cluster c).core.wait ≠ some (.fullStream q i)) (n st : Nat) :
    (((s.abortWaiting c q n st).cluster c).queue q).entries.map QEntry.bare =
      (((s.cluster c).queue q).entries.map QEntry.bare).map fun e => if e.ticket = n then e.aborted st else e := by
  refine (congrArg Queue.entries (abortWaiting_discards hwait n st).2.2 :).trans ?_
  rw [State.complete, State.modEntry, queue_modQueue, if_pos rfl, State.modEntry, queue_modQueue, if_pos rfl]
  simp only [Queue.undropped, Queue.modEntry, List.map_map]
  refine List.map_congr_left fun e _ => ?_
  change QEntry.bare _ = if e.bare.ticket = n then e.bare.aborted st else e.bare
  by_cases he : e.ticket = n
  · rw [if_pos (show e.bare.ticket = n from he), ← bare_aborted]
    simp only [Function.comp_apply, if_pos he]
    rw [if_pos (show e.asked.ticket = n from he)]
    rfl
  · rw [if_neg (show ¬ e.bare.ticket = n from he)]
    simp only [Function.comp_apply, if_neg he]

/-- One entry of a whole queue is stopped, and counted if it was. -/
def State.abortNext (c q : Nat) (r : State × Nat) (x : QEntry) : State × Nat :=
  let o := r.1.abortOne c q x.ticket
  (o.1, if o.2 = 0 then r.2 + 1 else r.2)

theorem abortAll_eq (s : State) (c q : Nat) :
    s.abortAll c q = ((s.cluster c).queue q).entries.foldl (State.abortNext c q) (s, 0) := rfl

/-- The entries of a queue wait, and no job of theirs is known. -/
def State.allWait (s : State) (c q : Nat) (l : List QEntry) : Prop :=
  ∀ x ∈ l, x.disp = false ∧ x.compl = none ∧ (q = 6 → Tab.find s.mem.jobs (jobNo c x.ticket) = none)

/-- The entry of a ticket that no earlier entry has. -/
theorem find_first {l pre : List QEntry} (hpre : x.ticket ∉ pre.map QEntry.ticket) :
    (pre ++ x.bare :: l).find? (fun e => e.ticket == x.ticket) = some x.bare := by
  rw [List.find?_append, List.find?_eq_none.mpr fun e he => ?_, Option.none_or, List.find?_cons_of_pos]
  · exact beq_self_eq_true x.ticket
  · intro heq
    exact hpre (List.mem_map.mpr ⟨e, he, beq_iff_eq.mp heq⟩)

theorem map_only {l pre : List QEntry} (hpre : x.ticket ∉ pre.map QEntry.ticket) (hpost : x.ticket ∉ l.map QEntry.ticket)
    (f : QEntry → QEntry) : (pre ++ x :: l).map (fun e => if e.ticket = x.ticket then f e else e) = pre ++ f x :: l := by
  have hkeep {m : List QEntry} (h : x.ticket ∉ m.map QEntry.ticket) :
      m.map (fun e => if e.ticket = x.ticket then f e else e) = m :=
    (List.map_congr_left fun e he => if_neg fun heq => h (List.mem_map.mpr ⟨e, he, heq⟩)).trans (List.map_id m)
  rw [List.map_append, List.map_cons, hkeep hpre, hkeep hpost, if_pos rfl]

/-- The waiting entries of a queue are stopped from the oldest on; `pre` are those that have been. -/
theorem abortNext_all (l pre : List QEntry) (s : State) (n : Nat)
    (hwait : q < 4 → ∀ i, (s.cluster c).core.wait ≠ some (.fullStream q i))
    (hentries : ((s.cluster c).queue q).entries.map QEntry.bare = pre ++ l.map QEntry.bare)
    (hnodup : (pre.map QEntry.ticket ++ l.map QEntry.ticket).Nodup) (hall : s.allWait c q l) :
    let r := l.foldl (State.abortNext c q) (s, n)
    r.2 = n + l.length ∧ StopFrame s r.1 c q
      ∧ ((r.1.cluster c).queue q).entries.map QEntry.bare = pre ++ l.map fun x => (x.stopped x.abortStatus).bare := by
  induction l generalizing pre s n with
  | nil => exact ⟨rfl, (Retimed.refl s c).stopFrame q, hentries⟩
  | cons x xs ih =>
    obtain ⟨⟨hdisp, hopen, hjob⟩, hxs⟩ := List.forall_mem_cons.mp hall
    rw [List.map_cons] at hentries
    rw [List.map_cons, List.nodup_append'] at hnodup
    obtain ⟨hpre, hpost, hdisj⟩ := hnodup
    have hfresh : x.ticket ∉ pre.map QEntry.ticket := fun h => hdisj h List.mem_cons_self
    obtain ⟨hlater, hrest⟩ := List.nodup_cons.mp hpost
    have hfound : (s.entry c q x.ticket).map QEntry.bare = some x.bare := by
      rw [entry_bare, hentries]
      exact find_first hfresh
    obtain ⟨y, hy, hbare⟩ := Option.map_eq_some_iff.mp hfound
    have hstatus : y.abortStatus = x.abortStatus := (congrArg QEntry.abortStatus hbare :)
    have habort := abortOne_waiting hy hjob ((congrArg QEntry.disp hbare :).trans hdisp) ((congrArg QEntry.compl hbare :).trans hopen)
    rw [hstatus] at habort
    have hnext : State.abortNext c q (s, n) x =
        ((s.abortWaiting c q x.ticket x.abortStatus).bump (0x5400 + c) 6 1 32, n + 1) := by
      rw [State.abortNext, habort]
      rfl
    have hframe := (abortWaiting_frame hwait x.ticket x.abortStatus).bump (0x5400 + c) 6 1 32
    have hstopped : x.bare.aborted x.abortStatus = (x.stopped x.abortStatus).bare := by
      rw [← bare_aborted, QEntry.aborted, if_neg (by simp [hopen])]
    have hstep : ((((s.abortWaiting c q x.ticket x.abortStatus).bump (0x5400 + c) 6 1 32).cluster c).queue q).entries.map
        QEntry.bare = (pre ++ [(x.stopped x.abortStatus).bare]) ++ xs.map QEntry.bare := by
      refine (abortWaiting_entries hwait x.ticket x.abortStatus).trans ?_
      rw [hentries, List.append_assoc, List.singleton_append, ← hstopped]
      exact map_only (x := x.bare) hfresh (by rw [List.map_map]; exact hlater) _
    rw [List.foldl_cons, hnext]
    obtain ⟨hcount, hall', hdone⟩ := ih (pre ++ [(x.stopped x.abortStatus).bare]) _ (n + 1)
      (by rw [hframe.core]; exact hwait) hstep
      (by
        rw [List.map_append, List.append_assoc]
        exact List.nodup_append'.mpr ⟨hpre, hpost, hdisj⟩)
      fun z hz => by rw [hframe.jobs]; exact hxs z hz
    refine ⟨?_, hframe.trans hall', ?_⟩
    · rw [hcount, List.length_cons]
      omega
    · rw [hdone, List.append_assoc]
      rfl

end AbortAll

/-! ### A descriptor joins its queue (10 R337) -/

section Push

variable {s t u : State} {c q : Nat} {m : Queue}

theorem OnlyQueue.retimed (h : OnlyQueue s t c q m) (hr : Retimed t u c) : OnlyQueue s u c q m := by
  obtain ⟨hq, hothers, hown, hclusters⟩ := h
  refine ⟨(hr.queues q).trans hq, fun j hj => (hr.queues j).trans (hothers j hj), ?_,
    fun d hd => (hr.only.2 d hd).trans (hclusters d hd)⟩
  exact (congrArg (fun k : Cluster => { k with queues := (s.cluster c).queues }) hr.own).trans hown

theorem OnlyQueue.congr (h : OnlyQueue s t c q m) (hsame : ∀ d, u.cluster d = t.cluster d) : OnlyQueue s u c q m := by
  obtain ⟨hq, hothers, hown, hclusters⟩ := h
  unfold OnlyQueue
  rw [hsame]
  exact ⟨hq, hothers, hown, fun d hd => (hsame d).trans (hclusters d hd)⟩

theorem OnlyQueue.core (h : OnlyQueue s t c q m) : (t.cluster c).core = (s.cluster c).core :=
  (congrArg Cluster.core h.2.2.1 :)

/-- What an instruction does to the core apart, only the queue has changed. -/
theorem OnlyQueue.core_restored (h : OnlyQueue s t c q m) (hu : OnlyCore t u c) :
    OnlyQueue s (u.modCore c fun _ => (s.cluster c).core) c q m := by
  refine h.congr fun d => ?_
  by_cases hd : d = c
  · subst hd
    rw [cluster_modCore_same, ← h.core]
    exact hu.2
  · exact ((modCore_onlyCore u c _).1.2 d hd).trans (hu.1.2 d hd)

theorem modQueue_onlyQueue (s : State) (c q : Nat) (f : Queue → Queue) :
    OnlyQueue s (s.modQueue c q f) c q (f ((s.cluster c).queue q)) := by
  refine ⟨?_, fun j hj => ?_, ?_, (modCluster_onlyCluster s c _).2⟩
  · rw [queue_modQueue, if_pos rfl]
  · rw [queue_modQueue, if_neg hj]
  · rw [State.modQueue, cluster_modCluster_same]

/-- A queue with a new entry. -/
def Queue.joined (k : Queue) (desc : List Word) (e0 e1 : Word) (ring : Option RingSrc) : Queue where
  next := wrapAdd 32 k.next 1
  entries := k.entries ++ [{ ticket := k.next, desc := desc, e0 := e0, e1 := e1, ring := ring }]

theorem pushEntry_eq (s : State) (c q : Nat) (desc : List Word) (e0 e1 : Word) (ring : Option RingSrc) :
    s.pushEntry c q desc e0 e1 ring =
      ((s.modQueue c q fun k => k.joined desc e0 e1 ring).bump (0x5400 + c) 4).noteHeads c := rfl

/-- What a descriptor that joins its queue leaves. -/
theorem pushEntry_joins (s : State) (c q : Nat) (desc : List Word) (e0 e1 : Word) (ring : Option RingSrc) :
    let t := s.pushEntry c q desc e0 e1 ring
    OnlyQueue s t c q (((s.cluster c).queue q).joined desc e0 e1 ring)
      ∧ t.ctr (0x5400 + c) 4 = (s.ctr (0x5400 + c) 4 + 1) % 2 ^ 64 ∧ OdKept s t [odKey (0x5400 + c) 4]
      ∧ { t with clusters := s.clusters, mgmt := s.mgmt } = s := by
  dsimp only
  rw [pushEntry_eq]
  have hnote := noteHeads_retimed ((s.modQueue c q fun k => k.joined desc e0 e1 ring).bump (0x5400 + c) 4) c
  have hmgmt : (((s.modQueue c q fun k => k.joined desc e0 e1 ring).bump (0x5400 + c) 4).noteHeads c).mgmt =
    (s.bump (0x5400 + c) 4).mgmt := (congrArg State.mgmt hnote.only.1 :)
  refine ⟨?_, ?_, ?_, (congrArg (fun x : State => { x with clusters := s.clusters, mgmt := s.mgmt }) hnote.only.1 :)⟩
  · have hjoin := modQueue_onlyQueue s c q fun k => k.joined desc e0 e1 ring
    exact (hjoin.congr (cluster_bump _ _ _ _ _)).retimed hnote
  · rw [State.ctr, hmgmt]
    exact ctr_bump (s := s) _ _ 1
  · rw [OdKept, hmgmt]
    exact OdKept.bump s (List.mem_singleton_self _)

end Push

/-! ### The instruction goes on with its result -/

section Goes

variable {s t : State} {c w rd : Nat} {v : Word}

/-- The core goes on with a register result, all else being done. -/
theorem putReg_goes (t : State) (c rd : Nat) (v : Word) :
    let u := (t.putReg c rd v).modCore c fun k => { k with pc := k.pc + 4 }
    CoreGoes (t.cluster c).core (u.cluster c).core ((t.cluster c).core.pc + 4) rd v ∧ OnlyCore t u c := by
  intro u
  have hcore : (u.cluster c).core = ((t.cluster c).core.setReg rd v).next := by
    rw [cluster_modCore_same, State.putReg, cluster_modCore_same]
    rfl
  exact ⟨hcore ▸ setReg_next_goes _ _ _, (modCore_onlyCore t c _).trans (modCore_onlyCore _ c _)⟩

/-- The core goes on with a register result that is read in the state in which it issues. -/
theorem seqNext_result {f : State → State} (hpc : (s.cluster c).core.pc < 0xFFFC) (hf : f s = s.putReg c rd v) :
    CoreResult s (s.seqNext c w f) c rd v := by
  rw [seqNext_goes hpc, hf]
  exact putReg_goes s c rd v

/-- A QPUSH goes on with the ticket of the entry that has joined its queue. -/
theorem qpushes_goes (hpc : (s.cluster c).core.pc < 0xFFFC) (hpushed : (s.cluster c).core.pushed = none) :
    let t := s.pushEntry c (qQ w) (s.descAt c (s.reg c (qRa w)).toNat) (s.reg c (qRb w)) (s.reg c (qRc w)) none
    OnlyCore t (s.qpushes c w) c ∧ CoreGoes (s.cluster c).core { ((s.qpushes c w).cluster c).core with pushed := none }
      ((s.cluster c).core.pc + 4) (qRd w) (BitVec.ofNat 64 ((s.cluster c).queue (qQ w)).next) := by
  intro t
  have hk : (t.cluster c).core = (s.cluster c).core := (pushEntry_joins s c (qQ w) _ _ _ _).1.core
  rw [State.qpushes, seqNext_goes hpc]
  refine ⟨(modCore_onlyCore t c _).trans ((modCore_onlyCore _ c _).trans (modCore_onlyCore _ c _)), ?_⟩
  rw [cluster_modCore_same, cluster_modCore_same, State.putReg, cluster_modCore_same, hk]
  obtain ⟨hregs, hrest⟩ := setReg_next_goes (s.cluster c).core (qRd w) (BitVec.ofNat 64 ((s.cluster c).queue (qQ w)).next)
  refine ⟨hregs, (congrArg (fun m : Core => { m with pushed := none }) hrest).trans ?_⟩
  rw [hpushed]

theorem cluster_withMgmt (s : State) (m : Mgmt) (d : Nat) : ({ s with mgmt := m } : State).cluster d = s.cluster d := rfl

/-- A QPUSH with room has placed the entry, and counted it. -/
theorem qpushes_effects (hpc : (s.cluster c).core.pc < 0xFFFC) (hpushed : (s.cluster c).core.pushed = none) :
    let u := s.qpushes c w
    let k := (s.cluster c).core
    let q := (s.cluster c).queue (qQ w)
    (OnlyQueue s { u.modCore c (fun _ => k) with mgmt := s.mgmt } c (qQ w)
          (q.joined (s.descAt c (k.reg (qRa w)).toNat) (k.reg (qRb w)) (k.reg (qRc w)) none)
        ∧ CoreGoes k { (u.cluster c).core with pushed := none } (k.pc + 4) (qRd w) (BitVec.ofNat 64 q.next)
        ∧ u.ctr (0x5400 + c) 4 = (s.ctr (0x5400 + c) 4 + 1) % 2 ^ 64 ∧ OdKept s u [odKey (0x5400 + c) 4]
        ∧ { u with clusters := s.clusters, mgmt := s.mgmt } = s)
      ∧ u.build = s.build ∧ u.pending = s.pending := by
  intro u k q
  obtain ⟨hqueue, hctr, hod, hrest⟩ :=
    pushEntry_joins s c (qQ w) (s.descAt c (k.reg (qRa w)).toNat) (k.reg (qRb w)) (k.reg (qRc w)) none
  obtain ⟨hcore, hgoes⟩ := qpushes_goes (w := w) hpc hpushed
  refine ⟨⟨(hqueue.core_restored hcore).congr (cluster_withMgmt _ _), hgoes, ?_, ?_, ?_⟩, ?_, ?_⟩
  · exact (congrArg (State.ctr · (0x5400 + c) 4) hcore.1.1 :).trans hctr
  · exact hod.trans (odKept_of_mgmt (congrArg State.mgmt hcore.1.1 :) _)
  · exact (congrArg (fun x : State => { x with clusters := s.clusters, mgmt := s.mgmt }) hcore.1.1).trans hrest
  · exact hcore.1.build.trans (congrArg State.build hrest :)
  · exact hcore.1.pending.trans (congrArg State.pending hrest :)

theorem qpush_room (ha : (s.reg c (qRa w)).toNat % 64 = 0) (hin : (s.reg c (qRa w)).toNat < 0x10000)
    (hpc : (s.cluster c).core.pc < 0xFFFC) (hroom : s.queueFree c (qQ w) ≠ 0) :
    (if (s.reg c (qRa w)).toNat % 64 ≠ 0 then s.seqFault c 2 w
      else if 0x10000 ≤ (s.reg c (qRa w)).toNat then s.seqFault c 3 w
      else if 0xFFFC ≤ (s.cluster c).core.pc then s.seqFault c 4 w
      else if s.queueFree c (qQ w) = 0 then s.seqWait c (.fullQueue (qQ w))
      else s.qpushes c w) = s.qpushes c w :=
  (if_neg (not_not_intro ha)).trans ((if_neg (not_le.mpr hin)).trans ((if_neg (not_le.mpr hpc)).trans (if_neg hroom)))

theorem queueFree_zero {q : Nat} : s.queueFree c q = 0 ↔ 64 ≤ ((s.cluster c).queue q).entries.length := by
  unfold State.queueFree
  omega

end Goes

/-! ### QABORT (10 R357, R359) -/

section Qabort

variable {s t : State} {c q n rd : Nat} {x : QEntry} {v : Word}

/-- What a QABORT leaves once the core has gone on: `t` is the state with the abort's effect. -/
def State.qaborts (t : State) (c rd : Nat) (r : Nat) : State :=
  (t.putReg c rd (BitVec.ofNat 64 r)).modCore c fun k => { k with pc := k.pc + 4 }

theorem qaborts_goes (hcore : (t.cluster c).core = (s.cluster c).core) (r : Nat) :
    CoreGoes (s.cluster c).core ((t.qaborts c rd r).cluster c).core ((s.cluster c).core.pc + 4) rd (BitVec.ofNat 64 r) := by
  have hgoes := (putReg_goes t c rd (BitVec.ofNat 64 r)).1
  rw [hcore] at hgoes
  exact hgoes

theorem qaborts_result (s : State) (c rd r : Nat) : CoreResult s (s.qaborts c rd r) c rd (BitVec.ofNat 64 r) :=
  putReg_goes s c rd _

theorem cluster_qaborts (t : State) (c rd r : Nat) : { (t.qaborts c rd r).cluster c with core := (t.cluster c).core } = t.cluster c :=
  (putReg_goes t c rd (BitVec.ofNat 64 r)).2.2

theorem qaborts_queue (t : State) (c rd r j : Nat) : ((t.qaborts c rd r).cluster c).queue j = (t.cluster c).queue j := by
  rw [State.qaborts, queue_modCore, State.putReg, queue_modCore]

theorem qaborts_fq (t : State) (c rd r n : Nat) : (t.qaborts c rd r).fqOf c n = t.fqOf c n :=
  congrArg (List.find? fun o : FqOp => o.ticket == n) (congrArg Cluster.fq (cluster_qaborts t c rd r) :)

theorem qaborts_tile (t : State) (c rd r j : Nat) : (t.qaborts c rd r).tile c j = t.tile c j := by
  rw [State.qaborts, tile_modCore, State.putReg, tile_modCore]

/-- An instruction that stops entries, and then goes on. -/
theorem qabort_completes {s0 : State} {P : State → Prop} {w r : Nat} (hs : s0.coreTurn c false = s) (hi : Issues s c 0x31 w)
    (hpc : (s.cluster c).core.pc < 0xFFFC)
    (hr : (if qRb w = 0 then s.abortOne c (qQ w) ((s.reg c (qRa w)).toNat % 2 ^ 32) else s.abortAll c (qQ w)) = (t, r))
    (hb : t.build = s.build) (hp : t.pending = s.pending) (p : P (t.qaborts c (qRd w) r)) : Completes (.qabort c) s0 P := by
  refine issues_completes hs hi (noFn w) (exec_qabort c s0) (t := t.qaborts c (qRd w) r) ((seqNext_goes hpc).trans ?_) hb hp p
  dsimp only
  rw [hr]
  rfl

theorem qabortOne_completes {s0 : State} {P : State → Prop} {w r : Nat} (hs : s0.coreTurn c false = s) (hi : Issues s c 0x31 w)
    (hpc : (s.cluster c).core.pc < 0xFFFC) (hone : qRb w = 0)
    (hr : s.abortOne c (qQ w) ((s.reg c (qRa w)).toNat % 2 ^ 32) = (t, r))
    (hb : t.build = s.build) (hp : t.pending = s.pending) (p : P (t.qaborts c (qRd w) r)) : Completes (.qabort c) s0 P :=
  qabort_completes hs hi hpc ((if_pos hone).trans hr) hb hp p

theorem qabortAll_completes {s0 : State} {P : State → Prop} {w r : Nat} (hs : s0.coreTurn c false = s) (hi : Issues s c 0x31 w)
    (hpc : (s.cluster c).core.pc < 0xFFFC) (hall : qRb w = 1) (hr : s.abortAll c (qQ w) = (t, r))
    (hb : t.build = s.build) (hp : t.pending = s.pending) (p : P (t.qaborts c (qRd w) r)) : Completes (.qabort c) s0 P :=
  qabort_completes hs hi hpc ((if_neg (by omega)).trans hr) hb hp p

/-- The abort of an entry that waits, as the core goes on. -/
theorem abortWaiting_effects (hwait : q < 4 → ∀ i, (s.cluster c).core.wait ≠ some (.fullStream q i))
    (hx : s.entry c q n = some x) (hopen : x.compl = none) (st rd : Nat) :
    let u := ((s.abortWaiting c q n st).bump (0x5400 + c) 6 1 32).qaborts c rd 0
    (u.entry c q n).bind QEntry.compl = some (st, 0) ∧ (u.entry c q n).map QEntry.abortReq = some true
      ∧ CoreGoes (s.cluster c).core (u.cluster c).core ((s.cluster c).core.pc + 4) rd 0
      ∧ u.ctr (0x5400 + c) 6 = (s.ctr (0x5400 + c) 6 + 1) % 2 ^ 32 ∧ OdKept s u [odKey (0x5400 + c) 6]
      ∧ (∀ j, j ≠ q → ((u.cluster c).queue j).untimed = ((s.cluster c).queue j).untimed ∧ u.tile c j = s.tile c j)
      ∧ { u.cluster c with
          core := (s.cluster c).core, queues := (s.cluster c).queues
          tiles := if q < 4 then (s.cluster c).tiles else (u.cluster c).tiles } = s.cluster c
      ∧ (∀ d, d ≠ c → u.cluster d = s.cluster d) ∧ { u with clusters := s.clusters, mgmt := s.mgmt } = s := by
  intro u
  have hframe := abortWaiting_frame hwait n st
  have hmgmt := abortWaiting_mgmt hwait n st
  have hentry := abortWaiting_entry hwait hx hopen st
  generalize hT : s.abortWaiting c q n st = T at hframe hmgmt hentry
  have hu : u = (T.bump (0x5400 + c) 6 1 32).qaborts c rd 0 := by rw [← hT]
  clear_value u
  subst hu
  have hfound : (((T.bump (0x5400 + c) 6 1 32).qaborts c rd 0).entry c q n).map QEntry.bare = some (x.stopped st).bare := by
    rw [entry_congr (qaborts_queue (T.bump (0x5400 + c) 6 1 32) c rd 0 q)]
    exact hentry
  obtain ⟨y, hy, hbare⟩ := Option.map_eq_some_iff.mp hfound
  have hkept : ((T.bump (0x5400 + c) 6 1 32).qaborts c rd 0).mgmt = (T.bump (0x5400 + c) 6 1 32).mgmt := rfl
  refine ⟨?_, ?_, qaborts_goes hframe.core 0, ?_, ?_, fun j hj => ⟨?_, ?_⟩, ?_, fun d hd => ?_, hframe.rest⟩
  · rw [hy]
    exact (congrArg QEntry.compl hbare :)
  · rw [hy]
    exact congrArg some (congrArg QEntry.abortReq hbare :)
  · rw [State.ctr, hkept]
    refine (ctr_bump32 T _ _).trans ?_
    rw [State.ctr, hmgmt, State.ctr]
  · rw [OdKept, hkept]
    exact OdKept.trans (odKept_of_mgmt hmgmt _) (OdKept.bump T (List.mem_singleton_self _))
  · rw [qaborts_queue]
    exact (hframe.others j hj).1
  · rw [qaborts_tile]
    exact (hframe.others j hj).2
  · have hself : ((T.bump (0x5400 + c) 6 1 32).qaborts c rd 0).cluster c =
        { T.cluster c with core := (((T.bump (0x5400 + c) 6 1 32).qaborts c rd 0).cluster c).core } :=
      (congrArg (fun k : Cluster => { k with core := (((T.bump (0x5400 + c) 6 1 32).qaborts c rd 0).cluster c).core })
        (cluster_qaborts (T.bump (0x5400 + c) 6 1 32) c rd 0) :)
    rw [hself]
    exact (congrArg (fun k : Cluster => { k with core := (s.cluster c).core }) hframe.own :)
  · exact ((putReg_goes (T.bump (0x5400 + c) 6 1 32) c rd 0).2.1.2 d hd).trans (hframe.clusters d hd)

/-- An FQ operation under way is stopped, before the heads are looked at. -/
def State.fqStopped (s : State) (c n : Nat) : State :=
  ((s.modEntry c 7 n QEntry.asked).markStop c 7 n 8).modFq c n fun o => { o with todo := [] }

/-- An FQ operation under way is stopped: it sends no further request. -/
def State.abortFq (s : State) (c n : Nat) : State := (s.fqStopped c n).noteHeads c

theorem stopEntry_running (s : State) (c st : Nat) (hdisp : x.disp = true) :
    s.stopEntry c 7 x st = (s.stopFq c x st).afterStop c 7 := by
  have hwaits : ¬ (!x.disp) = true := by simp [hdisp]
  unfold State.stopEntry
  rw [if_neg hwaits]
  rfl

theorem stopFq_running {o : FqOp} (ho : s.fqOf c x.ticket = some o) (st : Nat) : s.stopFq c x st =
    (s.markStop c 7 x.ticket st).modFq c x.ticket fun o => { o with todo := [] } := by
  rw [State.stopFq, ho]

theorem abortOne_fq (hx : s.entry c 7 n = some x) (hdisp : x.disp = true) (hopen : x.compl = none)
    (hfq : s.fqOf c n ≠ none) : s.abortOne c 7 n = ((s.abortFq c n).bump (0x5400 + c) 6 1 32, 0) := by
  obtain ⟨o, ho⟩ := Option.ne_none_iff_exists'.mp hfq
  have hkept : (s.modEntry c 7 n QEntry.asked).fqOf c n = some o := by
    rw [State.fqOf, cluster_modEntry, if_pos rfl]
    exact ho
  have hstop : (s.modEntry c 7 n QEntry.asked).stopEntry c 7 x 8 = s.abortFq c n := by
    rw [stopEntry_running _ c 8 hdisp, stopFq_running (o := o) (by rw [entry_ticket hx, hkept]), afterStop_fq, entry_ticket hx]
    rfl
  rw [State.abortOne, hx]
  refine (if_neg ?_).trans (congrArg (fun t : State => (t.bump (0x5400 + c) 6 1 32, 0)) hstop)
  simp [hopen]

theorem fqOf_modFq (s : State) (c n : Nat) {f : FqOp → FqOp} (hf : ∀ o, (f o).ticket = o.ticket) :
    (s.modFq c n f).fqOf c n = (s.fqOf c n).map f := by
  have hkey (o : FqOp) : ((if o.ticket = n then f o else o).ticket == n) = (o.ticket == n) := by
    split
    · rw [hf]
    · rfl
  rw [State.fqOf, State.modFq, cluster_modCluster_same]
  dsimp only
  rw [List.find?_map, State.fqOf, Function.comp_def]
  simp only [hkey]
  cases ho : List.find? (fun o => o.ticket == n) (s.cluster c).fq with
  | none => rfl
  | some o => exact congrArg some (if_pos (by simpa using List.find?_some ho))

theorem abortFq_effects (hx : s.entry c 7 n = some x) (hrun : x.aborting = none) :
    let t := (s.abortFq c n).bump (0x5400 + c) 6 1 32
    (t.entry c 7 n).bind QEntry.aborting = some 8 ∧ t.fqOf c n = (s.fqOf c n).map (fun o => { o with todo := [] })
      ∧ (t.cluster c).core = (s.cluster c).core ∧ t.build = s.build ∧ t.pending = s.pending := by
  intro t
  have ht : t.cluster c = (s.abortFq c n).cluster c := cluster_bump _ _ _ _ _ _
  have hnote := noteHeads_retimed (s.fqStopped c n) c
  have hself : (s.fqStopped c n).cluster c =
      { ((s.modEntry c 7 n QEntry.asked).markStop c 7 n 8).cluster c with fq := ((s.fqStopped c n).cluster c).fq } := by
    rw [State.fqStopped, State.modFq, cluster_modCluster_same]
  have hmark := (modEntry_stopFrame s c 7 n QEntry.asked).trans
    (modEntry_stopFrame _ c 7 n fun e => { e with aborting := some (worseStop e.aborting 8) })
  have hcount := bump_only (s.abortFq c n) c 7 (0x5400 + c) 6 1 32
  have hfq : OnlyCluster ((s.modEntry c 7 n QEntry.asked).markStop c 7 n 8) (s.fqStopped c n) c := modCluster_onlyCluster _ c _
  refine ⟨?_, ?_, ?_, hcount.build.trans (hnote.only.build.trans (hfq.build.trans hmark.build)),
    hcount.pending.trans (hnote.only.pending.trans (hfq.pending.trans hmark.pending))⟩
  · have hentry : (s.fqStopped c n).entry c 7 n = some { x.asked with aborting := some 8 } := by
      rw [entry_congr (s := (s.modEntry c 7 n QEntry.asked).markStop c 7 n 8) (by rw [hself]; rfl), State.markStop,
        entry_modEntry, entry_modEntry, hx, Option.map_some, Option.map_some]
      · exact congrArg (fun a => some { x.asked with aborting := some (worseStop a 8) }) hrun
      · exact fun _ => rfl
      · exact fun _ => rfl
    have hbare := entry_of_undropped (undropped_of_untimed (hnote.queues 7)) n
    rw [hentry] at hbare
    obtain ⟨y, hy, hy'⟩ := Option.map_eq_some_iff.mp hbare
    rw [entry_congr (congrArg (Cluster.queue · 7) ht), State.abortFq, hy]
    exact (congrArg QEntry.aborting hy' :)
  · have hops : ((s.abortFq c n).cluster c).fq = ((s.fqStopped c n).cluster c).fq := (congrArg Cluster.fq hnote.own :)
    have hkept : ((s.modEntry c 7 n QEntry.asked).markStop c 7 n 8).fqOf c n = s.fqOf c n :=
      congrArg (List.find? fun o : FqOp => o.ticket == n) (congrArg Cluster.fq hmark.own :)
    rw [State.fqOf, ht, hops, ← State.fqOf, State.fqStopped, fqOf_modFq, hkept]
    exact fun _ => rfl
  · rw [ht]
    exact hnote.core.trans ((congrArg Cluster.core hself).trans hmark.core)

/-- The abort of a whole queue whose entries wait. -/
theorem abortAll_effects (hwait : q < 4 → ∀ i, (s.cluster c).core.wait ≠ some (.fullStream q i))
    (hnodup : (((s.cluster c).queue q).entries.map QEntry.ticket).Nodup)
    (hall : s.allWait c q ((s.cluster c).queue q).entries) :
    s.abortAll c q = ((s.abortAll c q).1, ((s.cluster c).queue q).entries.length) ∧ StopFrame s (s.abortAll c q).1 c q
      ∧ (((s.abortAll c q).1.cluster c).queue q).entries.map (fun e => (e.ticket, e.compl)) =
        ((s.cluster c).queue q).entries.map fun e => (e.ticket, some (e.abortStatus, 0)) := by
  obtain ⟨hcount, hframe, hentries⟩ := abortNext_all ((s.cluster c).queue q).entries [] s 0 hwait rfl hnodup hall
  rw [← abortAll_eq, Nat.zero_add] at hcount
  rw [← abortAll_eq] at hframe hentries
  refine ⟨Prod.ext rfl hcount, hframe, ?_⟩
  have htold := congrArg (List.map fun e : QEntry => (e.ticket, e.compl)) hentries
  rw [List.nil_append, List.map_map, List.map_map] at htold
  exact htold

end Qabort

/-- Settles O31, by what the push and the abort of an entry leave. -/
theorem queueInstructions : Obligations.QueueInstructions := by
  unfold Obligations.QueueInstructions
  refine ⟨?pushes, ?aborts⟩
  case pushes =>
    intro c w s0 s hpc k q
    refine ⟨fun hi ha hin => ⟨fun hroom => ?_, fun hfull => ?_⟩, fun hi => ?_⟩
    · have hnotFree : ¬ s.queueFree c (qQ w) = 0 := fun h => absurd (queueFree_zero.mp h) (not_le.mpr hroom)
      obtain ⟨heffects, hb, hp⟩ := qpushes_effects (w := w) hpc (coreTurn_pushed s0 c false)
      exact issues_completes rfl hi (noFn w) (exec_qpush c s0) (qpush_room ha hin hpc hnotFree) hb hp heffects
    · have hwaits := seqWait_waits s c (.fullQueue (qQ w))
      exact issues_within rfl hi (noFn w) (exec_qpush c s0) ((if_neg (not_not_intro ha)).trans ((if_neg (not_le.mpr hin)).trans
        ((if_neg (not_le.mpr hpc)).trans (if_pos (queueFree_zero.mpr hfull))))) hwaits.2.1 hwaits
    · exact issues_result rfl hi (noFn w) (exec_qinfo c s0) rfl (seqNext_result hpc rfl)
  case aborts =>
    intro c w s0 s hi hpc hfree k q t st
    have hwait : qQ w < 4 → ∀ i, (s.cluster c).core.wait ≠ some (.fullStream (qQ w) i) := fun h => (hfree h).2
    refine ⟨fun hb => ⟨fun x hx hjob hdisp hopen => ?_, fun x hx hdone => ?_, fun x hq hx hdisp hopen hrun hfq => ?_,
      fun hx => ?_⟩, fun hb hnodup hall => ?_⟩
    · exact qabortOne_completes rfl hi hpc hb (abortOne_waiting hx hjob hdisp hopen) ((abortWaiting_frame hwait t _).bump _ _ _ _).build
        ((abortWaiting_frame hwait t _).bump _ _ _ _).pending (abortWaiting_effects hwait hx hopen _ _)
    · have hgoes := putReg_goes (s.modEntry c (qQ w) t QEntry.asked) c (qRd w) 1
      have hqueue := modQueue_onlyQueue s c (qQ w) fun m => m.modEntry t QEntry.asked
      refine qabortOne_completes rfl hi hpc hb (abortOne_late hx hdone) rfl rfl
        ⟨hqueue.core_restored hgoes.2, qaborts_goes hqueue.core 1, ?_⟩
      exact (congrArg (fun x : State => { x with clusters := s.clusters }) hgoes.2.1.1 :)
    · obtain ⟨hentry, hop, hcore, hb', hp'⟩ := abortFq_effects hx hrun
      have hr : s.abortOne c (qQ w) t = ((s.abortFq c t).bump (0x5400 + c) 6 1 32, 0) := by
        rw [hq]
        exact abortOne_fq hx hdisp hopen hfq
      obtain ⟨o, ho⟩ := Option.ne_none_iff_exists'.mp hfq
      have hkept := (qaborts_fq ((s.abortFq c t).bump (0x5400 + c) 6 1 32) c (qRd w) 0 t).trans hop
      refine qabortOne_completes rfl hi hpc hb hr hb' hp' ⟨?_, ?_, ?_, qaborts_goes hcore 0⟩
      · rw [entry_congr (qaborts_queue ((s.abortFq c t).bump (0x5400 + c) 6 1 32) c (qRd w) 0 7)]
        exact hentry
      · rw [hkept, ho]
        rfl
      · rw [hkept, ho]
        rfl
    · refine qabortOne_completes rfl hi hpc hb (abortOne_absent hx) rfl rfl ?_
      have hresult := qaborts_result s c (qRd w) (if (t + 2 ^ 32 - q.next) % 2 ^ 32 < 2 ^ 31 then 2 else 1)
      rw [apply_ite (BitVec.ofNat 64)] at hresult
      exact hresult
    · obtain ⟨hr, hframe, hentries⟩ := abortAll_effects hwait hnodup hall
      refine qabortAll_completes rfl hi hpc hb hr hframe.build hframe.pending
        ⟨?_, qaborts_goes hframe.core q.entries.length⟩
      rw [qaborts_queue]
      exact hentries

end Sys2Proof.Machine

/-! ## O33: dispatch and delivery -/

namespace Sys2Proof.Machine

/-! ### The branches of a dispatch (10 R340, R341, R344, R346) -/

section Dispatch

variable {s t u : State} {c q : Nat} {e : QEntry}

/-- The state once a consuming wait has taken its value off. -/
def State.headTaken (s : State) (c : Nat) (e : QEntry) : State :=
  if e0Form e.e0 = 3 then s.setFlag c (e0Flag e.e0) (s.flag c (e0Flag e.e0) - e0Value e.e0) else s

/-- The head is there, of an assigned cluster. -/
def State.hasHead (s : State) (c q : Nat) (e : QEntry) : Prop :=
  ((s.cluster c).queue q).head = some e ∧ (s.cluster c).part.isSome = true

theorem dispatchHead_eq (h : s.hasHead c q e) : s.dispatchHead c q =
    if !e0Ok e.e0 then (s.complete c q e.ticket 3 0).noteHeads c
    else if (s.cluster c).closed then (s.closeHead c q e).noteHeads c
    else if s.headHolds c e && s.mayDispatch c q e then
      if q < 4 && !s.tilePresent (tileNo c q) then (((s.headTaken c e).complete c q e.ticket 2 0).tileAbsent c q e).noteHeads c
      else if !e1Ok e.e1 || (q < 4 && !mqValid e.desc) then ((s.headTaken c e).complete c q e.ticket 3 0).noteHeads c
      else ((s.headTaken c e).modEntry c q e.ticket fun x => { x with disp := true, blockedSince := none, stalled := false }).noteHeads c
    else s := by
  obtain ⟨hhead, hpart⟩ := h
  have hassigned : ¬ (s.cluster c).part.isNone = true := by
    rw [Option.isNone_iff_eq_none]
    exact Option.isSome_iff_ne_none.mp hpart
  unfold State.dispatchHead
  dsimp only
  rw [hhead]
  exact if_neg hassigned

/-- The head of an open queue is dispatched or completed once its wait holds and the queue's rule lets it go. -/
theorem dispatchHead_goes (h : s.hasHead c q e) (h0 : e0Ok e.e0 = true) (hopen : (s.cluster c).closed = false)
    (hholds : s.headHolds c e = true) (hmay : s.mayDispatch c q e = true) : s.dispatchHead c q =
      if q < 4 && !s.tilePresent (tileNo c q) then (((s.headTaken c e).complete c q e.ticket 2 0).tileAbsent c q e).noteHeads c
      else if !e1Ok e.e1 || (q < 4 && !mqValid e.desc) then ((s.headTaken c e).complete c q e.ticket 3 0).noteHeads c
      else ((s.headTaken c e).modEntry c q e.ticket fun x => { x with
        disp := true, blockedSince := none, stalled := false }).noteHeads c := by
  rw [dispatchHead_eq h, if_neg (by simp [h0]), if_neg (by simp [hopen]), if_pos (by simp [hholds, hmay])]

theorem dispatchHead_blocked (h : s.hasHead c q e) (h0 : e0Ok e.e0 = true) (hopen : (s.cluster c).closed = false)
    (hno : s.headHolds c e = false ∨ s.mayDispatch c q e = false) : s.dispatchHead c q = s := by
  rw [dispatchHead_eq h, if_neg (by simp [h0]), if_neg (by simp [hopen]), if_neg (by obtain h | h := hno <;> simp [h])]

theorem dispatchHead_refused (h : s.hasHead c q e) (h0 : e0Ok e.e0 = false) :
    s.dispatchHead c q = (s.complete c q e.ticket 3 0).noteHeads c := by
  rw [dispatchHead_eq h, if_pos (by simp [h0])]

theorem dispatchHead_closed (h : s.hasHead c q e) (h0 : e0Ok e.e0 = true) (hclosed : (s.cluster c).closed = true) :
    s.dispatchHead c q = (s.closeHead c q e).noteHeads c := by
  rw [dispatchHead_eq h, if_neg (by simp [h0]), if_pos hclosed]

/-- After the head has been acted on, the core's own wait does not hold where a consuming wait has taken its flag's value. -/
theorem dispatchNow_retimed (h : s.hasHead c q e)
    (hcore : (s.dispatchHead c q).flag c (e0Flag e.e0) ≠ s.flag c (e0Flag e.e0) →
      (s.dispatchHead c q).evalCore c [e0Flag e.e0] = s.dispatchHead c q) :
    Retimed (s.dispatchHead c q) (s.dispatchNow c q) c := by
  unfold State.dispatchNow
  rw [h.1]
  dsimp only
  split
  · exact .refl _ c
  · rename_i hne
    rw [hcore hne]
    exact noteHeads_retimed _ c

/-- The core waits on no flag word, or on one whose wait does not hold. -/
theorem evalCore_idles {n : Nat}
    (h : ∀ form v, (s.cluster c).core.wait = some (.flag form n v) → waitHolds form (s.flag c n) v = false) :
    s.evalCore c [n] = s := by
  unfold State.evalCore
  split
  · rename_i form m v hwait
    refine if_neg fun hrun => ?_
    rw [Bool.and_eq_true, List.contains_iff_mem, List.mem_singleton] at hrun
    obtain ⟨rfl, hholds⟩ := hrun
    exact Bool.false_ne_true ((h form v hwait).symm.trans hholds)
  · rfl

/-! ### What is left -/

theorem cluster_headTaken (s : State) (c : Nat) (e : QEntry) :
    (s.headTaken c e).cluster c = { s.cluster c with flags := ((s.headTaken c e).cluster c).flags } := by
  unfold State.headTaken
  split
  · rw [State.setFlag, cluster_modCluster_same]
  · rfl

theorem headTaken_onlyCluster (s : State) (c : Nat) (e : QEntry) : OnlyCluster s (s.headTaken c e) c := by
  unfold State.headTaken
  split
  · exact modCluster_onlyCluster s c _
  · exact .refl s c

theorem flag_headTaken (s : State) (c : Nat) (e : QEntry) (m : Nat) : (s.headTaken c e).flag c m =
    if e0Form e.e0 = 3 ∧ m = e0Flag e.e0 then s.flag c m - e0Value e.e0 else s.flag c m := by
  unfold State.headTaken
  by_cases h3 : e0Form e.e0 = 3
  · rw [if_pos h3, flag_setFlag]
    by_cases hm : m = e0Flag e.e0
    · rw [if_pos hm, if_pos ⟨h3, hm⟩, hm]
    · rw [if_neg hm, if_neg fun h => hm h.2]
  · rw [if_neg h3, if_neg fun h => h3 h.1]

theorem core_headTaken (s : State) (c : Nat) (e : QEntry) : ((s.headTaken c e).cluster c).core = (s.cluster c).core := by
  rw [cluster_headTaken]

theorem queue_headTaken (s : State) (c : Nat) (e : QEntry) (j : Nat) :
    ((s.headTaken c e).cluster c).queue j = (s.cluster c).queue j := by
  rw [cluster_headTaken]
  rfl

/-- A queue none of whose entries owes its stream lines. -/
def Queue.owesNone (k : Queue) : Prop := ∀ y ∈ k.entries, y.owesDrop = false

theorem Queue.owesNone.modEntry {k : Queue} (h : k.owesNone) (n : Nat) {f : QEntry → QEntry}
    (hf : ∀ x : QEntry, x.owesDrop = false → (f x).owesDrop = false) : (k.modEntry n f).owesNone := by
  intro y hy
  obtain ⟨x, hx, rfl⟩ := List.mem_map.mp hy
  split
  · exact hf x (h x hx)
  · exact h x hx

theorem owesNone_untimed {k m : Queue} (h : k.owesNone) (hkm : m.untimed = k.untimed) : m.owesNone := by
  intro y hy
  have hmem : y.untimed ∈ m.untimed.entries := List.mem_map_of_mem hy
  rw [hkm] at hmem
  obtain ⟨x, hx, hxy⟩ := List.mem_map.mp hmem
  exact (congrArg QEntry.owesDrop hxy).symm.trans (h x hx)

/-- An entry that completes with a status other than ABORTED and DISCARDED owes its stream nothing. -/
theorem owesNone_completing {k : Queue} (h : k.owesNone) (n st d : Nat) (h8 : st ≠ 8) (h9 : st ≠ 9) :
    (k.completing n (st, d)).owesNone := by
  refine h.modEntry n fun x hx => ?_
  split
  · exact hx
  · simp [QEntry.owesDrop, h8, h9]

/-- The tile of a queue whose entries owe nothing has nothing to settle. -/
theorem OnlyQueue.settles {m : Queue} (h : OnlyQueue s t c q m) (hm : m.owesNone)
    (hwait : ∀ n, (s.cluster c).core.wait ≠ some (.fullStream q n)) : ReadsSame t (t.settleTile c q) :=
  settleTile_free ⟨owesNone_untimed hm h.1, fun n => by rw [h.core]; exact hwait n⟩

end Dispatch

/-! ### QUEUE_DISPATCH (10 R340) -/

section QueueDispatch

variable {s s0 t u : State} {c q : Nat} {e : QEntry} {m : Queue}

/-- The head of a queue has been acted on, and its tile settled. -/
def State.dispatched (s : State) (c q : Nat) : State :=
  if q < 4 then (s.dispatchNow c q).settleTile c q else s.dispatchNow c q

theorem exec_queueDispatch (hs : s0.closeCycle c = s) (hc : c < 48) (hq : q < 8) (hon : s0.clusterOn c = true) :
    exec (.queueDispatch c q) s0 = go s0 (s.dispatched c q) := by
  subst hs
  exact ifUnit_when _ _ (by rw [decide_eq_true hc, decide_eq_true hq]; rfl) hon

theorem dispatch_completes {P : State → Prop} (hs : s0.closeCycle c = s) (hc : c < 48) (hq : q < 8)
    (hon : s0.clusterOn c = true) (hw : ClusterWork s (s.dispatched c q) c) (p : P (s.dispatched c q)) :
    Completes (.queueDispatch c q) s0 P := by
  have hx := exec_queueDispatch hs hc hq hon
  have hclose := closeCycle_work s0 c
  rw [hs] at hclose
  exact completes_kept hx (hw.build.trans hclose.build) (hw.pending.trans hclose.pending) p

theorem dispatchNow_work (s : State) (c q : Nat) : ClusterWork s (s.dispatchNow c q) c := by
  unfold State.dispatchNow
  split
  · dsimp only
    split
    · exact dispatchHead_work s c q
    · exact ((dispatchHead_work s c q).trans (evalCore_work _ c _)).trans (noteHeads_work _ c)
  · exact .refl s c

theorem dispatched_work (s : State) (c q : Nat) : ClusterWork s (s.dispatched c q) c := by
  unfold State.dispatched
  split
  · exact (dispatchNow_work s c q).trans (settleTile_work _ c q)
  · exact dispatchNow_work s c q

/-- What is left where no entry of the queue owes its stream lines. -/
theorem dispatched_retimed (h : s.hasHead c q e)
    (hcore : (s.dispatchHead c q).flag c (e0Flag e.e0) ≠ s.flag c (e0Flag e.e0) →
      (s.dispatchHead c q).evalCore c [e0Flag e.e0] = s.dispatchHead c q)
    (hq : OnlyQueue t (s.dispatchHead c q) c q m) (hm : q < 4 → m.owesNone)
    (hwait : q < 4 → ∀ n, (t.cluster c).core.wait ≠ some (.fullStream q n)) :
    Retimed (s.dispatchHead c q) (s.dispatched c q) c := by
  have hnow := dispatchNow_retimed h hcore
  unfold State.dispatched
  split
  · rename_i hlt
    exact hnow.trans (((hq.retimed hnow).settles (hm hlt) (hwait hlt)).retimed c)
  · exact hnow

/-- The flag words apart, a dispatch changes its queue alone. -/
theorem OnlyQueue.undec (h : OnlyQueue (s.headTaken c e) u c q m) :
    OnlyQueue s (u.modCluster c fun x => { x with flags := (s.cluster c).flags }) c q m := by
  obtain ⟨hq, hothers, hown, hclusters⟩ := h
  have hself := cluster_modCluster_same u c fun x => { x with flags := (s.cluster c).flags }
  refine ⟨?_, fun j hj => ?_, ?_, fun d hd => ?_⟩
  · rw [hself]
    exact hq
  · rw [hself]
    exact (hothers j hj).trans (congrArg Queue.untimed (queue_headTaken s c e j))
  · rw [hself]
    have hflags := congrArg (fun k : Cluster => { k with flags := (s.cluster c).flags, queues := (s.cluster c).queues })
      (hown.trans (cluster_headTaken s c e))
    exact hflags
  · exact ((modCluster_onlyCluster u c _).2 d hd).trans ((hclusters d hd).trans ((headTaken_onlyCluster s c e).2 d hd))

/-- A head that is dispatched or completed, with what its wait takes off. -/
theorem dispatched_goes (h : s.hasHead c q e)
    (hcore : ∀ form v, (s.cluster c).core.wait = some (.flag form (e0Flag e.e0) v) → e0Form e.e0 = 3 →
      waitHolds form (s.flag c (e0Flag e.e0) - e0Value e.e0) v = false)
    (hq : OnlyQueue (s.headTaken c e) (s.dispatchHead c q) c q m) (hm : q < 4 → m.owesNone)
    (hwait : q < 4 → ∀ n, (s.cluster c).core.wait ≠ some (.fullStream q n)) :
    let u := s.dispatched c q
    (∀ m, u.flag c m =
        if e0Form e.e0 = 3 ∧ m = e0Flag e.e0 then s.flag c m - e0Value e.e0 else s.flag c m)
      ∧ OnlyQueue s (u.modCluster c fun x => { x with flags := (s.cluster c).flags }) c q m
      ∧ Retimed (s.dispatchHead c q) u c := by
  have hflag (m : Nat) : (s.dispatchHead c q).flag c m = (s.headTaken c e).flag c m :=
    congrArg (Tab.get (0 : W32) · m) (congrArg Cluster.flags hq.2.2.1 :)
  have hr := dispatched_retimed h (t := s.headTaken c e) (m := m) (fun hne => evalCore_idles fun form v hv => ?_) hq hm
    (by rw [core_headTaken]; exact hwait)
  · exact ⟨fun m => (hr.flag m).trans ((hflag m).trans (flag_headTaken s c e m)), (hq.retimed hr).undec, hr⟩
  · rw [hflag, flag_headTaken] at hne ⊢
    rw [hq.core, core_headTaken] at hv
    by_cases h3 : e0Form e.e0 = 3
    · rw [if_pos ⟨h3, rfl⟩]
      exact hcore form v hv h3
    · exact absurd (if_neg fun h => h3 h.1) hne

end QueueDispatch

/-! ### The effects of a dispatch -/

section Effects

variable {s s0 t u : State} {c q : Nat} {e : QEntry} {m : Queue}

theorem OnlyQueue.of_untimed (h : OnlyQueue s t c q m) {m' : Queue} (hm : m.untimed = m'.untimed) : OnlyQueue s t c q m' :=
  ⟨h.1.trans hm, h.2⟩

theorem untimed_modEntry_congr {f g : QEntry → QEntry} (hfg : ∀ e : QEntry, (f e).untimed = (g e).untimed) (k : Queue) (n : Nat) :
    (k.modEntry n f).untimed = (k.modEntry n g).untimed := by
  refine congrArg (fun es => { k with entries := es }) ?_
  change (k.entries.map _).map QEntry.untimed = (k.entries.map _).map QEntry.untimed
  rw [List.map_map, List.map_map]
  refine List.map_congr_left fun e _ => ?_
  by_cases he : e.ticket = n
  · simpa [he] using hfg e
  · simp [he]

/-- A change of the oldest waiting entry's queue in the state that its wait leaves. -/
theorem headTaken_onlyQueue (s : State) (c q : Nat) (e : QEntry) (f : Queue → Queue) :
    OnlyQueue (s.headTaken c e) (((s.headTaken c e).modQueue c q f).noteHeads c) c q (f ((s.cluster c).queue q)) := by
  have hmod := modQueue_onlyQueue (s.headTaken c e) c q f
  rw [queue_headTaken] at hmod
  exact hmod.retimed (noteHeads_retimed _ c)

theorem headTaken_within (s : State) (c q : Nat) (e : QEntry) (f : Queue → Queue) :
    OnlyCluster s (((s.headTaken c e).modQueue c q f).noteHeads c) c :=
  ((headTaken_onlyCluster s c e).trans (modCluster_onlyCluster _ c _)).trans (noteHeads_retimed _ c).only

/-- The head's wait holds, and its queue lets it go. -/
def State.headGoes (s : State) (c q : Nat) (e : QEntry) : Prop :=
  s.hasHead c q e ∧ e0Ok e.e0 = true ∧ (s.cluster c).closed = false ∧ s.headHolds c e = true ∧ s.mayDispatch c q e = true

theorem headGoes_dispatches (h : s.headGoes c q e) (hhere : ¬ (q < 4 ∧ s.tilePresent (tileNo c q) = false))
    (hgood : ¬ (e1Ok e.e1 = false ∨ (q < 4 ∧ mqValid e.desc = false))) : s.dispatchHead c q =
      ((s.headTaken c e).modEntry c q e.ticket fun x => { x with disp := true, blockedSince := none, stalled := false }).noteHeads c := by
  obtain ⟨hhead, h0, hopen, hholds, hmay⟩ := h
  rw [dispatchHead_goes hhead h0 hopen hholds hmay, if_neg (by simpa using hhere), if_neg (by simpa using hgood)]

theorem headGoes_refuses (h : s.headGoes c q e) (hhere : ¬ (q < 4 ∧ s.tilePresent (tileNo c q) = false))
    (hbad : e1Ok e.e1 = false ∨ (q < 4 ∧ mqValid e.desc = false)) :
    s.dispatchHead c q = ((s.headTaken c e).complete c q e.ticket 3 0).noteHeads c := by
  obtain ⟨hhead, h0, hopen, hholds, hmay⟩ := h
  rw [dispatchHead_goes hhead h0 hopen hholds hmay, if_neg (by simpa using hhere), if_pos (by simpa using hbad)]

theorem headGoes_absent (h : s.headGoes c q e) (hgone : q < 4 ∧ s.tilePresent (tileNo c q) = false) :
    s.dispatchHead c q = (((s.headTaken c e).complete c q e.ticket 2 0).tileAbsent c q e).noteHeads c := by
  obtain ⟨hhead, h0, hopen, hholds, hmay⟩ := h
  rw [dispatchHead_goes hhead h0 hopen hholds hmay, if_pos (by simpa using hgone)]

theorem logLimited_rest (s : State) (us k : Nat) (pl : Nat → List Word) : { s.logLimited us k pl with crust := s.crust } = s := by
  unfold State.logLimited
  dsimp only
  split
  · split <;> rfl
  · split <;> rfl

theorem tileAbsent_counts (s : State) (c q : Nat) (e : QEntry) :
    (∀ d, (s.tileAbsent c q e).cluster d = s.cluster d)
      ∧ (s.tileAbsent c q e).ctr (0x5100 + tileNo c q) 6 = (s.ctr (0x5100 + tileNo c q) 6 + 1) % 2 ^ 32
      ∧ OdKept s (s.tileAbsent c q e) [odKey (0x5100 + tileNo c q) 6]
      ∧ { s.tileAbsent c q e with mgmt := s.mgmt, crust := s.crust } = s := by
  have hlog : { s.tileAbsent c q e with crust := s.crust } = s.bump (0x5100 + tileNo c q) 6 1 32 := logLimited_rest _ _ _ _
  have hmgmt : (s.tileAbsent c q e).mgmt = (s.bump (0x5100 + tileNo c q) 6 1 32).mgmt := (congrArg State.mgmt hlog :)
  refine ⟨fun d => (congrArg (State.cluster · d) hlog :), ?_, ?_, (congrArg (fun x : State => { x with mgmt := s.mgmt }) hlog :)⟩
  · rw [State.ctr, hmgmt]
    exact ctr_bump32 s _ _
  · rw [OdKept, hmgmt]
    exact OdKept.bump s (List.mem_singleton_self _)

/-- An entry for an absent tile has completed ABSENT. -/
theorem headGoes_absent_effects (h : s.headGoes c q e) (hgone : q < 4 ∧ s.tilePresent (tileNo c q) = false) :
    let D := s.dispatchHead c q
    OnlyQueue (s.headTaken c e) D c q (((s.cluster c).queue q).completing e.ticket (2, 0))
      ∧ D.ctr (0x5100 + tileNo c q) 6 = (s.ctr (0x5100 + tileNo c q) 6 + 1) % 2 ^ 32
      ∧ OdKept s D [odKey (0x5100 + tileNo c q) 6] ∧ { D with clusters := s.clusters, mgmt := s.mgmt, crust := s.crust } = s := by
  dsimp only
  rw [headGoes_absent h hgone]
  have hmod := modQueue_onlyQueue (s.headTaken c e) c q fun k => k.completing e.ticket (2, 0)
  rw [queue_headTaken] at hmod
  have hwithin : OnlyCluster s ((s.headTaken c e).complete c q e.ticket 2 0) c :=
    (headTaken_onlyCluster s c e).trans (modCluster_onlyCluster _ c _)
  have hmgmt : ((s.headTaken c e).complete c q e.ticket 2 0).mgmt = s.mgmt := (congrArg State.mgmt hwithin.1 :)
  generalize hY : (s.headTaken c e).complete c q e.ticket 2 0 = Y at hwithin hmgmt
  have hmod' : OnlyQueue (s.headTaken c e) Y c q (((s.cluster c).queue q).completing e.ticket (2, 0)) := hY ▸ hmod
  obtain ⟨hclusters, hctr, hod, hrest⟩ := tileAbsent_counts Y c q e
  have hnote := noteHeads_retimed (Y.tileAbsent c q e) c
  have hkept : ((Y.tileAbsent c q e).noteHeads c).mgmt = (Y.tileAbsent c q e).mgmt := (congrArg State.mgmt hnote.only.1 :)
  refine ⟨(hmod'.congr hclusters).retimed hnote, ?_, ?_, ?_⟩
  · rw [State.ctr, hkept]
    refine hctr.trans ?_
    rw [State.ctr, hmgmt, State.ctr]
  · rw [OdKept, hkept]
    exact (odKept_of_mgmt hmgmt _).trans hod
  · calc { (Y.tileAbsent c q e).noteHeads c with clusters := s.clusters, mgmt := s.mgmt, crust := s.crust }
        = { Y.tileAbsent c q e with clusters := s.clusters, mgmt := s.mgmt, crust := s.crust } :=
          (congrArg (fun x : State => { x with clusters := s.clusters, mgmt := s.mgmt, crust := s.crust }) hnote.only.1 :)
      _ = { Y with clusters := s.clusters, mgmt := s.mgmt, crust := s.crust } :=
          (congrArg (fun x : State => { x with clusters := s.clusters, mgmt := s.mgmt, crust := s.crust }) hrest :)
      _ = s := (congrArg (fun x : State => { x with mgmt := s.mgmt, crust := s.crust }) hwithin.1 :)

end Effects

/-! ### The closed queue (10 R346) -/

section Closed

variable {s t u : State} {c q : Nat} {e : QEntry}

/-- The head of a closed queue has completed. -/
theorem closeHead_effects (s : State) (c q : Nat) (e : QEntry) :
    let t := s.closeHead c q e
    OnlyQueue s t c q (((s.cluster c).queue q).completing e.ticket (s.closedStatus c q e, 0))
      ∧ (s.closedStatus c q e ≠ 2 → { t with clusters := s.clusters } = s) := by
  have hmod := modQueue_onlyQueue s c q fun k => k.completing e.ticket (s.closedStatus c q e, 0)
  have heq : s.closeHead c q e =
      if s.closedStatus c q e = 2 then (s.complete c q e.ticket (s.closedStatus c q e) 0).tileAbsent c q e
      else s.complete c q e.ticket (s.closedStatus c q e) 0 := rfl
  dsimp only
  rw [heq]
  split
  · rename_i h2
    obtain ⟨hclusters, -⟩ := tileAbsent_counts (s.complete c q e.ticket (s.closedStatus c q e) 0) c q e
    exact ⟨hmod.congr hclusters, fun hne => absurd h2 hne⟩
  · exact ⟨hmod, fun _ => rfl⟩

end Closed

/-! ### QUEUE_DISPATCH (10 R340) -/

section Outcomes

variable {s t u : State} {c q : Nat} {e : QEntry} {m : Queue}

/-- The core's own wait on the flag word that a consuming wait takes from is one that does not hold then. -/
def State.coreKeepsWait (s : State) (c : Nat) (e : QEntry) : Prop :=
  ∀ form v, (s.cluster c).core.wait = some (.flag form (e0Flag e.e0) v) → e0Form e.e0 = 3 →
    waitHolds form (s.flag c (e0Flag e.e0) - e0Value e.e0) v = false

/-- A dispatch, with what the wait takes off, has changed its queue to `m` and nothing else of the clusters. -/
def DispatchedTo (s u : State) (c q : Nat) (e : QEntry) (m : Queue) : Prop :=
  (∀ n, u.flag c n = if e0Form e.e0 = 3 ∧ n = e0Flag e.e0 then s.flag c n - e0Value e.e0 else s.flag c n)
    ∧ OnlyQueue s (u.modCluster c fun x => { x with flags := (s.cluster c).flags }) c q m

theorem TileFree.owesNone (h : TileFree s c q) : ((s.cluster c).queue q).owesNone := h.1

/-- A head that goes: its queue is `f` of what it was. -/
theorem dispatched_to {f : Queue → Queue} (h : s.headGoes c q e) (hcore : s.coreKeepsWait c e)
    (hfree : q < 4 → TileFree s c q)
    (heq : s.dispatchHead c q = ((s.headTaken c e).modQueue c q f).noteHeads c)
    (hf : ((s.cluster c).queue q).owesNone → (f ((s.cluster c).queue q)).owesNone) :
    DispatchedTo s (s.dispatched c q) c q e (f ((s.cluster c).queue q))
      ∧ { s.dispatched c q with clusters := s.clusters } = s := by
  have hqueue := headTaken_onlyQueue s c q e f
  have hwithin := headTaken_within s c q e f
  rw [← heq] at hqueue hwithin
  obtain ⟨hflags, hqueue', hr⟩ := dispatched_goes h.1 hcore hqueue (fun hq => hf (hfree hq).owesNone) fun hq => (hfree hq).2
  exact ⟨⟨hflags, hqueue'⟩, (hwithin.trans hr.only).1⟩

/-- The head is dispatched. -/
theorem dispatched_disp (h : s.headGoes c q e) (hcore : s.coreKeepsWait c e) (hfree : q < 4 → TileFree s c q)
    (hhere : ¬ (q < 4 ∧ s.tilePresent (tileNo c q) = false))
    (hgood : ¬ (e1Ok e.e1 = false ∨ (q < 4 ∧ mqValid e.desc = false))) :
    DispatchedTo s (s.dispatched c q) c q e (((s.cluster c).queue q).modEntry e.ticket fun x => { x with disp := true })
      ∧ { s.dispatched c q with clusters := s.clusters } = s := by
  obtain ⟨⟨hflags, hqueue⟩, hrest⟩ := dispatched_to (f := fun k => k.modEntry e.ticket fun x =>
      { x with disp := true, blockedSince := none, stalled := false }) h hcore hfree (headGoes_dispatches h hhere hgood)
    fun hm => hm.modEntry _ fun _ hx => hx
  refine ⟨⟨hflags, hqueue.of_untimed (untimed_modEntry_congr (fun x => ?_) _ _)⟩, hrest⟩
  rfl

/-- A head with a bad E1 or an invalid tile descriptor completes BAD_DESC. -/
theorem dispatched_bad (h : s.headGoes c q e) (hcore : s.coreKeepsWait c e) (hfree : q < 4 → TileFree s c q)
    (hhere : ¬ (q < 4 ∧ s.tilePresent (tileNo c q) = false))
    (hbad : e1Ok e.e1 = false ∨ (q < 4 ∧ mqValid e.desc = false)) :
    DispatchedTo s (s.dispatched c q) c q e (((s.cluster c).queue q).completing e.ticket (3, 0))
      ∧ { s.dispatched c q with clusters := s.clusters } = s :=
  dispatched_to h hcore hfree (headGoes_refuses h hhere hbad) fun hm => owesNone_completing hm _ 3 0 (by decide) (by decide)

/-- The head of a queue of an absent tile completes ABSENT. -/
theorem dispatched_absent (h : s.headGoes c q e) (hcore : s.coreKeepsWait c e) (hfree : q < 4 → TileFree s c q)
    (hgone : q < 4 ∧ s.tilePresent (tileNo c q) = false) :
    let u := s.dispatched c q
    DispatchedTo s u c q e (((s.cluster c).queue q).completing e.ticket (2, 0))
      ∧ u.ctr (0x5100 + tileNo c q) 6 = (s.ctr (0x5100 + tileNo c q) 6 + 1) % 2 ^ 32
      ∧ OdKept s u [odKey (0x5100 + tileNo c q) 6]
      ∧ { u with clusters := s.clusters, mgmt := s.mgmt, crust := s.crust } = s := by
  obtain ⟨hqueue, hctr, hod, hrest⟩ := headGoes_absent_effects h hgone
  obtain ⟨hflags, hqueue', hr⟩ := dispatched_goes h.1 hcore hqueue
    (fun hq => owesNone_completing (hfree hq).owesNone _ 2 0 (by decide) (by decide)) fun hq => (hfree hq).2
  have hmgmt : (s.dispatched c q).mgmt = (s.dispatchHead c q).mgmt := (congrArg State.mgmt hr.only.1 :)
  refine ⟨⟨hflags, hqueue'⟩, ?_, hod.trans (odKept_of_mgmt hmgmt _), ?_⟩
  · rw [State.ctr, hmgmt]
    exact hctr
  · exact (congrArg (fun x : State => { x with clusters := s.clusters, mgmt := s.mgmt, crust := s.crust }) hr.only.1 :).trans hrest

/-- A dispatch that takes nothing off a flag word. -/
theorem dispatched_kept (h : s.hasHead c q e) (hq : OnlyQueue s (s.dispatchHead c q) c q m) (hm : q < 4 → m.owesNone)
    (hfree : q < 4 → TileFree s c q) (hrest : { s.dispatchHead c q with clusters := s.clusters } = s) :
    OnlyQueue s (s.dispatched c q) c q m ∧ { s.dispatched c q with clusters := s.clusters } = s := by
  have hflag : (s.dispatchHead c q).flag c (e0Flag e.e0) = s.flag c (e0Flag e.e0) :=
    congrArg (Tab.get (0 : W32) · (e0Flag e.e0)) (congrArg Cluster.flags hq.2.2.1 :)
  have hr := dispatched_retimed h (fun hne => absurd hflag hne) hq hm fun hq => (hfree hq).2
  exact ⟨hq.retimed hr, (congrArg (fun x : State => { x with clusters := s.clusters }) hr.only.1).trans hrest⟩

/-- A head whose wait does not hold, or whose queue does not let it go, stays. -/
theorem dispatched_blocked (h : s.hasHead c q e) (h0 : e0Ok e.e0 = true) (hopen : (s.cluster c).closed = false)
    (hno : s.headHolds c e = false ∨ s.mayDispatch c q e = false) (hfree : q < 4 → TileFree s c q) :
    OnlyQueue s (s.dispatched c q) c q ((s.cluster c).queue q) ∧ { s.dispatched c q with clusters := s.clusters } = s := by
  have heq := dispatchHead_blocked h h0 hopen hno
  refine dispatched_kept h ?_ (fun hq => (hfree hq).owesNone) hfree (by rw [heq])
  rw [heq]
  exact ⟨rfl, fun _ _ => rfl, rfl, fun _ _ => rfl⟩

/-- A head with a bad E0 completes BAD_DESC at once. -/
theorem dispatched_refused (h : s.hasHead c q e) (h0 : e0Ok e.e0 = false) (hfree : q < 4 → TileFree s c q) :
    OnlyQueue s (s.dispatched c q) c q (((s.cluster c).queue q).completing e.ticket (3, 0))
      ∧ { s.dispatched c q with clusters := s.clusters } = s := by
  have heq := dispatchHead_refused h h0
  have hmod := modQueue_onlyQueue s c q fun k => k.completing e.ticket (3, 0)
  have hnote := noteHeads_retimed (s.complete c q e.ticket 3 0) c
  have hwithin : OnlyCluster s (s.complete c q e.ticket 3 0) c := modCluster_onlyCluster s c _
  refine dispatched_kept h ?_ (fun hq => owesNone_completing (hfree hq).owesNone _ 3 0 (by decide) (by decide)) hfree ?_
  · rw [heq]
    exact OnlyQueue.retimed hmod hnote
  · rw [heq]
    exact (hwithin.trans hnote.only).1

/-- The head of a closed queue completes, and its tile may have lines to discard. -/
theorem dispatched_closed (h : s.hasHead c q e) (h0 : e0Ok e.e0 = true) (hclosed : (s.cluster c).closed = true)
    (hfree : q < 4 → TileFree s c q) :
    let u := s.dispatched c q
    ((u.cluster c).queue q).undropped = (((s.cluster c).queue q).completing e.ticket (s.closedStatus c q e, 0)).undropped
      ∧ (u.cluster c).flags = (s.cluster c).flags ∧ (∀ d, d ≠ c → u.cluster d = s.cluster d)
      ∧ (s.closedStatus c q e ≠ 2 → { u with clusters := s.clusters } = s) := by
  obtain ⟨hqueue, hrest⟩ := closeHead_effects s c q e
  have hnote := noteHeads_retimed (s.closeHead c q e) c
  have hD := hqueue.retimed hnote
  rw [← dispatchHead_closed h h0 hclosed] at hnote hD
  have hflags : ((s.dispatchHead c q).cluster c).flags = (s.cluster c).flags := (congrArg Cluster.flags hD.2.2.1 :)
  have hnow := dispatchNow_retimed h fun hne => absurd (congrArg (Tab.get (0 : W32) · (e0Flag e.e0)) hflags) hne
  have hsettle : Discards (s.dispatchNow c q) (s.dispatched c q) c q := by
    unfold State.dispatched
    split
    · rename_i hq
      exact settleTile_discards hq (by rw [hnow.core, hD.core]; exact (hfree hq).2)
    · exact .refl _ c q
  obtain ⟨hframe, hmgmt, hundropped⟩ := hsettle
  have hN := hD.retimed hnow
  refine ⟨hundropped.trans (undropped_of_untimed hN.1), ?_, fun d hd => (hframe.clusters d hd).trans (hN.2.2.2 d hd), fun hne => ?_⟩
  · exact (congrArg Cluster.flags hframe.own :).trans (congrArg Cluster.flags hN.2.2.1 :)
  · calc { s.dispatched c q with clusters := s.clusters }
        = { s.dispatched c q with clusters := s.clusters, mgmt := (s.dispatchNow c q).mgmt } :=
          congrArg (fun x : Mgmt => { s.dispatched c q with clusters := s.clusters, mgmt := x }) hmgmt
      _ = { s.dispatchNow c q with clusters := s.clusters } := (congrArg (fun x : State => { x with clusters := s.clusters }) hframe.rest :)
      _ = { s.closeHead c q e with clusters := s.clusters } :=
          (congrArg (fun x : State => { x with clusters := s.clusters }) (hnote.trans hnow).only.1 :)
      _ = s := hrest hne

end Outcomes

/-! ### Delivery (10 R342, R343) -/

section Delivery

variable {s t u : State} {c q st d : Nat} {e : QEntry} {rest : List QEntry}

theorem exec_entryDelivery {more : Bool} (hc : c < 48) (hq : q < 8) (hon : s.clusterOn c = true) :
    exec (.entryDelivery c q more) s = go s (s.inCycle c more fun s => s.deliverHead c q).settle :=
  ifUnit_when _ _ (by rw [decide_eq_true hc, decide_eq_true hq]; rfl) hon

theorem quiet_congr (hfab : u.fab = s.fab) (hplace : u.place = s.place) (hq : s.quiet) : u.quiet := by
  unfold State.quiet
  rw [hfab, hplace]
  exact hq

theorem quiet_of_rest (h : { u with clusters := s.clusters, mgmt := s.mgmt } = s) (hq : s.quiet) : u.quiet :=
  quiet_congr (congrArg State.fab h :) (congrArg State.place h :) hq

/-- What its tile had to discard with an entry that is delivered. -/
def State.unstreamed (s : State) (c q : Nat) (e : QEntry) : State :=
  if q < 4 then (s.dropEntry c q e).freeStreams c q else s

theorem unstreamed_free (hfree : q < 4 → TileFree s c q) (he : e ∈ ((s.cluster c).queue q).entries) :
    ReadsSame s (s.unstreamed c q e) := by
  unfold State.unstreamed
  split
  · rename_i hq
    have hkept : s.dropEntry c q e = s := by
      rw [State.dropEntry, (hfree hq).1 e he]
      rfl
    rw [hkept]
    exact freeStreams_free (hfree hq).2
  · exact .refl s

/-- The record that an entry's ring is owed, if it asks for one. -/
def State.ringOwed (s : State) (e : QEntry) (st d : Nat) : State :=
  match e.ring with
  | none => s
  | some x => s.addRecord x.p x.r x.cpl (recordOf st d e.abortReq x.seq)

theorem deliverHead_eq (hent : ((s.cluster c).queue q).entries = e :: rest) (hcompl : e.compl = some (st, d)) :
    s.deliverHead c q = ((s.unstreamed c q e).deliver c q e st d).ringOwed e st d := by
  unfold State.deliverHead
  rw [hent, List.head?_cons]
  dsimp only
  rw [hcompl]
  rfl

theorem ringOwed_none (h : ∀ x, e.ring = some x → x.cpl = 0) : s.ringOwed e st d = s := by
  unfold State.ringOwed
  split
  · rfl
  · rename_i x hx
    rw [State.addRecord, if_pos (h x hx)]

theorem ringOwed_some {x : RingSrc} (h : e.ring = some x) :
    s.ringOwed e st d = s.addRecord x.p x.r x.cpl (recordOf st d e.abortReq x.seq) := by
  unfold State.ringOwed
  rw [h]

/-- The signal of a delivered entry. -/
def State.signalled (s : State) (c q : Nat) (e : QEntry) : State :=
  if e1Ok e.e1 && Word.bits e.e1 63 62 != 0 then
    s.flagWrite c (1 + q) (Word.bits e.e1 53 48) (Word.bits e.e1 63 62 == 2) (BitVec.ofNat 32 (Word.bits e.e1 31 0))
  else s

/-- Where the completion record of an entry stands in data SRAM, and its bytes. -/
def QEntry.recordAt (e : QEntry) (q : Nat) : Nat := 0xF000 + 512 * q + 8 * (e.ticket % 64)
def QEntry.recordBytes (e : QEntry) (st d : Nat) : Bytes := leBytes 8 (recordOf st d e.abortReq e.ticket).toNat

/-- Bytes are stored in data SRAM. -/
def State.recorded (s : State) (c at_ : Nat) (bs : Bytes) : State :=
  s.modCluster c fun k => { k with dsram := sramPut k.dsram at_ bs }

/-- An entry leaves its queue. -/
def State.entryGone (s : State) (c q : Nat) (e : QEntry) : State :=
  s.modQueue c q fun k => { k with entries := k.entries.filter fun x => x.ticket != e.ticket }

theorem deliver_eq {fc : FlagCycle} (hfc : (s.cluster c).cycle = some fc) : s.deliver c q e st d =
    ((((((s.recorded c (e.recordAt q) (e.recordBytes st d)).entryGone c q e).signalled c q e).bumpIf (st = 9)
      (0x5400 + c) 7 32).coreEvent c q).releaseQueue
      c q).noteHeads c := by
  rw [State.deliver, State.together, hfc, bumpIf_decide]
  rfl

/-- An event has become pending. -/
def Core.raised (k : Core) (b : Nat) : Core := { k with events := k.events ||| BitVec.ofNat 9 (2 ^ b) }

/-- A core that waits for a slot of a queue issues its instruction again. -/
def Core.released (k : Core) (q : Nat) : Core :=
  if k.wait = some (.fullQueue q) then { k with st := .running, wait := none, stalled := false } else k

theorem coreEvent_open {fc : FlagCycle} (hfc : (s.cluster c).cycle = some fc) (b : Nat) :
    s.coreEvent c b = s.modCore c (Core.raised · b) := by
  rw [State.coreEvent, hfc]
  rfl

theorem releaseQueue_eq (s : State) (c q : Nat) : s.releaseQueue c q = s.modCore c (Core.released · q) := rfl

/-- The entry signals a flag word. -/
def QEntry.signals (e : QEntry) : Bool := e1Ok e.e1 && Word.bits e.e1 63 62 != 0

/-- The write of an entry's signal. -/
def QEntry.signal (e : QEntry) (q : Nat) : FlagW :=
  { rank := 1 + q, flg := Word.bits e.e1 53 48, set_ := Word.bits e.e1 63 62 == 2, v := BitVec.ofNat 32 (Word.bits e.e1 31 0) }

/-- A cluster within whose hearth cycle an entry has signalled. -/
def Cluster.signalled (k : Cluster) (fc : FlagCycle) (q : Nat) (e : QEntry) : Cluster :=
  if e.signals then { k.wrote (fc.add (e.signal q)) (Word.bits e.e1 53 48) with core := k.core.raised 8 } else k

theorem signalled_open {fc : FlagCycle} (hfc : (s.cluster c).cycle = some fc) (q : Nat) (e : QEntry) :
    (s.signalled c q e).cluster c = (s.cluster c).signalled fc q e ∧ OnlyCluster s (s.signalled c q e) c := by
  unfold State.signalled Cluster.signalled QEntry.signals
  split
  · have hrank : ¬ 1 + q = 0 := by omega
    have hself := cluster_cycleWrites s c (fc.add (e.signal q)) (Word.bits e.e1 53 48)
    have hevent := coreEvent_open (s := s.cycleWrites c (fc.add (e.signal q)) (Word.bits e.e1 53 48)) (c := c)
      (congrArg Cluster.cycle hself) 8
    have hwrite := (flagWrite_open hfc (1 + q) (Word.bits e.e1 53 48) (Word.bits e.e1 63 62 == 2)
      (BitVec.ofNat 32 (Word.bits e.e1 31 0))).trans ((if_neg hrank).trans hevent)
    rw [hwrite]
    refine ⟨?_, (cycleWrites_onlyCluster s c _ _).trans (modCore_onlyCore _ c _).1⟩
    rw [cluster_modCore_same, hself]
    rfl
  · exact ⟨rfl, .refl s c⟩

/-- A cluster from whose queue an entry has gone, with its record. -/
def Cluster.entryGone (k : Cluster) (q : Nat) (e : QEntry) (at_ : Nat) (bs : Bytes) : Cluster :=
  { k with
    dsram := sramPut k.dsram at_ bs
    queues := Tab.set {} k.queues q { k.queue q with entries := (k.queue q).entries.filter fun x => x.ticket != e.ticket } }

theorem cluster_entryGone (s : State) (c q : Nat) (e : QEntry) (at_ : Nat) (bs : Bytes) :
    ((s.recorded c at_ bs).entryGone c q e).cluster c = (s.cluster c).entryGone q e at_ bs := by
  rw [State.entryGone, State.modQueue, cluster_modCluster_same, State.recorded, cluster_modCluster_same]
  rfl

/-- A cluster whose entry `e` has been delivered within the hearth cycle `fc`. -/
def Cluster.delivered (k : Cluster) (fc : FlagCycle) (q : Nat) (e : QEntry) (at_ : Nat) (bs : Bytes) : Cluster :=
  let m := (k.entryGone q e at_ bs).signalled fc q e
  { m with core := (m.core.raised q).released q }

theorem signalled_cycle (k : Cluster) (fc : FlagCycle) (q : Nat) (e : QEntry) (h : k.cycle = some fc) :
    ∃ fc', (k.signalled fc q e).cycle = some fc' := by
  unfold Cluster.signalled
  split
  · exact ⟨_, rfl⟩
  · exact ⟨fc, h⟩

theorem bumpIf_counts (s : State) (p : Bool) (i j : Nat) :
    (∀ d, (s.bumpIf p i j 32).cluster d = s.cluster d) ∧ OdKept s (s.bumpIf p i j 32) [odKey i j]
      ∧ (s.bumpIf p i j 32).ctr i j = (if p then (s.ctr i j + 1) % 2 ^ 32 else s.ctr i j)
      ∧ { s.bumpIf p i j 32 with mgmt := s.mgmt } = s := by
  cases p with
  | true => exact ⟨fun d => cluster_bump s i j 1 32 d, OdKept.bump s (List.mem_singleton_self _), ctr_bump32 s i j, rfl⟩
  | false => exact ⟨fun _ => rfl, .refl s _, rfl, rfl⟩

/-- The state in which an entry has been delivered, before the heads are looked at. -/
theorem deliver_open {fc : FlagCycle} (hfc : (s.cluster c).cycle = some fc) (q st d : Nat) (e : QEntry) :
    ∃ t, s.deliver c q e st d = t.noteHeads c
      ∧ t.cluster c = (s.cluster c).delivered fc q e (e.recordAt q) (e.recordBytes st d)
      ∧ (∀ j, j ≠ c → t.cluster j = s.cluster j) ∧ OdKept s t [odKey (0x5400 + c) 7]
      ∧ t.ctr (0x5400 + c) 7 = (if st = 9 then (s.ctr (0x5400 + c) 7 + 1) % 2 ^ 32 else s.ctr (0x5400 + c) 7)
      ∧ { t with clusters := s.clusters, mgmt := s.mgmt } = s := by
  rw [deliver_eq hfc]
  generalize e.recordAt q = at_
  generalize e.recordBytes st d = bs
  have hgone := cluster_entryGone s c q e at_ bs
  have hcyc : ((s.cluster c).entryGone q e at_ bs).cycle = some fc := hfc
  obtain ⟨hsig, honly⟩ := signalled_open (s := (s.recorded c at_ bs).entryGone c q e) (c := c) (fc := fc)
    (by rw [hgone]; exact hcyc) q e
  have hwithin : OnlyCluster s (((s.recorded c at_ bs).entryGone c q e).signalled c q e) c :=
    ((modCluster_onlyCluster s c _).trans (modCluster_onlyCluster _ c _)).trans honly
  rw [hgone] at hsig
  generalize ((s.recorded c at_ bs).entryGone c q e).signalled c q e = S at hsig hwithin
  have hmgmt : S.mgmt = s.mgmt := (congrArg State.mgmt hwithin.1 :)
  obtain ⟨fc', hfc'⟩ := signalled_cycle ((s.cluster c).entryGone q e at_ bs) fc q e hcyc
  obtain ⟨hsame, hod, hctr, hrest⟩ := bumpIf_counts S (decide (st = 9)) (0x5400 + c) 7
  generalize S.bumpIf (decide (st = 9)) (0x5400 + c) 7 32 = B at hsame hod hctr hrest
  rw [coreEvent_open (s := B) (fc := fc') (by rw [hsame, hsig]; exact hfc'), releaseQueue_eq]
  have hcore : OnlyCluster B ((B.modCore c (Core.raised · q)).modCore c (Core.released · q)) c :=
    (modCore_onlyCore B c _).1.trans (modCore_onlyCore _ c _).1
  have hkept : ((B.modCore c (Core.raised · q)).modCore c (Core.released · q)).mgmt = B.mgmt := (congrArg State.mgmt hcore.1 :)
  refine ⟨_, rfl, ?_, fun j hj => ?_, ?_, ?_, ?_⟩
  · rw [cluster_modCore_same, cluster_modCore_same, hsame, hsig]
    rfl
  · exact (hcore.2 j hj).trans ((hsame j).trans (hwithin.2 j hj))
  · rw [OdKept, hkept]
    exact (odKept_of_mgmt hmgmt _).trans hod
  · rw [State.ctr, hkept]
    refine hctr.trans ?_
    rw [State.ctr, hmgmt, ← State.ctr]
    simp
  · calc { (B.modCore c (Core.raised · q)).modCore c (Core.released · q) with clusters := s.clusters, mgmt := s.mgmt }
        = { B with clusters := s.clusters, mgmt := s.mgmt } :=
          (congrArg (fun x : State => { x with clusters := s.clusters, mgmt := s.mgmt }) hcore.1 :)
      _ = { S with clusters := s.clusters, mgmt := s.mgmt } :=
          (congrArg (fun x : State => { x with clusters := s.clusters, mgmt := s.mgmt }) hrest :)
      _ = s := (congrArg (fun x : State => { x with mgmt := s.mgmt }) hwithin.1 :)

end Delivery

/-! ### What a delivery leaves -/

section Delivered

variable {s t u : State} {c q st d : Nat} {e : QEntry} {rest : List QEntry} {k : Cluster}

theorem released_raised (k : Core) (q a : Nat) (v : BitVec 9) :
    (({ k with events := v } : Core).raised a).released q =
      { k.released q with events := v ||| BitVec.ofNat 9 (2 ^ a) } := by
  unfold Core.released
  by_cases hw : k.wait = some (.fullQueue q)
  · rw [if_pos hw, if_pos (show (({ k with events := v } : Core).raised a).wait = some (.fullQueue q) from hw)]
    rfl
  · rw [if_neg hw, if_neg (show ¬ (({ k with events := v } : Core).raised a).wait = some (.fullQueue q) from hw)]
    rfl

/-- The hearth cycle `fc` with the signal of an entry, if it has one. -/
def QEntry.cycleAfter (e : QEntry) (fc : FlagCycle) (q : Nat) : FlagCycle := if e.signals then fc.add (e.signal q) else fc

/-- The flag words that an entry's signal leaves. -/
def QEntry.flagsAfter (e : QEntry) (fs : Tab W32) (fc : FlagCycle) (q : Nat) : Tab W32 :=
  if e.signals then Tab.set 0 fs (Word.bits e.e1 53 48) ((fc.add (e.signal q)).value (Word.bits e.e1 53 48)) else fs

theorem delivered_eq {fc : FlagCycle} (hfc : k.cycle = some fc) (q : Nat) (e : QEntry) (at_ : Nat) (bs : Bytes) :
    k.delivered fc q e at_ bs = { k.entryGone q e at_ bs with
      flags := e.flagsAfter k.flags fc q, cycle := some (e.cycleAfter fc q)
      core := { k.core.released q with
        events := k.core.events ||| BitVec.ofNat 9 (2 ^ q) ||| if e.signals then BitVec.ofNat 9 256 else 0 } } := by
  have hcore (v : BitVec 9) := released_raised k.core q q v
  unfold Cluster.delivered Cluster.signalled QEntry.flagsAfter QEntry.cycleAfter
  cases e.signals with
  | true =>
    have horder : k.core.events ||| BitVec.ofNat 9 256 ||| BitVec.ofNat 9 (2 ^ q) =
        k.core.events ||| BitVec.ofNat 9 (2 ^ q) ||| BitVec.ofNat 9 256 := by
      rw [BitVec.or_assoc, BitVec.or_comm (BitVec.ofNat 9 256), ← BitVec.or_assoc]
    have hraised := hcore (k.core.events ||| BitVec.ofNat 9 256)
    rw [horder] at hraised
    simp only [if_pos]
    exact congrArg (fun m : Core => { k.entryGone q e at_ bs with
      flags := Tab.set 0 k.flags (Word.bits e.e1 53 48) ((fc.add (e.signal q)).value (Word.bits e.e1 53 48))
      cycle := some (fc.add (e.signal q)), core := m }) hraised
  | false =>
    have hraised := hcore k.core.events
    have hzero : k.core.events ||| BitVec.ofNat 9 (2 ^ q) = k.core.events ||| BitVec.ofNat 9 (2 ^ q) ||| 0 :=
      BitVec.or_zero.symm
    rw [hzero] at hraised
    simp only [Bool.false_eq_true, if_false]
    rw [← hfc]
    exact congrArg (fun m : Core => { k.entryGone q e at_ bs with core := m }) hraised

/-- The oldest entry leaves its queue, and no other. -/
theorem entries_gone (hent : (k.queue q).entries = e :: rest) (hfresh : ∀ x ∈ rest, x.ticket ≠ e.ticket) (at_ : Nat) (bs : Bytes) :
    (k.entryGone q e at_ bs).queue q = { k.queue q with entries := rest } := by
  refine (Tab.get_set_same _ _ _ _).trans (congrArg (fun es => { k.queue q with entries := es }) ?_)
  rw [hent, List.filter_cons_of_neg (by simp)]
  exact List.filter_eq_self.mpr fun x hx => by simp [hfresh x hx]

/-- What a delivery within a hearth cycle leaves. -/
structure DeliveredTo (s u : State) (c q st d : Nat) (e : QEntry) (rest : List QEntry) : Prop where
  record : ∀ x, Tab.get 0 (u.cluster c).dsram x =
    if e.recordAt q ≤ x ∧ x < e.recordAt q + 8 then (e.recordBytes st d).getD (x - e.recordAt q) 0
    else Tab.get 0 (s.cluster c).dsram x
  queue : ((u.cluster c).queue q).untimed = Queue.untimed { (s.cluster c).queue q with entries := rest }
  flags : (u.cluster c).flags = e.flagsAfter (s.cluster c).flags ((s.cluster c).cycle.getD { start := (s.cluster c).flags }) q
  cycle : (u.cluster c).cycle = some (e.cycleAfter ((s.cluster c).cycle.getD { start := (s.cluster c).flags }) q)
  core : (u.cluster c).core = { (s.cluster c).core.released q with
    events := (s.cluster c).core.events ||| BitVec.ofNat 9 (2 ^ q) ||| if e.signals then BitVec.ofNat 9 256 else 0 }
  kept : OdKept s u [odKey (0x5400 + c) 7]
  counted : u.ctr (0x5400 + c) 7 = (if st = 9 then (s.ctr (0x5400 + c) 7 + 1) % 2 ^ 32 else s.ctr (0x5400 + c) 7)
  others : ∀ j, j ≠ q → ((u.cluster c).queue j).untimed = ((s.cluster c).queue j).untimed
  own : { u.cluster c with
    dsram := (s.cluster c).dsram, queues := (s.cluster c).queues, flags := (s.cluster c).flags
    cycle := (s.cluster c).cycle, core := (s.cluster c).core } = s.cluster c
  clusters : ∀ j, j ≠ c → u.cluster j = s.cluster j
  rest : { u with clusters := s.clusters, mgmt := s.mgmt } = s

/-- The state in which the oldest entry is about to be delivered. -/
theorem unstreamed_open (hpart : (s.cluster c).part.isSome = true) (hfree : q < 4 → TileFree s c q)
    (he : e ∈ ((s.cluster c).queue q).entries) :
    let t := (s.openCycle c).unstreamed c q e
    t.cluster c = (s.cluster c).opened ∧ OnlyCluster s t c := by
  have hopen := cluster_openCycle hpart
  have hsame := unstreamed_free (s := s.openCycle c) (c := c) (q := q) (e := e)
    (fun hq => (hfree hq).congr (by rw [hopen]; rfl) (by rw [hopen]; rfl)) (by rw [hopen]; exact he)
  exact ⟨(hsame.cluster c).trans hopen, (openCycle_onlyCluster s c).trans (hsame.onlyCluster c)⟩

theorem deliver_effects (hpart : (s.cluster c).part.isSome = true) (hfree : q < 4 → TileFree s c q)
    (hent : ((s.cluster c).queue q).entries = e :: rest) (hfresh : ∀ x ∈ rest, x.ticket ≠ e.ticket) (st d : Nat) :
    DeliveredTo s (((s.openCycle c).unstreamed c q e).deliver c q e st d) c q st d e rest := by
  obtain ⟨hself, honly⟩ := unstreamed_open hpart hfree (q := q) (e := e) (by rw [hent]; exact List.mem_cons_self)
  generalize (s.openCycle c).unstreamed c q e = T at hself honly
  have hmgmt : T.mgmt = s.mgmt := (congrArg State.mgmt honly.1 :)
  obtain ⟨t, heq, hown, hothers, hod, hctr, hrest⟩ := deliver_open (s := T) (c := c) (by rw [hself]; rfl) q st d e
  have hlen : (e.recordBytes st d).length = 8 := leBytes_length _ _
  rw [hself, delivered_eq rfl] at hown
  have hnote := noteHeads_retimed t c
  rw [heq]
  have hkept : (t.noteHeads c).mgmt = t.mgmt := (congrArg State.mgmt hnote.only.1 :)
  refine ⟨fun x => ?_, ?_, ?_, ?_, ?_, ?_, ?_, fun j hj => ?_, ?_, fun j hj => ?_, ?_⟩
  · have hdsram : ((t.noteHeads c).cluster c).dsram = (t.cluster c).dsram := (congrArg Cluster.dsram hnote.own :)
    rw [hdsram, hown]
    refine (get_sramPut _ _ _ _).trans ?_
    rw [hlen]
    rfl
  · refine (hnote.queues q).trans ?_
    rw [hown]
    exact congrArg Queue.untimed (entries_gone (k := (s.cluster c).opened) hent hfresh (e.recordAt q) (e.recordBytes st d))
  · exact (congrArg Cluster.flags hnote.own :).trans (by rw [hown]; rfl)
  · exact (congrArg Cluster.cycle hnote.own :).trans (by rw [hown])
  · exact hnote.core.trans (by rw [hown]; rfl)
  · rw [OdKept, hkept]
    exact (odKept_of_mgmt hmgmt _).trans hod
  · rw [State.ctr, hkept]
    refine hctr.trans ?_
    rw [State.ctr, hmgmt, ← State.ctr]
  · refine (hnote.queues j).trans ?_
    rw [hown]
    exact congrArg Queue.untimed (Tab.get_set_ne _ _ _ hj)
  · refine (congrArg (fun k : Cluster => { k with
      dsram := (s.cluster c).dsram, queues := (s.cluster c).queues, flags := (s.cluster c).flags
      cycle := (s.cluster c).cycle, core := (s.cluster c).core }) hnote.own).trans ?_
    rw [hown]
    rfl
  · exact (hnote.only.2 j hj).trans ((hothers j hj).trans (honly.2 j hj))
  · calc { t.noteHeads c with clusters := s.clusters, mgmt := s.mgmt }
        = { t with clusters := s.clusters, mgmt := s.mgmt } :=
          (congrArg (fun x : State => { x with clusters := s.clusters, mgmt := s.mgmt }) hnote.only.1 :)
      _ = { T with clusters := s.clusters, mgmt := s.mgmt } :=
          (congrArg (fun x : State => { x with clusters := s.clusters, mgmt := s.mgmt }) hrest :)
      _ = s := (congrArg (fun x : State => { x with mgmt := s.mgmt }) honly.1 :)

theorem signals_iff : e.signals = true ↔ e1Ok e.e1 = true ∧ Word.bits e.e1 63 62 ≠ 0 := by
  simp [QEntry.signals]

/-- The state in which the oldest entry of a queue has been delivered, within a hearth cycle. -/
theorem deliverHead_open (hpart : (s.cluster c).part.isSome = true) (hent : ((s.cluster c).queue q).entries = e :: rest)
    (hcompl : e.compl = some (st, d)) : (s.openCycle c).deliverHead c q =
      (((s.openCycle c).unstreamed c q e).deliver c q e st d).ringOwed e st d :=
  deliverHead_eq (rest := rest) (by rw [cluster_openCycle hpart]; exact hent) hcompl

/-- A delivery, whose hearth cycle then ends or goes on. -/
theorem delivery_completes {P : State → Prop} {more : Bool} (hc : c < 48) (hq : q < 8) (hon : s.clusterOn c = true)
    (hquiet : s.quiet) (hu : (s.openCycle c).deliverHead c q = u)
    (hrest : { u with clusters := s.clusters, mgmt := s.mgmt } = s) (p : P (u.cycleEnd c more)) :
    Completes (.entryDelivery c q more) s P := by
  have hx := exec_entryDelivery (more := more) hc hq hon
  have hin : s.inCycle c more (fun s => s.deliverHead c q) = u.cycleEnd c more := by rw [← hu]; rfl
  have hend : (u.cycleEnd c more).quiet := by
    cases more with
    | true => exact quiet_of_rest hrest hquiet
    | false =>
      have hclose := closeCycle_work u c
      rw [State.cycleEnd, if_neg Bool.false_ne_true]
      exact quiet_congr (congrArg State.fab hclose.rest :) (congrArg State.place hclose.rest :) (quiet_of_rest hrest hquiet)
  obtain ⟨hb, hp⟩ := cycleEnd_kept u c more
  rw [hin, settle_quiet _ hend] at hx
  exact completes_kept hx (hb.trans (congrArg State.build hrest :)) (hp.trans (congrArg State.pending hrest :)) p

theorem clusterOn_part (h : s.clusterOn c = true) : (s.cluster c).part.isSome = true := by
  rw [State.clusterOn, Bool.and_eq_true] at h
  exact h.2

end Delivered

/-! ### The record of a ring's entry (10 R363) -/

section Record

variable {y g : State} {p r cpl : Nat} {w : Word}

theorem takeFail_none {s : State} {a : Agent} (h : ∀ f ∈ s.fab.fails, f.1 ≠ a) : (s.takeFail a).1 = s := by
  have hkeep : s.fab.fails.filter (fun f => f.1 != a) = s.fab.fails :=
    List.filter_eq_self.mpr fun f hf => by simpa using h f hf
  rw [State.takeFail, hkeep]

theorem failStatus_none {s : State} {a : Agent} (h : ∀ f ∈ s.fab.fails, f.1 ≠ a) : s.failStatus a = none := by
  rw [State.failStatus, List.find?_eq_none.mpr fun f hf => by simpa using h f hf]
  rfl

theorem ring_modRing (s : State) (p r : Nat) (f : Ring → Ring) (j : Nat) :
    (s.modRing p r f).ring j = if j = ringKey p r then f (s.ring j) else s.ring j := by
  rw [State.modRing, ring_setRing]
  split
  · subst_vars
    rfl
  · rfl

variable {s : State} {n : Nat} {l : List (Nat × Word)}

theorem ringRecords_none (h : (s.ring (ringKey p r)).recs = []) (n : Nat) : s.ringRecords p r n = s := by
  cases n with
  | zero => rfl
  | succ n =>
    rw [State.ringRecords]
    dsimp only
    rw [h]

/-- The first record goes out. -/
theorem ringRecords_stores (h : (s.ring (ringKey p r)).recs = (cpl, w) :: l) (hw : (s.ring (ringKey p r)).wrote = false)
    (hstore : s.storeLines (s.ringWho p r) [{
      x := ⟨1, cpl / 64 * 64⟩, data := BitVec.ofNat 512 (w.toNat * 2 ^ (8 * (cpl % 64)))
      mask := BitVec.ofNat 64 (0xFF * 2 ^ (cpl % 64)) }] = (g, some [0])) :
    s.ringRecords p r (n + 1) = (g.modRing p r fun k => { k with wrote := true }).ringRecords p r n := by
  rw [State.ringRecords]
  dsimp only
  rw [h]
  dsimp only
  rw [hw, hstore]
  rfl

/-- The first record has taken effect. -/
theorem ringRecords_ends (h : (s.ring (ringKey p r)).recs = (cpl, w) :: l) (hw : (s.ring (ringKey p r)).wrote = true)
    (hset : s.settled (s.ringWho p r).a = true) (hfails : ∀ f ∈ s.fab.fails, f.1 ≠ (s.ringWho p r).a) :
    s.ringRecords p r (n + 1) =
      (s.modRing p r fun k => { k with recs := k.recs.drop 1, wrote := false }).ringRecords p r n := by
  rw [State.ringRecords]
  dsimp only
  rw [h]
  dsimp only
  rw [hw, if_pos rfl, if_pos hset, failStatus_none hfails, takeFail_none hfails]
  rfl

/-- A record added to a ring with none to write is written. -/
theorem addRecord_goes (hcpl : cpl ≠ 0) (h : RecordGoes y g p r cpl w) :
    ∃ t, y.addRecord p r cpl w = t ∧ t.quiet ∧ RecordDone g t p r := by
  obtain ⟨hnone, hwrote, hstore, hrecs, hcluster, hset, hfails, hquiet⟩ := h
  have hfirst : y.addRecord p r cpl w =
      (y.setRing (ringKey p r) { y.ring (ringKey p r) with recs := [(cpl, w)] }).ringRecords p r 64 := by
    rw [State.addRecord, if_neg hcpl, State.modRing, hnone]
    rfl
  have hself := ring_setRing y (ringKey p r) (ringKey p r) { y.ring (ringKey p r) with recs := [(cpl, w)] }
  rw [if_pos rfl] at hself
  have hsent := ring_modRing g p r (fun k => { k with wrote := true }) (ringKey p r)
  rw [if_pos rfl] at hsent
  have hwho : ((g.modRing p r fun k => { k with wrote := true }).ringWho p r).a = .ring (y.ringCluster (ringKey p r)) p r := by
    rw [← hcluster]
    rfl
  have hdone := ring_modRing (g.modRing p r fun k => { k with wrote := true }) p r (fun k =>
    { k with recs := k.recs.drop 1, wrote := false })
  refine ⟨_, rfl, ?_⟩
  rw [hfirst, ringRecords_stores (n := 63) (l := []) (by rw [hself]) (by rw [hself]; exact hwrote) hstore,
    ringRecords_ends (n := 62) (l := []) (by rw [hsent]; exact hrecs) (by rw [hsent]) (by rw [hwho]; exact hset)
      (by rw [hwho]; exact hfails),
    ringRecords_none (by rw [hdone, if_pos rfl, hsent, hrecs]; rfl)]
  refine ⟨hquiet, ?_, fun k hk => ?_, rfl⟩
  · rw [hdone, if_pos rfl, hsent, hrecs]
    rfl
  · rw [hdone, if_neg hk, ring_modRing, if_neg hk]

theorem RecordDone.keep {t : State} (h : RecordDone g t p r) (s : State) : RecordDone g (keep s t) p r := h

end Record

/-- Settles O33, by the branches of a dispatch and what a delivery leaves of the cluster. -/
theorem queuesDispatchAndDeliver : Obligations.QueuesDispatchAndDeliver := by
  unfold Obligations.QueuesDispatchAndDeliver
  refine ⟨?dispatch, ?delivery⟩
  case dispatch =>
    intro c q s0 e s hc hq hon hhead hpart hfree k fl dec undec gone bad
    have hh : s.hasHead c q e := ⟨hhead, hpart⟩
    have hwork := dispatched_work s c q
    refine ⟨fun h0 hopen hholds hmay hcore => ?_, fun h0 hopen hno => ?_, fun h0 => ?_, fun h0 hclosed => ?_⟩
    · have hg : s.headGoes c q e := ⟨hh, h0, hopen, hholds, hmay⟩
      refine ⟨fun hhere hgood => ?_, fun hhere hbad => ?_, fun hgone => ?_⟩
      · obtain ⟨⟨hflags, hqueue⟩, hrest⟩ := dispatched_disp hg hcore hfree hhere hgood
        exact dispatch_completes rfl hc hq hon hwork ⟨hflags, hqueue, hrest⟩
      · obtain ⟨⟨hflags, hqueue⟩, hrest⟩ := dispatched_bad hg hcore hfree hhere hbad
        exact dispatch_completes rfl hc hq hon hwork ⟨hflags, hqueue, hrest⟩
      · obtain ⟨⟨hflags, hqueue⟩, hctr, hod, hrest⟩ := dispatched_absent hg hcore hfree hgone
        exact dispatch_completes rfl hc hq hon hwork ⟨hflags, hqueue, hctr, hod, hrest⟩
    · exact dispatch_completes rfl hc hq hon hwork (dispatched_blocked hh h0 hopen hno hfree)
    · exact dispatch_completes rfl hc hq hon hwork (dispatched_refused hh h0 hfree)
    · exact dispatch_completes rfl hc hq hon hwork (dispatched_closed hh h0 hclosed hfree)
  case delivery =>
    intro c q st d s e rest hc hq hon hquiet hent hfresh hcompl hfree op n signals fc0 fc k k1 rec_ at_
    have hpart := clusterOn_part hon
    have hto := deliver_effects hpart hfree hent hfresh st d
    have hopen := deliverHead_open hpart hent hcompl
    generalize hD : ((s.openCycle c).unstreamed c q e).deliver c q e st d = D at hto hopen
    refine ⟨fun hring => ?_, fun hring => ?_, fun x g hx hcpl hgoes => ?_⟩
    · rw [ringOwed_none hring] at hopen
      refine delivery_completes hc hq hon hquiet hopen hto.rest
        ⟨hto.record, hto.queue, fun hsig => ?_, fun hno => ?_, hto.core, hto.kept, hto.counted, fun m hm => ?_, hto.others,
          hto.own, hto.clusters, hto.rest⟩
      · have hs := signals_iff.mpr hsig
        have hcyc := hto.cycle
        have hflags := hto.flags
        rw [QEntry.cycleAfter, if_pos hs] at hcyc
        rw [QEntry.flagsAfter, if_pos hs] at hflags
        exact ⟨(congrArg (Tab.get (0 : W32) · n) hflags).trans (Tab.get_set_same _ _ _ _), hcyc⟩
      · have hs := fun h => hno (signals_iff.mp h)
        have hcyc := hto.cycle
        have hflags := hto.flags
        rw [QEntry.cycleAfter, if_neg hs] at hcyc
        rw [QEntry.flagsAfter, if_neg hs] at hflags
        exact ⟨congrArg (Tab.get (0 : W32) · n) hflags, hcyc⟩
      · refine (congrArg (Tab.get (0 : W32) · m) hto.flags).trans ?_
        unfold QEntry.flagsAfter
        split
        · exact Tab.get_set_ne _ _ _ hm
        · rfl
    · rw [ringOwed_none hring] at hopen
      exact delivery_completes hc hq hon hquiet hopen hto.rest (delivery_completes hc hq hon hquiet hopen hto.rest rfl)
    · have hgoes' : RecordGoes D g x.p x.r x.cpl (recordOf st d e.abortReq x.seq) := hD ▸ hgoes
      obtain ⟨t, ht, hquiet', hdone⟩ := addRecord_goes hcpl hgoes'
      have hx' := exec_entryDelivery (more := true) hc hq hon
      have hin : s.inCycle c true (fun s => s.deliverHead c q) = t := hopen.trans ((ringOwed_some hx).trans ht)
      rw [hin, settle_quiet _ hquiet'] at hx'
      exact completes_go hx' (hdone.keep s)

end Sys2Proof.Machine

/-! ## O34: ring entries -/

namespace Sys2Proof.Machine

/-! ### A ring takes its entry (10 R361, R364) -/

section Takes

variable {s f y t : State} {p r kind st d : Nat} {ws : List Word}

/-- A ring takes an entry of the command's kind. -/
theorem ringCmd_takes (h : RingTakes s f p r kind ws) (F : State → List Word → State) :
    s.ringCmd p r kind F = go s (F f ws).settle := by
  obtain ⟨hp, hr, hrecs, hruns, hkind, hseq, hok, -, rs, hread, hgood, rfl⟩ := h
  have hgood' : (rs.any fun l : Nat × Line => l.1 != 0) = false := List.any_eq_false.mpr fun l hl => by simp [hgood l hl]
  unfold State.ringCmd
  rw [ringRecords_none hrecs]
  refine (if_pos (by simp [hp, hr])).trans (congrArg (go s) ?_)
  dsimp only at hread ⊢
  rw [hread, hruns]
  simp [hgood', hseq, hok, hkind]

theorem RingTakes.quiet (h : RingTakes s f p r kind ws) : f.quiet := by
  obtain ⟨-, -, -, -, -, -, -, hquiet, -⟩ := h
  exact hquiet

theorem modRing_moves (y : State) (p r : Nat) : RingMoved y (y.modRing p r fun k => { k with head := wrapAdd 32 k.head 1 }) p r :=
  ⟨(ring_modRing y p r _ _).trans (if_pos rfl), fun k hk => (ring_modRing y p r _ k).trans (if_neg hk)⟩

/-- An entry that is taken, with its record. -/
theorem ringTaken_takes (hquiet : y.quiet) (s : State) (p r : Nat) (ws : List Word) (st d : Nat) :
    Taken y (keep s (y.ringTaken p r ws st d).settle) p r ws st d := by
  refine ⟨fun h0 => ?_, fun hcpl g hgoes => ?_⟩
  · have hmoved := modRing_moves y p r
    have hquiet' : (y.modRing p r fun k => { k with head := wrapAdd 32 k.head 1 }).quiet := hquiet
    rw [State.ringTaken, State.addRecord, if_pos h0, settle_quiet _ hquiet']
    exact ⟨hmoved, rfl⟩
  · obtain ⟨t, ht, hquiet', hdone⟩ := addRecord_goes hcpl hgoes
    have htaken : y.ringTaken p r ws st d = t := ht
    rw [htaken, settle_quiet _ hquiet']
    exact hdone.keep s

theorem exec_ringNop (p r : Nat) (s : State) : exec (.ringNop p r) s = s.ringCmd p r 0 fun s ws => s.ringTaken p r ws 0 0 := rfl

theorem exec_ringPush (p r : Nat) (same : Bool) (s : State) :
    exec (.ringPush p r same) s = s.ringCmd p r 1 fun s ws => s.takePush p r same ws := rfl

theorem exec_ringStart (p r : Nat) (s : State) : exec (.ringStart p r) s = s.ringCmd p r 2 fun s ws => s.takeStart p r ws := rfl

theorem exec_ringLoad (p r : Nat) (s : State) : exec (.ringLoad p r) s = s.ringCmd p r 3 fun s ws => s.takeLoad p r ws := rfl

theorem exec_ringAbort (p r : Nat) (s : State) : exec (.ringAbort p r) s = s.ringCmd p r 4 fun s ws => s.takeAbort p r ws := rfl

/-- A PUSH entry, as the ring takes it. -/
theorem exec_push {same : Bool} (h : RingTakes s f p r 1 ws) (ht : f.takePush p r same ws = t) (hquiet : t.quiet) :
    exec (.ringPush p r same) s = go s t := by
  rw [exec_ringPush, ringCmd_takes h, ht, settle_quiet _ hquiet]

/-- A command that takes an entry of its kind, having had its effect. -/
theorem taken_completes {i : Instr} {P : State → Prop} {F : State → List Word → State} (h : RingTakes s f p r kind ws)
    (hx : exec i s = s.ringCmd p r kind F) (hF : F f ws = y.ringTaken p r ws st d) (hquiet : y.quiet)
    (hP : ∀ u, Taken y u p r ws st d → P u) : Completes i s P := by
  refine completes_go (hx.trans (ringCmd_takes h F)) (hP _ ?_)
  rw [hF]
  exact ringTaken_takes hquiet s p r ws st d

end Takes

/-! ### ABORT, whatever the core waits on (10 R346, R357) -/

section RingAbort

variable {s t u : State} {c q n st : Nat} {x : QEntry}

theorem freeStreams_onlyCore (s : State) (c q : Nat) : OnlyCore s (s.freeStreams c q) c := by
  refine List.foldlRecOn (motive := fun t => OnlyCore s t c) (upTo 3) _ ⟨.refl s c, rfl⟩ fun t ht i _ => ?_
  split
  · exact ht.trans (modCore_onlyCore t c _)
  · exact ht

/-- Only cluster `c` has changed, and of its queue `q` at most the account of its heads and of discarded lines. -/
def Rests (s t : State) (c q : Nat) : Prop :=
  OnlyCluster s t c ∧ ((t.cluster c).queue q).undropped = ((s.cluster c).queue q).undropped

theorem Rests.trans (h : Rests s t c q) (h' : Rests t u c q) : Rests s u c q := ⟨h.1.trans h'.1, h'.2.trans h.2⟩

theorem Discards.rests (h : Discards s t c q) : Rests s t c q := by
  obtain ⟨hframe, hmgmt, hqueue⟩ := h
  refine ⟨⟨?_, hframe.clusters⟩, hqueue⟩
  have hrest : { t with clusters := s.clusters, mgmt := t.mgmt } = { s with mgmt := t.mgmt } :=
    (congrArg (fun x : State => { x with mgmt := t.mgmt }) hframe.rest :)
  exact hrest.trans (by rw [hmgmt])

theorem OnlyCore.rests (h : OnlyCore s t c) (q : Nat) : Rests s t c q :=
  ⟨h.1, congrArg Queue.undropped (congrArg (Cluster.queue · q) h.2 :)⟩

theorem afterStop_rests (s : State) (c q : Nat) : Rests s (s.afterStop c q) c q := by
  unfold State.afterStop
  split
  · rename_i hq
    rw [settleTile_eq]
    have hcore := (freeStreams_onlyCore (s.dropLines c q) c q).rests q
    exact ((dropLines_discards s c hq).rests.trans hcore).trans ((noteHeads_retimed _ c).discards q).rests
  · exact ((noteHeads_retimed s c).discards q).rests

/-- An entry that waits completes when it is stopped. -/
theorem abortWaiting_completes (hx : s.entry c q n = some x) (hopen : x.compl = none) (st : Nat) :
    ((s.abortWaiting c q n st).entry c q n).bind QEntry.compl = some (st, 0) ∧ OnlyCluster s (s.abortWaiting c q n st) c := by
  obtain ⟨honly, hqueue⟩ := afterStop_rests ((s.modEntry c q n QEntry.asked).complete c q n st 0) c q
  have hstop : OnlyCluster s ((s.modEntry c q n QEntry.asked).complete c q n st 0) c :=
    OnlyCluster.trans (modCluster_onlyCluster s c _) (modCluster_onlyCluster (s.modEntry c q n QEntry.asked) c _)
  refine ⟨?_, hstop.trans honly⟩
  have hbare := entry_of_undropped hqueue n
  rw [entry_stopped hx hopen st] at hbare
  obtain ⟨y, hy, hbare'⟩ := Option.map_eq_some_iff.mp hbare
  rw [State.abortWaiting, hy]
  exact (congrArg QEntry.compl hbare' :)

end RingAbort

/-! ### PUSH (10 R348, R362) -/

section RingPush

variable {s f t : State} {p r c q rd : Nat} {ws : List Word} {es : List QEntry} {e : QEntry} {old : Word} {same : Bool}

/-- The entry that a ring's PUSH places, with its ticket. -/
def ringEntry (p r : Nat) (ws : List Word) (n : Nat) : QEntry where
  ticket := n
  desc := ws.drop 8
  e0 := reW ws 2
  e1 := reW ws 3
  ring := some { p := p, r := r, seq := reSeq ws, cpl := reCpl ws }

/-- A ring's descriptor joins its queue. -/
def State.ringJoins (s : State) (c q p r : Nat) (ws : List Word) : State :=
  s.pushEntry c q (ws.drop 8) (reW ws 2) (reW ws 3) (some { p := p, r := r, seq := reSeq ws, cpl := reCpl ws })

/-- The ring goes on to its next entry. -/
def State.ringAdvanced (s : State) (p r : Nat) : State := s.modRing p r fun k => { k with head := wrapAdd 32 k.head 1 }

theorem RingMoved.of_rings (h : t.rings = f.rings) : RingMoved f (t.ringAdvanced p r) p r := by
  have hring (k : Nat) : t.ring k = f.ring k := congrArg (Tab.get ({} : Ring) · k) h
  have hmoved := modRing_moves t p r
  unfold RingMoved at hmoved ⊢
  simp only [hring] at hmoved
  exact hmoved

theorem takePush_full (hq : f.ringCluster (ringKey p r) = c) (hplain : same = false ∨ f.pushedLast c (reQueue ws) = false)
    (hfull : 64 ≤ ((f.cluster c).queue (reQueue ws)).entries.length) : f.takePush p r same ws = f := by
  subst hq
  rw [State.takePush, if_neg (by rcases hplain with h | h <;> simp [h]), if_pos (queueFree_zero.mpr hfull)]

theorem takePush_room (hq : f.ringCluster (ringKey p r) = c) (hplain : same = false ∨ f.pushedLast c (reQueue ws) = false)
    (hroom : ((f.cluster c).queue (reQueue ws)).entries.length < 64) :
    f.takePush p r same ws = (f.ringJoins c (reQueue ws) p r ws).ringAdvanced p r := by
  subst hq
  have hfree : ¬ f.queueFree (f.ringCluster (ringKey p r)) (reQueue ws) = 0 := fun h => absurd (queueFree_zero.mp h) (not_le.mpr hroom)
  rw [State.takePush, if_neg (by rcases hplain with h | h <;> simp [h]), if_neg hfree]
  rfl

/-- What a ring's descriptor leaves that joins its queue. -/
theorem ringJoins_joins (s : State) (c q p r : Nat) (ws : List Word) :
    let k := (s.cluster c).queue q
    let t := s.ringJoins c q p r ws
    OnlyQueue s t c q { next := (k.next + 1) % 2 ^ 32, entries := k.entries ++ [ringEntry p r ws k.next] }
      ∧ t.ctr (0x5400 + c) 4 = (s.ctr (0x5400 + c) 4 + 1) % 2 ^ 64 ∧ OdKept s t [odKey (0x5400 + c) 4]
      ∧ { t with clusters := s.clusters, mgmt := s.mgmt } = s :=
  pushEntry_joins s c q _ _ _ _

/-- The core's entry has given its place and its ticket to a ring's. -/
def State.displaced (s : State) (c q p r : Nat) (ws : List Word) (n : Nat) : State :=
  (s.modQueue c q fun k => { k with entries := k.entries.dropLast, next := n }).ringJoins c q p r ws

/-- What is left once a ring's entry has taken the place of the core's. -/
structure Displaced (s t : State) (c q p r : Nat) (ws : List Word) (es : List QEntry) (n : Nat) : Prop where
  queue : ((t.cluster c).queue q).untimed =
    Queue.untimed { next := (n + 1) % 2 ^ 32, entries := es ++ [ringEntry p r ws n] }
  core : (t.cluster c).core = (s.cluster c).core
  counted : t.ctr (0x5400 + c) 4 = (s.ctr (0x5400 + c) 4 + 1) % 2 ^ 64
  kept : OdKept s t [odKey (0x5400 + c) 4]
  rest : { t with clusters := s.clusters, mgmt := s.mgmt } = s

theorem displaced_leaves (hent : ((s.cluster c).queue q).entries = es ++ [e]) (n : Nat) :
    Displaced s (s.displaced c q p r ws n) c q p r ws es n := by
  have hown := queue_modQueue s c q q fun k => { k with entries := k.entries.dropLast, next := n }
  rw [if_pos rfl, hent, List.dropLast_concat] at hown
  have hjoin := ringJoins_joins (s.modQueue c q fun k => { k with entries := k.entries.dropLast, next := n }) c q p r ws
  dsimp only at hjoin
  rw [hown] at hjoin
  obtain ⟨honly, hctr, hod, hrest⟩ := hjoin
  refine ⟨honly.1, honly.core.trans ?_, hctr, hod,
    (congrArg (fun x : State => { x with clusters := s.clusters, mgmt := s.mgmt }) hrest :)⟩
  rw [State.modQueue, cluster_modCluster_same]

/-- The core's last entry, to which a ring's PUSH of the same hearth cycle comes. -/
structure CoresLast (s : State) (c q rd : Nat) (old : Word) (es : List QEntry) (e : QEntry) : Prop where
  pushed : (s.cluster c).core.pushed = some (q, rd, old)
  entries : ((s.cluster c).queue q).entries = es ++ [e]
  ring : e.ring = none
  disp : e.disp = false
  compl : e.compl = none

theorem takePush_before (hq : f.ringCluster (ringKey p r) = c) (h : CoresLast f c (reQueue ws) rd old es e) :
    f.takePush p r true ws = f.pushBefore p r ws := by
  subst hq
  obtain ⟨hpushed, hent, hring, hdisp, hcompl⟩ := h
  have hlast : f.pushedLast (f.ringCluster (ringKey p r)) (reQueue ws) = true := by
    rw [State.pushedLast, hpushed, hent, List.getLast?_concat]
    simp [hring, hdisp, hcompl]
  rw [State.takePush, hlast, Bool.and_self, if_pos rfl]

/-- The ring's entry stands before the core's, and the core's QPUSH is past. -/
def State.overtaken (s : State) (c q p r : Nat) (ws : List Word) (n : Nat) : State :=
  ((s.displaced c q p r ws n).ringAdvanced p r).modCore c fun k => { k with pushed := none }

theorem pushBefore_eq (hq : f.ringCluster (ringKey p r) = c) (h : CoresLast f c (reQueue ws) rd old es e) :
    f.pushBefore p r ws =
      let g := f.overtaken c (reQueue ws) p r ws e.ticket
      let t := wrapAdd 32 e.ticket 1
      if g.queueFree c (reQueue ws) = 0 then
        (g.bump (0x5400 + c) 4 (2 ^ 64 - 1)).modCore c fun k =>
          { (k.setReg rd old) with
            pc := k.pc - 4, st := .waiting, wait := some (.fullQueue (reQueue ws)), waitSince := f.crust.time, stalled := false }
      else
        (g.modQueue c (reQueue ws) fun k => { k with entries := k.entries ++ [{ e with ticket := t }], next := wrapAdd 32 t 1 }).modCore c
          fun k => k.setReg rd (BitVec.ofNat 64 t) := by
  subst hq
  obtain ⟨hpushed, hent, -, -, -⟩ := h
  have hlast : ((f.cluster (f.ringCluster (ringKey p r))).queue (reQueue ws)).entries.getLast? = some e := by
    rw [hent, List.getLast?_concat]
  unfold State.pushBefore
  dsimp only
  rw [hpushed, hlast]
  rfl

theorem untimed_length {k m : Queue} (h : k.untimed = m.untimed) : k.entries.length = m.entries.length := by
  have hlen := congrArg (fun k : Queue => k.entries.length) h
  simpa only [Queue.untimed, List.length_map] using hlen

theorem untimed_append {k m : Queue} (h : k.untimed = m.untimed) (l : List QEntry) (n : Nat) :
    Queue.untimed { k with entries := k.entries ++ l, next := n } = Queue.untimed { m with entries := m.entries ++ l, next := n } := by
  have happ (k : Queue) : Queue.untimed { k with entries := k.entries ++ l, next := n } =
      { k.untimed with entries := k.untimed.entries ++ l.map QEntry.untimed, next := n } :=
    congrArg (fun es => ({ next := n, entries := es } : Queue)) List.map_append
  rw [happ, happ, h]

/-- What is left once a ring's entry stands before the core's. -/
structure Overtaken (s g : State) (c q p r : Nat) (ws : List Word) (es : List QEntry) (n : Nat) : Prop where
  moved : RingMoved s g p r
  queue : ((g.cluster c).queue q).untimed =
    Queue.untimed { next := (n + 1) % 2 ^ 32, entries := es ++ [ringEntry p r ws n] }
  core : (g.cluster c).core = { (s.cluster c).core with pushed := none }
  counted : g.ctr (0x5400 + c) 4 = (s.ctr (0x5400 + c) 4 + 1) % 2 ^ 64
  kept : OdKept s g [odKey (0x5400 + c) 4]
  fab : g.fab = s.fab
  place : g.place = s.place

theorem RingMoved.congr {u : State} (h : RingMoved f t p r) (hr : u.rings = t.rings) : RingMoved f u p r := by
  have hring (k : Nat) : u.ring k = t.ring k := congrArg (Tab.get ({} : Ring) · k) hr
  unfold RingMoved at h ⊢
  simp only [hring]
  exact h

theorem bump_rest (s : State) (i j n w : Nat) : { s.bump i j n w with mgmt := s.mgmt } = s := rfl

theorem ctr_congr {u : State} (h : u.mgmt = t.mgmt) (i j : Nat) : u.ctr i j = t.ctr i j := by rw [State.ctr, h, State.ctr]

theorem overtaken_leaves {n : Nat} (h : Displaced s (s.displaced c q p r ws n) c q p r ws es n) :
    Overtaken s (s.overtaken c q p r ws n) c q p r ws es n := by
  unfold State.overtaken
  generalize s.displaced c q p r ws n = T at h
  have hcore := (modCore_onlyCore (T.ringAdvanced p r) c fun k => { k with pushed := none }).1.1
  have hmgmt : ((T.ringAdvanced p r).modCore c fun k => { k with pushed := none }).mgmt = T.mgmt := (congrArg State.mgmt hcore :)
  have hown := cluster_modCore_same (T.ringAdvanced p r) c fun k => { k with pushed := none }
  refine ⟨?_, ?_, ?_, (ctr_congr hmgmt _ _).trans h.counted, ?_,
    (congrArg State.fab hcore :).trans (congrArg State.fab h.rest :),
    (congrArg State.place hcore :).trans (congrArg State.place h.rest :)⟩
  · exact (RingMoved.of_rings (congrArg State.rings h.rest :)).congr (congrArg State.rings hcore :)
  · rw [queue_modCore]
    exact h.queue
  · rw [hown, ← h.core]
    rfl
  · rw [OdKept, hmgmt]
    exact h.kept

theorem Overtaken.free {g : State} {n : Nat} (h : Overtaken s g c q p r ws es n) : g.queueFree c q = 0 ↔ 63 ≤ es.length := by
  rw [queueFree_zero, untimed_length h.queue, List.length_append, List.length_singleton]
  omega

/-- The core's entry follows the ring's. -/
theorem pushBefore_room (hq : f.ringCluster (ringKey p r) = c) (h : CoresLast f c (reQueue ws) rd old es e) (hroom : es.length < 63) :
    let u := f.pushBefore p r ws
    let t := (e.ticket + 1) % 2 ^ 32
    RingMoved f u p r ∧ (u.ctr (0x5400 + c) 4 = (f.ctr (0x5400 + c) 4 + 1) % 2 ^ 64 ∧ OdKept f u [odKey (0x5400 + c) 4])
      ∧ ((u.cluster c).queue (reQueue ws)).untimed = Queue.untimed {
        next := (t + 1) % 2 ^ 32, entries := es ++ [ringEntry p r ws e.ticket, { e with ticket := t }] }
      ∧ CoreGoes (f.cluster c).core { (u.cluster c).core with pushed := (f.cluster c).core.pushed } (f.cluster c).core.pc rd
        (BitVec.ofNat 64 t)
      ∧ u.fab = f.fab ∧ u.place = f.place := by
  dsimp only
  have hg := overtaken_leaves (displaced_leaves (p := p) (r := r) (ws := ws) h.entries e.ticket)
  rw [pushBefore_eq hq h]
  generalize f.overtaken c (reQueue ws) p r ws e.ticket = g at hg
  dsimp only
  rw [if_neg fun hz => absurd (hg.free.mp hz) (not_le.mpr hroom)]
  generalize hM : (g.modQueue c (reQueue ws) fun k =>
    { k with entries := k.entries ++ [{ e with ticket := wrapAdd 32 e.ticket 1 }], next := wrapAdd 32 (wrapAdd 32 e.ticket 1) 1 }) = M
  have hqueue := queue_modQueue g c (reQueue ws) (reQueue ws) fun k =>
    { k with entries := k.entries ++ [{ e with ticket := wrapAdd 32 e.ticket 1 }], next := wrapAdd 32 (wrapAdd 32 e.ticket 1) 1 }
  have hcore : (M.cluster c).core = (g.cluster c).core := by rw [← hM, State.modQueue, cluster_modCluster_same]
  have honly : OnlyCluster g M c := hM ▸ modCluster_onlyCluster g c _
  rw [hM, if_pos rfl] at hqueue
  have hall := honly.trans (modCore_onlyCore M c fun k => k.setReg rd (BitVec.ofNat 64 (wrapAdd 32 e.ticket 1))).1
  have hown := cluster_modCore_same M c fun k => k.setReg rd (BitVec.ofNat 64 (wrapAdd 32 e.ticket 1))
  have hkept := queue_modCore M c (fun k => k.setReg rd (BitVec.ofNat 64 (wrapAdd 32 e.ticket 1))) c (reQueue ws)
  generalize M.modCore c (fun k => k.setReg rd (BitVec.ofNat 64 (wrapAdd 32 e.ticket 1))) = u at hall hown hkept
  have hmgmt : u.mgmt = g.mgmt := (congrArg State.mgmt hall.1 :)
  refine ⟨hg.moved.congr (congrArg State.rings hall.1 :), ⟨(ctr_congr hmgmt _ _).trans hg.counted, ?_⟩, ?_, ?_,
    (congrArg State.fab hall.1 :).trans hg.fab, (congrArg State.place hall.1 :).trans hg.place⟩
  · rw [OdKept, hmgmt]
    exact hg.kept
  · rw [hkept, hqueue]
    refine (untimed_append hg.queue _ _).trans ?_
    rw [List.append_assoc]
    rfl
  · rw [hown, hcore, hg.core]
    refine ⟨fun n => (reg_setReg _ rd _ n).trans rfl, ?_⟩
    exact (congrArg (fun k : Core => { k with pushed := (f.cluster c).core.pushed })
      (setReg_keeps { (f.cluster c).core with pushed := none } rd (BitVec.ofNat 64 (wrapAdd 32 e.ticket 1))) :)

/-- The ring's entry has the last slot, and the core waits for one. -/
theorem pushBefore_full (hq : f.ringCluster (ringKey p r) = c) (h : CoresLast f c (reQueue ws) rd old es e) (hfull : es.length = 63) :
    let u := f.pushBefore p r ws
    RingMoved f u p r
      ∧ ((u.cluster c).queue (reQueue ws)).untimed = Queue.untimed {
        next := (e.ticket + 1) % 2 ^ 32, entries := es ++ [ringEntry p r ws e.ticket] }
      ∧ (u.cluster c).core.wait = some (.fullQueue (reQueue ws)) ∧ (u.cluster c).core.st = .waiting
      ∧ (u.cluster c).core.pc = (f.cluster c).core.pc - 4
      ∧ (∀ n, (u.cluster c).core.reg n = if n = rd ∧ n ≠ 0 then old else (f.cluster c).core.reg n)
      ∧ u.fab = f.fab ∧ u.place = f.place := by
  dsimp only
  have hg := overtaken_leaves (displaced_leaves (p := p) (r := r) (ws := ws) h.entries e.ticket)
  rw [pushBefore_eq hq h]
  generalize f.overtaken c (reQueue ws) p r ws e.ticket = g at hg
  dsimp only
  rw [if_pos (hg.free.mpr hfull.ge)]
  have hcount := bump_rest g (0x5400 + c) 4 (2 ^ 64 - 1) 64
  have hsame := cluster_bump g (0x5400 + c) 4 (2 ^ 64 - 1) 64 c
  generalize g.bump (0x5400 + c) 4 (2 ^ 64 - 1) = B at hcount hsame
  have hrings : B.rings = g.rings := (congrArg State.rings hcount :)
  have hfab : B.fab = g.fab := (congrArg State.fab hcount :)
  have hplace : B.place = g.place := (congrArg State.place hcount :)
  have hcore := (modCore_onlyCore B c fun k => { (k.setReg rd old) with
    pc := k.pc - 4, st := .waiting, wait := some (.fullQueue (reQueue ws)), waitSince := f.crust.time, stalled := false }).1.1
  refine ⟨hg.moved.congr ((congrArg State.rings hcore :).trans hrings), ?_, ?_⟩
  · rw [queue_modCore, hsame]
    exact hg.queue
  · rw [cluster_modCore_same, hsame, hg.core]
    exact ⟨rfl, rfl, rfl, fun n => (reg_setReg _ rd _ n).trans rfl, (congrArg State.fab hcore :).trans (hfab.trans hg.fab),
      (congrArg State.place hcore :).trans (hplace.trans hg.place)⟩

end RingPush

/-! ### LOAD (10 R362) -/

section RingLoad

variable {k : Cluster} {a : Nat} {b : Bytes}

/-- The byte at `x` once `b` has been placed from `a` on. -/
def placed (t : Tab Byte) (a : Nat) (b : Bytes) (x : Nat) : Byte :=
  if a ≤ x ∧ x < a + b.length then b.getD (x - a) 0 else Tab.get 0 t x

theorem find_unfenced (l : List (Nat × Byte)) (a n x : Nat) :
    (l.filter fun u => !(decide (a ≤ u.1) && decide (u.1 < a + n))).find? (fun u => u.1 == x) =
      if a ≤ x ∧ x < a + n then none else l.find? fun u => u.1 == x := by
  rw [List.find?_filter]
  split
  · rename_i hin
    refine List.find?_eq_none.mpr fun u _ => ?_
    by_cases hu : u.1 = x
    · simp [hu, hin]
    · simp [hu]
  · rename_i hout
    congr 1
    funext u
    by_cases hu : u.1 = x
    · have hx : (decide (a ≤ u.1) && decide (u.1 < a + n)) = false := by rw [hu]; simpa using hout
      rw [hx]
      simp [hu]
    · simp [hu]

/-- Fetch sees the bytes that LOAD has placed, and of the others what it saw. -/
theorem fetchByte_place (k : Cluster) (a : Nat) (b : Bytes) (n x : Nat) : (k.place false a b).fetchByte n x =
    if a ≤ x ∧ x < a + b.length then Tab.get 0 (k.place false a b).isram x else k.fetchByte n x := by
  have hkeep : ¬ (a ≤ x ∧ x < a + b.length) → Tab.get 0 (sramPut k.isram a b) x = Tab.get 0 k.isram x := fun h => by
    rw [get_sramPut, if_neg h]
  have hfound := find_unfenced k.core.unfenced a b.length x
  unfold Cluster.fetchByte Cluster.place
  simp only [Bool.false_eq_true, if_false]
  rw [hfound]
  by_cases hin : a ≤ x ∧ x < a + b.length
  · rw [if_pos hin, if_pos hin]
  · rw [if_neg hin, if_neg hin, hkeep hin]

/-- What LOAD leaves of a cluster. -/
theorem place_leaves (k : Cluster) (data : Bool) (a : Nat) (b : Bytes) :
    let m := k.place data a b
    (∀ x, Tab.get 0 m.dsram x = if data then placed k.dsram a b x else Tab.get 0 k.dsram x)
      ∧ (∀ x, Tab.get 0 m.isram x = if data then Tab.get 0 k.isram x else placed k.isram a b x)
      ∧ (∀ n x, m.fetchByte n x = if data then k.fetchByte n x
          else if a ≤ x ∧ x < a + b.length then Tab.get 0 m.isram x else k.fetchByte n x)
      ∧ { m with dsram := k.dsram, isram := k.isram, core := k.core } = k
      ∧ { m.core with unfenced := k.core.unfenced } = k.core := by
  cases data with
  | true => exact ⟨fun x => get_sramPut k.dsram a b x, fun _ => rfl, fun _ _ => rfl, rfl, rfl⟩
  | false => exact ⟨fun _ => rfl, fun x => get_sramPut k.isram a b x, fun n x => fetchByte_place k a b n x, rfl, rfl⟩

end RingLoad

/-! ### The kinds of entries, each with its record (10 R362, R363) -/

section Kinds

variable {s f g : State} {p r c q n : Nat} {ws : List Word} {x : QEntry} {rs : List (Nat × Line)}

theorem takeStart_idle (hidle : (f.cluster (f.ringCluster (ringKey p r))).core.idle = true) : f.takeStart p r ws =
    (f.modCore (f.ringCluster (ringKey p r)) fun k =>
      { k.setReg 1 (reW ws 5) with st := .running, pc := Word.bits (reW ws 4) 15 0, wait := none }).ringTaken p r ws 0 0 :=
  if_pos hidle

theorem takeStart_busy (hbusy : (f.cluster (f.ringCluster (ringKey p r))).core.idle = false) :
    f.takeStart p r ws = f.ringTaken p r ws 4 0 := if_neg (by rw [hbusy]; exact Bool.false_ne_true)

theorem takeLoad_busy (hbusy : (f.cluster (f.ringCluster (ringKey p r))).core.idle = false) :
    f.takeLoad p r ws = f.ringTaken p r ws 4 0 := if_pos (by rw [hbusy]; rfl)

/-- The bytes that LOAD places: a line whose read failed is zero. -/
def loadBytes (rs : List (Nat × Line)) : Bytes := rs.flatMap fun x => bytesOfLine (if x.1 = 0 then x.2 else 0)

theorem takeLoad_idle (hidle : (f.cluster (f.ringCluster (ringKey p r))).core.idle = true)
    (hread : f.fetchLines (f.ringWho p r) ((upTo (reLines ws)).map fun i => ⟨1, Word.bits (reW ws 4) 55 0 + 64 * i⟩) = (g, some rs)) :
    f.takeLoad p r ws =
      (g.modCluster (f.ringCluster (ringKey p r)) fun k =>
        k.place (Word.bit (reW ws 5) 63) (reOffset ws) (loadBytes rs)).ringTaken p r ws
          (if rs.any (fun x => x.1 != 0) then 1 else 0) 0 := by
  rw [State.takeLoad]
  dsimp only
  rw [hidle, hread]
  rfl

theorem takeAbort_absent (h : f.findPush (f.ringCluster (ringKey p r)) p r (Word.bits (reW ws 4) 31 0) = none) :
    f.takeAbort p r ws = f.ringTaken p r ws 0
      (if (Word.bits (reW ws 4) 31 0 + 2 ^ 32 - (f.ring (ringKey p r)).head) % 2 ^ 32 < 2 ^ 31 then 2 else 1) := by
  rw [State.takeAbort]
  rw [h]

theorem takeAbort_found {o : State × Nat}
    (h : f.findPush (f.ringCluster (ringKey p r)) p r (Word.bits (reW ws 4) 31 0) = some (q, n))
    (ho : f.abortOne (f.ringCluster (ringKey p r)) q n = o) : f.takeAbort p r ws = o.1.ringTaken p r ws 0 o.2 := by
  rw [State.takeAbort]
  rw [h]
  dsimp only
  rw [ho]

/-- The entry that ABORT names waits: it completes. -/
theorem abortWaiting_counts (hx : f.entry c q n = some x) (hopen : x.compl = none) (st : Nat) :
    let h := (f.abortWaiting c q n st).bump (0x5400 + c) 6 1 32
    (h.entry c q n).bind QEntry.compl = some (st, 0) ∧ h.ctr (0x5400 + c) 6 = (f.ctr (0x5400 + c) 6 + 1) % 2 ^ 32
      ∧ OdKept f h [odKey (0x5400 + c) 6] ∧ { h with clusters := f.clusters, mgmt := f.mgmt } = f
      ∧ ∀ d, d ≠ c → h.cluster d = f.cluster d := by
  obtain ⟨hentry, honly⟩ := abortWaiting_completes hx hopen st
  have hmgmt : (f.abortWaiting c q n st).mgmt = f.mgmt := (congrArg State.mgmt honly.1 :)
  generalize f.abortWaiting c q n st = T at hentry honly hmgmt
  refine ⟨hentry, ?_, ?_, (congrArg (fun x : State => { x with mgmt := f.mgmt }) honly.1 :), honly.2⟩
  · refine (ctr_bump32 T _ _).trans ?_
    rw [ctr_congr hmgmt]
  · exact (odKept_of_mgmt hmgmt _).trans (OdKept.bump T (List.mem_singleton_self _))

theorem ringPush_room {same : Bool} (h : RingTakes s f p r 1 ws) (hc : f.ringCluster (ringKey p r) = c)
    (hplain : same = false ∨ f.pushedLast c (reQueue ws) = false) (hroom : ((f.cluster c).queue (reQueue ws)).entries.length < 64) :
    let k := (f.cluster c).queue (reQueue ws)
    Completes (.ringPush p r same) s fun u => RingMoved f u p r
      ∧ (u.ctr (0x5400 + c) 4 = (f.ctr (0x5400 + c) 4 + 1) % 2 ^ 64 ∧ OdKept f u [odKey (0x5400 + c) 4])
      ∧ OnlyQueue f u c (reQueue ws) { next := (k.next + 1) % 2 ^ 32, entries := k.entries ++ [ringEntry p r ws k.next] }
      ∧ { u with rings := f.rings, clusters := f.clusters, mgmt := f.mgmt } = keep s f := by
  have hjoin := ringJoins_joins f c (reQueue ws) p r ws
  have htake := takePush_room hc hplain hroom
  generalize f.ringJoins c (reQueue ws) p r ws = T at hjoin htake
  obtain ⟨honly, hctr, hod, hrest⟩ := hjoin
  have hquiet : T.quiet := quiet_of_rest hrest h.quiet
  have hquiet' : (T.ringAdvanced p r).quiet := hquiet
  exact completes_go (exec_push h htake hquiet') ⟨.of_rings (congrArg State.rings hrest :), ⟨hctr, hod⟩, honly,
    (congrArg (fun x : State => { x with rings := f.rings, build := s.build, pending := s.pending }) hrest :)⟩

theorem ringPush_full {same : Bool} (h : RingTakes s f p r 1 ws) (hc : f.ringCluster (ringKey p r) = c)
    (hplain : same = false ∨ f.pushedLast c (reQueue ws) = false) (hfull : 64 ≤ ((f.cluster c).queue (reQueue ws)).entries.length) :
    Completes (.ringPush p r same) s fun u => u = keep s f :=
  completes_go (exec_push h (takePush_full hc hplain hfull) h.quiet) rfl

/-- A PUSH entry that is taken in the hearth cycle of the core's QPUSH. -/
theorem ringPush_goes {rd : Nat} {old : Word} {es : List QEntry} {e : QEntry} {P : State → Prop} (h : RingTakes s f p r 1 ws)
    (hc : f.ringCluster (ringKey p r) = c) (hlast : CoresLast f c (reQueue ws) rd old es e) (hfab : (f.pushBefore p r ws).fab = f.fab)
    (hplace : (f.pushBefore p r ws).place = f.place) (hP : P (keep s (f.pushBefore p r ws))) :
    Completes (.ringPush p r true) s P :=
  completes_go (exec_push h (takePush_before hc hlast) (quiet_congr hfab hplace h.quiet)) hP

theorem ringPush_before {rd : Nat} {old : Word} {es : List QEntry} {e : QEntry} (h : RingTakes s f p r 1 ws)
    (hc : f.ringCluster (ringKey p r) = c) (hlast : CoresLast f c (reQueue ws) rd old es e) (hroom : es.length < 63) :
    let t := (e.ticket + 1) % 2 ^ 32
    Completes (.ringPush p r true) s fun u => RingMoved f u p r
      ∧ (u.ctr (0x5400 + c) 4 = (f.ctr (0x5400 + c) 4 + 1) % 2 ^ 64 ∧ OdKept f u [odKey (0x5400 + c) 4])
      ∧ ((u.cluster c).queue (reQueue ws)).untimed = Queue.untimed {
        next := (t + 1) % 2 ^ 32, entries := es ++ [ringEntry p r ws e.ticket, { e with ticket := t }] }
      ∧ CoreGoes (f.cluster c).core { (u.cluster c).core with pushed := (f.cluster c).core.pushed } (f.cluster c).core.pc rd
        (BitVec.ofNat 64 t) := by
  obtain ⟨hmoved, hcount, hqueue, hcore, hfab, hplace⟩ := pushBefore_room hc hlast hroom
  exact ringPush_goes h hc hlast hfab hplace ⟨hmoved, hcount, hqueue, hcore⟩

theorem ringPush_last {rd : Nat} {old : Word} {es : List QEntry} {e : QEntry} (h : RingTakes s f p r 1 ws)
    (hc : f.ringCluster (ringKey p r) = c) (hlast : CoresLast f c (reQueue ws) rd old es e) (hfull : es.length = 63) :
    Completes (.ringPush p r true) s fun u => RingMoved f u p r
      ∧ ((u.cluster c).queue (reQueue ws)).untimed = Queue.untimed {
        next := (e.ticket + 1) % 2 ^ 32, entries := es ++ [ringEntry p r ws e.ticket] }
      ∧ (u.cluster c).core.wait = some (.fullQueue (reQueue ws)) ∧ (u.cluster c).core.st = .waiting
      ∧ (u.cluster c).core.pc = (f.cluster c).core.pc - 4
      ∧ ∀ n, (u.cluster c).core.reg n = if n = rd ∧ n ≠ 0 then old else (f.cluster c).core.reg n := by
  obtain ⟨hmoved, hqueue, hwait, hst, hpc, hregs, hfab, hplace⟩ := pushBefore_full hc hlast hfull
  exact ringPush_goes h hc hlast hfab hplace ⟨hmoved, hqueue, hwait, hst, hpc, hregs⟩

end Kinds

/-- Settles O34, by the kinds of the entry that the ring takes. -/
theorem ringEntriesAreTaken : Obligations.RingEntriesAreTaken := by
  unfold Obligations.RingEntriesAreTaken
  intro p r s f ws c q new
  refine ⟨fun h => ?nop, fun h => ?push, fun h => ?start, fun h => ?load, fun h => ?abort⟩
  case nop => exact taken_completes h (exec_ringNop p r s) rfl h.quiet fun _ hu => hu
  case push =>
    intro k counted
    refine ⟨?plain, ?overtakes⟩
    case plain =>
      exact fun same hplain => ⟨fun hroom => ringPush_room h rfl hplain hroom, fun hfull => ringPush_full h rfl hplain hfull⟩
    case overtakes =>
      intro rd old es e hpushed hent hring hdisp hcompl _ t core
      have hlast : CoresLast f c q rd old es e := ⟨hpushed, hent, hring, hdisp, hcompl⟩
      exact ⟨fun hroom => ringPush_before h rfl hlast hroom, fun hfull => ringPush_last h rfl hlast hfull⟩
  case start =>
    exact ⟨fun hidle => taken_completes h (exec_ringStart p r s) (takeStart_idle hidle) h.quiet fun _ hu => hu,
      fun hbusy => taken_completes h (exec_ringStart p r s) (takeStart_busy hbusy) h.quiet fun _ hu => hu⟩
  case load =>
    refine ⟨fun hidle g rs hquiet hread => ?_,
      fun hbusy => taken_completes h (exec_ringLoad p r s) (takeLoad_busy hbusy) h.quiet fun _ hu => hu⟩
    obtain ⟨hdata, hinst, hfetch, hkept, hcore⟩ := place_leaves (g.cluster c) (Word.bit (reW ws 5) 63) (reOffset ws) (loadBytes rs)
    have hown := cluster_modCluster_same g c fun k => k.place (Word.bit (reW ws 5) 63) (reOffset ws) (loadBytes rs)
    refine taken_completes h (exec_ringLoad p r s) (takeLoad_idle hidle hread) hquiet fun u hu =>
      ⟨_, ?_, ?_, ?_, ?_, ?_, modCluster_onlyCluster g c _, hu⟩
    all_goals rw [hown]
    · exact hdata
    · exact hinst
    · exact hfetch
    · exact hkept
    · exact hcore
  case abort =>
    intro seq
    refine ⟨fun hnone => ?_, fun q t x hfind hx hdisp hopen hjob => ?_, fun q t x hfind hx hdone => ?_⟩
    · exact taken_completes h (exec_ringAbort p r s) (takeAbort_absent hnone) h.quiet fun _ hu => hu
    · have hcounts := abortWaiting_counts hx hopen x.abortStatus
      have htake := takeAbort_found hfind (abortOne_waiting hx hjob hdisp hopen)
      generalize (f.abortWaiting c q t x.abortStatus).bump (0x5400 + c) 6 1 32 = H at hcounts htake
      obtain ⟨hentry, hctr, hod, hrest, hothers⟩ := hcounts
      exact taken_completes h (exec_ringAbort p r s) htake (quiet_of_rest hrest h.quiet) fun u hu =>
        ⟨H, hentry, hctr, hod, hrest, hothers, hu⟩
    · exact taken_completes h (exec_ringAbort p r s) (takeAbort_found hfind (abortOne_late hx hdone)) h.quiet fun _ hu => hu

end Sys2Proof.Machine

/-! ## O37: FQ operations -/

namespace Sys2Proof.Machine

/-! ### What translating reads (13 R442) -/

section Translating

variable {s t u : State}

/-- Nothing that translating reads has changed: of the dictionary at most the count of placement-cache misses, of the
placement state at most the caches. -/
structure Translates (s t : State) : Prop where
  od : ∀ i j, odKey i j ≠ odKey 0x6020 2 → t.odNat i j = s.odNat i j
  regions : t.regions = s.regions
  blobs : t.mgmt.blobs = s.mgmt.blobs
  parts : t.mgmt.parts = s.mgmt.parts
  place : { t.place with pcache := s.place.pcache } = s.place
  mem : t.mem = s.mem
  build : t.build = s.build

theorem Translates.refl (s : State) : Translates s s := ⟨fun _ _ _ => rfl, rfl, rfl, rfl, rfl, rfl, rfl⟩

theorem Translates.trans (h : Translates s t) (h' : Translates t u) : Translates s u where
  od i j hij := (h'.od i j hij).trans (h.od i j hij)
  regions := h'.regions.trans h.regions
  blobs := h'.blobs.trans h.blobs
  parts := h'.parts.trans h.parts
  place := (congrArg (fun x : Place => { x with pcache := s.place.pcache }) h'.place).trans h.place
  mem := h'.mem.trans h.mem
  build := h'.build.trans h.build

/-- A number of the dictionary other than the count of misses. -/
theorem key_ne_misses {i j : Nat} (hj : j < 256) (h : i ≠ 0x6020 ∨ j ≠ 2) : odKey i j ≠ odKey 0x6020 2 := by
  unfold odKey
  omega

theorem Translates.fitted (h : Translates s t) (n : Nat) : t.fitted n = s.fitted n := by
  rw [State.fitted, h.build, State.fitted]

theorem Translates.fenced (h : Translates s t) (n : Nat) : t.fenced n = s.fenced n := by
  unfold State.fenced
  rw [h.mem]

theorem Translates.topStack (h : Translates s t) (n : Nat) : t.topStack n = s.topStack n := by
  induction n with
  | zero => rfl
  | succ n ih => rw [State.topStack, h.fitted, h.fenced, ih, State.topStack]

theorem Translates.inSystem (h : Translates s t) (lin : Nat) : t.inSystem lin = s.inSystem lin := by
  have hod := h.od 0x6020 1 (key_ne_misses (by omega) (by omega))
  unfold State.inSystem State.systemArea
  rw [h.topStack, hod]

theorem Translates.physOf (h : Translates s t) (r : Region) (lin : Nat) : t.physOf r lin = s.physOf r lin := by
  unfold State.physOf
  refine ite_congr rfl (fun _ => rfl) fun _ => List.foldl_ext _ _ _ fun ph st hst => ?_
  have hsub : ∀ st ∈ targetBits, 3 ≤ st.1 ∧ st.1 ≤ 16 := by decide
  obtain ⟨h3, h16⟩ := hsub st hst
  rw [h.od (0x2100 + r.slot) st.1 (key_ne_misses (by omega) (by omega))]

theorem Translates.regionAt (h : Translates s t) (lin : Nat) : t.regionAt lin = s.regionAt lin := by
  rw [State.regionAt, h.regions, State.regionAt]

theorem Translates.place' (h : Translates s t) (priv : Bool) (lin : Nat) : t.place' priv lin = s.place' priv lin := by
  unfold State.place'
  simp only [h.inSystem, h.regionAt, h.physOf, h.fitted, h.fenced]

theorem Translates.localReach (h : Translates s t) (p lin : Nat) : t.localReach p lin = s.localReach p lin := by
  have hod (r : Region) := h.od (0x2600 + r.owner) 3 (key_ne_misses (by omega) (by omega))
  unfold State.localReach
  simp only [h.regionAt, h.place', hod]

theorem Translates.position (h : Translates s t) : t.position = s.position := by
  unfold State.position
  rw [h.od 0x6000 1 (key_ne_misses (by omega) (by omega))]

theorem Translates.homeReach (h : Translates s t) (p lin : Nat) : t.homeReach p lin = s.homeReach p lin := by
  unfold State.homeReach State.domainMembers
  simp only [h.regionAt, h.localReach, h.position, h.blobs]

theorem Translates.homeRec (h : Translates s t) (loff : Nat) : t.homeRec loff = s.homeRec loff := by
  have hhome : t.place.home = s.place.home := (congrArg Place.home h.place :)
  rw [State.homeRec, hhome, State.homeRec]

theorem Translates.homeAnswer (h : Translates s t) (reach lin e : Nat) (write : Bool) :
    t.homeAnswer reach lin e write = s.homeAnswer reach lin e write := by
  unfold State.homeAnswer State.ownerUnused State.homeLocal State.unused State.part
  simp only [h.regionAt, h.homeRec, h.parts]

theorem Translates.xlate (h : Translates s t) (p pva : Nat) (write : Bool) : t.xlate p pva write = s.xlate p pva write := by
  have hod := h.od (0x2600 + p) 4 (key_ne_misses (by omega) (by omega))
  have hleaves : t.place.leaves = s.place.leaves := (congrArg Place.leaves h.place :)
  have hreplicas : t.place.replicas = s.place.replicas := (congrArg Place.replicas h.place :)
  unfold State.xlate State.replicaAt State.entryOf
  simp only [h.localReach, h.homeReach, h.homeAnswer, h.position, hod, hleaves, hreplicas]

section Misses

variable {α β : Type} {f : Nat × α → Option β} {k : Nat}

theorem filterMap_erase (hf : ∀ v, f (k, v) = none) (l : Tab α) : (Tab.erase l k).filterMap f = List.filterMap f l := by
  induction l with
  | nil => rfl
  | cons x l ih =>
    obtain ⟨i, w⟩ := x
    rw [Tab.erase]
    split
    · subst_vars
      rw [ih, List.filterMap_cons_none (hf w)]
    · rw [List.filterMap_cons, List.filterMap_cons, ih]

theorem filterMap_put (hf : ∀ v, f (k, v) = none) (l : Tab α) (v : α) : (Tab.put l k v).filterMap f = List.filterMap f l := by
  induction l with
  | nil => exact List.filterMap_cons_none (hf v)
  | cons x l ih =>
    obtain ⟨i, w⟩ := x
    rw [Tab.put]
    split
    · exact List.filterMap_cons_none (hf v)
    split
    · subst_vars
      rw [List.filterMap_cons_none (hf v), List.filterMap_cons_none (hf w)]
    · rw [List.filterMap_cons, List.filterMap_cons, ih]

/-- A key whose values select nothing. -/
theorem filterMap_set [DecidableEq α] (hf : ∀ v, f (k, v) = none) (d : α) (l : Tab α) (v : α) :
    (Tab.set d l k v).filterMap f = List.filterMap f l := by
  unfold Tab.set
  split
  · exact filterMap_erase hf l
  · exact filterMap_put hf l v

end Misses

theorem bump_odNat_ne (s : State) {i j k l m w : Nat} (h : odKey i j ≠ odKey k l) : (s.bump k l m w).odNat i j = s.odNat i j := by
  have hfind := (OdKept.bump s (i := k) (j := l) (m := m) (w := w) (List.mem_singleton_self _)).2 (odKey i j) (by simpa using h)
  rw [State.odNat, State.odNat, odVal_of_find hfind rfl rfl]

/-- The regions read no counter but those of their own entries. -/
theorem bump_regions (s : State) {i j : Nat} (hj : j < 256) (hi : ¬ (0x2100 ≤ i ∧ i < 0x2200)) (m w : Nat) :
    (s.bump i j m w).regions = s.regions := by
  have hsize (index : Nat) (h : index ≠ i) : (s.bump i j m w).odNat index 2 = s.odNat index 2 :=
    bump_odNat_ne s (by unfold odKey; omega)
  have hindex : odKey i j / 256 = i := by
    unfold odKey
    omega
  have hod : (s.bump i j m w).mgmt.od = Tab.set 0 s.mgmt.od (odKey i j) (BitVec.ofNat 64 (wrapAdd w (s.ctr i j) m)) := rfl
  unfold State.regions
  rw [hod]
  refine (List.filterMap_congr fun kv _ => ?_).trans (filterMap_set (fun v => if_neg ?_) 0 s.mgmt.od _)
  · dsimp only
    split
    · rename_i hin
      simp only [Bool.and_eq_true, decide_eq_true_eq] at hin
      rw [hsize _ (by omega)]
    · rfl
  · dsimp only
    rw [hindex]
    simp only [Bool.and_eq_true, decide_eq_true_eq]
    tauto

theorem bump_misses_translates (s : State) : Translates s (s.bump 0x6020 2) where
  od _ _ h := bump_odNat_ne s h
  regions := bump_regions s (by omega) (by omega) 1 64
  blobs := rfl
  parts := rfl
  place := rfl
  mem := rfl
  build := rfl

end Translating

/-! ### A request waits while no port is up (12 R410, R417) -/

section Waits

variable {s : State} {src : ReqSrc} {h : Option Nat} {die pos part pva : Nat} {f : Frame}

/-- No port is up, and no stream has chosen an egress die. -/
def State.portless (s : State) : Prop := s.fab.routes = [] ∧ ∀ d, s.upPorts d = []

theorem transmit_portless (hp : s.portless) (w : Waiting) (hm : (s.member w.pos).isSome = true) : s.transmit w = none := by
  obtain ⟨hroutes, hup⟩ := hp
  have hdies (k : Option Nat) : s.egressDies k = [] := List.filter_eq_nil_iff.mpr fun d _ => by simp [hup d]
  have hdie : s.egressDie w.via w.pos w.sgrp = none := by
    rw [State.egressDie, hroutes, hdies]
    rfl
  have hmember : (s.member w.pos).isNone = false := by
    rw [← Option.not_isSome, hm]
    rfl
  rw [State.transmit, hmember, if_neg Bool.false_ne_true, hdie]

theorem sendable_portless (hp : s.portless) (ws before : List Waiting) (hm : ∀ w ∈ ws, (s.member w.pos).isSome = true) :
    s.sendable ws before = [] := by
  induction ws generalizing before with
  | nil => rfl
  | cons w ws ih =>
    obtain ⟨hw, hws⟩ := List.forall_mem_cons.mp hm
    rw [State.sendable, transmit_portless hp w hw, ih _ hws]
    simp

theorem pump_portless (hp : s.portless) (hm : ∀ w ∈ s.fab.waiting, (s.member w.pos).isSome = true) : s.pump = s := by
  unfold State.pump
  cases s.fab.waiting.length with
  | zero => rfl
  | succ n =>
    rw [State.pumpN, sendable_portless hp _ _ hm]
    rfl

/-- The request that is handed over, as it waits. -/
def State.waitOf (s : State) (src : ReqSrc) (h : Option Nat) (die pos part pva : Nat) (f : Frame) : Waiting where
  id := s.fab.nextReq
  hearth := h
  die := die
  pos := pos
  sgrp := f.sgrp
  frame := f
  src := src
  part := part
  pva := pva

/-- A request waits in its I/O die. -/
def State.waits (s : State) (w : Waiting) : State :=
  { s with fab := { s.fab with nextReq := s.fab.nextReq + 1, waiting := s.fab.waiting ++ [w] } }

theorem sendReq_portless (hp : s.portless) (hm : ∀ w ∈ s.fab.waiting, (s.member w.pos).isSome = true)
    (hpos : (s.member pos).isSome = true) (hleaving : s.fab.leaving = false) (hleft : s.fab.left = false) :
    s.sendReq src h die pos part pva f = s.waits (s.waitOf src h die pos part pva f) := by
  have hmember : (s.member pos).isNone = false := by
    rw [← Option.not_isSome, hpos]
    rfl
  rw [State.sendReq, hmember, hleaving, hleft]
  refine pump_portless (s := s.waits (s.waitOf src h die pos part pva f)) hp fun w hw => ?_
  obtain hw | hw := List.mem_append.mp hw
  · exact hm w hw
  · obtain rfl := List.mem_singleton.mp hw
    exact hpos

theorem levelOf_lt (a b : Nat) : levelOf a b < 4 := by
  unfold levelOf
  split
  · omega
  split <;> omega

theorem packNat_cons (k x : Nat) (l : List (Nat × Nat)) : packNat ((k, x) :: l) = x * 2 ^ k + packNat l := by
  rw [packNat, List.map_cons, List.sum_cons, packNat]

theorem header_op {op cls n l : Nat} (hop : op < 64) (hcls : cls < 4) (hn : n < 512) (hl : l < 4) :
    packNat [(60, 1), (52, l), (54, op), (50, cls), (41, n)] % 2 ^ 64 / 2 ^ 54 % 2 ^ 6 = op := by
  have hnil : packNat [] = 0 := rfl
  rw [packNat_cons, packNat_cons, packNat_cons, packNat_cons, packNat_cons, hnil]
  omega

/-- A request's frame says its opcode. -/
theorem op_mkReq (s : State) {op cls n : Nat} (hop : op < 64) (hcls : cls < 4) (hn : n < 512) (pos c : Nat) (fq : Bool)
    (epoch opmod : Nat) (addr a0 a1 : Word) (ls : List Line) : (s.mkReq op cls n pos c fq epoch opmod addr a0 a1 ls).op = op := by
  have hh : (s.mkReq op cls n pos c fq epoch opmod addr a0 a1 ls).h0 =
      pack [(60, 1), (52, levelOf s.pos pos), (54, op), (50, cls), (41, n)] := rfl
  have hof := header_op hop hcls hn (levelOf_lt s.pos pos)
  rw [Frame.op, hh, Word.bits, pack, BitVec.toNat_ofNat, Nat.shiftRight_eq_div_pow]
  exact hof

theorem bits_lt {n : Nat} (w : BitVec n) (hi lo : Nat) : Word.bits w hi lo < 2 ^ (hi + 1 - lo) := Nat.mod_lt _ (by positivity)

theorem frame_op_lt (f : Frame) : f.op < 64 := (bits_lt f.h0 59 54).trans_eq (by norm_num)
theorem frame_cls_lt (f : Frame) : f.cls < 4 := (bits_lt f.h0 51 50).trans_eq (by norm_num)
theorem frame_nlines_lt (f : Frame) : f.nlines < 512 := (bits_lt f.h0 47 41).trans (by norm_num)

theorem op_retarget (s : State) (f : Frame) (pos lin epoch : Nat) : (s.retarget f pos lin epoch).op = f.op := by
  have hh : (s.retarget f pos lin epoch).h0 =
      (s.mkReq f.op f.cls f.nlines pos f.cluster f.fq epoch f.opmod (fabAddr 0 pos lin) f.h5 f.h6 f.lines).h0 := rfl
  rw [Frame.op, hh]
  exact op_mkReq s (frame_op_lt f) (frame_cls_lt f) (frame_nlines_lt f) pos f.cluster f.fq epoch f.opmod (fabAddr 0 pos lin) f.h5
    f.h6 f.lines

theorem lines_mkReq (s : State) (op cls n pos c : Nat) (fq : Bool) (epoch opmod : Nat) (addr a0 a1 : Word) (ls : List Line) :
    (s.mkReq op cls n pos c fq epoch opmod addr a0 a1 ls).lines = ls := rfl

theorem lines_withH3 (f : Frame) (w : Word) : ({ f with h3 := w } : Frame).lines = f.lines := rfl

theorem lines_retarget (s : State) (f : Frame) (pos lin epoch : Nat) : (s.retarget f pos lin epoch).lines = f.lines :=
  (lines_withH3 _ _).trans (lines_mkReq ..)

theorem frameOp_isWrite (f : Frame) : (frameOp f).isWrite = (f.op != 1) := by
  unfold frameOp
  split
  · rename_i h
    rw [h]
    rfl
  · rename_i h
    rw [h]
    rfl
  · rename_i h
    rw [h]
    rfl
  · rename_i h _ _
    simp [HomeOp.isWrite]
    exact h

/-- A translated request goes to the module of its home. -/
theorem runOwn_there {lin epoch : Nat} (hx : s.xlate part pva (f.op != 1) = .there pos lin epoch)
    (hwait : s.signalWait src f pos = false) :
    s.runOwn src h part pva f = s.sendReq src h 0 pos part pva (s.retarget f pos lin epoch) := by
  rw [← frameOp_isWrite] at hx
  unfold State.runOwn
  simp only [hx, hwait, Bool.false_eq_true, if_false]

/-- With nothing failed and no round open, settling changes nothing. -/
theorem settle_calm (hd : s.fab.dead = []) (hr : s.place.rounds = []) : s.settle = s := by
  have e : ({ s with place := { s.place with rounds := [] } } : State) = s := by rw [← hr]
  simp [State.settle, State.settleN, State.endRounds, hd, hr, e]

end Waits

/-! ### What the requests of an FQ leave alone -/

section Frame

variable {s t u : State} {c : Nat}

/-- Of cluster `c` only the FQ's operations have changed, of the fabric only the waiting requests, of the rest at most the
placement caches and the count of their misses. -/
structure FqFrame (s t : State) (c : Nat) : Prop where
  translates : Translates s t
  own : { t.cluster c with fq := (s.cluster c).fq } = s.cluster c
  clusters : ∀ d, d ≠ c → t.cluster d = s.cluster d
  fab : { t.fab with waiting := s.fab.waiting, nextReq := s.fab.nextReq } = s.fab
  rest : { t with clusters := s.clusters, fab := s.fab, place := s.place, mgmt := s.mgmt } = s

theorem FqFrame.refl (s : State) (c : Nat) : FqFrame s s c := ⟨.refl s, rfl, fun _ _ => rfl, rfl, rfl⟩

theorem FqFrame.trans (h : FqFrame s t c) (h' : FqFrame t u c) : FqFrame s u c where
  translates := h.translates.trans h'.translates
  own := (congrArg (fun k : Cluster => { k with fq := (s.cluster c).fq }) h'.own).trans h.own
  clusters d hd := (h'.clusters d hd).trans (h.clusters d hd)
  fab := (congrArg (fun x : Fabric => { x with waiting := s.fab.waiting, nextReq := s.fab.nextReq }) h'.fab).trans h.fab
  rest := (congrArg (fun x : State => { x with clusters := s.clusters, fab := s.fab, place := s.place, mgmt := s.mgmt })
    h'.rest).trans h.rest

theorem pcacheLook_reads (s : State) (die : Option Nat) (p pva : Nat) :
    (∀ d, (s.pcacheLook die p pva).cluster d = s.cluster d) ∧ (s.pcacheLook die p pva).fab = s.fab
      ∧ Translates s (s.pcacheLook die p pva)
      ∧ { s.pcacheLook die p pva with place := s.place, mgmt := s.mgmt } = s := by
  unfold State.pcacheLook
  split
  · exact ⟨fun _ => rfl, rfl, .refl s, rfl⟩
  dsimp only
  split
  · exact ⟨fun _ => rfl, rfl, ⟨fun _ _ _ => rfl, rfl, rfl, rfl, rfl, rfl, rfl⟩, rfl⟩
  · exact ⟨fun d => cluster_bump _ _ _ _ _ d, rfl, bump_misses_translates s, rfl⟩

theorem pcacheLook_frame (s : State) (c : Nat) (die : Option Nat) (p pva : Nat) : FqFrame s (s.pcacheLook die p pva) c := by
  obtain ⟨hcluster, hfab, htranslates, hrest⟩ := pcacheLook_reads s die p pva
  refine ⟨htranslates, by rw [hcluster], fun d _ => hcluster d, by rw [hfab], ?_⟩
  exact (congrArg (fun x : State => { x with clusters := s.clusters, fab := s.fab }) hrest :)

theorem modCluster_translates (s : State) (c : Nat) (f : Cluster → Cluster) : Translates s (s.modCluster c f) :=
  ⟨fun _ _ _ => rfl, rfl, rfl, rfl, rfl, rfl, rfl⟩

theorem modFq_frame (s : State) (c n : Nat) (f : FqOp → FqOp) : FqFrame s (s.modFq c n f) c where
  translates := modCluster_translates s c _
  own := by rw [State.modFq, cluster_modCluster_same]
  clusters := (modCluster_onlyCluster s c _).2
  fab := rfl
  rest := rfl

theorem waits_frame (s : State) (c : Nat) (w : Waiting) : FqFrame s (s.waits w) c :=
  ⟨⟨fun _ _ _ => rfl, rfl, rfl, rfl, rfl, rfl, rfl⟩, rfl, fun _ _ => rfl, rfl, rfl⟩

theorem FqFrame.member (h : FqFrame s t c) (pos : Nat) : t.member pos = s.member pos := by
  have hmembers : t.fab.members = s.fab.members := (congrArg Fabric.members h.fab :)
  rw [State.member, hmembers, State.member]

theorem FqFrame.portless (h : FqFrame s t c) (hp : s.portless) : t.portless := by
  obtain ⟨hroutes, hup⟩ := hp
  have hports : t.fab.ports = s.fab.ports := (congrArg Fabric.ports h.fab :)
  refine ⟨(congrArg Fabric.routes h.fab :).trans hroutes, fun d => ?_⟩
  have hsame : t.upPorts d = s.upPorts d := by
    unfold State.upPorts State.ethFitted State.port
    rw [hports, h.translates.build]
  exact hsame.trans (hup d)

theorem FqFrame.part (h : FqFrame s t c) : (t.cluster c).part = (s.cluster c).part := (congrArg Cluster.part h.own :)

theorem FqFrame.csLine (h : FqFrame s t c) (a : Nat) : t.csLine c a = s.csLine c a := by
  have hsram : (t.cluster c).csram = (s.cluster c).csram := (congrArg Cluster.csram h.own :)
  rw [State.csLine, hsram, State.csLine]

end Frame

/-! ### The parts of an operation (10 R354) -/

section Parts

variable {d : List Word}

theorem fqPartLen_le (d : List Word) (i : Nat) : fqPartLen d i ≤ 64 := by
  unfold fqPartLen
  omega

theorem fqPartsFrom_rises (fuel i : Nat) : (∀ j ∈ fqPartsFrom d fuel i, i ≤ j) ∧ (fqPartsFrom d fuel i).Nodup := by
  induction fuel generalizing i with
  | zero => exact ⟨fun _ h => (List.not_mem_nil h).elim, List.nodup_nil⟩
  | succ fuel ih =>
    rw [fqPartsFrom]
    split
    · exact ⟨fun _ h => (List.not_mem_nil h).elim, List.nodup_nil⟩
    · have hlen : 1 ≤ fqPartLen d i := by
        unfold fqPartLen
        omega
      obtain ⟨habove, hnodup⟩ := ih (i + fqPartLen d i)
      refine ⟨List.forall_mem_cons.mpr ⟨le_refl i, fun j hj => (Nat.le_add_right i _).trans (habove j hj)⟩,
        List.nodup_cons.mpr ⟨fun hi => ?_, hnodup⟩⟩
      have := habove i hi
      omega

theorem fqParts_nodup (d : List Word) : (fqParts d).Nodup := by
  unfold fqParts
  split
  · exact (fqPartsFrom_rises 512 0).2
  · exact List.nodup_singleton 0

/-- The lines of LOCAL, in cluster SRAM, that a part carries. -/
def partLines (s : State) (c : Nat) (d : List Word) (i : Nat) : List Line :=
  if fqOp d = 1 ∨ fqOp d = 2 then (upTo (fqPartLen d i)).map fun j => s.csLine c ((fqLocal d + 64 * (i + j)) % 2 ^ 23) else []

/-- Lines of cluster SRAM are read at once. -/
theorem readAll_sram (s : State) (w : Who) (xs : List Place2) (h : ∀ x ∈ xs, x.space = 0) :
    s.readAll w xs = (s, xs.map fun x => (0, s.csLine w.c (x.addr % 2 ^ 23))) := by
  induction xs with
  | nil => rfl
  | cons x xs ih =>
    obtain ⟨hx, hxs⟩ := List.forall_mem_cons.mp h
    rw [State.readAll, State.readOne, if_pos hx]
    dsimp only
    rw [ih hxs]
    rfl

theorem fetchLines_allSram (s : State) (w : Who) (xs : List Place2) (h : ∀ x ∈ xs, x.space = 0) :
    s.fetchLines w xs = (s, some (xs.map fun x => (0, s.csLine w.c (x.addr % 2 ^ 23)))) := by
  have hready : xs.all (s.readReady w) = true := List.all_eq_true.mpr fun x hx => by simp [State.readReady, h x hx]
  have hnone (v : Nat) : (xs.any fun x => x.space == 1 && x.addr == v) = false :=
    List.any_eq_false.mpr fun x hx => by simp [h x hx]
  rw [State.fetchLines, if_pos hready, readAll_sram s w xs h]
  dsimp only
  rw [clearPool_none s w.a hnone]

theorem packNat_zeros {l : List (Nat × Nat)} (h : ∀ x ∈ l, x.2 = 0) : packNat l = 0 := by
  induction l with
  | nil => rfl
  | cons x l ih =>
    obtain ⟨hx, hl⟩ := List.forall_mem_cons.mp h
    rw [packNat_cons, hx, ih hl, Nat.zero_mul]

variable {s : State} {c n mask : Nat} {ls : List Line}

theorem op_fqFrame (hop : fqOp d ≤ 3) (hn : n < 512) : (s.fqFrame c d n mask ls).op = fqOp d + 1 := by
  have hcls : fqClass d < 4 := (bits_lt _ 51 50).trans_eq (by norm_num)
  unfold State.fqFrame
  split
  · rename_i h
    rw [h]
    exact op_mkReq s (by omega) hcls hn ..
  · rename_i h
    rw [h]
    exact op_mkReq s (by omega) hcls hn ..
  · rename_i h
    rw [h]
    exact op_mkReq s (by omega) hcls hn ..
  · rename_i h0 h1 h2
    have hlast : fqOp d = 3 := le_antisymm hop (Nat.lt_of_le_of_ne (Nat.lt_of_le_of_ne (Nat.pos_of_ne_zero h0) fun h => h1 h.symm)
      fun h => h2 h.symm)
    rw [hlast]
    exact op_mkReq s (by omega) hcls (by omega) ..

theorem lines_fqFrame : (s.fqFrame c d n mask ls).lines = if fqOp d = 1 ∨ fqOp d = 2 then ls else [] := by
  unfold State.fqFrame
  split
  · rename_i h
    rw [h]
    rfl
  · rename_i h
    rw [h]
    rfl
  · rename_i h
    rw [h]
    rfl
  · rename_i h1 h2
    rw [if_neg (by tauto)]
    rfl

theorem op_fqSigFrame (hop : fqOp d ≤ 5) : (s.fqSigFrame c d).op = fqOp d + 1 :=
  op_mkReq s (by omega) ((bits_lt _ 51 50).trans_eq (by norm_num)) (by omega) ..

end Parts

/-! ### The parts of a started operation go out in order (10 R354; 11 R387) -/

section Issued

variable {b t u : State} {c ticket i : Nat} {d : List Word} {pos : Nat → Nat} {sent out rest : List Nat}

/-- The operation of a ticket, of whose parts some are on their way. -/
def opOf (ticket : Nat) (d : List Word) (out rest : List Nat) : FqOp where
  ticket := ticket
  desc := d
  todo := rest
  out := out

/-- What is said of a request that waits. -/
def waitKey (w : Waiting) : Nat × Option Nat × ReqSrc × Nat × List Line := (w.pos, w.hearth, w.src, w.frame.op, w.frame.lines)

/-- Who asks, for a part of an operation. -/
def partSrc (c ticket : Nat) (d : List Word) (i : Nat) : ReqSrc := .fq c ticket i (if fqData d then fqPartLen d i else 1)

/-- The request of a part. -/
def partKey (s : State) (c ticket : Nat) (d : List Word) (pos : Nat → Nat) (i : Nat) : Nat × Option Nat × ReqSrc × Nat × List Line :=
  (pos i, some (c / 12), partSrc c ticket d i, fqOp d + 1, partLines s c d i)

/-- The FQ of cluster `c` has one operation, of whose parts `rest` are still to be sent; the requests of the parts `sent`
wait in the I/O dies. -/
structure Issued (b t : State) (c ticket : Nat) (d : List Word) (pos : Nat → Nat) (sent out rest : List Nat) : Prop where
  frame : FqFrame b t c
  ops : (t.cluster c).fq = [opOf ticket d out rest]
  waiting : t.fab.waiting.map waitKey = b.fab.waiting.map waitKey ++ sent.map (partKey b c ticket d pos)
  members : ∀ w ∈ t.fab.waiting, (b.member w.pos).isSome = true

/-- The parts of an operation may be sent: they go to modules that are members, and this module does not leave. -/
structure Sends (b : State) (c : Nat) (d : List Word) (pos : Nat → Nat) (i : Nat) : Prop where
  valid : fqOp d ≤ 5
  lspace : fqLspace d = 0
  away : if fqSignal d then fqTarget d = pos i ∧ b.position ≠ some (pos i)
    else ∃ lin epoch, b.xlate ((b.cluster c).part.getD 31) (fqRemote d + 64 * i) (fqOp d != 0) = .there (pos i) lin epoch
  member : (b.member (pos i)).isSome = true
  leaving : b.fab.leaving = false
  left : b.fab.left = false
  portless : b.portless

theorem Issued.same (h : Issued b t c ticket d pos sent out rest) (hu : FqFrame t u c) (hops : (u.cluster c).fq = (t.cluster c).fq)
    (hfab : u.fab = t.fab) : Issued b u c ticket d pos sent out rest :=
  ⟨h.frame.trans hu, hops.trans h.ops, by rw [hfab]; exact h.waiting, by rw [hfab]; exact h.members⟩

/-- No counted signal of another operation is to be waited for. -/
theorem Issued.noSignal (h : Issued b t c ticket d pos sent out rest) (n : Nat) : t.signalPending c ticket n = false := by
  simp [State.signalPending, h.ops, opOf]

theorem Issued.noWait (h : Issued b t c ticket d pos sent out rest) (f : Frame) (n : Nat) :
    t.signalWait (partSrc c ticket d i) f n = false := by
  have hnone := h.noSignal n
  generalize hp : t.signalPending c ticket n = p at hnone
  have hsame : t.signalWait (partSrc c ticket d i) f n = ((f.op == 2 || f.op == 3) && p) := by rw [← hp]; rfl
  rw [hsame, hnone, Bool.and_false]

theorem Issued.notBlocked (h : Issued b t c ticket d pos sent out (i :: rest)) : t.partBlocked c ticket d i = false := by
  have hsignal : t.partSignal c ticket d i = false := by
    unfold State.partSignal
    simp only [h.noSignal]
    split <;> simp
  unfold State.partBlocked
  dsimp only
  rw [hsignal, State.fqOf, h.ops]
  simp [opOf]

theorem fq_modFq (s : State) (c n : Nat) (f : FqOp → FqOp) :
    ((s.modFq c n f).cluster c).fq = (s.cluster c).fq.map fun o => if o.ticket = n then f o else o := by
  rw [State.modFq, cluster_modCluster_same]

/-- A part is on its way. -/
theorem Issued.fqOut (h : Issued b t c ticket d pos sent out (i :: rest)) (hi : i ∉ rest) :
    Issued b (t.fqOut c ticket i) c ticket d pos sent (out ++ [i]) rest := by
  refine ⟨h.frame.trans (modFq_frame t c ticket _), ?_, h.waiting, h.members⟩
  have hrest : rest.filter (· != i) = rest := List.filter_eq_self.mpr fun j hj => by
    rw [bne_iff_ne]
    rintro rfl
    exact hi hj
  rw [State.fqOut, fq_modFq, h.ops]
  simp [opOf, hrest]

/-- None of the lines was poisoned. -/
theorem Issued.clean (h : Issued b t c ticket d pos sent out rest) (p : Bool) (hp : p = false) :
    Issued b (t.modFq c ticket fun o => { o with poison := o.poison || p }) c ticket d pos sent out rest := by
  refine ⟨h.frame.trans (modFq_frame t c ticket _), ?_, h.waiting, h.members⟩
  rw [fq_modFq, h.ops, hp]
  simp [opOf]

/-- The request of a part waits. -/
theorem Issued.waits (h : Issued b t c ticket d pos sent out rest) {w : Waiting} (hkey : waitKey w = partKey b c ticket d pos i)
    (hmember : (b.member w.pos).isSome = true) : Issued b (t.waits w) c ticket d pos (sent ++ [i]) out rest := by
  refine ⟨h.frame.trans (waits_frame t c w), h.ops, ?_, fun x hx => ?_⟩
  · refine List.map_append.trans ?_
    rw [h.waiting, List.map_append, List.append_assoc, List.map_singleton, List.map_singleton, hkey]
  · obtain hx | hx := List.mem_append.mp hx
    · exact h.members x hx
    · obtain rfl := List.mem_singleton.mp hx
      exact hmember

/-- A part's request that is handed over waits. -/
theorem Issued.sendReq (h : Issued b t c ticket d pos sent out rest) (hs : Sends b c d pos i) {f : Frame} {die part pva : Nat}
    (hop : f.op = fqOp d + 1) (hlines : f.lines = partLines b c d i) :
    Issued b (t.sendReq (partSrc c ticket d i) (some (c / 12)) die (pos i) part pva f) c ticket d pos (sent ++ [i]) out rest := by
  have hmember : (t.member (pos i)).isSome = true := by
    rw [h.frame.member]
    exact hs.member
  rw [sendReq_portless (h.frame.portless hs.portless) (fun w hw => by rw [h.frame.member]; exact h.members w hw) hmember
    ((congrArg Fabric.leaving h.frame.fab :).trans hs.leaving) ((congrArg Fabric.left h.frame.fab :).trans hs.left)]
  refine h.waits ?_ hs.member
  unfold waitKey State.waitOf partKey
  rw [hop, hlines]

theorem succ_bne_one (n : Nat) : (n + 1 != 1) = (n != 0) := by
  cases n <;> rfl

/-- A part's request that is translated waits. -/
theorem Issued.runOwn (h : Issued b t c ticket d pos sent out (i :: rest)) (hi : i ∉ rest) (hs : Sends b c d pos i)
    (hdata : fqSignal d = false) {f : Frame} (hop : f.op = fqOp d + 1) (hlines : f.lines = partLines b c d i) (die : Option Nat) :
    Issued b (((t.pcacheLook die ((b.cluster c).part.getD 31) (fqRemote d + 64 * i)).fqOut c ticket i).runOwn
      (partSrc c ticket d i) (some (c / 12)) ((b.cluster c).part.getD 31) (fqRemote d + 64 * i) f) c ticket d pos (sent ++ [i])
        (out ++ [i]) rest := by
  obtain ⟨hcluster, hfab, -, -⟩ := pcacheLook_reads t die ((b.cluster c).part.getD 31) (fqRemote d + 64 * i)
  have hlook := h.same (pcacheLook_frame t c die ((b.cluster c).part.getD 31) (fqRemote d + 64 * i))
    (congrArg Cluster.fq (hcluster c)) hfab
  have hout := hlook.fqOut hi
  obtain ⟨lin, epoch, hx⟩ : ∃ lin epoch, b.xlate ((b.cluster c).part.getD 31) (fqRemote d + 64 * i) (fqOp d != 0) =
      .there (pos i) lin epoch := by simpa [hdata] using hs.away
  have hwrite : (f.op != 1) = (fqOp d != 0) := by
    generalize f.op = n at hop
    rw [hop, succ_bne_one]
  generalize (t.pcacheLook die ((b.cluster c).part.getD 31) (fqRemote d + 64 * i)).fqOut c ticket i = g at hout
  have hxlate : g.xlate ((b.cluster c).part.getD 31) (fqRemote d + 64 * i) (f.op != 1) = .there (pos i) lin epoch := by
    rw [hout.frame.translates.xlate, hwrite]
    exact hx
  rw [runOwn_there hxlate (hout.noWait f (pos i))]
  have hop' : (g.retarget f (pos i) lin epoch).op = fqOp d + 1 := (op_retarget g f (pos i) lin epoch).trans hop
  have hlines' : (g.retarget f (pos i) lin epoch).lines = partLines b c d i := (lines_retarget g f (pos i) lin epoch).trans hlines
  generalize g.retarget f (pos i) lin epoch = m at hop' hlines'
  exact hout.sendReq hs hop' hlines'

end Issued

/-! ### A part is issued -/

section Issues

variable {s b t : State} {c ticket i p : Nat} {d : List Word} {pos : Nat → Nat} {sent out rest : List Nat} {src : ReqSrc}

/-- A part's request is translated and handed over. -/
def State.partGoes (s : State) (c ticket : Nat) (d : List Word) (i : Nat) (src : ReqSrc) (p : Nat) (f : Frame) : State :=
  ((s.pcacheLook (s.xlateDie c) p (fqRemote d + 64 * i)).fqOut c ticket i).runOwn src (some (c / 12)) p (fqRemote d + 64 * i) f

theorem issueData_bare (h : ¬ (fqOp d = 1 ∨ fqOp d = 2)) : s.issueData c ticket d i src p =
    s.partGoes c ticket d i src p (s.fqFrame c d (fqPartLen d i) 0 []) := by
  refine if_neg ?_
  simpa using h

theorem issueData_carries (h : fqOp d = 1 ∨ fqOp d = 2) (hl : fqLspace d = 0) : s.issueData c ticket d i src p =
    (s.modFq c ticket fun o => { o with poison := o.poison || false }).partGoes c ticket d i src p
      (s.fqFrame c d (fqPartLen d i) 0 (partLines s c d i)) := by
  have hfetch := fetchLines_allSram s (s.fqWho c ticket d)
    ((upTo (fqPartLen d i)).map fun j => (⟨fqLspace d, fqLocal d + 64 * (i + j)⟩ : Place2)) (by simp [hl])
  rw [List.map_map] at hfetch
  have hmask : packNat (((upTo (fqPartLen d i)).map ((fun x : Place2 => ((0 : Nat), s.csLine (s.fqWho c ticket d).c (x.addr % 2 ^ 23))) ∘
      fun j => (⟨fqLspace d, fqLocal d + 64 * (i + j)⟩ : Place2))).zipIdx.map fun r => (r.2, if r.1.1 = 0 then 0 else 1)) = 0 := by
    refine packNat_zeros fun x hx => ?_
    obtain ⟨r, hr, rfl⟩ := List.mem_map.mp hx
    obtain ⟨j, -, hj⟩ := List.mem_map.mp (List.fst_mem_of_mem_zipIdx hr)
    rw [← hj]
    rfl
  have hlines : partLines s c d i = (upTo (fqPartLen d i)).map fun j => s.csLine c ((fqLocal d + 64 * (i + j)) % 2 ^ 23) := if_pos h
  have hkind : (decide (fqOp d = 1) || decide (fqOp d = 2)) = true := by simpa using h
  unfold State.issueData
  dsimp only
  rw [if_pos hkind, hfetch]
  dsimp only
  rw [hmask, hlines, List.map_map]
  rfl

theorem Issued.linesSame (h : Issued b t c ticket d pos sent out rest) (i : Nat) : partLines t c d i = partLines b c d i := by
  unfold partLines
  simp only [h.frame.csLine]

/-- A part of an operation that moves data is issued. -/
theorem Issued.data (h : Issued b t c ticket d pos sent out (i :: rest)) (hi : i ∉ rest) (hs : Sends b c d pos i)
    (hdata : fqSignal d = false) : Issued b (t.issueData c ticket d i (partSrc c ticket d i) ((b.cluster c).part.getD 31))
      c ticket d pos (sent ++ [i]) (out ++ [i]) rest := by
  have hsmall : fqOp d ≤ 3 := by
    have hv := hs.valid
    simp only [fqSignal, Bool.or_eq_false_iff, beq_eq_false_iff_ne] at hdata
    omega
  have hlen : fqPartLen d i < 512 := (fqPartLen_le d i).trans_lt (by norm_num)
  by_cases hk : fqOp d = 1 ∨ fqOp d = 2
  · rw [issueData_carries hk hs.lspace]
    refine (h.clean false rfl).runOwn hi hs hdata (op_fqFrame hsmall hlen) ?_ _
    rw [lines_fqFrame, if_pos hk, h.linesSame]
  · rw [issueData_bare hk]
    refine h.runOwn hi hs hdata (op_fqFrame hsmall hlen) ?_ _
    rw [lines_fqFrame, if_neg hk, partLines, if_neg hk]

/-- The next part of an operation is issued. -/
theorem Issued.issuePart (h : Issued b t c ticket d pos sent out (i :: rest)) (hi : i ∉ rest) (hs : Sends b c d pos i) :
    Issued b (t.issuePart c ticket d i) c ticket d pos (sent ++ [i]) (out ++ [i]) rest := by
  have hpart : (t.cluster c).part = (b.cluster c).part := h.frame.part
  unfold State.issuePart
  dsimp only
  rw [h.notBlocked, if_neg Bool.false_ne_true, hpart]
  have haway := hs.away
  cases hsig : fqSignal d with
  | false =>
    rw [if_neg Bool.false_ne_true]
    exact h.data hi hs hsig
  | true =>
    rw [hsig, if_pos rfl] at haway
    obtain ⟨htarget, hposition⟩ := haway
    have helse : ¬ t.position = some (fqTarget d) := by
      rw [h.frame.translates.position, htarget]
      exact hposition
    rw [if_pos rfl, if_neg helse, htarget]
    have hlines : partLines b c d i = [] := if_neg (by
      simp only [fqSignal, Bool.or_eq_true, beq_iff_eq] at hsig
      omega)
    exact (h.fqOut hi).sendReq hs (op_fqSigFrame hs.valid) ((lines_mkReq ..).trans hlines.symm)

/-- The parts of an operation are issued in order. -/
theorem Issued.all (h : Issued b t c ticket d pos sent out rest) (hnodup : rest.Nodup) (hs : ∀ i ∈ rest, Sends b c d pos i) :
    Issued b (rest.foldl (fun s i => s.issuePart c ticket d i) t) c ticket d pos (sent ++ rest) (out ++ rest) [] := by
  induction rest generalizing t sent out with
  | nil =>
    rw [List.append_nil, List.append_nil]
    exact h
  | cons i rest ih =>
    obtain ⟨hi, hnodup'⟩ := List.nodup_cons.mp hnodup
    obtain ⟨hfirst, hlater⟩ := List.forall_mem_cons.mp hs
    have hstep := ih (h.issuePart hi hfirst) hnodup' hlater
    rw [List.append_assoc, List.append_assoc] at hstep
    exact hstep

/-- An operation that has just started sends the requests of all its parts. -/
theorem issueFq_issues (hops : (b.cluster c).fq = [opOf ticket d [] (fqParts d)]) (hquiet : b.quiet)
    (hs : ∀ i ∈ fqParts d, Sends b c d pos i) :
    Issued b (b.issueFq c ticket) c ticket d pos (fqParts d) (fqParts d) [] := by
  obtain ⟨hwaiting, hdead, hrounds⟩ := hquiet
  have hstart : Issued b b c ticket d pos [] [] (fqParts d) :=
    ⟨.refl b c, hops, (List.append_nil _).symm, fun w hw => by rw [hwaiting] at hw; exact (List.not_mem_nil hw).elim⟩
  have hall := hstart.all (fqParts_nodup d) hs
  have hfound : b.fqOf c ticket = some (opOf ticket d [] (fqParts d)) := by
    rw [State.fqOf, hops]
    exact List.find?_cons_of_pos (beq_self_eq_true ticket)
  have hdead' := (congrArg Fabric.dead hall.frame.fab :).trans hdead
  have hrounds' := (congrArg Place.rounds hall.frame.translates.place :).trans hrounds
  have hissue : b.issueFq c ticket = (fqParts d).foldl (fun s i => s.issuePart c ticket d i) b := by
    rw [State.issueFq, hfound]
    exact settle_calm hdead' hrounds'
  rw [hissue]
  exact hall

end Issues

/-! ### An operation starts (10 R353, R354) -/

section Starts

variable {s : State} {c ticket op : Nat} {e : QEntry} {pos : Nat → Nat}

theorem fqCmd_goes (hc : c < 48) (he : s.entry c 7 ticket = some e) (hon : s.clusterOn c = true) (hop : fqOp e.desc = op) :
    s.fqCmd c ticket op = go s (s.fqRun c e) := by
  rw [State.fqCmd, he]
  exact ifUnit_when _ _ (decide_eq_true hc) (by rw [hon, hop, beq_self_eq_true]; rfl)

theorem fqSigCmd_away {more : Bool} (h : s.position ≠ some (fqTarget e.desc)) (hc : c < 48) (he : s.entry c 7 ticket = some e)
    (hon : s.clusterOn c = true) (hop : fqOp e.desc = op) : s.fqSigCmd c ticket op more = go s (s.fqRun c e) := by
  have hfalse : ¬ (decide (s.position = some (fqTarget e.desc)) && decide (fqTcluster e.desc < 48)) = true := by simp [h]
  rw [State.fqSigCmd, he]
  refine (if_pos (decide_eq_true hc)).trans ((if_neg hfalse).trans (fqCmd_goes hc he hon hop))

/-- A command that starts an operation to other modules. -/
theorem exec_fqRow {p : Nat × (Nat → Nat → Bool → Instr)} (hp : p ∈ fqRows) (hc : c < 48) (he : s.entry c 7 ticket = some e)
    (hon : s.clusterOn c = true) (hop : fqOp e.desc = p.1) (haway : 4 ≤ p.1 → s.position ≠ some (fqTarget e.desc)) (more : Bool) :
    exec (p.2 c ticket more) s = go s (s.fqRun c e) := by
  simp only [fqRows, List.mem_cons, List.not_mem_nil, or_false] at hp
  obtain rfl | rfl | rfl | rfl | rfl | rfl := hp
  · exact fqCmd_goes hc he hon hop
  · exact fqCmd_goes hc he hon hop
  · exact fqCmd_goes hc he hon hop
  · exact fqCmd_goes hc he hon hop
  · exact fqSigCmd_away (haway le_rfl) hc he hon hop
  · exact fqSigCmd_away (haway (by omega)) hc he hon hop

theorem fqRow_bound {p : Nat × (Nat → Nat → Bool → Instr)} (hp : p ∈ fqRows) : p.1 ≤ 5 := by
  simp only [fqRows, List.mem_cons, List.not_mem_nil, or_false] at hp
  obtain rfl | rfl | rfl | rfl | rfl | rfl := hp <;> decide

/-- The FQ has the entry's operation. -/
def State.fqStarted (s : State) (c : Nat) (e : QEntry) : State :=
  (s.modEntry c 7 e.ticket fun x => { x with started := true }).modCluster c fun k => { k with
    fq := k.fq ++ [opOf e.ticket e.desc [] (fqParts e.desc)] }

theorem fqRun_starts (hmay : s.fqMayStart c e = true) (hv : fqValid e.desc = true) :
    s.fqRun c e = (s.fqStarted c e).issueFq c e.ticket := by
  rw [State.fqRun, if_pos hmay, State.startFq, hv, Bool.not_true, if_neg Bool.false_ne_true]
  rfl

theorem cluster_fqStarted (s : State) (c : Nat) (e : QEntry) : (s.fqStarted c e).cluster c = {
    (s.modEntry c 7 e.ticket fun x => { x with started := true }).cluster c with
    fq := (s.cluster c).fq ++ [opOf e.ticket e.desc [] (fqParts e.desc)] } := by
  rw [State.fqStarted, cluster_modCluster_same, cluster_modEntry, if_pos rfl]

/-- Of the cluster only the queues and the FQ's operations have changed. -/
theorem fqStarted_own (s : State) (c : Nat) (e : QEntry) :
    { (s.fqStarted c e).cluster c with queues := (s.cluster c).queues, fq := (s.cluster c).fq } = s.cluster c := by
  rw [cluster_fqStarted, cluster_modEntry, if_pos rfl]

theorem fqStarted_clusters (s : State) (c : Nat) (e : QEntry) (d : Nat) (hd : d ≠ c) : (s.fqStarted c e).cluster d = s.cluster d :=
  ((modCluster_onlyCluster _ c _).2 d hd).trans ((modCluster_onlyCluster s c _).2 d hd)

theorem fqStarted_translates (s : State) (c : Nat) (e : QEntry) : Translates s (s.fqStarted c e) := by
  have hentry : Translates s (s.modEntry c 7 e.ticket fun x => { x with started := true }) := by
    rw [State.modEntry, State.modQueue]
    exact modCluster_translates s c _
  rw [State.fqStarted]
  exact hentry.trans (modCluster_translates _ c _)

theorem fqStarted_part (s : State) (c : Nat) (e : QEntry) : ((s.fqStarted c e).cluster c).part = (s.cluster c).part :=
  (congrArg Cluster.part (fqStarted_own s c e) :)

theorem fqStarted_csram (s : State) (c : Nat) (e : QEntry) : ((s.fqStarted c e).cluster c).csram = (s.cluster c).csram :=
  (congrArg Cluster.csram (fqStarted_own s c e) :)

theorem fqStarted_entry (he : s.entry c 7 ticket = some e) :
    ((s.fqStarted c e).entry c 7 ticket).map QEntry.started = some true := by
  have hqueue : ((s.fqStarted c e).cluster c).queue 7 =
      ((s.modEntry c 7 e.ticket fun x => { x with started := true }).cluster c).queue 7 := by rw [cluster_fqStarted]; rfl
  rw [entry_congr hqueue, entry_ticket he, entry_modEntry, he]
  · rfl
  · exact fun _ => rfl

theorem partLines_fqStarted (s : State) (c : Nat) (e : QEntry) (i : Nat) :
    partLines (s.fqStarted c e) c e.desc i = partLines s c e.desc i := by
  unfold partLines State.csLine
  rw [fqStarted_csram]

theorem fqStarted_sends {i : Nat} (h : Sends s c e.desc pos i) : Sends (s.fqStarted c e) c e.desc pos i where
  valid := h.valid
  lspace := h.lspace
  away := by
    rw [fqStarted_part, (fqStarted_translates s c e).position, (fqStarted_translates s c e).xlate]
    exact h.away
  member := h.member
  leaving := h.leaving
  left := h.left
  portless := h.portless

/-- What an operation to other modules leaves once it has started. -/
theorem fqRun_sends (he : s.entry c 7 ticket = some e) (hmay : s.fqMayStart c e = true) (hv : fqValid e.desc = true)
    (hfq : (s.cluster c).fq = []) (hquiet : s.quiet) (hs : ∀ i ∈ fqParts e.desc, Sends s c e.desc pos i) :
    ∃ u, s.fqRun c e = u ∧ (u.entry c 7 ticket).map QEntry.started = some true
      ∧ u.fqOf c ticket = some (opOf ticket e.desc (fqParts e.desc) [])
      ∧ u.fab.waiting.map waitKey = (fqParts e.desc).map (partKey s c ticket e.desc pos)
      ∧ u.fab.outst = s.fab.outst ∧ u.fab.sent = s.fab.sent ∧ u.mem = s.mem ∧ (u.cluster c).csram = (s.cluster c).csram
      ∧ (∀ m, u.flag c m = s.flag c m) ∧ ∀ d, d ≠ c → u.cluster d = s.cluster d := by
  obtain rfl := entry_ticket he
  have hops : ((s.fqStarted c e).cluster c).fq = [opOf e.ticket e.desc [] (fqParts e.desc)] := by
    rw [cluster_fqStarted, hfq]
    rfl
  have hissued := issueFq_issues (b := s.fqStarted c e) (pos := pos) hops hquiet fun i hi => fqStarted_sends (hs i hi)
  have hentry := fqStarted_entry he
  refine ⟨_, fqRun_starts hmay hv, ?_⟩
  obtain ⟨hframe, hops', hwaiting, -⟩ := hissued
  generalize (s.fqStarted c e).issueFq c e.ticket = u at hframe hops' hwaiting
  refine ⟨?_, ?_, ?_, (congrArg Fabric.outst hframe.fab :), (congrArg Fabric.sent hframe.fab :), hframe.translates.mem,
    (congrArg Cluster.csram hframe.own :).trans (fqStarted_csram s c e), fun m => ?_,
    fun d hd => (hframe.clusters d hd).trans (fqStarted_clusters s c e d hd)⟩
  · rw [entry_congr (congrArg (Cluster.queue · 7) hframe.own :)]
    exact hentry
  · rw [State.fqOf, hops']
    exact List.find?_cons_of_pos (beq_self_eq_true e.ticket)
  · have hnone : (s.fqStarted c e).fab.waiting = [] := hquiet.1
    rw [hwaiting, hnone, List.map_nil, List.nil_append]
    refine List.map_congr_left fun i _ => ?_
    unfold partKey
    rw [partLines_fqStarted]
  · exact congrArg (Tab.get (0 : W32) · m) ((congrArg Cluster.flags hframe.own :).trans
      (congrArg Cluster.flags (fqStarted_own s c e) :))

end Starts

/-! ### A signal to a cluster of this module (11 R379) -/

section Here

variable {s t u : State} {c d n : Nat} {e : QEntry}

/-- What a change of one cluster keeps, it keeps of every cluster. -/
theorem kept_modCluster {α : Type} (g : Cluster → α) (s : State) (c : Nat) (f : Cluster → Cluster)
    (hf : ∀ k, g (f k) = g k) (j : Nat) : g ((s.modCluster c f).cluster j) = g (s.cluster j) := by
  rw [cluster_modCluster]
  split
  · subst_vars
    exact hf _
  · rfl

/-- A cluster apart from its queues, the FQ's operations and the open hearth cycle. -/
def Cluster.apartFq (k : Cluster) : Cluster := { k with queues := [], fq := [], cycle := none }

/-- Only queues, operations of an FQ and open hearth cycles have changed. -/
structure SignalReady (s t : State) : Prop where
  reads : ∀ j, (t.cluster j).apartFq = (s.cluster j).apartFq
  rest : { t with clusters := s.clusters } = s

theorem SignalReady.trans (h : SignalReady s t) (h' : SignalReady t u) : SignalReady s u :=
  ⟨fun j => (h'.reads j).trans (h.reads j),
    (congrArg (fun x : State => { x with clusters := s.clusters }) h'.rest).trans h.rest⟩

theorem modCluster_ready (s : State) (c : Nat) (f : Cluster → Cluster) (hf : ∀ k, (f k).apartFq = k.apartFq) :
    SignalReady s (s.modCluster c f) := ⟨kept_modCluster Cluster.apartFq s c f hf, rfl⟩

theorem openCycle_ready (s : State) (d : Nat) : SignalReady s (s.openCycle d) := by
  unfold State.openCycle
  split
  · exact ⟨fun _ => rfl, rfl⟩
  · refine modCluster_ready s d _ fun k => ?_
    rfl

theorem SignalReady.part (h : SignalReady s t) (j : Nat) : (t.cluster j).part = (s.cluster j).part := (congrArg Cluster.part (h.reads j) :)

theorem SignalReady.core (h : SignalReady s t) (j : Nat) : (t.cluster j).core = (s.cluster j).core := (congrArg Cluster.core (h.reads j) :)

theorem SignalReady.flag (h : SignalReady s t) (j m : Nat) : t.flag j m = s.flag j m :=
  congrArg (Tab.get (0 : W32) · m) (congrArg Cluster.flags (h.reads j) :)

theorem SignalReady.mgmt (h : SignalReady s t) : t.mgmt = s.mgmt := (congrArg State.mgmt h.rest :)

theorem SignalReady.values (h : SignalReady s t) : SameValues s t :=
  ⟨(congrArg (fun x : State => x.mgmt.od) h.rest :), (congrArg State.build h.rest :),
    (congrArg (fun x : State => x.crust.straps) h.rest :)⟩

theorem SignalReady.signalCheck (h : SignalReady s t) (d p : Nat) :
    t.signalCheck d (t.signalSpace p) (some p) = s.signalCheck d (s.signalSpace p) (some p) := by
  unfold State.signalCheck State.signalSpace
  rw [h.part]
  simp only [h.values.odNat]

theorem SignalReady.quiet (h : SignalReady s t) (hq : s.quiet) : t.quiet :=
  quiet_congr (congrArg State.fab h.rest :) (congrArg State.place h.rest :) hq

/-- The state in which a signal to a cluster of this module goes out, within the hearth cycle of that cluster. -/
def State.signals (s : State) (c d : Nat) (e : QEntry) : State := ((s.openCycle d).fqStarted c e).fqOut c e.ticket 0

theorem signals_ready (s : State) (c d : Nat) (e : QEntry) : SignalReady s (s.signals c d e) := by
  rw [State.signals, State.fqOut, State.modFq, State.fqStarted, State.modEntry, State.modQueue]
  refine (openCycle_ready s d).trans ?_
  generalize s.openCycle d = t
  refine (modCluster_ready t c _ fun k => ?queue).trans ((modCluster_ready _ c _ fun k => ?add).trans
    (modCluster_ready _ c _ fun k => ?out))
  case queue => rfl
  case add => rfl
  case out => rfl

theorem signals_cycle (s : State) (c d : Nat) (e : QEntry) (j : Nat) :
    ((s.signals c d e).cluster j).cycle = ((s.openCycle d).cluster j).cycle := by
  rw [State.signals, State.fqOut, State.modFq, State.fqStarted, State.modEntry, State.modQueue]
  refine (kept_modCluster Cluster.cycle _ c _ (fun k => ?out) j).trans ((kept_modCluster Cluster.cycle _ c _ (fun k => ?add) j).trans
    (kept_modCluster Cluster.cycle _ c _ (fun k => ?queue) j))
  case queue => rfl
  case add => rfl
  case out => rfl

theorem openCycle_fq (s : State) (d j : Nat) : ((s.openCycle d).cluster j).fq = (s.cluster j).fq := by
  unfold State.openCycle
  split
  · rfl
  · refine kept_modCluster Cluster.fq s d _ (fun k => ?_) j
    rfl

theorem openCycle_queue (s : State) (d j q : Nat) : ((s.openCycle d).cluster j).queue q = (s.cluster j).queue q := by
  unfold State.openCycle
  split
  · rfl
  · refine kept_modCluster (Cluster.queue · q) s d _ (fun k => ?_) j
    rfl

/-- The parts of a signal are one. -/
theorem fqParts_signal {ws : List Word} (h : fqOp ws = 4) : fqParts ws = [0] := by
  rw [fqParts, fqData, h]
  rfl

/-- A signal that starts, its cluster being one of this module. -/
theorem fqRun_signals (hmay : s.fqMayStart c e = true) (hv : fqValid e.desc = true) (hop : fqOp e.desc = 4)
    (hfq : (s.cluster c).fq = []) (hquiet : s.quiet) (hpos : s.position = some (fqTarget e.desc)) (hheld : s.fqWritesHeld c = false)
    (d : Nat) :
    (s.openCycle d).fqRun c e = ((s.signals c d e).fqSigHere c e.ticket e.desc).settle
      ∧ ((s.signals c d e).cluster c).fq = [opOf e.ticket e.desc [0] []] := by
  have hopen := openCycle_ready s d
  have hparts := fqParts_signal hop
  have hmay' : (s.openCycle d).fqMayStart c e = true := by
    unfold State.fqMayStart at hmay ⊢
    rw [openCycle_queue]
    exact hmay
  have hops : (((s.openCycle d).fqStarted c e).cluster c).fq = [opOf e.ticket e.desc [] [0]] := by
    rw [cluster_fqStarted, openCycle_fq, hfq, hparts]
    rfl
  have hstart : Issued ((s.openCycle d).fqStarted c e) ((s.openCycle d).fqStarted c e) c e.ticket e.desc (fun _ => 0) [] [] [0] :=
    ⟨.refl _ c, hops, (List.append_nil _).symm, fun w hw => by
      have hnone : ((s.openCycle d).fqStarted c e).fab.waiting = [] := (hopen.quiet hquiet).1
      rw [hnone] at hw
      exact (List.not_mem_nil hw).elim⟩
  have hout := (hstart.fqOut (i := 0) (rest := []) List.not_mem_nil).ops
  have hsignal : fqSignal e.desc = true := by rw [fqSignal, hop]; rfl
  have hposition : ((s.openCycle d).fqStarted c e).position = some (fqTarget e.desc) := by
    rw [(fqStarted_translates _ c e).position, State.position, hopen.values.odNat]
    exact hpos
  have hplace : ((s.openCycle d).fqStarted c e).place = s.place := (congrArg State.place hopen.rest :)
  have hwrites : ((s.openCycle d).fqStarted c e).fqWritesHeld c = false := by
    rw [State.fqWritesHeld, hplace]
    exact hheld
  have hfound : ((s.openCycle d).fqStarted c e).fqOf c e.ticket = some (opOf e.ticket e.desc [] [0]) := by
    rw [State.fqOf, hops]
    exact List.find?_cons_of_pos (beq_self_eq_true e.ticket)
  refine ⟨?_, hout⟩
  rw [fqRun_starts hmay' hv, State.issueFq, hfound]
  refine congrArg State.settle ?_
  change ((s.openCycle d).fqStarted c e).issuePart c e.ticket e.desc 0 = _
  unfold State.issuePart
  dsimp only
  rw [hstart.notBlocked, if_neg Bool.false_ne_true, hsignal, if_pos rfl, if_pos hposition, hwrites, Bool.and_false,
    if_neg Bool.false_ne_true]
  rfl

end Here

/-! ### What the signal does (11 R374, R379) -/

section Signal

variable {s t u : State} {c d n : Nat} {e : QEntry}

/-- The signal of an FQ's descriptor. -/
def fqHeld (s : State) (c ticket : Nat) (ws : List Word) : HeldSig where
  tcluster := fqTcluster ws
  tflag := fqTflag ws
  set_ := fqSigop ws == 1
  value := BitVec.ofNat 32 (Word.bits (jobWord ws 3) 31 0)
  count := fqCount ws
  since := s.crust.time
  reply := none
  localFq := some (c, ticket)

/-- An operation whose signal has been answered. -/
def FqOp.signalled (o : FqOp) (status : Nat) : FqOp :=
  { o with out := [], wfail := o.wfail || status != 0, err := if status = 0 then o.err else some (o.err.getD status) }

theorem signalAnswer_fq (t s : State) (c n : Nat) (ws : List Word) (status : Nat) :
    t.signalAnswer (fqHeld s c n ws) status = t.modFq c n fun o => o.signalled status := rfl

theorem fqSigHere_accepts {ws : List Word} (hop : fqOp ws = 4)
    (h : s.signalCheck (fqTcluster ws) (s.signalSpace ((s.cluster c).part.getD 31)) (some ((s.cluster c).part.getD 31)) = 0) :
    s.fqSigHere c n ws = (s.flagWrite (fqTcluster ws) 9 (fqTflag ws) (fqSigop ws == 1)
      (BitVec.ofNat 32 (Word.bits (jobWord ws 3) 31 0))).modFq c n fun o => o.signalled 0 := by
  unfold State.fqSigHere
  dsimp only
  rw [if_neg (not_not_intro h), if_pos hop]
  exact signalAnswer_fq ..

/-- A signal that is not accepted is counted, and logged at most once a second. -/
def State.rejects (s : State) (c : Nat) (ws : List Word) (k : Nat) : State :=
  s.signalReject (fqTcluster ws) (fqTflag ws) (BitVec.ofNat 32 (Word.bits (jobWord ws 3) 31 0) : W32).toNat s.pos c k (fqCount ws)
    (Tab.get {} s.arr (arrKey s.pos c)).a

theorem fqSigHere_rejects {ws : List Word} {k : Nat}
    (h : s.signalCheck (fqTcluster ws) (s.signalSpace ((s.cluster c).part.getD 31)) (some ((s.cluster c).part.getD 31)) = k)
    (hk : k ≠ 0) : s.fqSigHere c n ws = (s.rejects c ws k).modFq c n fun o => o.signalled 7 := by
  subst h
  unfold State.fqSigHere
  dsimp only
  rw [if_pos hk]
  exact signalAnswer_fq ..

theorem signalReject_counts (s : State) (tc tf v pos cl reason count arrived : Nat) :
    let t := s.signalReject tc tf v pos cl reason count arrived
    (∀ j, t.cluster j = s.cluster j) ∧ t.ctr 0xA000 4 = (s.ctr 0xA000 4 + 1) % 2 ^ 64
      ∧ { t with mgmt := s.mgmt, crust := s.crust } = s := by
  intro t
  have hlog : { t with crust := s.crust } = s.bump 0xA000 4 := logLimited_rest ..
  have hclusters : t.clusters = (s.bump 0xA000 4).clusters := (congrArg State.clusters hlog :)
  have hmgmt : t.mgmt = (s.bump 0xA000 4).mgmt := (congrArg State.mgmt hlog :)
  refine ⟨fun j => ?_, (ctr_congr hmgmt _ _).trans (ctr_bump s _ _ 1), ?_⟩
  · rw [State.cluster, hclusters]
    exact cluster_bump s 0xA000 4 1 64 j
  · exact (congrArg (fun x : State => { x with mgmt := s.mgmt }) hlog :).trans (bump_rest s 0xA000 4 1 64)

theorem fqOf_signalled (s : State) (c n st : Nat) :
    (s.modFq c n fun o => o.signalled st).fqOf c n = (s.fqOf c n).map fun o => o.signalled st := by
  refine fqOf_modFq s c n fun o => ?_
  rfl

/-- The operation of a signal that has gone out. -/
theorem signals_fqOf {ops : List FqOp} (h : ((s.signals c d e).cluster c).fq = opOf e.ticket e.desc [0] [] :: ops) :
    (s.signals c d e).fqOf c e.ticket = some (opOf e.ticket e.desc [0] []) := by
  rw [State.fqOf, h]
  exact List.find?_cons_of_pos (beq_self_eq_true e.ticket)

/-- What an accepted signal leaves, within the hearth cycle of its cluster. -/
structure Accepted (s u : State) (c d n : Nat) (e : QEntry) (fc : FlagCycle) : Prop where
  flag : u.flag d n = fc.value n
  cycle : (u.cluster d).cycle = some fc
  others : ∀ j m, (j, m) ≠ (d, n) → u.flag j m = s.flag j m
  events : (u.cluster d).core.events = (s.cluster d).core.events ||| 0x100
  op : u.fqOf c e.ticket = some ((opOf e.ticket e.desc [0] []).signalled 0)
  rest : { u with clusters := s.clusters } = s

theorem signal_accepted (hpart : (s.cluster d).part.isSome = true)
    (hops : ((s.signals c d e).cluster c).fq = [opOf e.ticket e.desc [0] []]) (n : Nat) (set_ : Bool) (v : W32) :
    Accepted s (((s.signals c d e).flagWrite d 9 n set_ v).modFq c e.ticket fun o => o.signalled 0) c d n e (s.cycleWith d 9 n set_ v) := by
  have hready := signals_ready s c d e
  have hcycle := (signals_cycle s c d e d).trans (congrArg Cluster.cycle (cluster_openCycle hpart))
  have hop := signals_fqOf hops
  generalize s.signals c d e = W at hready hcycle hop
  have hwrite : W.flagWrite d 9 n set_ v = (W.cycleWrites d (s.cycleWith d 9 n set_ v) n).modCore d (Core.raised · 8) :=
    (flagWrite_open hcycle 9 n set_ v).trans ((if_neg (by norm_num)).trans
      (coreEvent_open (congrArg Cluster.cycle (cluster_cycleWrites W d _ n)) 8))
  have hself := cluster_cycleWrites W d (s.cycleWith d 9 n set_ v) n
  have honly := cycleWrites_onlyCluster W d (s.cycleWith d 9 n set_ v) n
  rw [hwrite]
  generalize s.cycleWith d 9 n set_ v = fc at hself honly
  generalize W.cycleWrites d fc n = X at hself honly
  have hflags (j : Nat) : (((X.modCore d (Core.raised · 8)).modFq c e.ticket fun o => o.signalled 0).cluster j).flags =
      (X.cluster j).flags := by
    refine (kept_modCluster Cluster.flags _ c _ (fun k => ?_) j).trans (kept_modCluster Cluster.flags X d _ (fun k => ?_) j)
    · rfl
    · rfl
  have hcycles (j : Nat) : (((X.modCore d (Core.raised · 8)).modFq c e.ticket fun o => o.signalled 0).cluster j).cycle =
      (X.cluster j).cycle := by
    refine (kept_modCluster Cluster.cycle _ c _ (fun k => ?_) j).trans (kept_modCluster Cluster.cycle X d _ (fun k => ?_) j)
    · rfl
    · rfl
  refine ⟨?_, ?_, fun j m hjm => ?_, ?_, ?_, ?_⟩
  · rw [State.flag, hflags, hself]
    exact Tab.get_set_same _ _ _ _
  · rw [hcycles, hself]
    rfl
  · refine Eq.trans ?_ (hready.flag j m)
    rw [State.flag, hflags]
    by_cases hj : j = d
    · subst hj
      rw [hself]
      exact Tab.get_set_ne _ _ _ fun hm => hjm (by rw [hm])
    · rw [honly.2 j hj, State.flag]
  · have hcore : (((X.modCore d (Core.raised · 8)).modFq c e.ticket fun o => o.signalled 0).cluster d).core =
        ((X.modCore d (Core.raised · 8)).cluster d).core := by
      refine kept_modCluster Cluster.core _ c _ (fun k => ?_) d
      rfl
    rw [hcore, cluster_modCore_same, hself]
    exact congrArg (fun k : Core => k.events ||| BitVec.ofNat 9 (2 ^ 8)) (hready.core d)
  · have hfq : ((X.modCore d (Core.raised · 8)).cluster c).fq = (W.cluster c).fq := by
      refine (kept_modCluster Cluster.fq X d _ (fun k => ?_) c).trans ?_
      · rfl
      · by_cases hc : c = d
        · subst hc
          rw [hself]
          rfl
        · rw [honly.2 c hc]
    rw [fqOf_signalled, State.fqOf, hfq, ← State.fqOf, hop]
    rfl
  · exact (congrArg (fun x : State => { x with clusters := s.clusters }) (honly.1.trans rfl) :).trans hready.rest

/-- A hearth cycle in which nothing was written ends: no flag word and no operation changes. -/
theorem closeCycle_unwritten (h : ∀ fc, (s.cluster c).cycle = some fc → fc.writes = []) :
    OnlyCluster s (s.closeCycle c) c ∧ ((s.closeCycle c).cluster c).flags = (s.cluster c).flags
      ∧ ((s.closeCycle c).cluster c).fq = (s.cluster c).fq := by
  unfold State.closeCycle
  split
  · exact ⟨.refl s c, rfl, rfl⟩
  · rename_i fc hfc
    have hself := cluster_modCluster_same s c fun k => { k with cycle := none }
    have honly := modCluster_onlyCluster s c fun k => { k with cycle := none }
    rw [h fc hfc]
    generalize s.modCluster c (fun k => { k with cycle := none }) = T at hself honly
    have hheads : (upTo 8).foldl (fun s q => s.evalHead c [] q) T = T :=
      foldl_id fun q hq => evalHead_calm (List.mem_range.mp hq) fun _ hn => (List.not_mem_nil hn).elim
    have hcore : T.evalCore c [] = T := by
      unfold State.evalCore
      split
      · exact if_neg (by simp)
      · rfl
    have heval : T.evalWaits c [] = T.noteHeads c := by rw [evalWaits_eq, hheads, hcore]
    have hnote := noteHeads_retimed T c
    have hwake := modCore_onlyCore (T.noteHeads c) c Core.wakeWfe
    rw [List.map_nil, heval]
    have hfields : ((T.noteHeads c).modCore c Core.wakeWfe).cluster c = {
        (T.cluster c) with
        core := (((T.noteHeads c).modCore c Core.wakeWfe).cluster c).core
        queues := ((T.noteHeads c).cluster c).queues } := by
      rw [cluster_modCore_same]
      exact (congrArg (fun k : Cluster => { k with
        core := ((T.noteHeads c).cluster c).core.wakeWfe, queues := ((T.noteHeads c).cluster c).queues }) hnote.own :)
    rw [hfields, hself]
    exact ⟨(honly.trans hnote.only).trans hwake.1, rfl, rfl⟩

end Signal

section SignalCommand

variable {s t u : State} {c d n ticket : Nat} {e : QEntry}

/-- What a refused signal leaves. -/
structure Refused (s u : State) (c : Nat) (e : QEntry) : Prop where
  flags : ∀ j m, u.flag j m = s.flag j m
  counted : u.ctr 0xA000 4 = (s.ctr 0xA000 4 + 1) % 2 ^ 64
  op : u.fqOf c e.ticket = some ((opOf e.ticket e.desc [0] []).signalled 7)
  rest : { u with clusters := s.clusters, mgmt := s.mgmt, crust := s.crust } = s

theorem signal_refused (hops : ((s.signals c d e).cluster c).fq = [opOf e.ticket e.desc [0] []]) (k : Nat) :
    let u := ((s.signals c d e).rejects c e.desc k).modFq c e.ticket fun o => o.signalled 7
    Refused s u c e ∧ (u.cluster d).cycle = ((s.openCycle d).cluster d).cycle := by
  dsimp only
  have hready := signals_ready s c d e
  have hcycle := signals_cycle s c d e d
  have hop := signals_fqOf hops
  generalize s.signals c d e = W at hready hcycle hop
  obtain ⟨hclusters, hctr, hrest⟩ := signalReject_counts W (fqTcluster e.desc) (fqTflag e.desc)
    (BitVec.ofNat 32 (Word.bits (jobWord e.desc 3) 31 0) : W32).toNat W.pos c k (fqCount e.desc)
    (Tab.get {} W.arr (arrKey W.pos c)).a
  have hX : W.rejects c e.desc k = W.signalReject (fqTcluster e.desc) (fqTflag e.desc)
    (BitVec.ofNat 32 (Word.bits (jobWord e.desc 3) 31 0) : W32).toNat W.pos c k (fqCount e.desc)
    (Tab.get {} W.arr (arrKey W.pos c)).a := rfl
  rw [hX]
  generalize W.signalReject (fqTcluster e.desc) (fqTflag e.desc)
    (BitVec.ofNat 32 (Word.bits (jobWord e.desc 3) 31 0) : W32).toNat W.pos c k (fqCount e.desc)
    (Tab.get {} W.arr (arrKey W.pos c)).a = X at hclusters hctr hrest
  refine ⟨⟨fun j m => ?_, ?_, ?_, ?_⟩, ?_⟩
  · refine Eq.trans ?_ (hready.flag j m)
    have hflags : ((X.modFq c e.ticket fun o => o.signalled 7).cluster j).flags = (W.cluster j).flags := by
      refine (kept_modCluster Cluster.flags X c _ (fun k => ?_) j).trans (congrArg Cluster.flags (hclusters j))
      rfl
    rw [State.flag, hflags, State.flag]
  · refine hctr.trans ?_
    rw [ctr_congr hready.mgmt]
  · rw [fqOf_signalled, State.fqOf, hclusters, ← State.fqOf, hop]
    rfl
  · exact (congrArg (fun x : State => { x with clusters := s.clusters, mgmt := s.mgmt, crust := s.crust }) hrest :).trans
      (congrArg (fun x : State => { x with mgmt := s.mgmt, crust := s.crust }) hready.rest :)
  · refine (kept_modCluster Cluster.cycle X c _ (fun k => ?_) d).trans ?_
    · rfl
    · rw [hclusters, hcycle]

/-- A hearth cycle that has just begun has no writes. -/
theorem openCycle_unwritten (h : (s.cluster d).cycle = none) (fc : FlagCycle)
    (hfc : ((s.openCycle d).cluster d).cycle = some fc) : fc.writes = [] := by
  unfold State.openCycle at hfc
  split at hfc
  · rw [h] at hfc
    cases hfc
  · rw [cluster_modCluster_same] at hfc
    cases hfc
    rfl

/-- The hearth cycle of the refused signal goes on, or ends with nothing written. -/
theorem Refused.ends (h : Refused s u c e) {more : Bool} (hend : more = true ∨ ∀ fc, (u.cluster d).cycle = some fc → fc.writes = []) :
    Refused s (u.cycleEnd d more) c e := by
  cases more with
  | true => exact h
  | false =>
    obtain ⟨honly, hflags, hfq⟩ := closeCycle_unwritten (hend.resolve_left Bool.false_ne_true)
    have hcycle : u.cycleEnd d false = u.closeCycle d := rfl
    rw [hcycle]
    generalize u.closeCycle d = v at honly hflags hfq
    have hall (j : Nat) : (v.cluster j).flags = (u.cluster j).flags ∧ (v.cluster j).fq = (u.cluster j).fq := by
      by_cases hj : j = d
      · rw [hj]
        exact ⟨hflags, hfq⟩
      · rw [honly.2 j hj]
        exact ⟨rfl, rfl⟩
    refine ⟨fun j m => ?_, (ctr_congr (congrArg State.mgmt honly.1 :) _ _).trans h.counted, ?_, ?_⟩
    · rw [State.flag, (hall j).1]
      exact h.flags j m
    · rw [State.fqOf, (hall c).2]
      exact h.op
    · exact (congrArg (fun x : State => { x with clusters := s.clusters, mgmt := s.mgmt, crust := s.crust }) honly.1 :).trans h.rest

/-- A signal's command for a cluster of this module. -/
theorem exec_fqSignal_here {more : Bool} (hpos : s.position = some (fqTarget e.desc)) (htc : fqTcluster e.desc < 48) (hc : c < 48)
    (he : s.entry c 7 ticket = some e) (hon : s.clusterOn c = true) (hop : fqOp e.desc = 4) :
    exec (.fqSignal c ticket more) s = go s (((s.openCycle (fqTcluster e.desc)).fqRun c e).cycleEnd (fqTcluster e.desc) more) := by
  have htrue : (decide (s.position = some (fqTarget e.desc)) && decide (fqTcluster e.desc < 48)) = true := by simp [hpos, htc]
  have hexec : exec (.fqSignal c ticket more) s = s.fqSigCmd c ticket 4 more := rfl
  rw [hexec, State.fqSigCmd, he]
  refine (if_pos (decide_eq_true hc)).trans ((if_pos htrue).trans (if_pos ?_))
  rw [hon, hop]
  rfl

/-- What is known of a signal's entry that starts, its cluster being one of this module. -/
structure SignalStarts (s : State) (c ticket : Nat) (e : QEntry) : Prop where
  here : c < 48
  entry : s.entry c 7 ticket = some e
  on : s.clusterOn c = true
  op : fqOp e.desc = 4
  may : s.fqMayStart c e = true
  valid : fqValid e.desc = true
  first : (s.cluster c).fq = []
  quiet : s.quiet
  position : s.position = some (fqTarget e.desc)
  target : fqTcluster e.desc < 48
  writes : s.fqWritesHeld c = false

theorem signals_check {k : Nat}
    (hk : s.signalCheck (fqTcluster e.desc) (s.signalSpace ((s.cluster c).part.getD 31)) (some ((s.cluster c).part.getD 31)) = k) :
    let W := s.signals c (fqTcluster e.desc) e
    W.signalCheck (fqTcluster e.desc) (W.signalSpace ((W.cluster c).part.getD 31)) (some ((W.cluster c).part.getD 31)) = k := by
  have hready := signals_ready s c (fqTcluster e.desc) e
  dsimp only
  rw [hready.part, hready.signalCheck, hk]

theorem signal_accepts (h : SignalStarts s c ticket e)
    (hk : s.signalCheck (fqTcluster e.desc) (s.signalSpace ((s.cluster c).part.getD 31)) (some ((s.cluster c).part.getD 31)) = 0) :
    Completes (.fqSignal c ticket true) s fun u => Accepted s { u with build := s.build, pending := s.pending } c (fqTcluster e.desc)
      (fqTflag e.desc) e (s.cycleWith (fqTcluster e.desc) 9 (fqTflag e.desc) (fqSigop e.desc == 1)
        (BitVec.ofNat 32 (Word.bits (jobWord e.desc 3) 31 0))) := by
  obtain ⟨hrun, hops⟩ := fqRun_signals h.may h.valid h.op h.first h.quiet h.position h.writes (fqTcluster e.desc)
  have hpart : (s.cluster (fqTcluster e.desc)).part.isSome = true := by
    rw [State.signalCheck, if_pos h.target] at hk
    cases hp : (s.cluster (fqTcluster e.desc)).part with
    | none => rw [hp] at hk; cases hk
    | some _ => rfl
  have hdone := signal_accepted hpart hops (fqTflag e.desc) (fqSigop e.desc == 1) (BitVec.ofNat 32 (Word.bits (jobWord e.desc 3) 31 0))
  have hx := exec_fqSignal_here (more := true) h.position h.target h.here h.entry h.on h.op
  rw [hrun, fqSigHere_accepts h.op (signals_check hk)] at hx
  generalize ((s.signals c (fqTcluster e.desc) e).flagWrite (fqTcluster e.desc) 9 (fqTflag e.desc) (fqSigop e.desc == 1)
    (BitVec.ofNat 32 (Word.bits (jobWord e.desc 3) 31 0))).modFq c e.ticket (fun o => o.signalled 0) = Z at hdone hx
  have hquiet : Z.quiet := quiet_congr (congrArg State.fab hdone.rest :) (congrArg State.place hdone.rest :) h.quiet
  rw [settle_quiet _ hquiet] at hx
  obtain ⟨hflag, hcycle, hothers, hevents, hop, hrest⟩ := hdone
  exact completes_go hx ⟨hflag, hcycle, hothers, hevents, hop,
    (congrArg (fun x : State => { x with build := s.build, pending := s.pending }) hrest :)⟩

theorem signal_refuses (h : SignalStarts s c ticket e)
    (hk : s.signalCheck (fqTcluster e.desc) (s.signalSpace ((s.cluster c).part.getD 31)) (some ((s.cluster c).part.getD 31)) ≠ 0)
    {more : Bool} (hend : more = true ∨ (s.cluster (fqTcluster e.desc)).cycle = none) :
    Completes (.fqSignal c ticket more) s fun u => Refused s { u with build := s.build, pending := s.pending } c e := by
  obtain ⟨hrun, hops⟩ := fqRun_signals h.may h.valid h.op h.first h.quiet h.position h.writes (fqTcluster e.desc)
  obtain ⟨hdone, hcycle⟩ := signal_refused hops
    (s.signalCheck (fqTcluster e.desc) (s.signalSpace ((s.cluster c).part.getD 31)) (some ((s.cluster c).part.getD 31)))
  have hx := exec_fqSignal_here (more := more) h.position h.target h.here h.entry h.on h.op
  rw [hrun, fqSigHere_rejects (signals_check rfl) hk] at hx
  generalize ((s.signals c (fqTcluster e.desc) e).rejects c e.desc (s.signalCheck (fqTcluster e.desc)
    (s.signalSpace ((s.cluster c).part.getD 31)) (some ((s.cluster c).part.getD 31)))).modFq c e.ticket
      (fun o => o.signalled 7) = Z at hdone hcycle hx
  have hquiet : Z.quiet := quiet_congr (congrArg State.fab hdone.rest :) (congrArg State.place hdone.rest :) h.quiet
  rw [settle_quiet _ hquiet] at hx
  obtain ⟨hflags, hcounted, hop, hrest⟩ := hdone.ends (d := fqTcluster e.desc) (more := more)
    (hend.imp_right fun hnone fc hfc => openCycle_unwritten hnone fc (hcycle.symm.trans hfc))
  exact completes_go hx ⟨hflags, hcounted, hop,
    (congrArg (fun x : State => { x with build := s.build, pending := s.pending }) hrest :)⟩

end SignalCommand

/-! ### A started operation completes (10 R344, R354) -/

section Closes

variable {s g : State} {c n st d : Nat} {o : FqOp} {e : QEntry} {aborting : Option Nat}

theorem endFq_ends (he : s.entry c 7 n = some e) (hopen : e.compl = none) (st d : Nat) :
    let u := s.endFq c n st d
    u.fqOf c n = none ∧ (u.entry c 7 n).bind QEntry.compl = some (st, d) ∧ u.mem = s.mem
      ∧ (u.cluster c).csram = (s.cluster c).csram ∧ ∀ j, j ≠ c → u.cluster j = s.cluster j := by
  have hself := cluster_modCluster_same (s.complete c 7 n st d) c fun k => { k with fq := k.fq.filter fun o => o.ticket != n }
  have honly := modCluster_onlyCluster (s.complete c 7 n st d) c fun k => { k with fq := k.fq.filter fun o => o.ticket != n }
  have hcomplete := complete_stopFrame s c 7 n st d
  have hentry : (s.complete c 7 n st d).entry c 7 n = some { e with compl := some (st, d) } := by
    rw [State.complete, entry_modEntry, he]
    · simp [hopen]
    · intro e
      split <;> rfl
  have hu : s.endFq c n st d = ((s.complete c 7 n st d).modCluster c fun k => { k with
    fq := k.fq.filter fun o => o.ticket != n }).clearPool (.fq c n) fun _ => true := rfl
  dsimp only
  rw [hu]
  generalize (s.complete c 7 n st d).modCluster c (fun k => { k with fq := k.fq.filter fun o => o.ticket != n }) = X at hself honly
  generalize s.complete c 7 n st d = C at hself honly hcomplete hentry
  refine ⟨?_, ?_, ?_, ?_, fun j hj => (honly.2 j hj).trans (hcomplete.clusters j hj)⟩
  · change (X.cluster c).fq.find? (fun o => o.ticket == n) = none
    rw [hself]
    refine List.find?_eq_none.mpr fun o ho => ?_
    have hne := (List.mem_filter.mp ho).2
    simpa using hne
  · change (X.entry c 7 n).bind QEntry.compl = _
    rw [entry_congr (congrArg (Cluster.queue · 7) hself :)]
    exact congrArg (Option.bind · QEntry.compl) hentry
  · exact (congrArg State.mem honly.1 :).trans (congrArg State.mem hcomplete.rest :)
  · change (X.cluster c).csram = _
    rw [hself]
    exact (congrArg Cluster.csram hcomplete.own :)

/-- The status with which an operation completes that was not stopped. -/
def FqOp.status (o : FqOp) (failed : Bool) : Nat := if o.wfail || failed then 5 else if o.poison then 1 else 0

theorem closeFq_ends (ho : s.fqOf c n = some o) (hset : s.settled (.fq c n) = true) (aborting : Option Nat) :
    s.closeFq c n aborting = (s.takeFail (.fq c n)).1.endFq c n
      (aborting.getD (o.status (s.fab.fails.any fun f => f.1 == .fq c n))) (o.err.getD 0) := by
  rw [State.closeFq, ho]
  exact if_neg (by rw [hset]; exact Bool.false_ne_true)

theorem closeFq_leaves (ho : s.fqOf c n = some o) (he : s.entry c 7 n = some e) (hopen : e.compl = none)
    (hset : s.settled (.fq c n) = true) (aborting : Option Nat) :
    let u := s.closeFq c n aborting
    u.fqOf c n = none ∧ (u.entry c 7 n).bind QEntry.compl =
        some (aborting.getD (o.status (s.fab.fails.any fun f => f.1 == .fq c n)), o.err.getD 0)
      ∧ u.mem = s.mem ∧ (u.cluster c).csram = (s.cluster c).csram ∧ ∀ j, j ≠ c → u.cluster j = s.cluster j := by
  dsimp only
  rw [closeFq_ends ho hset]
  exact endFq_ends (s := (s.takeFail (.fq c n)).1) he hopen _ _

theorem exec_fqOpComplete (hc : c < 48) (ho : s.fqOf c n = some o) (he : s.entry c 7 n = some e) (hon : s.clusterOn c = true)
    (htodo : o.todo = []) (hout : o.out = []) : exec (.fqOpComplete c n) s = go s (s.finishFq c o e.aborting) := by
  have hexec : exec (.fqOpComplete c n) s = execFqOpComplete c n s := rfl
  rw [hexec, execFqOpComplete, ho, he]
  exact ifUnit_when _ _ (decide_eq_true hc) (by rw [hon, htodo, hout]; rfl)

/-- The results of an operation have been written. -/
def FqOp.written (o : FqOp) (sts : List Nat) : FqOp :=
  { o with
    wrote := true
    wfail := o.wfail || sts.any (· != 0)
    err := match sts.find? (· != 0) with
      | some e => some (o.err.getD e)
      | none => o.err }

theorem finishFq_written (h : o.wrote = true ∨ o.results = []) : s.finishFq c o aborting = s.closeFq c o.ticket aborting :=
  if_pos (by simpa using h)

theorem finishFq_writes {sts : List Nat} (hwrote : o.wrote = false) (hres : o.results ≠ [])
    (hstore : s.storeLines (s.fqWho c o.ticket o.desc) o.results = (g, some sts)) :
    s.finishFq c o aborting = (g.modFq c o.ticket fun x => x.written sts).closeFq c o.ticket aborting := by
  rw [State.finishFq, if_neg (by simp [hwrote, hres])]
  dsimp only
  rw [hstore]
  rfl

theorem err_written (o : FqOp) (sts : List Nat) : (o.written sts).err.getD 0 = o.err.getD ((sts.find? (· != 0)).getD 0) := by
  unfold FqOp.written
  cases sts.find? (· != 0) with
  | none => rfl
  | some e => rfl

end Closes

section Operations

variable {s : State} {c ticket : Nat} {e : QEntry} {o : FqOp}

theorem waitKey_partKey {ws : List Waiting} {d : List Word} {pos : Nat → Nat} {op : Nat} (hop : fqOp d = op)
    (h : ws.map waitKey = (fqParts d).map (partKey s c ticket d pos)) :
    ws.map (fun w => (w.pos, w.hearth, w.src, w.frame.op, w.frame.lines)) = (fqParts d).map fun i =>
      (pos i, some (c / 12), ReqSrc.fq c ticket i (if op ≤ 2 then fqPartLen d i else 1), op + 1,
        if op = 1 ∨ op = 2 then (upTo (fqPartLen d i)).map fun j => s.csLine c ((fqLocal d + 64 * (i + j)) % 2 ^ 23) else []) := by
  subst hop
  refine h.trans (List.map_congr_left fun i _ => ?_)
  unfold partKey partSrc partLines fqData
  simp only [decide_eq_true_eq]

/-- A started operation completes once its results have taken effect. -/
theorem fqOp_completes (hc : c < 48) (ho : s.fqOf c ticket = some o) (he : s.entry c 7 ticket = some e) (hopen : e.compl = none)
    (hon : s.clusterOn c = true) (hticket : o.ticket = ticket) (htodo : o.todo = []) (hout : o.out = [])
    (hdone : o.wrote = true ∨ o.results = []) (hset : s.settled (.fq c ticket) = true) :
    Completes (.fqOpComplete c ticket) s fun u => u.fqOf c ticket = none
      ∧ (u.entry c 7 ticket).bind QEntry.compl = some (e.aborting.getD
        (if o.wfail || s.fab.fails.any (fun f => f.1 == .fq c ticket) then 5 else if o.poison then 1 else 0), o.err.getD 0)
      ∧ u.mem = s.mem ∧ ∀ d, d ≠ c → u.cluster d = s.cluster d := by
  obtain ⟨hgone, hentry, hmem, -, hothers⟩ := closeFq_leaves ho he hopen hset e.aborting
  have hx := exec_fqOpComplete hc ho he hon htodo hout
  rw [finishFq_written hdone, hticket] at hx
  exact completes_go hx ⟨hgone, hentry, hmem, hothers⟩

/-- An operation writes its results, and completes with what has come of them. -/
theorem fqOp_writes {g : State} {sts : List Nat} (hc : c < 48) (ho : s.fqOf c ticket = some o) (he : s.entry c 7 ticket = some e)
    (hopen : e.compl = none) (hon : s.clusterOn c = true) (hticket : o.ticket = ticket) (htodo : o.todo = []) (hout : o.out = [])
    (hwrote : o.wrote = false) (hres : o.results ≠ []) (hstore : s.storeLines (s.fqWho c ticket o.desc) o.results = (g, some sts))
    (hg : g.fqOf c ticket = some o) (hge : g.entry c 7 ticket = some e) (hset : g.settled (.fq c ticket) = true) :
    Completes (.fqOpComplete c ticket) s fun u => u.fqOf c ticket = none
      ∧ (u.entry c 7 ticket).bind QEntry.compl = some (e.aborting.getD
        (if o.wfail || sts.any (· != 0) || g.fab.fails.any (fun f => f.1 == .fq c ticket) then 5 else if o.poison then 1 else 0),
          o.err.getD ((sts.find? (· != 0)).getD 0))
      ∧ u.mem = g.mem ∧ (u.cluster c).csram = (g.cluster c).csram := by
  have hframe := modFq_frame g c ticket fun x => x.written sts
  have hfound : (g.modFq c ticket fun x => x.written sts).fqOf c ticket = some (o.written sts) := by
    rw [fqOf_modFq, hg]
    · rfl
    · exact fun _ => rfl
  have hentry : (g.modFq c ticket fun x => x.written sts).entry c 7 ticket = some e :=
    (entry_congr (congrArg (Cluster.queue · 7) hframe.own :) ticket).trans hge
  have hset' : (g.modFq c ticket fun x => x.written sts).settled (.fq c ticket) = true := hset
  have hfails : (g.modFq c ticket fun x => x.written sts).fab.fails = g.fab.fails := rfl
  have hx := exec_fqOpComplete hc ho he hon htodo hout
  rw [finishFq_writes hwrote hres (by rw [hticket]; exact hstore), hticket] at hx
  have hleaves := closeFq_leaves hfound hentry hopen hset' e.aborting
  rw [hfails] at hleaves
  obtain ⟨hgone, hcompl, hmem, hsram, -⟩ := hleaves
  rw [err_written] at hcompl
  exact completes_go hx ⟨hgone, hcompl, hmem.trans hframe.translates.mem, hsram.trans (congrArg Cluster.csram hframe.own :)⟩

end Operations

/-- Settles O37, by the parts of an operation in order, the signal within its cluster's hearth cycle, and the completion. -/
theorem fqOperations : Obligations.FqOperations := by
  unfold Obligations.FqOperations
  refine ⟨?sends, ?signals, ?completes⟩
  case sends =>
    intro p hp c ticket more pos lin epoch s e hc he hon hop hmay hv hl hfq hquiet hpos hmember hleaving hleft hroutes hup
    have hbound := fqRow_bound hp
    have hdata : 4 ≤ p.1 → fqParts e.desc = [0] := fun h => by
      have hnot : ¬ fqOp e.desc ≤ 2 := by omega
      rw [fqParts, fqData, decide_eq_false hnot]
      rfl
    have hsignal : fqSignal e.desc = decide (4 ≤ p.1) := by
      rw [fqSignal, hop, Bool.eq_iff_iff]
      simp only [Bool.or_eq_true, beq_iff_eq, decide_eq_true_eq]
      omega
    have hs : ∀ i ∈ fqParts e.desc, Sends s c e.desc pos i := fun i hi => by
      refine ⟨hop ▸ hbound, hl, ?_, hmember i hi, hleaving, hleft, hroutes, hup⟩
      rw [hsignal]
      by_cases h4 : 4 ≤ p.1
      · rw [if_pos h4] at hpos
        rw [hdata h4, List.mem_singleton] at hi
        rw [if_pos (decide_eq_true h4), hi]
        exact hpos
      · rw [if_neg h4] at hpos
        rw [if_neg (by simpa using h4)]
        exact ⟨lin i, epoch i, hpos i hi⟩
    have haway : 4 ≤ p.1 → s.position ≠ some (fqTarget e.desc) := fun h4 => by
      rw [if_pos h4] at hpos
      rw [hpos.1]
      exact hpos.2
    obtain ⟨u, hrun, hstarted, hfound, hwaiting, houtst, hsent, hmem, hsram, hflags, hothers⟩ :=
      fqRun_sends (pos := pos) he hmay hv hfq hquiet hs
    have hx := exec_fqRow hp hc he hon hop haway more
    rw [hrun] at hx
    exact completes_go hx ⟨hstarted, ⟨_, hfound, rfl, rfl, rfl⟩, waitKey_partKey hop hwaiting, houtst, hsent,
      hmem, hsram, hflags, hothers⟩
  case signals =>
    intro c ticket s e hc he hon hop hmay hv hfq hquiet hpos htc hheld p d n fc
    have h : SignalStarts s c ticket e := ⟨hc, he, hon, hop, hmay, hv, hfq, hquiet, hpos, htc, hheld⟩
    have hticket := entry_ticket he
    refine ⟨fun hk => ?_, fun hk more hend => ?_⟩
    · obtain ⟨u, hx, hdone⟩ := signal_accepts h hk
      refine ⟨u, hx, hdone.flag, hdone.cycle, hdone.others, hdone.events, ?_, (congrArg State.mem hdone.rest :)⟩
      rw [← hticket]
      exact congrArg (Option.map fun o : FqOp => (o.todo, o.out, o.wfail, o.err)) hdone.op
    · obtain ⟨u, hx, hdone⟩ := signal_refuses h hk hend
      refine ⟨u, hx, hdone.flags, hdone.counted, ?_, (congrArg State.mem hdone.rest :)⟩
      rw [← hticket]
      exact congrArg (Option.map fun o : FqOp => (o.todo, o.out, o.wfail, o.err)) hdone.op
  case completes =>
    intro c ticket s o e hc ho he hopen hon hticket htodo hout
    exact ⟨fun hdone hset => fqOp_completes hc ho he hopen hon hticket htodo hout hdone hset,
      fun g sts hwrote hres hstore hg hge hset =>
        fqOp_writes hc ho he hopen hon hticket htodo hout hwrote hres hstore hg hge hset⟩

end Sys2Proof.Machine
